-- ==== Sys2Proof/Word.lean ====
section
/-!
DEFINITION. Word.lean: the word types of the device. Registers are 32 bits wide (R10); fabric headers, addresses and
times are wider words; bytes travel in frames, packets and memory. And the agents that access registers (R574).
-/
namespace Sys2Proof

abbrev Byte := BitVec 8
abbrev W16 := BitVec 16
abbrev W32 := BitVec 32
abbrev W64 := BitVec 64

/-- Bytes of HBM: 96 GiB (R401). -/
abbrev hbmBytes : Nat := 0x1800000000

/-- The number of HBM lines, of 64 bytes each. -/
abbrev hbmLines : Nat := 1610612736

/-- Who performs a register access (R574). Each agent has its own pair latch and staged low words (R585, R586). -/
inductive Agent where
  | boot | mgmt | jtag
  | pier (n : Fin 64)
  | hart (h : Fin 4096)
deriving DecidableEq, Repr

/-- The key of an agent's latch: its own, and one per hart (R585). -/
def Agent.key : Agent → Nat
  | .boot => 0 | .mgmt => 0 | .jtag => 1
  | .pier n => 2 + n.val
  | .hart h => 1000 + h.val

/-- The requestor number of an agent at the register fabric arbiter (R574, R486). -/
def Agent.requestor : Agent → Nat
  | .boot => 0 | .mgmt => 0 | .jtag => 1
  | .pier n => 2 + n.val
  | .hart h => 66 + h.val / 128

end Sys2Proof
end

