-- ==== Sys2Proof/Syntax.lean ====
section
/-!
DEFINITION. Syntax.lean: the commands of the block, one constructor for each row of the opcode table, in its order. The
docstring of each is the row's rule and summary.
-/
namespace Sys2Proof

/-- The commands, operations and events that the block takes. -/
inductive Instr where
  /-- REGISTER_WRITE (R582): A write to a register field that has no row of its own takes effect as its access type states. -/
  | registerWrite (ag : Agent) (a : Fin 67108864) (v : W32)
  /-- COMMIT (R584): A write to a page's COMMIT register captures every shadow of the page into a pending copy, checking the guard against CFG_SEQ. -/
  | commit (ag : Agent) (page : Fin 16384) (guard : W32)
  /-- COMMIT_APPLY (R584): The pending copy is applied at the point the page's chapter states, replacing every active RWS value and advancing COMMIT_SEQ. -/
  | commitApply (page : Fin 16384)
  /-- TABLE_SWAP_DONE (R99): Both switch dies have swapped and all old-copy lookups have ended, so COMMIT_SEQ advances. -/
  | tableSwapDone (t : Fin 4)
  /-- TBL_SYNC (R100): A write of TBL_CTRL.SYNC starts copying the active table copy into the inactive one and sets SYNC_BUSY. -/
  | tblSync (ag : Agent) (t : Fin 4)
  /-- TBL_SYNC_DONE (R100): The table copy finishes, SYNC_BUSY clears, and any COMMIT written during the sync takes effect. -/
  | tblSyncDone (t : Fin 4)
  /-- PAIR_LOW_READ (R585): A read of the low word of a 64-bit pair latches the high word for that requestor. -/
  | pairLowRead (ag : Agent) (a : Fin 67108864)
  /-- PAIR_HIGH_WRITE (R586): A high-word write to a pair that applies both words applies the requestor's staged low word with it. -/
  | pairHighWrite (ag : Agent) (a : Fin 67108864) (v : W32)
  /-- PAGE_ENABLE_WRITE (R580): A write of CTRL.ENABLE starts or stops the block instance of a page and clears a parity error. -/
  | pageEnableWrite (ag : Agent) (page : Fin 16384) (on : Bool)
  /-- SOFT_RESET (R581): A write of CTRL.SOFT_RESET on a LNK, HPT, SPN or TAL page returns the page and its instance to their reset state. -/
  | softReset (ag : Agent) (page : Fin 16384)
  /-- SOFT_RESET_DONE (R581): A soft reset completes, and register requests held for the page are released. -/
  | softResetDone (page : Fin 16384)
  /-- SLEEP_ALLOW_WRITE (R522): A write of CTRL.SLEEP_ALLOW permits sleep, or wakes a domain that is entering sleep. -/
  | sleepAllowWrite (ag : Agent) (page : Fin 16384) (on : Bool)
  /-- PARITY_SWEEP (R589): Every two keeper clocks, the parity of every RW and RWS word of each block page is checked. -/
  | paritySweep (upset : Bool) (a : Fin 67108864) (part : Fin 3)
  /-- REGACC (R576): A JTAG REGACC operation at Update-DR performs one 32-bit register read or write. -/
  | regacc (op : Fin 4) (addr : W32) (data : W32)
  /-- PACKET_HEADER_ARRIVE (R42): A forwarding pipeline resolves an arriving packet header and queues, delivers, hands off or gates the packet. -/
  | packetHeaderArrive (l : Fin 256)
  /-- PACKET_TRANSMIT_START (R483): An output link that can start a packet chooses among its output queues and starts the winner, consuming credits. -/
  | packetTransmitStart (l : Fin 256)
  /-- PACKET_TAIL_ARRIVE (R49): The last byte of a packet is stored and its end-to-end CRC is checked. -/
  | packetTailArrive (l : Fin 256)
  /-- PACKET_TRANSMIT_END (R60): A packet's last byte leaves, and its cells are freed once its last copy has left. -/
  | packetTransmitEnd (l : Fin 256)
  /-- FENCE_RELEASE (R62): A FENCE packet held in the fence store is passed on once its earlier packets are disposed of and their writes have landed. -/
  | fenceRelease (chan : Fin 65536)
  /-- FWD_INJECT_BUF_ECC (R64): The next packet read from the tile's cells reports an uncorrectable ECC error. -/
  | fwdInjectBufEcc (t : Fin 32)
  /-- FWD_INJECT_E2E (R64): The next packet forwarded has its end-to-end CRC inverted. -/
  | fwdInjectE2e (t : Fin 32)
  /-- FWD_INJECT_HCHK (R64): The next packet forwarded has its HCHK inverted. -/
  | fwdInjectHchk (t : Fin 32)
  /-- SCH_SELECT (R475): An injection scheduler selects up to four eligible heads in ascending finish-tag order and advances V. -/
  | schSelect (k : Fin 16)
  /-- LOAD_REPORT_ROUND (R79): At each multiple of the report period, the router sends LOAD_REPORT packets to its report targets. -/
  | loadReportRound
  /-- LOAD_REPORT_RECEIVE (R82): A load report at the last hop of its path is checked for age and applied to the class table. -/
  | loadReportReceive
  /-- ROUTE_ERROR_RECEIVE (R84): A ROUTE_ERROR arriving at the source marks matching candidates failed and triggers the retransmission it names. -/
  | routeErrorReceive
  /-- FAILED_MARK_EXPIRE (R84): A failed mark clears after FAIL_HOLD. -/
  | failedMarkExpire (dest : Fin 16384) (cand : Fin 16)
  /-- ROU_INJECT_TBL_ECC (R101): The next route lookup on switch die 0 reports an uncorrectable error. -/
  | rouInjectTblEcc
  /-- TRE_INJECT_TBL_ECC (R102): The next tree lookup reports an uncorrectable error. -/
  | treInjectTblEcc
  /-- FLIT_SEND (R104): The link transmits a data or null flit every flit time. -/
  | flitSend (l : Fin 256)
  /-- FLIT_RECEIVE (R122): A received flit is checked against E and accepted, discarded as a duplicate, or starts replay wait. -/
  | flitReceive (l : Fin 256) (content : List Byte) (corrected : Fin 9) (uncorrectable : Bool)
  /-- LINK_ACK_TIMER (R123): A link ACK is sent 40 ns after unacknowledged accepted flits. -/
  | linkAckTimer (l : Fin 256)
  /-- LINK_ACK_RECEIVE (R123): A bypass ACK frees every replay entry up to the acknowledged sequence. -/
  | linkAckReceive (l : Fin 256)
  /-- REPLAY_REQ_RECEIVE (R124): A REPLAY_REQ starts, restarts or is ignored by the replay of stored flits. -/
  | replayReqReceive (l : Fin 256)
  /-- REPLAY_WAIT_TIMEOUT (R122): No good flit with SEQ = E has arrived within RTT_NS + REPLAY_MARGIN, so REPLAY_REQ is sent again. -/
  | replayWaitTimeout (l : Fin 256)
  /-- REPLAY_TIMEOUT (R125): The oldest unacknowledged flit has aged past RTT_NS + REPLAY_MARGIN, so the transmitter starts a replay from it. -/
  | replayTimeout (l : Fin 256)
  /-- SPILL_READ_DONE (R129): A spilled flit read from HBM for a replay becomes available to resend. -/
  | spillReadDone (l : Fin 256)
  /-- CREDIT_LIMIT_RECEIVE (R119): A CREDIT_LIMIT replaces the held LIMIT of a pool, or signals a credit overflow. -/
  | creditLimitReceive (l : Fin 256)
  /-- CREDIT_REFRESH (R118): Every REFRESH interval, the receiver re-sends every pool's LIMIT. -/
  | creditRefresh (l : Fin 256)
  /-- CREDIT_STALL (R120): A head packet has waited on one pool for CREDIT_STALL, so kind 0x04 is raised. -/
  | creditStall (l : Fin 256) (pool : Fin 128)
  /-- CT_STALL_EXPIRE (R113): A cut-through packet has waited for its bytes longer than CT_STALL and is aborted. -/
  | ctStallExpire (l : Fin 256)
  /-- LINK_PARAM_SEND (R135): LINK_PARAM words 0 and 1 are sent every 100 ns until the partner sets PEER_SEEN. -/
  | linkParamSend (l : Fin 256)
  /-- LINK_PARAM_RECEIVE (R135): A received LINK_PARAM sets the agreed version, TC mask and coding mode, or shows a mismatch. -/
  | linkParamReceive (l : Fin 256)
  /-- LINK_STATE_RECEIVE (R140): A partner's LINK_STATE DOWN or FENCE takes the link down with reason 0x04 or 0x0A. -/
  | linkStateReceive (l : Fin 256)
  /-- ECHO_REQ_SEND (R160): One of 16 ECHO_REQ messages is sent, 100 ns apart from flit lock. -/
  | echoReqSend (l : Fin 256)
  /-- ECHO_REQ_RECEIVE (R160): An ECHO_REQ is answered with ECHO_RSP carrying the hold time. -/
  | echoReqReceive (l : Fin 256)
  /-- ECHO_RSP_RECEIVE (R160): An ECHO_RSP updates the round-trip measurement that RTT_NS and CABLE report. -/
  | echoRspReceive (l : Fin 256)
  /-- SLEEP_IDLE_EXPIRE (R137): A link idle for SLEEP_IDLE sends SLEEP_REQ. -/
  | sleepIdleExpire (l : Fin 256)
  /-- SLEEP_REQ_RECEIVE (R137): A partner's SLEEP_REQ is accepted or refused with SLEEP_ACK. -/
  | sleepReqReceive (l : Fin 256)
  /-- SLEEP_ACK_RECEIVE (R137): An accepting SLEEP_ACK puts the link's lanes into quiet sleep. -/
  | sleepAckReceive (l : Fin 256)
  /-- LINK_ENABLE (R135): A write of LNK CTRL.ENABLE 1 checks the claim and starts bring-up. -/
  | linkEnable (l : Fin 256)
  /-- LINK_DISABLE (R138): A write of ENABLE 0 on an ACTIVE link starts a graceful tear-down. -/
  | linkDisable (l : Fin 256)
  /-- TEARDOWN_DRAIN_END (R138): Every data flit is acknowledged, so the link sends LINK_STATE DOWN and holds electrical idle. -/
  | teardownDrainEnd (l : Fin 256)
  /-- TEARDOWN_TIMEOUT (R138): TIMERS.TEARDOWN expires before the drain ends, and tear-down completes. -/
  | teardownTimeout (l : Fin 256)
  /-- BRINGUP_STEP_TIMEOUT (R135): A bring-up step misses its time limit and the link goes down with reason 0x08. -/
  | bringupStepTimeout (l : Fin 256)
  /-- LANE_SIGNAL_LOSS (R163): Loss of signal or CDR lock on a lane takes its whole link down with reason 0x01. -/
  | laneSignalLoss (lane : Fin 512)
  /-- DEAD_TIME_EXPIRE (R140): No good flit has arrived for DEAD_TIME, so the link goes down with reason 0x02. -/
  | deadTimeExpire (l : Fin 256)
  /-- DOWN_HOLD_EXPIRE (R142): The 10 µs down hold ends, and the link retrains or settles into DISABLED or DOWN. -/
  | downHoldExpire (l : Fin 256)
  /-- LINK_WAKE_DONE (R162): A link in quiet sleep has relocked and is ACTIVE again. -/
  | linkWakeDone (l : Fin 256)
  /-- WAKE_RELOCK_TIMEOUT (R162): A wake has not reached flit lock in 5 µs, so the link goes down with reason 0x01. -/
  | wakeRelockTimeout (l : Fin 256)
  /-- LANE_WAKE_DETECT (R162): The squelch detector sees the partner leave electrical idle and wakes the transmitter. -/
  | laneWakeDetect (lane : Fin 512)
  /-- LNK_INJECT_FORCE_DOWN (R145): The link goes down with reason 0x01. -/
  | lnkInjectForceDown (l : Fin 256)
  /-- LNK_INJECT_BAD_FLIT (R145): The next data flit is sent with its LCRC inverted. -/
  | lnkInjectBadFlit (l : Fin 256)
  /-- LNK_INJECT_SYMBOL (R145): One byte of the next flit's codeword 0 is inverted. -/
  | lnkInjectSymbol (l : Fin 256)
  /-- RECEIVER_DETECT (R152): A receiver-detect attempt times the common-mode settling and sets PRESENT. -/
  | receiverDetect (lane : Fin 512) (present : Bool)
  /-- PLL_LOCK (R151): A group PLL locks during lane bring-up. -/
  | pllLock (tile : Fin 32) (group : Fin 2)
  /-- TRAINING_FRAME_SEND (R153): A 256-bit training frame is sent on a lane. -/
  | trainingFrameSend (lane : Fin 512) (req : BitVec 8) (adapted : Bool)
  /-- TRAINING_FRAME_RECEIVE (R154): A received training frame drives frame lock, equalisation and lane ordering. -/
  | trainingFrameReceive (lane : Fin 512) (raw : BitVec 256) (slip : Fin 256) (loss : Option (Fin 65536)) (skew : Bool)
  /-- PRBS_INTERVAL_END (R157): The 1 ms PRBS31Q interval ends and ERR_EXP is computed. -/
  | prbsIntervalEnd (lane : Fin 512) (errors : W64) (checked : W64)
  /-- LANE_TRAIN_TIMEOUT (R151): TRAIN_MS expires before the lanes are up, and the link goes down with reason 0x08. -/
  | laneTrainTimeout (l : Fin 256)
  /-- GROUP_PLL_UNLOCK (R172): A group PLL unlocks, and every link and host port of the group goes down. -/
  | groupPllUnlock (tile : Fin 32) (group : Fin 2)
  /-- SRD_TEST_WRITE (R168): A PRBS, loopback or manual equalisation write takes effect, or is refused with TIL kind 0x06. -/
  | srdTestWrite (lane : Fin 512) (off : Fin 4096) (v : W32)
  /-- SRD_INJECT_BIT (R167): One bit sent by the generator is inverted. -/
  | srdInjectBit (lane : Fin 512)
  /-- SRD_INJECT_BURST (R167): BURST_LEN consecutive generator bits are inverted. -/
  | srdInjectBurst (lane : Fin 512)
  /-- TIME_EXCHANGE_START (R175): Every SYNC_PERIOD, a device sends SYNC and SYNC_HI on each ACTIVE version-2 link. -/
  | timeExchangeStart (l : Fin 256)
  /-- SYNC_RECEIVE (R176): A SYNC is stamped t2 on arrival. -/
  | syncReceive (l : Fin 256)
  /-- SYNC_HI_RECEIVE (R176): A SYNC_HI completes the sync, and DELAY_REQ is sent stamped t3. -/
  | syncHiReceive (l : Fin 256)
  /-- DELAY_REQ_RECEIVE (R176): A DELAY_REQ is stamped t4 and answered with DELAY_RSP. -/
  | delayReqReceive (l : Fin 256)
  /-- DELAY_RSP_RECEIVE (R178): The receiver computes offset and path delay and runs the follower servo and states. -/
  | delayRspReceive (l : Fin 256)
  /-- EXCHANGE_TIMEOUT (R178): No valid exchange in four periods moves a LOCKED follower to HOLDOVER. -/
  | exchangeTimeout
  /-- HOLDOVER_EXPIRE (R179): HOLDOVER lasts longer than HOLD_US, ending in UNLOCKED with kind 0x02. -/
  | holdoverExpire
  /-- PPS_IN_EDGE (R180): A rising edge of PPS_IN captures fabric time and steers or steps a PPS root. -/
  | ppsInEdge
  /-- TIME_SET_WRITE (R180): A high-word write of TIME_SET steps fabric time on a root, or is refused on a follower. -/
  | timeSetWrite (ag : Agent) (hi : W32)
  /-- TIME_ADJ_WRITE (R180): A TIME_ADJ write slews fabric time at 100 ppm on an external root. -/
  | timeAdjWrite (ns : W32)
  /-- PPS_OUT_ASSERT (R182): PPS_OUT is asserted at each multiple of 10^9 ns of fabric time. -/
  | ppsOutAssert
  /-- PPS_OUT_DEASSERT (R182): PPS_OUT is deasserted after WIDTH_US. -/
  | ppsOutDeassert
  /-- WINDOW_OPEN (R188): A gate window opens and passes only its viaduct's packets, in gate-queue order. -/
  | windowOpen (l : Fin 256) (e : Fin 64)
  /-- WINDOW_CLOSE (R190): A window closes, and its still-queued packets are held for the next cycle or discarded. -/
  | windowClose (l : Fin 256) (e : Fin 64)
  /-- VIADUCT_ELIGIBLE (R189): A stored viaduct packet becomes eligible at its gate and is queued or discarded. -/
  | viaductEligible
  /-- VIA_DATA_RECEIVE (R193): A VIA_DATA packet at its destination is deposited by slot sequence and counted, and its completions are written. -/
  | viaDataReceive
  /-- VIA_SETUP_START (R194): At the cycle start after the swap, the source sends VIA_SETUP along its path. -/
  | viaSetupStart (v : Fin 4096)
  /-- VIA_SETUP_RECEIVE (R194): A hop checks and arms its entry and forwards the setup, or the destination or a refusing hop replies. -/
  | viaSetupReceive
  /-- VIA_SETUP_TIMEOUT (R194): No setup reply has arrived within 10 µs, so the source resends or the descriptor fails. -/
  | viaSetupTimeout (v : Fin 4096)
  /-- VIA_TEARDOWN_RECEIVE (R194): A VIA_TEARDOWN is taken at a hop or at the destination, which replies with the gap count. -/
  | viaTeardownReceive
  /-- VIA_TEARDOWN_FORWARD (R194): A hop disarms and forwards the teardown once its gate queue is empty, or after two cycles. -/
  | viaTeardownForward (v : Fin 4096)
  /-- VIA_TABLE_SWAP (R195): At the first cycle start at or after SWAP_AT, gate lists, viaduct table and cycle parameters swap. -/
  | viaTableSwap
  /-- VIA_INJECT_WINDOW_SKIP (R197): The next window of every gate list passes nothing. -/
  | viaInjectWindowSkip
  /-- VIA_INJECT_TIME_ERR (R197): 64 ns are added to the next time offset. -/
  | viaInjectTimeErr
  /-- COLL_CONTRIB_RECEIVE (R236): A contribution reaching a slice is accepted by element position and added into its window. -/
  | collContribReceive
  /-- COLL_PARTIAL_EXACT_RECEIVE (R206): An exact partial is checked and added bead by bead into the window. -/
  | collPartialExactReceive
  /-- COLL_PARTIAL_ORDERED_RECEIVE (R218): An ordered partial is added as an input into the window. -/
  | collPartialOrderedReceive
  /-- COLL_RESULT_RECEIVE (R243): A result at a member frees its window, is replicated to children and is delivered locally once. -/
  | collResultReceive
  /-- COLL_BCAST_RECEIVE (R246): A broadcast chunk is replicated and deposited at each member context. -/
  | collBcastReceive
  /-- COLL_GATHER_RECEIVE (R247): A gather chunk is relayed to the parent, or stored and sent down at the root. -/
  | collGatherReceive
  /-- BARRIER_UP_RECEIVE (R248): A BARRIER_UP is counted, and arrival of all contributors sends it up or down. -/
  | barrierUpReceive
  /-- BARRIER_DOWN_RECEIVE (R248): A BARRIER_DOWN is replicated and completes local barriers. -/
  | barrierDownReceive
  /-- COLL_REPULL_RECEIVE (R240): A re-pull is answered by resending a partial or result, a GONE, or a failure notice. -/
  | collRepullReceive
  /-- ABACUS_CTRL_RECEIVE (R244): A FAIL notice marks the key FAILED and propagates it. -/
  | abacusCtrlReceive
  /-- WINDOW_FILL_DONE (R224): A window filled back from HBM becomes usable and its waiting packet proceeds. -/
  | windowFillDone (tree : Fin 4096) (inst : W32) (chunk : Fin 65536)
  /-- WINDOW_SPACE_FREE (R250): A packet held for window space or a free key proceeds once space frees. -/
  | windowSpaceFree (n : Fin 16)
  /-- WINDOW_STALL_TIMEOUT (R225): A packet has waited STALL_US for window space, so kind 0x04 is raised. -/
  | windowStallTimeout (tree : Fin 4096) (inst : W32) (chunk : Fin 65536)
  /-- REPULL_TIMEOUT (R240): REPULL_US passes without progress on an OPEN window, so each incomplete contributor is re-pulled. -/
  | repullTimeout (tree : Fin 4096) (inst : W32) (chunk : Fin 65536) (bar : Bool)
  /-- RESULT_REPULL_TIMEOUT (R242): A SENT window without a result sends COLL_REPULL with RESULT to the root. -/
  | resultRepullTimeout (tree : Fin 4096) (inst : W32) (chunk : Fin 65536) (bar : Bool)
  /-- RETAIN_EXPIRE (R239): The root's retention of a downward chunk ends. -/
  | retainExpire (tree : Fin 4096) (inst : W32) (chunk : Fin 65536) (bar : Bool)
  /-- TOMBSTONE_EXPIRE (R239): A freed key's tombstone lapses. -/
  | tombstoneExpire (tree : Fin 4096) (inst : W32) (chunk : Fin 65536) (bar : Bool)
  /-- BCAST_SOURCE_COMPLETE (R246): RETAIN_US after its last chunk, the broadcast source's completion is written. -/
  | bcastSourceComplete (tag : Fin 65536)
  /-- GATHER_RESEND_TIMEOUT (R247): A gather chunk not returned within REPULL_US is resent, or the gather fails. -/
  | gatherResendTimeout (tag : Fin 65536) (chunk : Fin 65536)
  /-- ABC_INJECT_FILL_ECC (R228): The next fill reports an uncorrectable cell. -/
  | abcInjectFillEcc (n : Fin 16)
  /-- ABC_INJECT_BEAD_ECC (R228): The next bead cell read reports an uncorrectable error. -/
  | abcInjectBeadEcc (n : Fin 16)
  /-- ABC_INJECT_RESIDUE (R228): The next finalise compares against RES + 1. -/
  | abcInjectResidue (n : Fin 16)
  /-- TRE_COLL_INJECT_DROP_UP (R252): The next upward collective packet built here is discarded. -/
  | treCollInjectDropUp
  /-- HOST_PORT_ENABLE (R256): A host port's ENABLE starts auto-negotiation or forced link training. -/
  | hostPortEnable (n : Fin 64)
  /-- HOST_PORT_ACTIVE (R256): Negotiation and training complete, the port becomes ACTIVE and its pier may enter SYNCING. -/
  | hostPortActive (n : Fin 65) (cr : Bool)
  /-- HOST_PORT_TRAIN_TIMEOUT (R256): Negotiation or training has not completed in 500 ms, so the port goes down with reason 0x02 or 0x03. -/
  | hostPortTrainTimeout (n : Fin 64) (negotiated : Bool)
  /-- HOST_PORT_RESTART (R256): 10 ms after a failed bring-up, the port restarts while ENABLE stays 1. -/
  | hostPortRestart (n : Fin 64)
  /-- HOST_PORT_FAULT (R265): Loss of signal, lock or alignment, a remote fault or excess FEC errors is detected on a port. -/
  | hostPortFault (n : Fin 65) (remote : Bool)
  /-- ETH_FRAME_RECEIVE (R257): A received frame is checked and classified to the pier, PTP, flow control or discard. -/
  | ethFrameReceive (n : Fin 65) (frame : List Byte)
  /-- PFC_FRAME_RECEIVE (R259): A PFC frame sets the pause timer of its priorities. -/
  | pfcFrameReceive (n : Fin 65)
  /-- PAUSE_FRAME_RECEIVE (R259): An 802.3x pause frame sets the pause timer. -/
  | pauseFrameReceive (n : Fin 65)
  /-- PAUSE_TIMER_EXPIRE (R259): A PFC or pause timer runs out and frames of that priority may start. -/
  | pauseTimerExpire (n : Fin 65) (timer : Fin 9)
  /-- PFC_XOFF_REPEAT (R260): XOFF is repeated every half of its quanta while the buffer stays above XON. -/
  | pfcXoffRepeat (n : Fin 64)
  /-- SA_INSTALL (R261): A write of SA_CTRL.INSTALL makes the staged key the named SA and clears the key registers. -/
  | saInstall (n : Fin 65)
  /-- TS_TIME_POP (R263): A read of the high word of TS_TIME pops the transmit stamp FIFO. -/
  | tsTimePop (n : Fin 65)
  /-- HPT_INJECT_FEC_SYMBOL (R266): One symbol of the next codeword is inverted. -/
  | hptInjectFecSymbol (n : Fin 65)
  /-- HPT_INJECT_FCS (R266): The next frame is sent with a bad FCS. -/
  | hptInjectFcs (n : Fin 65)
  /-- SPAN_FRAME_RECEIVE (R275): A sequenced Span frame is delivered, held, discarded as a duplicate or discarded as stale. -/
  | spanFrameReceive (n : Fin 65)
  /-- DOORBELL (R302): A delivered DOORBELL is checked and records the context's new command tail. -/
  | doorbell (n : Fin 65)
  /-- DOORBELL_INLINE (R303): A delivered DOORBELL_INLINE records the tail and keeps the inline descriptor copy. -/
  | doorbellInline (n : Fin 65)
  /-- MEM_RD_DATA (R280): A MEM_RD_DATA frame returns data or a failing status for an outstanding read. -/
  | memRdData (n : Fin 65)
  /-- MEM_WR_ACK (R281): A MEM_WR_ACK reports landing of writes, or refuses one write. -/
  | memWrAck (n : Fin 65)
  /-- REG_RD (R284): A REG_RD is checked and answered with REG_RD_DATA. -/
  | regRd (n : Fin 65)
  /-- REG_WR (R284): A REG_WR is checked, written word by word and answered with REG_WR_ACK. -/
  | regWr (n : Fin 65)
  /-- SPAN_ACK (R276): A Span ACK retires acknowledged frames and handles SYNC and SYNC_ACK. -/
  | spanAck (n : Fin 65)
  /-- SPAN_NAK (R278): A Span NAK repairs a gap by retransmission or refuses a device frame. -/
  | spanNak (n : Fin 65)
  /-- SPN_ENABLE_WRITE (R273): A write of the pier's ENABLE starts a session or causes a session loss with cause 6. -/
  | spnEnableWrite (n : Fin 64) (on : Bool)
  /-- SESSION_RESYNC (R272): A write of SESSION_CTRL.RESYNC restarts the session or loses a held one. -/
  | sessionResync (n : Fin 65)
  /-- SYNC_RESEND (R272): Every 10 µs in SYNCING, the pier resends its ACK with SYNC. -/
  | syncResend (n : Fin 65)
  /-- SPAN_RTO_EXPIRE (R278): RTO passes since a frame was sent, and the frame is retransmitted or the retry limit is reached. -/
  | spanRtoExpire (n : Fin 65) (seq : W16)
  /-- SPAN_ACK_DELAY (R277): DELAY_NS passes since the first unacknowledged delivery, so a standalone ACK is sent. -/
  | spanAckDelay (n : Fin 65)
  /-- MEM_RD_TIMEOUT (R280): A read not finished within RD_TIMEOUT fails with status 0x22 and kind 0x12. -/
  | memRdTimeout (n : Fin 65) (id : W32)
  /-- LANDING_TIMEOUT (R281): A MEM_WR not covered by MEM_WR_ACK within LAND_TIMEOUT raises kind 0x13 and causes a session loss. -/
  | landingTimeout (n : Fin 65) (seq : W16)
  /-- SESSION_HOLD_EXPIRE (R291): DOWN_HOLD_MS expires for a HELD session, so it is lost with cause 5. -/
  | sessionHoldExpire (n : Fin 65)
  /-- EVENT_GATHER_SEND (R287): 1 µs after the first gathered Keystone record, or at 64 records, the EVENT frame is sent. -/
  | eventGatherSend
  /-- SPN_INJECT_DROP_ACK (R294): The next Span ACK is not sent. -/
  | spnInjectDropAck (n : Fin 65)
  /-- SPN_INJECT_DROP_RX (R294): The next received sequenced frame is discarded as if lost. -/
  | spnInjectDropRx (n : Fin 65)
  /-- SPN_INJECT_DROP_TX (R294): The next new sequenced frame is not sent on its first transmission. -/
  | spnInjectDropTx (n : Fin 65)
  /-- DESCRIPTOR_FETCH (R305): The context manager issues a MEM_RD for command-ring slots when fetching is allowed. -/
  | descriptorFetch (ctx : Fin 262144)
  /-- CQ_HEAD_POLL (R301): While fetching is stopped for completion space, the head word is read every CQ_POLL. -/
  | cqHeadPoll (ctx : Fin 262144)
  /-- PAD (R299): A PAD descriptor fills slots before the ring end and completes at fetch. -/
  | pad (ctx : Fin 262144)
  /-- NOP (R307): A NOP descriptor completes at validation. -/
  | nop (tag : Fin 65536)
  /-- SEND (R334): A SEND descriptor sends a message eagerly or by rendezvous. -/
  | send (tag : Fin 65536)
  /-- RECV (R326): A RECV descriptor posts a receive at its MAT. -/
  | recv (tag : Fin 65536)
  /-- PUT (R347): A PUT descriptor sends its segments as PUT packets. -/
  | put (tag : Fin 65536)
  /-- PUT_NOTIFY (R350): A PUT_NOTIFY descriptor sends its segments with a notify value. -/
  | putNotify (tag : Fin 65536)
  /-- GET (R347): A GET descriptor sends one GET_REQ per segment. -/
  | get (tag : Fin 65536)
  /-- ATOMIC (R349): An ATOMIC descriptor sends an ATOMIC request. -/
  | atomic (tag : Fin 65536)
  /-- COLL_REDUCE (R245): A COLL_REDUCE descriptor contributes chunks to an all-reduce or reduce-scatter. -/
  | collReduce (tag : Fin 65536)
  /-- COLL_BCAST (R246): A COLL_BCAST descriptor sends or receives a broadcast. -/
  | collBcast (tag : Fin 65536)
  /-- COLL_GATHER (R247): A COLL_GATHER descriptor sends its block as gather chunks. -/
  | collGather (tag : Fin 65536)
  /-- BARRIER (R248): A BARRIER descriptor enters a tree barrier. -/
  | barrier (tag : Fin 65536)
  /-- VIADUCT (R191): A VIADUCT descriptor stages payload for an armed viaduct. -/
  | viaduct (tag : Fin 65536)
  /-- CTX_INIT (R316): CTX_INIT writes a DISABLED context's image fields and clears its indices. -/
  | ctxInit (tag : Fin 65536)
  /-- CTX_ENABLE (R316): CTX_ENABLE makes a context ENABLED from DISABLED or HALTED. -/
  | ctxEnable (tag : Fin 65536)
  /-- CTX_DISABLE (R316): CTX_DISABLE cancels posted receives, lets tags drain and disables the context. -/
  | ctxDisable (tag : Fin 65536)
  /-- CTX_RESET (R316): CTX_RESET cancels and discards the context's work and waits for its tags. -/
  | ctxReset (tag : Fin 65536)
  /-- CTX_RESET_TIMEOUT (R316): After RESET_TIMEOUT, tags still held are released by force and the reset completes. -/
  | ctxResetTimeout (ctx : Fin 262144)
  /-- CTX_READ (R316): CTX_READ writes a context image to a given address. -/
  | ctxRead (tag : Fin 65536)
  /-- SPACE_SET (R376): SPACE_SET writes an address-space entry and completes as a space invalidation. -/
  | spaceSet (tag : Fin 65536)
  /-- REGION_SET (R352): REGION_SET writes and validates a region entry. -/
  | regionSet (tag : Fin 65536)
  /-- REGION_REVOKE (R371): REGION_REVOKE bumps the generation and clears VALID in phase 1. -/
  | regionRevoke (tag : Fin 65536)
  /-- REVOKE_COMPLETE (R371): Every admitted access of a revoked region has ended, so the revocation completion is written. -/
  | revokeComplete
  /-- XLT_INVAL (R393): XLT_INVAL starts an invalidation of translation caches. -/
  | xltInval (tag : Fin 65536)
  /-- MRING_ENABLE (R298): A write of MRING_CTRL.ENABLE enables the management context, or is refused without level 3. -/
  | mringEnable (on : Bool)
  /-- CTG_INJECT_FETCH_ERR (R320): The next fetch in the group is taken as answered with status 0x21. -/
  | ctgInjectFetchErr (g : Fin 128)
  /-- CTG_INJECT_MALFORMED (R320): The next descriptor validated in the group fails with cause 0x04. -/
  | ctgInjectMalformed (g : Fin 128)
  /-- SEND_EAGER_RECEIVE (R329): An eager segment is gated by message sequence, matched, held or deposited. -/
  | sendEagerReceive
  /-- SEND_RTS_RECEIVE (R335): A rendezvous RTS is matched and its payload pulled. -/
  | sendRtsReceive
  /-- SEND_FIN_RECEIVE (R337): A SEND_FIN completes the rendezvous SEND and releases its tag. -/
  | sendFinReceive
  /-- SEND_CANCEL_RECEIVE (R337): A SEND_CANCEL completes the rendezvous SEND with its status. -/
  | sendCancelReceive
  /-- POSTED_RECEIVE_ROOM (R326): A ring RECV waiting for a full posted store is posted once room frees. -/
  | postedReceiveRoom (n : Fin 16)
  /-- HOOK_RECORD_PUSH (R343): A hook record waiting for a full queue is pushed once the queue has room. -/
  | hookRecordPush (n : Fin 16)
  /-- MAT_INJECT_STATE_ECC (R344): The next message-entry read reports an uncorrectable error. -/
  | matInjectStateEcc (n : Fin 16)
  /-- PUT_RECEIVE (R353): A PUT is checked, translated and deposited at the target. -/
  | putReceive
  /-- PUT_NOTIFY_RECEIVE (R350): A PUT_NOTIFY segment is deposited and tracked until the notify entry lands. -/
  | putNotifyReceive
  /-- GET_REQ_RECEIVE (R363): A GET_REQ is checked, read from host memory and answered with GET_RSP. -/
  | getReqReceive
  /-- GET_RSP_RECEIVE (R364): A GET_RSP is deposited at LOCAL_ADDR and retires its request. -/
  | getRspReceive
  /-- ATOMIC_RECEIVE (R349): An ATOMIC is carried out once, or answered from the response cache. -/
  | atomicReceive
  /-- ATOMIC_RSP_RECEIVE (R364): An ATOMIC_RSP is written to RESULT_ADDR and retires its request. -/
  | atomicRspReceive
  /-- ACCESS_NAK_RECEIVE (R366): A refusal or park notice retires or suspends the packet it names. -/
  | accessNakReceive
  /-- ACK_RECEIVE (R358): An end-to-end ACK retires covered packets at the source. -/
  | ackReceive
  /-- REL_ACK_DELAY (R357): DELAY_NS passes since the first acknowledgeable packet, so an ACK is sent. -/
  | relAckDelay (chan : Fin 65536)
  /-- RETRANSMIT_TIMEOUT (R359): An unretired packet's wait expires and it is resent on a fresh path. -/
  | retransmitTimeout (chan : Fin 65536) (seq : W32)
  /-- CHANNEL_ENTRY_FREE (R354): A sending operation waiting for a channel entry proceeds once one is free. -/
  | channelEntryFree
  /-- SEND_HALF_RESET (R361): Send-idle reaches TX_IDLE_US and the send half resets its sequences. -/
  | sendHalfReset (chan : Fin 65536)
  /-- RECEIVE_HALF_RESET (R361): Receive-idle reaches TX_IDLE_US − LIFE_US and the receive half resets. -/
  | receiveHalfReset (chan : Fin 65536)
  /-- RESP_HOLD_EXPIRE (R363): A response cache entry is freed after RESP_HOLD_US. -/
  | respHoldExpire (chan : Fin 65536) (seq : W32)
  /-- REFUSE_HOLD_EXPIRE (R367): A refused packet becomes acknowledgeable after REFUSE_HOLD_US. -/
  | refuseHoldExpire (chan : Fin 65536) (seq : W32)
  /-- PARK_TIMEOUT (R368): A parked packet not resolved within PARK_TIMEOUT_MS is refused with reason 0x0D. -/
  | parkTimeout (rel : Fin 16) (slot : Fin 4096)
  /-- SUSPEND_LIMIT_EXPIRE (R369): A suspended packet waits longer than SUSPEND_LIMIT_MS and its channel fails. -/
  | suspendLimitExpire (chan : Fin 65536) (seq : W32)
  /-- REL_INJECT_RESP_ECC (R373): The next response cache read reports an uncorrectable error. -/
  | relInjectRespEcc (n : Fin 16)
  /-- REL_INJECT_DROP_ACK (R373): The next ACK built is not sent. -/
  | relInjectDropAck (n : Fin 16)
  /-- REL_INJECT_DROP_RX (R373): The next arriving channel packet is discarded before its duplicate check. -/
  | relInjectDropRx (n : Fin 16)
  /-- WALK_STEP_READ (R381): A walk step's 8-byte entry read returns, and the walk descends, faults or checks the leaf. -/
  | walkStepRead (n : Fin 32) (i : Fin 32)
  /-- LOCAL_TIMEOUT_EXPIRE (R388): A held local operation not resumed within LOCAL_TIMEOUT_MS completes with status 0x06. -/
  | localTimeoutExpire (tag : Fin 65536)
  /-- XLT_INV_START (R392): A write of INV_CTRL.START issues an invalidation, or is refused while BUSY. -/
  | xltInvStart (n : Fin 32)
  /-- INVALIDATION_COMPLETE (R393): An invalidation's conditions hold, so it completes and BUSY clears or the completion entry is written. -/
  | invalidationComplete (n : Fin 32)
  /-- PTE_STORE (R396): A high-word write of PTE_DATA stores a table entry through the aperture. -/
  | pteStore (ag : Agent) (n : Fin 32) (hi : W32)
  /-- PTE_DATA_READ (R396): A low-word read of PTE_DATA reads the table entry at PTE_ADDR. -/
  | pteDataRead (ag : Agent) (n : Fin 32)
  /-- XLT_INJECT_TCACHE_ECC (R397): The next cache hit reads as uncorrectable. -/
  | xltInjectTcacheEcc (n : Fin 32)
  /-- XLT_INJECT_WALK_ERR (R397): The next walk step read returns an uncorrectable error. -/
  | xltInjectWalkErr (n : Fin 32)
  /-- HART_INSTRUCTION (R400): A hart executes a base RV64IMAC instruction not listed separately. -/
  | hartInstruction (h : Fin 4096)
  /-- FENCE (R435): A FENCE orders the hart's accesses by its predecessor and successor sets. -/
  | fence (h : Fin 4096)
  /-- LR (R437): An LR takes a reservation on a Normal-memory granule. -/
  | lr (h : Fin 4096)
  /-- SC (R437): An SC succeeds only while the reservation holds. -/
  | sc (h : Fin 4096)
  /-- AMO (R438): An AMO is performed in the L2 with the line held in M. -/
  | amo (h : Fin 4096)
  /-- DEVICE_ACCESS (R432): An engine load or store to Device memory performs a register access. -/
  | deviceAccess (h : Fin 4096)
  /-- HOST_ACCESS (R433): An engine load or store to Host memory issues a MEM_RD or MEM_WR. -/
  | hostAccess (h : Fin 4096)
  /-- LQ (R404): LQ loads 16 bytes into a register pair. -/
  | lq (h : Fin 4096)
  /-- SQ (R404): SQ stores 16 bytes from a register pair. -/
  | sq (h : Fin 4096)
  /-- LKACQ (R407): LKACQ acquires a lock or waits for it. -/
  | lkacq (h : Fin 4096)
  /-- LKACQ_TRY (R407): LKACQ.TRY acquires a free lock or returns 2 at once. -/
  | lkacqTry (h : Fin 4096)
  /-- LKREL (R407): LKREL releases a lock held by the hart. -/
  | lkrel (h : Fin 4096)
  /-- QPUSH_D (R414): QPUSH.D appends a zero-extended value to a hardware queue. -/
  | qpushD (h : Fin 4096)
  /-- QPUSH_Q (R414): QPUSH.Q appends a register pair to a hardware queue. -/
  | qpushQ (h : Fin 4096)
  /-- QPOP (R414): QPOP takes the oldest queue entry and stores it to memory. -/
  | qpop (h : Fin 4096)
  /-- MPRB (R423): MPRB searches a context's unexpected list and writes the record found. -/
  | mprb (h : Fin 4096)
  /-- WAITQ (R416): WAITQ returns at once or waits for a queue entry or an event. -/
  | waitq (h : Fin 4096)
  /-- FENCE_EP (R405): FENCE.EP waits until every earlier store has completed, including Host landing. -/
  | fenceEp (h : Fin 4096)
  /-- EVSIG (R416): EVSIG sets a software event bit on a target hart. -/
  | evsig (h : Fin 4096)
  /-- HRET (R418): HRET pops the top pre-emption frame. -/
  | hret (h : Fin 4096)
  /-- FTCMP_EVENT (R416): Fabric time reaches sxgkftcmp and event bit 32 sets. -/
  | ftcmpEvent (h : Fin 4096)
  /-- HART_WARM_RESET (R420): RST_CTRL KIND 1 stops and drains one hart, then resets it. -/
  | hartWarmReset (c : Fin 32) (hart : Fin 128)
  /-- CLUSTER_WARM_RESET (R420): RST_CTRL KIND 2 resets every hart of the cluster and writes back its caches. -/
  | clusterWarmReset (c : Fin 32)
  /-- CLUSTER_FAULT_RESET (R420): RST_CTRL KIND 3 stops every hart at once and discards undrained stores. -/
  | clusterFaultReset (c : Fin 32)
  /-- RESET_DRAIN_DONE (R420): A reset's drain and write-back complete, and the hart or cluster is reset. -/
  | resetDrainDone (c : Fin 32)
  /-- DRAIN_TIMEOUT (R421): A warm reset not drained within DRAIN_US becomes a cluster fault reset. -/
  | drainTimeout (c : Fin 32)
  /-- HART_RUN_WRITE (R424): A HART_RUN write stops or resumes harts. -/
  | hartRunWrite (c : Fin 32) (i : Fin 4) (v : W32)
  /-- ENG_INJECT_STATE_ECC (R424): The next register-file read in the cluster reports an uncorrectable error. -/
  | engInjectStateEcc (c : Fin 32)
  /-- ENG_INJECT_DRAIN_STALL (R424): The next warm reset's drain does not complete. -/
  | engInjectDrainStall (c : Fin 32)
  /-- FETCH_SH (R429): A FETCH_SH ask asks the home agent for a copy for reading. -/
  | fetchSh (c : Fin 32) (line : Fin hbmLines)
  /-- FETCH_EX (R429): A FETCH_EX ask asks for a copy for writing. -/
  | fetchEx (c : Fin 32) (line : Fin hbmLines)
  /-- PROMOTE (R430): A PROMOTE ask asks for write permission on a line held in S or O. -/
  | promote (c : Fin 32) (line : Fin hbmLines)
  /-- RETIRE (R430): A RETIRE ask returns an evicted dirty line. -/
  | retire (c : Fin 32) (line : Fin hbmLines)
  /-- IO_READ (R427): An I/O agent reads a line through the home agent. -/
  | ioRead (p : Fin 64) (line : Fin hbmLines)
  /-- IO_WRITE (R427): An I/O agent writes part or all of a line through the home agent. -/
  | ioWrite (p : Fin 64) (line : Fin hbmLines) (off : Fin 64) (data : List Byte)
  /-- PROBE_SH (R429): A PROBE_SH makes a cluster keep at most a shared copy and answer. -/
  | probeSh (c : Fin 32) (line : Fin hbmLines)
  /-- PROBE_EX (R429): A PROBE_EX makes a cluster give up the line and answer. -/
  | probeEx (c : Fin 32) (line : Fin hbmLines)
  /-- PROBE_KILL (R429): A PROBE_KILL makes a holder of S drop its copy. -/
  | probeKill (c : Fin 32) (line : Fin hbmLines)
  /-- FILL (R429): A FILL delivers line data from the home to the requester. -/
  | fill (agent : Fin 96) (line : Fin hbmLines)
  /-- GRANT (R430): A GRANT completes an ask, including a RETIRE. -/
  | grant (agent : Fin 96) (line : Fin hbmLines)
  /-- NONE (R428): A NONE answer to a probe clears a stale snoop-filter entry. -/
  | none (c : Fin 32) (line : Fin hbmLines)
  /-- PROBE_ACK (R429): An ACK answer reports that a shared copy stayed or was dropped. -/
  | probeAck (c : Fin 32) (line : Fin hbmLines)
  /-- CLEAN (R429): A CLEAN answer returns a clean line from an E holder. -/
  | clean (c : Fin 32) (line : Fin hbmLines)
  /-- DIRTY (R429): A DIRTY answer passes dirty data to the requester. -/
  | dirty (c : Fin 32) (line : Fin hbmLines)
  /-- RESERVATION_DEFER_END (R437): The 256-clock probe deferral after an LR ends. -/
  | reservationDeferEnd (h : Fin 4096)
  /-- POISON_CTRL_MARK (R447): POISON_CTRL.MARK invalidates every copy of a line and marks it poisoned. -/
  | poisonCtrlMark (h : Fin 8)
  /-- POISON_CTRL_CLEAR (R447): POISON_CTRL.CLEAR writes zeros to a line and clears its mark. -/
  | poisonCtrlClear (h : Fin 8)
  /-- LCK_CLR_GO (R445): CLR_CTRL.GO clears the abandoned mark of a free lock. -/
  | lckClrGo
  /-- HBM_SCRUB (R448): Background scrub reads and corrects lines of a stack. -/
  | hbmScrub (n : Fin 4) (line : Fin hbmLines)
  /-- SELF_REFRESH_ENTRY (R523): An idle HBM stack enters self-refresh. -/
  | selfRefreshEntry (n : Fin 4)
  /-- SELF_REFRESH_EXIT (R523): An HBM stack leaves self-refresh and its waiting access proceeds. -/
  | selfRefreshExit (n : Fin 4) (failed : Bool)
  /-- HOM_INJECT_SF_ECC (R447): The next snoop-filter read reports an uncorrectable error. -/
  | homInjectSfEcc (h : Fin 8)
  /-- HBM_INJECT_CORR (R448): The next HBM read has one bit flipped. -/
  | hbmInjectCorr (n : Fin 4)
  /-- HBM_INJECT_UNCORR (R448): The next HBM read is uncorrectable. -/
  | hbmInjectUncorr (n : Fin 4)
  /-- LCK_INJECT_ENTRY_ECC (R449): The next lock-table entry read is uncorrectable. -/
  | lckInjectEntryEcc
  /-- SCORE_SAMPLE (R454): Every 1 µs, PLC samples every cluster's score. -/
  | scoreSample
  /-- MIGRATION_CHECK (R459): Every PERIOD_US, PLC migrates one context for balance or consolidation. -/
  | migrationCheck
  /-- MIGRATE (R460): A write of PLC.MIGRATE requests a software migration. -/
  | migrate (ctx : Fin 262144) (cluster : Fin 32)
  /-- HINT_APPLY (R455): A high-word write of a hint entry applies it, and may start a migration. -/
  | hintApply (ag : Agent) (ctx : Fin 262144) (hi : W32)
  /-- HANDLER_DONE (R457): A HANDLER_DONE write lets the waiting operation proceed or cancels it. -/
  | handlerDone (tag : Fin 65536) (cancel : Bool)
  /-- HANDLER_TIMEOUT (R457): No HANDLER_DONE within TIMEOUT_US, so the operation completes with status 0x05. -/
  | handlerTimeout (tag : Fin 65536)
  /-- PLC_INJECT_STEER_ECC (R468): The next steering entry read is uncorrectable. -/
  | plcInjectSteerEcc
  /-- SHAPER_REFILL (R477): Every 64 ns, each shaper adds RATE tokens up to BURST. -/
  | shaperRefill (k : Fin 16)
  /-- POLICER_REFILL (R480): Every 64 ns, each policer refills its committed and peak buckets. -/
  | policerRefill (k : Fin 16)
  /-- SCH_INJECT_QSTATE_ECC (R493): The next tag read reports an uncorrectable error. -/
  | schInjectQstateEcc (k : Fin 16)
  /-- RFA_GRANT (R487): The register fabric arbiter grants one register access per keeper clock. -/
  | rfaGrant
  /-- RFA_WAIT_WARN (R492): An access waits longer than WAIT_WARN and raises kind 0x01. -/
  | rfaWaitWarn (r : Fin 98)
  /-- RFA_HOLD_WARN (R490): A request held by a page reset for over 10 µs raises kind 0x02. -/
  | rfaHoldWarn (r : Fin 98)
  /-- KEYSTONE_EVENT (R506): An event reaching Keystone is merged into a live record or written as a new record. -/
  | keystoneEvent (src : Fin 768) (kind : Byte) (detail : W64)
  /-- REACTION_TIMER_EXPIRE (R510): The reaction timer reaches 0, and the device enters the safe state with cause 1. -/
  | reactionTimerExpire
  /-- HEARTBEAT (R512): A source sends its heartbeat over the event network every 1 µs. -/
  | heartbeat (src : Fin 768)
  /-- HEARTBEAT_LOST (R512): Eight consecutive beats are missing, so kind 0xF0 is raised. -/
  | heartbeatLost (src : Fin 768) (odd : Bool)
  /-- PROGRESS_STALL (R513): An eligible watched head is not served for PROG.US, so kind 0xF1 is raised. -/
  | progressStall (point : Fin 5) (unit : Fin 256) (index : Fin 262144)
  /-- LOG_HEAD_WRITE (R508): A level-3 write of LOG_HEAD retires log records. -/
  | logHeadWrite (ag : Agent) (v : W32)
  /-- LOG_READ (R508): A read of word 0 of a log slot latches words 1 to 3. -/
  | logRead (ag : Agent) (slot : Fin 1024)
  /-- SEVERITY_WRITE (R505): A write to the severity window sets a kind's severity within its floor. -/
  | severityWrite (ag : Agent) (src : Fin 768) (w : Fin 16) (v : W32)
  /-- SAFE_CTRL_WRITE (R511): The key 0x5AFE_0001 written to SAFE_CTRL enters the safe state with cause 3. -/
  | safeCtrlWrite (ag : Agent) (key : W32)
  /-- TEST_EVENT (R520): A TEST_EVENT.GO write raises a record for the given source and kind. -/
  | testEvent (v : W32)
  /-- KEYSTONE_SELF_FAULT (R514): A lockstep mismatch or an uncorrectable log or window error enters the safe state with cause 2. -/
  | keystoneSelfFault (code : Fin 4) (loc : Fin 65536) (logOk : Bool)
  /-- KST_INJECT_LOG_ECC (R520): The next log read is uncorrectable. -/
  | kstInjectLogEcc
  /-- KST_INJECT_LOCKSTEP (R520): The next lockstep comparison mismatches. -/
  | kstInjectLockstep
  /-- SLEEP_ENTRY_START (R522): A domain idle for its idle time begins sleep entry. -/
  | sleepEntryStart (d : Fin 113)
  /-- SLEEP_ENTRY_DONE (R522): Sleep entry completes, and any wake cause queued during it is served. -/
  | sleepEntryDone (d : Fin 113)
  /-- DOMAIN_WAKE_DONE (R27): A waking domain becomes awake and its waiting work proceeds. -/
  | domainWakeDone (d : Fin 113)
  /-- WAKE_TIMEOUT (R536): A domain not awake within four times its wake latency raises PWR kind 0x01. -/
  | wakeTimeout (d : Fin 113)
  /-- REFCLK_LOSS (R526): A reference clock is found absent or out of frequency, with failover or links down. -/
  | refclkLoss (ref : Fin 2) (ppm : W16)
  /-- CORE_PLL_UNLOCK (R536): A core PLL unlocks and CLK kind 0x03 is raised. -/
  | corePllUnlock (pll : Fin 3)
  /-- AVS_TARGET_CHANGE (R527): The device changes its VDD_CORE target voltage. -/
  | avsTargetChange (mv : Fin 801)
  /-- TEMP_SAMPLE (R533): Every 10 µs the junction sensors are read and the hottest is compared with the thresholds. -/
  | tempSample (readings : List Byte)
  /-- SUPPLY_SAMPLE (R534): Every 1 µs each rail is sampled, and four samples out of range raise SNS kind 0x04. -/
  | supplySample (rail : Fin 8) (mv : W16) (da : W16)
  /-- SNS_INJECT_SUPPLY_OOR (R535): The next four samples of VDD_IO18 read out of range. -/
  | snsInjectSupplyOor
  /-- POWER_ON_RESET (R528): A fall of PWROK starts a power-on reset that clears everything. -/
  | powerOnReset (down : Byte) (up : Byte)
  /-- PWROK_RISE (R602): PWROK rises, and power-on reset ends 100 µs later. -/
  | pwrokRise
  /-- RESET_N_ASSERT (R529): RESET_N held low for at least 10 µs starts a cold reset. -/
  | resetNAssert
  /-- COLD_RESET_CMD (R530): The cold key written to DEV.RESET_CMD requests a cold reset. -/
  | coldResetCmd (ag : Agent)
  /-- WARM_RESET_CMD (R530): The warm key written to DEV.RESET_CMD requests a warm reset, refused in the safe state and thermal hold. -/
  | warmResetCmd (ag : Agent)
  /-- RESET_BEGIN (R530): 1 µs after the command, the commanded reset begins. -/
  | resetBegin
  /-- RESET_HOLD_END (R531): The reset hold ends, straps are sampled and boot starts. -/
  | resetHoldEnd (bootSel : Fin 4) (mgtMode : Bool) (failed : Byte)
  /-- CONFIG_END (R549): An END entry ends the configuration block. -/
  | configEnd
  /-- CONFIG_WRITE (R549): A WRITE entry makes one 32-bit register write at level 3. -/
  | configWrite
  /-- CONFIG_POLL (R549): A POLL entry waits until a register matches a masked value. -/
  | configPoll
  /-- CONFIG_POLL_TIMEOUT (R549): A POLL entry times out and boot ends in boot hold. -/
  | configPollTimeout
  /-- CONFIG_WAIT (R549): A WAIT entry waits the given time before the next entry. -/
  | configWait
  /-- CONFIG_FILL (R549): A FILL entry writes its following data as 32-bit writes. -/
  | configFill
  /-- BOOT_DONE (R546): A write of DEV.BOOT.DONE asserts READY_OUT. -/
  | bootDone
  /-- FUSE_PROGRAM_SLOT (R543): FUSE_CMD OP 1 programs an owner key slot from FUSE_DATA. -/
  | fuseProgramSlot (arg : Fin 16)
  /-- FUSE_REVOKE_SLOT (R543): FUSE_CMD OP 2 revokes an owner key slot. -/
  | fuseRevokeSlot (arg : Fin 16)
  /-- SVN_COMMIT (R544): FUSE_CMD OP 3 raises a type's minimum SVN. -/
  | svnCommit (arg : Fin 16)
  /-- FUSE_CMD_DONE (R544): A fuse command completes with its RESULT. -/
  | fuseCmdDone (failed : Bool)
  /-- FLASH_READ (R552): FLASH_CMD READ reads 256 bytes into FLASH_BUF. -/
  | flashRead
  /-- FLASH_PROGRAM (R552): FLASH_CMD PROGRAM programs FLASH_BUF, unless the copy is protected. -/
  | flashProgram
  /-- FLASH_ERASE (R552): FLASH_CMD ERASE erases 64 KiB, unless the copy is protected. -/
  | flashErase
  /-- FLASH_VERIFY (R552): FLASH_CMD VERIFY runs the copy checks on a slot. -/
  | flashVerify
  /-- FLASH_CMD_DONE (R552): A flash command completes with its RESULT. -/
  | flashCmdDone (failed : Bool)
  /-- ATTEST (R554): ATTEST.GO starts building a signed attestation report. -/
  | attest
  /-- ATTEST_DONE (R554): The attestation report is ready, and DONE sets. -/
  | attestDone
  /-- EXTEND (R547): EXTEND.GO updates MEAS[3] with EXTEND_DATA. -/
  | extend
  /-- TAL_SNAP (R567): CTRL.SNAP latches a tally bank into its snapshot. -/
  | talSnap (b : Byte)
  /-- TAL_CLEAR (R567): CTRL.CLEAR zeroes a bank's live counters. -/
  | talClear (b : Byte)
  /-- TALLY_DUMP (R569): At each multiple of the dump period, enabled banks are latched and a dump record is sent, or the dump is skipped. -/
  | tallyDump
  /-- TALLY_DUMP_DONE (R570): A dump record has been written to HBM or sent, and LAST_OFF is updated. -/
  | tallyDumpDone
  /-- REFCLK_RETURN (R526): A lost reference clock is present and within frequency again, so links held down for REFCLK1 may retrain and the keeper may leave the oscillator. -/
  | refclkReturn (ref : Fin 2) (ppm : W16)
  /-- RESET_N_RELEASE (R531): RESET_N rises, starting the 100 µs cold-reset hold and, with PWROK, ending power-on reset. -/
  | resetNRelease
  /-- PRBS_CHECKER_LOCK (R166): A lane's PRBS checker locks after 1,024 error-free bits, or drops lock after more than 64 errors in 1,024 bits and reseeds. -/
  | prbsCheckerLock (lane : Fin 512) (locks : Bool)
  /-- ECHO_WAIT_EXPIRE (R160): A missing ECHO_RSP is no longer waited for after RTT + 2 µs, so the round-trip measurement ends with the responses received. -/
  | echoWaitExpire (l : Fin 256)
  /-- LINK_PARAM_RETRY (R135): 1 ms after step 3 of bring-up timed out without a LINK_PARAM, a link with AUTO_RETRAIN retries the step. -/
  | linkParamRetry (l : Fin 256)
  /-- BOOT_STAGE_COMPLETE (R545): A boot stage that takes time, such as an image body read and check or HBM training, completes and boot moves to its next stage. -/
  | bootStageComplete (failed : Bool)
  /-- EXTEND_DONE (R547): The MEAS[3] update started by EXTEND.GO completes and EXTEND.BUSY clears. -/
  | extendDone
  /-- POISON_CTRL_DONE (R447): A POISON_CTRL MARK or CLEAR command finishes invalidating or writing the line and BUSY clears. -/
  | poisonCtrlDone (h : Fin 8)
  /-- HBM_TEMP_CHANGE (R606): An HBM stack's hottest die crosses 85 °C, doubling or restoring its refresh rate, or exceeds 95 °C, raising HBM kind 0x03. -/
  | hbmTempChange (n : Fin 4) (c : Byte)
  /-- TAP_RESET (R599): JTAG_TRST_N is driven low and resets the TAP. -/
  | tapReset
  /-- BOUNDARY_SCAN_UPDATE (R599): Under EXTEST, an Update-DR of the boundary register drives the sideband, flash, JTAG and reference clock lands. -/
  | boundaryScanUpdate (v : W64)
deriving DecidableEq, Repr

end Sys2Proof
end

