-- ==== Sys2Proof/Decode.lean ====
section
/-!
DEFINITION. Decode.lean: the commands that words spell by the bits of the opcode table. The block is driven by commands
and not by encoded instructions: no row of its table gives bits, so no word spells a command.
-/
namespace Sys2Proof

/-- The rows of the opcode table that give bits: (bits, mask, pattern, command). There are none. -/
def encodedRows : List (Nat × Nat × Nat × Instr) := []

/-- The command that a word of `nbits` bits spells. -/
def decodeTableWord (nbits w : Nat) : Option Instr :=
  (encodedRows.find? (fun r => decide (r.1 = nbits) && decide (w &&& r.2.1 = r.2.2.1))).map (fun r => r.2.2.2)

end Sys2Proof
end

