-- ==== Sys2Proof/Machine/Maps.lean ====
section
/-!
DEFINITION. Machine/Maps.lean: sparse data by key, in one canonical form (keys strictly rising, no entry equal to what
an unlisted key reads as), and the bit, byte and list helpers the meanings share.
-/
namespace Sys2Proof.Machine

/-- Sparse data by key. An unlisted key reads as the map's default, which each reader names. -/
abbrev SMap (α : Type) := List (Nat × α)

/-- The first entry listed for a key; the whole list is looked through, so that reads follow writes in lists of any form. -/
def mfind {α : Type} : SMap α → Nat → Option α
  | [], _ => none
  | (k, v) :: m, j => if j = k then some v else mfind m j

/-- What a key reads as: its entry, or the default. -/
def mget {α : Type} (d : α) (m : SMap α) (j : Nat) : α := (mfind m j).getD d

/-- The map without any entry for a key. -/
def merase {α : Type} : SMap α → Nat → SMap α
  | [], _ => []
  | (k, v) :: m, j => if j = k then merase m j else (k, v) :: merase m j

/-- The map with an entry for a key. -/
def minsert {α : Type} : SMap α → Nat → α → SMap α
  | [], j, x => [(j, x)]
  | (k, v) :: m, j, x =>
    if j = k then (j, x) :: m else if j < k then (j, x) :: (k, v) :: m else (k, v) :: minsert m j x

/-- Write a key: storing the default removes the entry, so that equal contents are equal data. -/
def mput {α : Type} [DecidableEq α] (d : α) (m : SMap α) (j : Nat) (x : α) : SMap α :=
  if x = d then merase m j else minsert m j x

/-- Every key of the list is above `lo`, the keys rise strictly, and no entry equals the default `d j` of its key. -/
def mwfFrom {α : Type} [DecidableEq α] (d : Nat → α) (lo : Nat) : SMap α → Bool
  | [] => true
  | (k, v) :: m => decide (lo ≤ k) && decide (v ≠ d k) && mwfFrom d (k + 1) m

/-- The canonical form of a map whose unlisted key `j` reads as `d j`. -/
def mwf {α : Type} [DecidableEq α] (d : Nat → α) (m : SMap α) : Bool := mwfFrom d 0 m

/-- The bits [lo + w − 1 : lo] of a word, as a number. -/
def bits {n : Nat} (x : BitVec n) (lo w : Nat) : Nat := (x.toNat >>> lo) % 2 ^ w

/-- One bit of a word. -/
def bitAt {n : Nat} (x : BitVec n) (i : Nat) : Bool := x.getLsbD i

/-- A word with its bits [lo + w − 1 : lo] replaced by the low bits of `v`. -/
def setBits {n : Nat} (x : BitVec n) (lo w v : Nat) : BitVec n :=
  let m := BitVec.ofNat n ((2 ^ w - 1) <<< lo)
  (x &&& ~~~m) ||| (BitVec.ofNat n ((v % 2 ^ w) <<< lo) &&& m)

/-- A field value read as a signed number of `w` bits. -/
def signedOf (w v : Nat) : Int := if v % 2 ^ w < 2 ^ (w - 1) then (v % 2 ^ w : Nat) else (v % 2 ^ w : Nat) - (2 ^ w : Nat)

/-- A signed number as a field of `w` bits. -/
def ofSigned (w : Nat) (v : Int) : Nat := (v % (2 ^ w : Nat)).toNat

/-- `k` bytes of a number, most significant first (network order, R7). -/
def beBytes : Nat → Nat → List Byte
  | 0, _ => []
  | k + 1, v => BitVec.ofNat 8 (v >>> (8 * k)) :: beBytes k v

/-- The number that bytes in network order spell. -/
def beNat (l : List Byte) : Nat := l.foldl (fun a b => a * 256 + b.toNat) 0

/-- `k` bytes of a number, least significant first (engine memory and registers, R7). -/
def leBytes : Nat → Nat → List Byte
  | 0, _ => []
  | k + 1, v => BitVec.ofNat 8 v :: leBytes k (v / 256)

/-- The number that little-endian bytes spell. -/
def leNat (l : List Byte) : Nat := l.foldr (fun b a => b.toNat + 256 * a) 0

/-- A list's bytes from `o`, `k` of them, short positions reading as 0. -/
def slice (l : List Byte) (o k : Nat) : List Byte :=
  let t := (l.drop o).take k
  t ++ List.replicate (k - t.length) 0#8

/-- A big-endian field of a frame. -/
def beAt (l : List Byte) (o k : Nat) : Nat := beNat (slice l o k)

/-- A little-endian field of a record. -/
def leAt (l : List Byte) (o k : Nat) : Nat := leNat (slice l o k)

/-- Bytes of a list overwritten from position `o`. -/
def overwrite (l : List Byte) (o : Nat) (d : List Byte) : List Byte :=
  slice l 0 o ++ d ++ l.drop (o + d.length)

/-- The list with its element `i` replaced. -/
def lset {α : Type} (l : List α) (i : Nat) (x : α) : List α := l.set i x

/-- Saturating sum at 2^w − 1. -/
def satAdd (w a b : Nat) : Nat := min (a + b) (2 ^ w - 1)

/-- `x` rounded up to a multiple of `k`. -/
def roundUp (k x : Nat) : Nat := (x + k - 1) / k * k

/-- Distance from `b` forward to `a` in a sequence space of `w` bits. -/
def seqDist (w a b : Nat) : Nat := (a + 2 ^ w - b % 2 ^ w) % 2 ^ w

/-- The first number of a list that satisfies a test. -/
def firstNat (l : List Nat) (p : Nat → Bool) : Option Nat := l.find? p

/-- The number of set bits among the low `n`. -/
def popCount (n v : Nat) : Nat := ((List.range n).filter (fun i => v.testBit i)).length

end Sys2Proof.Machine
end

