-- ==== Sys2Proof/Machine/Crypto.lean ====
section
/-!
DEFINITION. Machine/Crypto.lean: what the security block computes (chapter 21): SHA-256, HMAC-SHA-256, ECDSA over P-256 with the
nonces of RFC 6979, and the few DER forms of its certificates. The algorithms are the public ones that the spec names.
-/
namespace Sys2Proof.Machine

/-! ## SHA-256 -/

/-- The round constants. -/
def shaK : List W32 :=
  [0x428a2f98, 0x71374491, 0xb5c0fbcf, 0xe9b5dba5, 0x3956c25b, 0x59f111f1, 0x923f82a4, 0xab1c5ed5,
   0xd807aa98, 0x12835b01, 0x243185be, 0x550c7dc3, 0x72be5d74, 0x80deb1fe, 0x9bdc06a7, 0xc19bf174,
   0xe49b69c1, 0xefbe4786, 0x0fc19dc6, 0x240ca1cc, 0x2de92c6f, 0x4a7484aa, 0x5cb0a9dc, 0x76f988da,
   0x983e5152, 0xa831c66d, 0xb00327c8, 0xbf597fc7, 0xc6e00bf3, 0xd5a79147, 0x06ca6351, 0x14292967] ++
  [0x27b70a85, 0x2e1b2138, 0x4d2c6dfc, 0x53380d13, 0x650a7354, 0x766a0abb, 0x81c2c92e, 0x92722c85,
   0xa2bfe8a1, 0xa81a664b, 0xc24b8b70, 0xc76c51a3, 0xd192e819, 0xd6990624, 0xf40e3585, 0x106aa070,
   0x19a4c116, 0x1e376c08, 0x2748774c, 0x34b0bcb5, 0x391c0cb3, 0x4ed8aa4a, 0x5b9cca4f, 0x682e6ff3,
   0x748f82ee, 0x78a5636f, 0x84c87814, 0x8cc70208, 0x90befffa, 0xa4506ceb, 0xbef9a3f7, 0xc67178f2]

/-- The eight working words. -/
structure Sha where
  a : W32
  b : W32
  c : W32
  d : W32
  e : W32
  f : W32
  g : W32
  h : W32
deriving DecidableEq, Repr

def shaInit : Sha :=
  ⟨0x6a09e667, 0xbb67ae85, 0x3c6ef372, 0xa54ff53a, 0x510e527f, 0x9b05688c, 0x1f83d9ab, 0x5be0cd19⟩

/-- The next schedule word from the last sixteen, oldest first. -/
def shaNext (w : List W32) : W32 :=
  let s0 (x : W32) : W32 := x.rotateRight 7 ^^^ x.rotateRight 18 ^^^ (x >>> 3)
  let s1 (x : W32) : W32 := x.rotateRight 17 ^^^ x.rotateRight 19 ^^^ (x >>> 10)
  s1 (w.getD 14 0) + w.getD 9 0 + s0 (w.getD 1 0) + w.getD 0 0

/-- One round. -/
def Sha.round (s : Sha) (k w : W32) : Sha :=
  let s1 := s.e.rotateRight 6 ^^^ s.e.rotateRight 11 ^^^ s.e.rotateRight 25
  let ch := (s.e &&& s.f) ^^^ (~~~s.e &&& s.g)
  let t1 := s.h + s1 + ch + k + w
  let s0 := s.a.rotateRight 2 ^^^ s.a.rotateRight 13 ^^^ s.a.rotateRight 22
  let maj := (s.a &&& s.b) ^^^ (s.a &&& s.c) ^^^ (s.b &&& s.c)
  ⟨t1 + (s0 + maj), s.a, s.b, s.c, s.d + t1, s.e, s.f, s.g⟩

/-- The rounds of a block: the constants left and the next sixteen schedule words. -/
def shaRounds : List W32 → List W32 → Sha → Sha
  | [], _, s => s
  | k :: ks, w, s => shaRounds ks (w.drop 1 ++ [shaNext w]) (s.round k (w.getD 0 0))

/-- One 64-byte block. -/
def Sha.block (s : Sha) (b : List Byte) : Sha :=
  let r := shaRounds shaK ((List.range 16).map (fun i => BitVec.ofNat 32 (beAt b (4 * i) 4))) s
  ⟨s.a + r.a, s.b + r.b, s.c + r.c, s.d + r.d, s.e + r.e, s.f + r.f, s.g + r.g, s.h + r.h⟩

def shaBlocks : Nat → List Byte → Sha → Sha
  | 0, _, s => s
  | n + 1, l, s => shaBlocks n (l.drop 64) (s.block (l.take 64))

/-- SHA-256 of a message, as 32 bytes. -/
def sha256 (m : List Byte) : List Byte :=
  let z := (119 - m.length % 64) % 64
  let p := m ++ [0x80#8] ++ List.replicate z 0#8 ++ beBytes 8 (8 * m.length)
  let s := shaBlocks (p.length / 64) p shaInit
  [s.a, s.b, s.c, s.d, s.e, s.f, s.g, s.h].flatMap (fun w => beBytes 4 w.toNat)

/-- HMAC-SHA-256. -/
def hmac (key m : List Byte) : List Byte :=
  let k := slice (if 64 < key.length then sha256 key else key) 0 64
  sha256 (k.map (· ^^^ 0x5C#8) ++ sha256 (k.map (· ^^^ 0x36#8) ++ m))

/-! ## P-256 -/

abbrev p256 : Nat := 0xffffffff00000001000000000000000000000000ffffffffffffffffffffffff
abbrev n256 : Nat := 0xffffffff00000000ffffffffffffffffbce6faada7179e84f3b9cac2fc632551
abbrev b256 : Nat := 0x5ac635d8aa3a93e7b3ebbd55769886bc651d06b0cc53b0f63bce3c3e27d2604b
abbrev g256 : Nat × Nat :=
  (0x6b17d1f2e12c4247f8bce6e563a440f277037d812deb33a0f4a13945d898c296,
   0x4fe342e2fe1a7f9b8ee7eb4a7c0f9e162bce33576b315ececbb6406837bf51f5)

/-- Powers modulo `m`, over the bits of the exponent from the lowest. -/
def powMod (m : Nat) : Nat → Nat → Nat → Nat → Nat
  | 0, _, _, acc => acc
  | n + 1, x, e, acc => powMod m n (x * x % m) (e / 2) (if e % 2 = 1 then acc * x % m else acc)

/-- The inverse modulo a prime. -/
def invMod (m x : Nat) : Nat := powMod m 256 (x % m) (m - 2) 1

/-- A point of the curve; none is the point at infinity. -/
abbrev EcPt := Option (Nat × Nat)

/-- The sum of two points. -/
def ecAdd (a b : EcPt) : EcPt :=
  match a, b with
  | none, b => b
  | a, none => a
  | some (x1, y1), some (x2, y2) =>
    let p := p256
    if x1 = x2 ∧ (y1 + y2) % p = 0 then none
    else
      let l := if x1 = x2 then (3 * x1 * x1 + (p - 3)) * invMod p (2 * y1) % p else (y2 + p - y1) * invMod p (x2 + p - x1) % p
      let x3 := (l * l + 2 * p - x1 - x2) % p
      some (x3, (l * (x1 + p - x3) + p - y1) % p)

/-- A multiple of a point, over the bits of the scalar from the lowest. -/
def ecMul : Nat → Nat → EcPt → EcPt → EcPt
  | 0, _, _, acc => acc
  | n + 1, k, q, acc => ecMul n (k / 2) (ecAdd q q) (if k % 2 = 1 then ecAdd acc q else acc)

def ecTimes (k : Nat) (q : EcPt) : EcPt := ecMul 256 k q none

/-- The point is on the curve with both coordinates in range. -/
def onCurve (x y : Nat) : Bool :=
  decide (x < p256) && decide (y < p256) && decide (y * y % p256 = (x * x * x + (p256 - 3) * x + b256) % p256)

/-- The public key of a private key, X then Y. -/
def ecPublic (k : Nat) : List Byte :=
  match ecTimes k (some g256) with
  | none => List.replicate 64 0#8
  | some (x, y) => beBytes 32 x ++ beBytes 32 y

/-- ECDSA verification: public key, digest, r and s. -/
def ecVerify (pub digest : List Byte) (r s : Nat) : Bool :=
  let x := beAt pub 0 32
  let y := beAt pub 32 32
  if ¬ onCurve x y ∨ r = 0 ∨ n256 ≤ r ∨ s = 0 ∨ n256 ≤ s then false
  else
    let w := invMod n256 s
    match ecAdd (ecTimes (beAt digest 0 32 * w % n256) (some g256)) (ecTimes (r * w % n256) (some (x, y))) with
    | none => false
    | some (px, _) => decide (px % n256 = r)

/-- The next nonce of RFC 6979 from its K and V, and those that follow it. -/
def drbgNext (k v : List Byte) : Nat × List Byte × List Byte :=
  let v := hmac k v
  let k' := hmac k (v ++ [0#8])
  (beNat v, k', hmac k' v)

/-- A signature by the first nonce that gives one. -/
def ecSignTry (d z : Nat) : Nat → List Byte → List Byte → Nat × Nat
  | 0, _, _ => (0, 0)
  | n + 1, k, v =>
    let (c, k', v') := drbgNext k v
    let r := match ecTimes c (some g256) with
      | none => 0
      | some (x, _) => x % n256
    let s := invMod n256 c * (z + r * d) % n256
    if c = 0 ∨ n256 ≤ c ∨ r = 0 ∨ s = 0 then ecSignTry d z n k' v' else (r, s)

/-- ECDSA with the nonces of RFC 6979 (R547). -/
def ecSign (d : Nat) (digest : List Byte) : Nat × Nat :=
  let z := beAt digest 0 32
  let seed := beBytes 32 d ++ beBytes 32 (z % n256)
  let v := List.replicate 32 0x01#8
  let k := hmac (List.replicate 32 0#8) (v ++ [0x00#8] ++ seed)
  let v := hmac k v
  let k := hmac k (v ++ [0x01#8] ++ seed)
  ecSignTry d z 64 k (hmac k v)

/-- A private key from a secret and a label (R547). -/
def deriveKey (secret : List Byte) (label : List Byte) : Nat := beNat (hmac secret label) % (n256 - 1) + 1

/-- The bytes of an ASCII label. -/
def asciiOf (s : String) : List Byte := s.toList.map (fun c => BitVec.ofNat 8 c.toNat)

/-! ## DER -/

/-- A DER element: tag, length, content. -/
def der (tag : Byte) (c : List Byte) : List Byte :=
  let n := c.length
  tag :: (if n < 128 then [BitVec.ofNat 8 n] else if n < 256 then [0x81#8, BitVec.ofNat 8 n] else 0x82#8 :: beBytes 2 n) ++ c

/-- A DER INTEGER of a natural number. -/
def derInt (v : Nat) : List Byte :=
  let b := (beBytes 33 v).dropWhile (· = 0#8)
  let b := if b = [] then [0#8] else b
  der 0x02#8 (if (b.getD 0 0#8).msb then 0#8 :: b else b)

/-- A DER element read from bytes: tag, content, and what follows it. -/
def derRead (l : List Byte) : Option (Byte × List Byte × List Byte) :=
  match l with
  | t :: n :: rest =>
    let (len, body) := if n < 0x80#8 then (n.toNat, rest) else let k := n.toNat - 128; (beNat (rest.take k), rest.drop k)
    if body.length < len then none else some (t, body.take len, body.drop len)
  | _ => none

/-- The elements of a DER content. -/
def derList : Nat → List Byte → List (Byte × List Byte)
  | 0, _ => []
  | n + 1, l => match derRead l with
    | none => []
    | some (t, c, rest) => (t, c) :: derList n rest

/-- The P-256 public key of an X.509 certificate: the last 64 bytes of the bit string of its subject public key, which follows
version, serial number, algorithm, issuer, validity and subject. -/
def certKey (cert : List Byte) : Option (List Byte) :=
  match derRead cert with
  | none => none
  | some (_, c, _) => match derRead c with
    | none => none
    | some (_, tbs, _) =>
      let es := derList 16 tbs
      let es := if (es.head?.map (·.1)) = some 0xA0#8 then es.drop 1 else es
      match es[5]? with
      | none => none
      | some (_, spki) => match (derList 4 spki)[1]? with
        | some (_, key) => if key.length = 66 then some (key.drop 2) else none
        | none => none

/-- The elements of a concatenation of certificates, each with its own tag and length. -/
def certSplit : Nat → List Byte → List (List Byte)
  | 0, _ => []
  | n + 1, l => match derRead l with
    | none => []
    | some (_, _, rest) => (l.take (l.length - rest.length)) :: certSplit n rest

/-- A certificate from its to-be-signed bytes and a signature by ecdsa-with-SHA256. -/
def certOf (tbs : List Byte) (r s : Nat) : List Byte :=
  let alg := der 0x30#8 [0x06#8, 0x08#8, 0x2A#8, 0x86#8, 0x48#8, 0xCE#8, 0x3D#8, 0x04#8, 0x03#8, 0x02#8]
  der 0x30#8 (tbs ++ alg ++ der 0x03#8 (0#8 :: der 0x30#8 (derInt r ++ derInt s)))

end Sys2Proof.Machine
end

