-- ==== Sys2Proof/Machine/Blocks.lean ====
section
/-!
DEFINITION. Machine/Blocks.lean: the kinds of block page, where their pages lie (R591), their type codes (R579), and
the forms in which the register table and the field names are written.
-/
namespace Sys2Proof.Machine

/-- The block kinds of Table 3 of the register map (R579). -/
inductive Blk where
  | dev | kst | pwr | clk | sns | sec | rfa | mgt
  | lnk | srd | til | hpt | spn
  | fwd | rou | tre | via | abc | sch
  | ctg | mat | rel | xlt
  | eng | hom | hbm | lck | plc
  | tal
deriving DecidableEq, Repr

/-- The first page of a block's instances (R591). -/
def Blk.page : Blk → Nat
  | .dev => 0x0000 | .kst => 0x0010 | .pwr => 0x0020 | .clk => 0x0024 | .sns => 0x0028 | .sec => 0x0030
  | .rfa => 0x0040 | .mgt => 0x0044
  | .lnk => 0x0100 | .srd => 0x0200 | .til => 0x0400 | .hpt => 0x0440 | .spn => 0x0480
  | .fwd => 0x0500 | .rou => 0x0520 | .tre => 0x0530 | .via => 0x0540 | .abc => 0x0560 | .sch => 0x0750
  | .ctg => 0x0600 | .mat => 0x0580 | .rel => 0x0590 | .xlt => 0x05A0
  | .eng => 0x0700 | .hom => 0x0720 | .hbm => 0x0728 | .lck => 0x0730 | .plc => 0x0740
  | .tal => 0x0800

/-- The number of instances (R591). -/
def Blk.count : Blk → Nat
  | .dev | .kst | .pwr | .clk | .sns | .sec | .rfa | .mgt => 1
  | .lnk => 256 | .srd => 512 | .til => 32 | .hpt => 64 | .spn => 64
  | .fwd => 32 | .rou | .tre | .via => 1 | .abc => 16 | .sch => 16
  | .ctg => 128 | .mat => 16 | .rel => 16 | .xlt => 32
  | .eng => 32 | .hom => 8 | .hbm => 4 | .lck | .plc => 1
  | .tal => 256

/-- PAGE_ID.TYPE (Table 3 of the register map, R579). -/
def Blk.typeCode : Blk → Nat
  | .dev => 0x0001 | .kst => 0x0002 | .pwr => 0x0003 | .clk => 0x0004 | .sns => 0x0005 | .sec => 0x0006
  | .rfa => 0x0007 | .mgt => 0x0008
  | .lnk => 0x0010 | .srd => 0x0011 | .til => 0x0012 | .hpt => 0x0013 | .spn => 0x0014
  | .fwd => 0x0020 | .rou => 0x0021 | .tre => 0x0022 | .via => 0x0023 | .abc => 0x0024 | .sch => 0x0025
  | .ctg => 0x0030 | .mat => 0x0031 | .rel => 0x0032 | .xlt => 0x0033
  | .eng => 0x0040 | .hom => 0x0041 | .hbm => 0x0042 | .lck => 0x0043 | .plc => 0x0044
  | .tal => 0x0050

/-- Every block kind. -/
def Blk.all : List Blk :=
  [.dev, .kst, .pwr, .clk, .sns, .sec, .rfa, .mgt, .lnk, .srd, .til, .hpt, .spn, .fwd, .rou, .tre, .via, .abc,
   .mat, .rel, .xlt, .ctg, .eng, .hom, .hbm, .lck, .plc, .sch, .tal]

/-- The block instance of a page number (R591). -/
def blockOfPage (p : Nat) : Option (Blk × Nat) :=
  (Blk.all.find? (fun b => decide (b.page ≤ p) && decide (p < b.page + b.count))).map (fun b => (b, p - b.page))

/-- ENABLE resets to 0 on these pages (R580). -/
def Blk.enableResetsZero : Blk → Bool
  | .lnk | .srd | .til | .hpt | .spn => true
  | _ => false

/-- ENABLE reads 1 and ignores writes of 0 on these pages (R580). -/
def Blk.enableFixed : Blk → Bool
  | .dev | .kst | .pwr | .clk | .sns | .sec | .rfa | .mgt => true
  | _ => false

/-- SLEEP_ALLOW exists only on these pages (R579). -/
def Blk.hasSleepAllow : Blk → Bool
  | .eng | .abc | .fwd | .til => true
  | _ => false

/-- SOFT_RESET acts only on these pages (R581). -/
def Blk.hasSoftReset : Blk → Bool
  | .lnk | .hpt | .spn | .tal => true
  | _ => false

/-- Which word of a 64-bit pair a register word is (R10). -/
inductive PairHalf where
  | single | low | high
deriving DecidableEq, Repr

/-- One register word of a page, or an array of them: the masks of its access types (R582) and its reset value. -/
structure RegWord where
  off : Nat
  stride : Nat := 4
  count : Nat := 1
  rw : Nat := 0
  rws : Nat := 0
  w1c : Nat := 0
  wo : Nat := 0
  ro : Nat := 0
  /-- Bits that read 1 whatever is written. -/
  ones : Nat := 0
  reset : Nat := 0
  pair : PairHalf := .single
deriving DecidableEq, Repr

/-- A named field of a block page: `off` is the offset of its first word, `stride` the step of an array's index. -/
structure Fld where
  blk : Blk
  off : Nat
  stride : Nat
  lo : Nat
  w : Nat
deriving DecidableEq, Repr

/-- A named field of the common page header (R579), which every block page has. -/
structure HFld where
  off : Nat
  lo : Nat
  w : Nat
deriving DecidableEq, Repr

/-- The address of a word at an offset of a block's instance (R9). Port 64 of HPT and pier 64 of SPN are the management
port and its pier, whose registers stand in the MGT page, the pier's at each offset plus 0x200 (R264, R293). -/
def Blk.addr (b : Blk) (n off : Nat) : Nat :=
  match b with
  | .hpt => if n = 64 then 0x44000 + off else (0x0440 + n) * 0x1000 + off
  | .spn => if n = 64 then 0x44000 + (if off < 0x100 then off else off + 0x200) else (0x0480 + n) * 0x1000 + off
  | b => (b.page + n) * 0x1000 + off

/-- The address of a field's word. -/
def Fld.addr (f : Fld) (n i : Nat) : Nat := f.blk.addr n (f.off + f.stride * i)

end Sys2Proof.Machine
end

