-- ==== Sys2Proof/Machine/Fields.lean ====
section
/-!
DEFINITION. Machine/Fields.lean: a name for every register field of the field tables, so that a meaning names a field
and never a bit position. The name is BLOCK_REGISTER_FIELD; the comment gives the access type and the rule.
-/
namespace Sys2Proof.Machine.F

abbrev FWD_CFG_E2E_TRANSIT : Fld := ⟨.fwd, 0x100, 0, 2, 1⟩  -- RW, R64
abbrev FWD_CFG_CE_ENABLE : Fld := ⟨.fwd, 0x100, 0, 1, 1⟩  -- RW, R64
abbrev FWD_CFG_CT_ENABLE : Fld := ⟨.fwd, 0x100, 0, 0, 1⟩  -- RW, R64
abbrev FWD_CE_THRESH_CELLS : Fld := ⟨.fwd, 0x104, 0, 0, 20⟩  -- RWS, R64
abbrev FWD_BUF_RSV_CELLS : Fld := ⟨.fwd, 0x110, 4, 0, 16⟩  -- RWS, R64
abbrev FWD_SHARED_CFG_POOL : Fld := ⟨.fwd, 0x130, 0, 20, 12⟩  -- RWS, R64
abbrev FWD_SHARED_CFG_LIMIT : Fld := ⟨.fwd, 0x130, 0, 0, 20⟩  -- RWS, R64
abbrev FWD_OCCUPANCY_CELLS : Fld := ⟨.fwd, 0x134, 0, 0, 20⟩  -- RO, R64
abbrev FWD_CNT_HCHK_COUNT : Fld := ⟨.fwd, 0x140, 0, 0, 32⟩  -- RW, R64
abbrev FWD_CNT_PATH_COUNT : Fld := ⟨.fwd, 0x144, 0, 0, 32⟩  -- RW, R64
abbrev FWD_CNT_LEN_COUNT : Fld := ⟨.fwd, 0x148, 0, 0, 32⟩  -- RW, R64
abbrev FWD_CNT_CLASS_COUNT : Fld := ⟨.fwd, 0x14C, 0, 0, 32⟩  -- RW, R64
abbrev FWD_CNT_E2E_COUNT : Fld := ⟨.fwd, 0x150, 0, 0, 32⟩  -- RW, R64
abbrev FWD_CNT_ABORT_COUNT : Fld := ⟨.fwd, 0x154, 0, 0, 32⟩  -- RW, R64
abbrev FWD_CNT_DETOUR_COUNT : Fld := ⟨.fwd, 0x158, 0, 0, 32⟩  -- RW, R64
abbrev FWD_CNT_RTERR_COUNT : Fld := ⟨.fwd, 0x15C, 0, 0, 32⟩  -- RW, R64
abbrev FWD_INJECT_BUF_ECC : Fld := ⟨.fwd, 0x160, 0, 2, 1⟩  -- WO, R64
abbrev FWD_INJECT_E2E : Fld := ⟨.fwd, 0x160, 0, 1, 1⟩  -- WO, R64
abbrev FWD_INJECT_HCHK : Fld := ⟨.fwd, 0x160, 0, 0, 1⟩  -- WO, R64
abbrev ROU_CFG_RNG_FIXED : Fld := ⟨.rou, 0x100, 0, 3, 1⟩  -- RWS, R101
abbrev ROU_CFG_DETOUR_EN : Fld := ⟨.rou, 0x100, 0, 2, 1⟩  -- RW, R101
abbrev ROU_CFG_VALIANT_EN : Fld := ⟨.rou, 0x100, 0, 1, 1⟩  -- RW, R101
abbrev ROU_CFG_ADAPTIVE_EN : Fld := ⟨.rou, 0x100, 0, 0, 1⟩  -- RW, R101
abbrev ROU_VAL_BIAS_BIAS : Fld := ⟨.rou, 0x104, 0, 0, 16⟩  -- RW, R101
abbrev ROU_TBL_CTRL_SYNC_BUSY : Fld := ⟨.rou, 0x108, 0, 3, 1⟩  -- RO, R101
abbrev ROU_TBL_CTRL_SYNC : Fld := ⟨.rou, 0x108, 0, 2, 1⟩  -- WO, R101
abbrev ROU_TBL_CTRL_NEXT : Fld := ⟨.rou, 0x108, 0, 1, 1⟩  -- RWS, R101
abbrev ROU_TBL_CTRL_ACTIVE : Fld := ⟨.rou, 0x108, 0, 0, 1⟩  -- RO, R101
abbrev ROU_TBL_SEQ_A_SEQ : Fld := ⟨.rou, 0x10C, 0, 0, 32⟩  -- RW, R101
abbrev ROU_TBL_SEQ_B_SEQ : Fld := ⟨.rou, 0x110, 0, 0, 32⟩  -- RW, R101
abbrev ROU_RNG_SEED_SEED : Fld := ⟨.rou, 0x114, 0, 0, 32⟩  -- RWS, R101
abbrev ROU_LR_CFG_SLEEP_LEVEL : Fld := ⟨.rou, 0x118, 0, 24, 8⟩  -- RW, R101
abbrev ROU_LR_CFG_SCALE : Fld := ⟨.rou, 0x118, 0, 16, 8⟩  -- RW, R101
abbrev ROU_LR_CFG_TARGETS : Fld := ⟨.rou, 0x118, 0, 8, 8⟩  -- RWS, R101
abbrev ROU_LR_CFG_PERIOD : Fld := ⟨.rou, 0x118, 0, 0, 8⟩  -- RWS, R101
abbrev ROU_AGE_CFG_MAXAGE : Fld := ⟨.rou, 0x11C, 0, 16, 16⟩  -- RW, R101
abbrev ROU_AGE_CFG_PERIOD : Fld := ⟨.rou, 0x11C, 0, 0, 16⟩  -- RW, R101
abbrev ROU_FAIL_HOLD_US : Fld := ⟨.rou, 0x120, 0, 0, 16⟩  -- RW, R101
abbrev ROU_TC_CFG_BITS : Fld := ⟨.rou, 0x124, 0, 0, 16⟩  -- RW, R101
abbrev ROU_BOUNDARY_LINKS : Fld := ⟨.rou, 0x130, 4, 0, 32⟩  -- RWS, R101
abbrev ROU_CNT_MIN_COUNT : Fld := ⟨.rou, 0x150, 0, 0, 32⟩  -- RW, R101
abbrev ROU_CNT_VAL_COUNT : Fld := ⟨.rou, 0x154, 0, 0, 32⟩  -- RW, R101
abbrev ROU_CNT_NOROUTE_COUNT : Fld := ⟨.rou, 0x158, 0, 0, 32⟩  -- RW, R101
abbrev ROU_CNT_LR_RX_COUNT : Fld := ⟨.rou, 0x15C, 0, 0, 32⟩  -- RW, R101
abbrev ROU_CNT_LR_STALE_COUNT : Fld := ⟨.rou, 0x160, 0, 0, 32⟩  -- RW, R101
abbrev ROU_CNT_FAILMARK_COUNT : Fld := ⟨.rou, 0x164, 0, 0, 32⟩  -- RW, R101
abbrev ROU_INJECT_TBL_ECC : Fld := ⟨.rou, 0x168, 0, 0, 1⟩  -- WO, R101
abbrev ROU_CNT_LR_BAD_COUNT : Fld := ⟨.rou, 0x16C, 0, 0, 32⟩  -- RW, R101
abbrev TRE_CFG_REPL_EN : Fld := ⟨.tre, 0x100, 0, 0, 1⟩  -- RW, R102
abbrev TRE_TBL_CTRL_SYNC_BUSY : Fld := ⟨.tre, 0x104, 0, 3, 1⟩  -- RO, R102
abbrev TRE_TBL_CTRL_SYNC : Fld := ⟨.tre, 0x104, 0, 2, 1⟩  -- WO, R102
abbrev TRE_TBL_CTRL_NEXT : Fld := ⟨.tre, 0x104, 0, 1, 1⟩  -- RWS, R102
abbrev TRE_TBL_CTRL_ACTIVE : Fld := ⟨.tre, 0x104, 0, 0, 1⟩  -- RO, R102
abbrev TRE_TBL_SEQ_A_SEQ : Fld := ⟨.tre, 0x108, 0, 0, 32⟩  -- RW, R102
abbrev TRE_TBL_SEQ_B_SEQ : Fld := ⟨.tre, 0x10C, 0, 0, 32⟩  -- RW, R102
abbrev TRE_CNT_REPL_COUNT : Fld := ⟨.tre, 0x110, 0, 0, 32⟩  -- RW, R102
abbrev TRE_CNT_NOTREE_COUNT : Fld := ⟨.tre, 0x114, 0, 0, 32⟩  -- RW, R102
abbrev TRE_INJECT_TBL_ECC : Fld := ⟨.tre, 0x118, 0, 0, 1⟩  -- WO, R102
abbrev LNK_CFG_FIRST_LANE : Fld := ⟨.lnk, 0x100, 0, 19, 9⟩  -- RWS, R144
abbrev LNK_CFG_WIDTH : Fld := ⟨.lnk, 0x100, 0, 17, 2⟩  -- RWS, R144
abbrev LNK_CFG_CODING : Fld := ⟨.lnk, 0x100, 0, 15, 2⟩  -- RWS, R144
abbrev LNK_CFG_VERSION : Fld := ⟨.lnk, 0x100, 0, 13, 2⟩  -- RWS, R144
abbrev LNK_CFG_RATE : Fld := ⟨.lnk, 0x100, 0, 12, 1⟩  -- RWS, R144
abbrev LNK_CFG_AUTO_RETRAIN : Fld := ⟨.lnk, 0x100, 0, 11, 1⟩  -- RWS, R144
abbrev LNK_CFG_SLEEP_EN : Fld := ⟨.lnk, 0x100, 0, 10, 1⟩  -- RWS, R144
abbrev LNK_LSTATE_DOWN_REASON : Fld := ⟨.lnk, 0x104, 0, 24, 8⟩  -- RO, R144
abbrev LNK_LSTATE_NEG_VERSION : Fld := ⟨.lnk, 0x104, 0, 6, 2⟩  -- RO, R144
abbrev LNK_LSTATE_NEG_STRONG : Fld := ⟨.lnk, 0x104, 0, 5, 1⟩  -- RO, R144
abbrev LNK_LSTATE_STATE : Fld := ⟨.lnk, 0x104, 0, 0, 4⟩  -- RO, R144
abbrev LNK_PARTNER_ROUTER : Fld := ⟨.lnk, 0x108, 0, 16, 14⟩  -- RO, R144
abbrev LNK_PARTNER_LINK : Fld := ⟨.lnk, 0x108, 0, 0, 8⟩  -- RO, R144
abbrev LNK_RTT_NS_RTT : Fld := ⟨.lnk, 0x10C, 0, 0, 20⟩  -- RO, R144
abbrev LNK_TIMERS_DEAD_TIME : Fld := ⟨.lnk, 0x110, 0, 24, 8⟩  -- RW, R144
abbrev LNK_TIMERS_REPLAY_MARGIN : Fld := ⟨.lnk, 0x110, 0, 16, 8⟩  -- RW, R144
abbrev LNK_TIMERS_RETRY_LIMIT : Fld := ⟨.lnk, 0x110, 0, 8, 8⟩  -- RW, R144
abbrev LNK_TIMERS_CT_STALL : Fld := ⟨.lnk, 0x110, 0, 0, 8⟩  -- RW, R144
abbrev LNK_TIMERS2_CREDIT_STALL : Fld := ⟨.lnk, 0x114, 0, 24, 8⟩  -- RW, R144
abbrev LNK_TIMERS2_REFRESH : Fld := ⟨.lnk, 0x114, 0, 16, 8⟩  -- RW, R144
abbrev LNK_TIMERS2_SLEEP_IDLE : Fld := ⟨.lnk, 0x114, 0, 8, 8⟩  -- RW, R144
abbrev LNK_TIMERS2_TEARDOWN : Fld := ⟨.lnk, 0x114, 0, 0, 8⟩  -- RW, R144
abbrev LNK_CREDIT_CFG_HDR_SHARED : Fld := ⟨.lnk, 0x118, 0, 16, 16⟩  -- RWS, R144
abbrev LNK_CREDIT_CFG_HDR_PER_VC : Fld := ⟨.lnk, 0x118, 0, 0, 8⟩  -- RWS, R144
abbrev LNK_TC_EN_MASK : Fld := ⟨.lnk, 0x11C, 0, 0, 8⟩  -- RWS, R144
abbrev LNK_REPLAY_NEED : Fld := ⟨.lnk, 0x120, 0, 16, 16⟩  -- RO, R144
abbrev LNK_REPLAY_GRANT : Fld := ⟨.lnk, 0x120, 0, 0, 16⟩  -- RO, R144
abbrev LNK_SPILL_RATE : Fld := ⟨.lnk, 0x124, 0, 0, 16⟩  -- RO, R144
abbrev LNK_CNT_CORR_COUNT : Fld := ⟨.lnk, 0x130, 0, 0, 32⟩  -- RW, R144
abbrev LNK_CNT_BAD_COUNT : Fld := ⟨.lnk, 0x134, 0, 0, 32⟩  -- RW, R144
abbrev LNK_CNT_REPLAY_COUNT : Fld := ⟨.lnk, 0x138, 0, 0, 32⟩  -- RW, R144
abbrev LNK_CNT_RESENT_COUNT : Fld := ⟨.lnk, 0x13C, 0, 0, 32⟩  -- RW, R144
abbrev LNK_CNT_SPILL_COUNT : Fld := ⟨.lnk, 0x140, 0, 0, 32⟩  -- RW, R144
abbrev LNK_CNT_ABORT_COUNT : Fld := ⟨.lnk, 0x144, 0, 0, 32⟩  -- RW, R144
abbrev LNK_CNT_BYPDROP_COUNT : Fld := ⟨.lnk, 0x148, 0, 0, 32⟩  -- RW, R144
abbrev LNK_CNT_DOWN_COUNT : Fld := ⟨.lnk, 0x14C, 0, 0, 32⟩  -- RW, R144
abbrev LNK_INJECT_FORCE_DOWN : Fld := ⟨.lnk, 0x150, 0, 2, 1⟩  -- WO, R144
abbrev LNK_INJECT_BAD_FLIT : Fld := ⟨.lnk, 0x150, 0, 1, 1⟩  -- WO, R144
abbrev LNK_INJECT_SYMBOL : Fld := ⟨.lnk, 0x150, 0, 0, 1⟩  -- WO, R144
abbrev SRD_CFG_TEST_MODE : Fld := ⟨.srd, 0x100, 0, 12, 4⟩  -- RWS, R170
abbrev SRD_CFG_POL_AUTO : Fld := ⟨.srd, 0x100, 0, 11, 1⟩  -- RWS, R170
abbrev SRD_CFG_TX_POL : Fld := ⟨.srd, 0x100, 0, 10, 1⟩  -- RWS, R170
abbrev SRD_CFG_RX_POL : Fld := ⟨.srd, 0x100, 0, 9, 1⟩  -- RWS, R170
abbrev SRD_CFG_LOOP : Fld := ⟨.srd, 0x100, 0, 7, 2⟩  -- RW, R170
abbrev SRD_CFG_EQ_MANUAL : Fld := ⟨.srd, 0x100, 0, 6, 1⟩  -- RWS, R170
abbrev SRD_STATUS_LSTATE : Fld := ⟨.srd, 0x104, 0, 28, 4⟩  -- RO, R170
abbrev SRD_STATUS_PRESENT : Fld := ⟨.srd, 0x104, 0, 27, 1⟩  -- RO, R170
abbrev SRD_STATUS_RX_INVERTED : Fld := ⟨.srd, 0x104, 0, 26, 1⟩  -- RO, R170
abbrev SRD_STATUS_LOGICAL : Fld := ⟨.srd, 0x104, 0, 23, 3⟩  -- RO, R170
abbrev SRD_STATUS_SLIP : Fld := ⟨.srd, 0x104, 0, 15, 8⟩  -- RO, R170
abbrev SRD_STATUS_MODE : Fld := ⟨.srd, 0x104, 0, 11, 4⟩  -- RO, R170
abbrev SRD_TXEQ_PRE2 : Fld := ⟨.srd, 0x108, 0, 24, 6⟩  -- RW, R170
abbrev SRD_TXEQ_PRE1 : Fld := ⟨.srd, 0x108, 0, 18, 6⟩  -- RW, R170
abbrev SRD_TXEQ_MAIN : Fld := ⟨.srd, 0x108, 0, 12, 6⟩  -- RW, R170
abbrev SRD_TXEQ_POST1 : Fld := ⟨.srd, 0x108, 0, 6, 6⟩  -- RW, R170
abbrev SRD_TXEQ_POST2 : Fld := ⟨.srd, 0x108, 0, 0, 6⟩  -- RW, R170
abbrev SRD_LOSS_QDB : Fld := ⟨.srd, 0x10C, 0, 0, 16⟩  -- RO, R170
abbrev SRD_CABLE_DM : Fld := ⟨.srd, 0x110, 0, 0, 20⟩  -- RO, R170
abbrev SRD_ERR_ERR_EXP : Fld := ⟨.srd, 0x114, 0, 0, 4⟩  -- RO, R170
abbrev SRD_PARTNER_CAP_CAP : Fld := ⟨.srd, 0x118, 0, 0, 64⟩  -- RO, R170
abbrev SRD_PRBS_CFG_TX_EN : Fld := ⟨.srd, 0x120, 0, 31, 1⟩  -- RW, R170
abbrev SRD_PRBS_CFG_RX_EN : Fld := ⟨.srd, 0x120, 0, 30, 1⟩  -- RW, R170
abbrev SRD_PRBS_CFG_PATTERN : Fld := ⟨.srd, 0x120, 0, 24, 4⟩  -- RW, R170
abbrev SRD_PRBS_CFG_INJ_EXP : Fld := ⟨.srd, 0x120, 0, 20, 4⟩  -- RW, R170
abbrev SRD_PRBS_STAT_LOCK : Fld := ⟨.srd, 0x124, 0, 31, 1⟩  -- RO, R170
abbrev SRD_PRBS_STAT_LOCK_LOSS : Fld := ⟨.srd, 0x124, 0, 0, 16⟩  -- RW, R170
abbrev SRD_PRBS_ERR_COUNT : Fld := ⟨.srd, 0x128, 0, 0, 64⟩  -- RW, R170
abbrev SRD_PRBS_BITS_COUNT : Fld := ⟨.srd, 0x130, 0, 0, 64⟩  -- RW, R170
abbrev SRD_PRBS_USER_PATTERN : Fld := ⟨.srd, 0x138, 0, 0, 64⟩  -- RW, R170
abbrev SRD_INJECT_BURST_LEN : Fld := ⟨.srd, 0x140, 0, 4, 4⟩  -- RW, R170
abbrev SRD_INJECT_BURST : Fld := ⟨.srd, 0x140, 0, 1, 1⟩  -- WO, R170
abbrev SRD_INJECT_BIT : Fld := ⟨.srd, 0x140, 0, 0, 1⟩  -- WO, R170
abbrev SRD_OWNER_VALID : Fld := ⟨.srd, 0x144, 0, 31, 1⟩  -- RO, R170
abbrev SRD_OWNER_HOST : Fld := ⟨.srd, 0x144, 0, 30, 1⟩  -- RO, R170
abbrev SRD_OWNER_NUMBER : Fld := ⟨.srd, 0x144, 0, 0, 8⟩  -- RO, R170
abbrev TIL_CFG_FAMILY1 : Fld := ⟨.til, 0x100, 0, 1, 1⟩  -- RWS, R171
abbrev TIL_CFG_FAMILY0 : Fld := ⟨.til, 0x100, 0, 0, 1⟩  -- RWS, R171
abbrev TIL_TSTATUS_TSTATE : Fld := ⟨.til, 0x104, 0, 28, 4⟩  -- RO, R171
abbrev TIL_TSTATUS_LANE_UP : Fld := ⟨.til, 0x104, 0, 0, 16⟩  -- RO, R171
abbrev TIL_LIMITS_LOSS_LIMIT : Fld := ⟨.til, 0x108, 0, 24, 8⟩  -- RW, R171
abbrev TIL_LIMITS_ERR_LIMIT_EXP : Fld := ⟨.til, 0x108, 0, 20, 4⟩  -- RW, R171
abbrev TIL_PROP_PS_PER_M : Fld := ⟨.til, 0x10C, 0, 0, 16⟩  -- RW, R171
abbrev TIL_TIMERS_TRAIN_MS : Fld := ⟨.til, 0x110, 0, 0, 16⟩  -- RW, R171
abbrev VIA_CFG_GATE_EN : Fld := ⟨.via, 0x100, 0, 2, 1⟩  -- RW, R197
abbrev VIA_CFG_TIME_SEND : Fld := ⟨.via, 0x100, 0, 1, 1⟩  -- RW, R197
abbrev VIA_CFG_PPS_OUT_EN : Fld := ⟨.via, 0x100, 0, 0, 1⟩  -- RW, R197
abbrev VIA_TBL_CTRL_SYNC_BUSY : Fld := ⟨.via, 0x104, 0, 3, 1⟩  -- RO, R197
abbrev VIA_TBL_CTRL_SYNC : Fld := ⟨.via, 0x104, 0, 2, 1⟩  -- WO, R197
abbrev VIA_TBL_CTRL_NEXT : Fld := ⟨.via, 0x104, 0, 1, 1⟩  -- RWS, R197
abbrev VIA_TBL_CTRL_ACTIVE : Fld := ⟨.via, 0x104, 0, 0, 1⟩  -- RO, R197
abbrev VIA_TBL_SEQ_A_SEQ : Fld := ⟨.via, 0x108, 0, 0, 32⟩  -- RW, R197
abbrev VIA_TBL_SEQ_B_SEQ : Fld := ⟨.via, 0x10C, 0, 0, 32⟩  -- RW, R197
abbrev VIA_CYCLE_NS : Fld := ⟨.via, 0x110, 0, 0, 20⟩  -- RWS, R197
abbrev VIA_GATE_PARAM_GUARD_NS : Fld := ⟨.via, 0x114, 0, 24, 8⟩  -- RWS, R197
abbrev VIA_GATE_PARAM_MIN_GAP_NS : Fld := ⟨.via, 0x114, 0, 12, 12⟩  -- RWS, R197
abbrev VIA_CYCLE_BASE_TIME : Fld := ⟨.via, 0x118, 0, 0, 64⟩  -- RWS, R197
abbrev VIA_SWAP_AT_TIME : Fld := ⟨.via, 0x120, 0, 0, 64⟩  -- RW, R197
abbrev VIA_TIME_CFG_ROLE : Fld := ⟨.via, 0x128, 0, 30, 2⟩  -- RWS, R197
abbrev VIA_TIME_CFG_PARENT : Fld := ⟨.via, 0x128, 0, 22, 8⟩  -- RWS, R197
abbrev VIA_TIME_CFG_ALT : Fld := ⟨.via, 0x128, 0, 14, 8⟩  -- RWS, R197
abbrev VIA_TIME_CFG_ALT_VALID : Fld := ⟨.via, 0x128, 0, 13, 1⟩  -- RWS, R197
abbrev VIA_TIME_CFG_SYNC_PERIOD : Fld := ⟨.via, 0x128, 0, 0, 8⟩  -- RW, R197
abbrev VIA_TIME_LIMITS_HOLD_US : Fld := ⟨.via, 0x12C, 0, 16, 16⟩  -- RW, R197
abbrev VIA_TIME_LIMITS_ERR_LIMIT_NS : Fld := ⟨.via, 0x12C, 0, 8, 8⟩  -- RW, R197
abbrev VIA_TIME_STATUS_STATE : Fld := ⟨.via, 0x130, 0, 30, 2⟩  -- RO, R197
abbrev VIA_TIME_STATUS_DEPTH : Fld := ⟨.via, 0x130, 0, 26, 4⟩  -- RO, R197
abbrev VIA_TIME_STATUS_ROOT_ID : Fld := ⟨.via, 0x130, 0, 12, 14⟩  -- RO, R197
abbrev VIA_TIME_STATUS_LINK : Fld := ⟨.via, 0x130, 0, 2, 8⟩  -- RO, R197
abbrev VIA_TIME_OFFSET_QNS : Fld := ⟨.via, 0x134, 0, 0, 32⟩  -- RO, R197
abbrev VIA_TIME_RATE_ADJ : Fld := ⟨.via, 0x138, 0, 0, 32⟩  -- RW, R197
abbrev VIA_TIME_PATH_QNS : Fld := ⟨.via, 0x13C, 0, 0, 20⟩  -- RO, R197
abbrev VIA_TIME_NOW_TIME : Fld := ⟨.via, 0x140, 0, 0, 64⟩  -- RO, R197
abbrev VIA_TIME_SET_TIME : Fld := ⟨.via, 0x148, 0, 0, 64⟩  -- WO, R197
abbrev VIA_TIME_ADJ_NS : Fld := ⟨.via, 0x150, 0, 0, 32⟩  -- WO, R197
abbrev VIA_ASYM_ALT : Fld := ⟨.via, 0x154, 0, 16, 16⟩  -- RW, R197
abbrev VIA_ASYM_PARENT : Fld := ⟨.via, 0x154, 0, 0, 16⟩  -- RW, R197
abbrev VIA_PPS_CAP_TIME : Fld := ⟨.via, 0x158, 0, 0, 64⟩  -- RO, R197
abbrev VIA_PPS_CFG_WIDTH_US : Fld := ⟨.via, 0x160, 0, 8, 8⟩  -- RW, R197
abbrev VIA_PPS_CFG_PPS_IN_EN : Fld := ⟨.via, 0x160, 0, 7, 1⟩  -- RW, R197
abbrev VIA_CNT_SENT_COUNT : Fld := ⟨.via, 0x170, 0, 0, 32⟩  -- RW, R197
abbrev VIA_CNT_HELD_COUNT : Fld := ⟨.via, 0x174, 0, 0, 32⟩  -- RW, R197
abbrev VIA_CNT_MISSED_COUNT : Fld := ⟨.via, 0x178, 0, 0, 32⟩  -- RW, R197
abbrev VIA_CNT_OVERRUN_COUNT : Fld := ⟨.via, 0x17C, 0, 0, 32⟩  -- RW, R197
abbrev VIA_CNT_NOENTRY_COUNT : Fld := ⟨.via, 0x180, 0, 0, 32⟩  -- RW, R197
abbrev VIA_CNT_GAP_COUNT : Fld := ⟨.via, 0x184, 0, 0, 32⟩  -- RW, R197
abbrev VIA_CNT_TIME_BAD_COUNT : Fld := ⟨.via, 0x188, 0, 0, 32⟩  -- RW, R197
abbrev VIA_INJECT_WINDOW_SKIP : Fld := ⟨.via, 0x18C, 0, 1, 1⟩  -- WO, R197
abbrev VIA_INJECT_TIME_ERR : Fld := ⟨.via, 0x18C, 0, 0, 1⟩  -- WO, R197
abbrev ABC_CFG_SPILL_EN : Fld := ⟨.abc, 0x100, 0, 8, 1⟩  -- RWS, R227
abbrev ABC_CFG_STALL_US : Fld := ⟨.abc, 0x100, 0, 0, 8⟩  -- RW, R227
abbrev ABC_CELLS_USED : Fld := ⟨.abc, 0x104, 0, 0, 19⟩  -- RO, R227
abbrev ABC_WINDOWS_HBM : Fld := ⟨.abc, 0x108, 0, 16, 13⟩  -- RO, R227
abbrev ABC_WINDOWS_SRAM : Fld := ⟨.abc, 0x108, 0, 0, 13⟩  -- RO, R227
abbrev ABC_HBM_QUOTA_UNITS : Fld := ⟨.abc, 0x10C, 0, 0, 16⟩  -- RO, R227
abbrev ABC_HBM_USED_UNITS : Fld := ⟨.abc, 0x110, 0, 0, 16⟩  -- RO, R227
abbrev ABC_CNT_ELEM_COUNT : Fld := ⟨.abc, 0x120, 0, 0, 32⟩  -- RW, R227
abbrev ABC_CNT_PART_TX_COUNT : Fld := ⟨.abc, 0x124, 0, 0, 32⟩  -- RW, R227
abbrev ABC_CNT_RESULT_COUNT : Fld := ⟨.abc, 0x128, 0, 0, 32⟩  -- RW, R227
abbrev ABC_CNT_INEXACT_COUNT : Fld := ⟨.abc, 0x12C, 0, 0, 32⟩  -- RW, R227
abbrev ABC_CNT_RESIDUE_COUNT : Fld := ⟨.abc, 0x130, 0, 0, 32⟩  -- RW, R227
abbrev ABC_CNT_MALFORMED_COUNT : Fld := ⟨.abc, 0x134, 0, 0, 32⟩  -- RW, R227
abbrev ABC_CNT_SPILL_COUNT : Fld := ⟨.abc, 0x138, 0, 0, 32⟩  -- RW, R227
abbrev ABC_CNT_FILL_COUNT : Fld := ⟨.abc, 0x13C, 0, 0, 32⟩  -- RW, R227
abbrev ABC_CNT_CORR_COUNT : Fld := ⟨.abc, 0x140, 0, 0, 32⟩  -- RW, R227
abbrev ABC_INJECT_FILL_ECC : Fld := ⟨.abc, 0x150, 0, 2, 1⟩  -- WO, R227
abbrev ABC_INJECT_BEAD_ECC : Fld := ⟨.abc, 0x150, 0, 1, 1⟩  -- WO, R227
abbrev ABC_INJECT_RESIDUE : Fld := ⟨.abc, 0x150, 0, 0, 1⟩  -- WO, R227
abbrev TRE_CNT_REPULL_TX_COUNT : Fld := ⟨.tre, 0x120, 0, 0, 32⟩  -- RW, R252
abbrev TRE_CNT_REPULL_RX_COUNT : Fld := ⟨.tre, 0x124, 0, 0, 32⟩  -- RW, R252
abbrev TRE_CNT_DUP_COUNT : Fld := ⟨.tre, 0x128, 0, 0, 32⟩  -- RW, R252
abbrev TRE_CNT_AHEAD_COUNT : Fld := ⟨.tre, 0x12C, 0, 0, 32⟩  -- RW, R252
abbrev TRE_CNT_FAIL_COUNT : Fld := ⟨.tre, 0x130, 0, 0, 32⟩  -- RW, R252
abbrev TRE_CNT_GONE_COUNT : Fld := ⟨.tre, 0x134, 0, 0, 32⟩  -- RW, R252
abbrev TRE_CNT_BARRIER_COUNT : Fld := ⟨.tre, 0x138, 0, 0, 32⟩  -- RW, R252
abbrev TRE_COLL_INJECT_DROP_UP : Fld := ⟨.tre, 0x13C, 0, 0, 1⟩  -- WO, R252
abbrev HPT_CFG_FIRST_LANE : Fld := ⟨.hpt, 0x100, 0, 19, 9⟩  -- RWS, R266
abbrev HPT_CFG_WIDTH : Fld := ⟨.hpt, 0x100, 0, 17, 2⟩  -- RWS, R266
abbrev HPT_CFG_LANE_MODE : Fld := ⟨.hpt, 0x100, 0, 15, 2⟩  -- RWS, R266
abbrev HPT_CFG_AN_EN : Fld := ⟨.hpt, 0x100, 0, 14, 1⟩  -- RWS, R266
abbrev HPT_CFG_MEDIA : Fld := ⟨.hpt, 0x100, 0, 13, 1⟩  -- RWS, R266
abbrev HPT_PSTATE_DOWN_REASON : Fld := ⟨.hpt, 0x104, 0, 24, 8⟩  -- RO, R266
abbrev HPT_PSTATE_CR : Fld := ⟨.hpt, 0x104, 0, 4, 1⟩  -- RO, R266
abbrev HPT_PSTATE_STATE : Fld := ⟨.hpt, 0x104, 0, 0, 4⟩  -- RO, R266
abbrev HPT_MAX_FRAME_BYTES : Fld := ⟨.hpt, 0x108, 0, 0, 14⟩  -- RW, R266
abbrev HPT_FC_CFG_PFC_TX_EN : Fld := ⟨.hpt, 0x10C, 0, 24, 8⟩  -- RW, R266
abbrev HPT_FC_CFG_PFC_RX_EN : Fld := ⟨.hpt, 0x10C, 0, 16, 8⟩  -- RW, R266
abbrev HPT_FC_CFG_PAUSE_RX_EN : Fld := ⟨.hpt, 0x10C, 0, 15, 1⟩  -- RW, R266
abbrev HPT_FC_CFG_TAG_EN : Fld := ⟨.hpt, 0x10C, 0, 14, 1⟩  -- RW, R266
abbrev HPT_FC_CFG_SPAN_PCP : Fld := ⟨.hpt, 0x10C, 0, 11, 3⟩  -- RW, R266
abbrev HPT_PFC_THRESH_XOFF : Fld := ⟨.hpt, 0x110, 0, 16, 16⟩  -- RW, R266
abbrev HPT_PFC_THRESH_XON : Fld := ⟨.hpt, 0x110, 0, 0, 16⟩  -- RW, R266
abbrev HPT_MACSEC_CFG_EN : Fld := ⟨.hpt, 0x114, 0, 31, 1⟩  -- RWS, R266
abbrev HPT_MACSEC_CFG_REQUIRE : Fld := ⟨.hpt, 0x114, 0, 30, 1⟩  -- RW, R266
abbrev HPT_MACSEC_CFG_CONF : Fld := ⟨.hpt, 0x114, 0, 29, 1⟩  -- RW, R266
abbrev HPT_MACSEC_CFG_TX_AN : Fld := ⟨.hpt, 0x114, 0, 27, 2⟩  -- RW, R266
abbrev HPT_MACSEC_CFG_REPLAY_WIN : Fld := ⟨.hpt, 0x114, 0, 0, 24⟩  -- RW, R266
abbrev HPT_MACSEC_SCI_SCI : Fld := ⟨.hpt, 0x118, 0, 0, 64⟩  -- RWS, R266
abbrev HPT_SA_CTRL_INSTALL : Fld := ⟨.hpt, 0x120, 0, 3, 1⟩  -- WO, R266
abbrev HPT_SA_CTRL_DIR : Fld := ⟨.hpt, 0x120, 0, 2, 1⟩  -- RW, R266
abbrev HPT_SA_CTRL_AN : Fld := ⟨.hpt, 0x120, 0, 0, 2⟩  -- RW, R266
abbrev HPT_SAK_KEY : Fld := ⟨.hpt, 0x124, 4, 0, 32⟩  -- WO, R266
abbrev HPT_SALT_SALT : Fld := ⟨.hpt, 0x144, 4, 0, 32⟩  -- WO, R266
abbrev HPT_SSCI_SSCI : Fld := ⟨.hpt, 0x150, 0, 0, 32⟩  -- WO, R266
abbrev HPT_TX_PN_PN : Fld := ⟨.hpt, 0x158, 0, 0, 64⟩  -- RO, R266
abbrev HPT_PTP_CFG_TS_EN : Fld := ⟨.hpt, 0x160, 0, 31, 1⟩  -- RW, R266
abbrev HPT_PTP_CFG_UDP_EN : Fld := ⟨.hpt, 0x160, 0, 30, 1⟩  -- RW, R266
abbrev HPT_PTP_CFG_QUEUE : Fld := ⟨.hpt, 0x160, 0, 0, 12⟩  -- RW, R266
abbrev HPT_TS_STAT_VALID : Fld := ⟨.hpt, 0x164, 0, 31, 1⟩  -- RO, R266
abbrev HPT_TS_STAT_SEQUENCE_ID : Fld := ⟨.hpt, 0x164, 0, 0, 16⟩  -- RO, R266
abbrev HPT_TS_TIME_TIME : Fld := ⟨.hpt, 0x168, 0, 0, 64⟩  -- RO, R266
abbrev HPT_CNT_RX_COUNT : Fld := ⟨.hpt, 0x170, 0, 0, 32⟩  -- RW, R266
abbrev HPT_CNT_TX_COUNT : Fld := ⟨.hpt, 0x174, 0, 0, 32⟩  -- RW, R266
abbrev HPT_CNT_BAD_COUNT : Fld := ⟨.hpt, 0x178, 0, 0, 32⟩  -- RW, R266
abbrev HPT_CNT_OTHER_COUNT : Fld := ⟨.hpt, 0x17C, 0, 0, 32⟩  -- RW, R266
abbrev HPT_CNT_PFC_RX_COUNT : Fld := ⟨.hpt, 0x180, 0, 0, 32⟩  -- RW, R266
abbrev HPT_CNT_PFC_TX_COUNT : Fld := ⟨.hpt, 0x184, 0, 0, 32⟩  -- RW, R266
abbrev HPT_CNT_FULL_COUNT : Fld := ⟨.hpt, 0x188, 0, 0, 32⟩  -- RW, R266
abbrev HPT_CNT_MACSEC_COUNT : Fld := ⟨.hpt, 0x18C, 0, 0, 32⟩  -- RW, R266
abbrev HPT_CNT_FEC_CORR_COUNT : Fld := ⟨.hpt, 0x190, 0, 0, 32⟩  -- RW, R266
abbrev HPT_CNT_FEC_UNCORR_COUNT : Fld := ⟨.hpt, 0x194, 0, 0, 32⟩  -- RW, R266
abbrev HPT_CNT_TS_LOST_COUNT : Fld := ⟨.hpt, 0x198, 0, 0, 32⟩  -- RW, R266
abbrev HPT_INJECT_FEC_SYMBOL : Fld := ⟨.hpt, 0x19C, 0, 1, 1⟩  -- WO, R266
abbrev HPT_INJECT_FCS : Fld := ⟨.hpt, 0x19C, 0, 0, 1⟩  -- WO, R266
abbrev SPN_CFG_ETHERTYPE : Fld := ⟨.spn, 0x100, 0, 16, 16⟩  -- RWS, R293
abbrev SPN_CFG_UDP_EN : Fld := ⟨.spn, 0x100, 0, 15, 1⟩  -- RWS, R293
abbrev SPN_CFG_PEER_LOCK : Fld := ⟨.spn, 0x100, 0, 14, 1⟩  -- RWS, R293
abbrev SPN_UDP_PORT : Fld := ⟨.spn, 0x104, 0, 0, 16⟩  -- RWS, R293
abbrev SPN_IP_CFG_HOP_LIMIT : Fld := ⟨.spn, 0x108, 0, 24, 8⟩  -- RWS, R293
abbrev SPN_IP_CFG_TCLASS : Fld := ⟨.spn, 0x108, 0, 16, 8⟩  -- RWS, R293
abbrev SPN_LOCAL_MAC_MAC : Fld := ⟨.spn, 0x110, 0, 0, 48⟩  -- RWS, R293
abbrev SPN_PEER_MAC_MAC : Fld := ⟨.spn, 0x118, 0, 0, 48⟩  -- RWS, R293
abbrev SPN_LOCAL_IP6_ADDR : Fld := ⟨.spn, 0x120, 4, 0, 32⟩  -- RWS, R293
abbrev SPN_PEER_IP6_ADDR : Fld := ⟨.spn, 0x130, 4, 0, 32⟩  -- RWS, R293
abbrev SPN_WINDOW_TX_WIN : Fld := ⟨.spn, 0x140, 0, 0, 14⟩  -- RW, R293
abbrev SPN_ACK_CFG_COALESCE : Fld := ⟨.spn, 0x144, 0, 24, 8⟩  -- RW, R293
abbrev SPN_ACK_CFG_DELAY_NS : Fld := ⟨.spn, 0x144, 0, 0, 16⟩  -- RW, R293
abbrev SPN_TIMERS_RTO : Fld := ⟨.spn, 0x148, 0, 16, 16⟩  -- RW, R293
abbrev SPN_TIMERS_RETRY_LIMIT : Fld := ⟨.spn, 0x148, 0, 8, 8⟩  -- RW, R293
abbrev SPN_TIMERS_DOWN_HOLD_MS : Fld := ⟨.spn, 0x148, 0, 0, 8⟩  -- RW, R293
abbrev SPN_TIMERS2_RD_TIMEOUT : Fld := ⟨.spn, 0x14C, 0, 16, 16⟩  -- RW, R293
abbrev SPN_TIMERS2_LAND_TIMEOUT : Fld := ⟨.spn, 0x14C, 0, 0, 16⟩  -- RW, R293
abbrev SPN_RD_CFG_RD_MAX : Fld := ⟨.spn, 0x150, 0, 0, 11⟩  -- RW, R293
abbrev SPN_PRIV_REQUIRE_MACSEC : Fld := ⟨.spn, 0x154, 0, 2, 1⟩  -- RWS, R293
abbrev SPN_PRIV_LEVEL : Fld := ⟨.spn, 0x154, 0, 0, 2⟩  -- RWS, R293
abbrev SPN_SESSION_STATE : Fld := ⟨.spn, 0x158, 0, 30, 2⟩  -- RO, R293
abbrev SPN_SESSION_COUNT : Fld := ⟨.spn, 0x158, 0, 0, 16⟩  -- RO, R293
abbrev SPN_SESSION_CTRL_RESYNC : Fld := ⟨.spn, 0x15C, 0, 0, 1⟩  -- WO, R293
abbrev SPN_TX_STATE_NEXT : Fld := ⟨.spn, 0x160, 0, 16, 16⟩  -- RO, R293
abbrev SPN_TX_STATE_OLDEST : Fld := ⟨.spn, 0x160, 0, 0, 16⟩  -- RO, R293
abbrev SPN_RX_STATE_EXPECTED : Fld := ⟨.spn, 0x164, 0, 16, 16⟩  -- RO, R293
abbrev SPN_RX_STATE_LANDED : Fld := ⟨.spn, 0x164, 0, 0, 16⟩  -- RO, R293
abbrev SPN_RX_BUF_BYTES : Fld := ⟨.spn, 0x168, 0, 0, 20⟩  -- RO, R293
abbrev SPN_CNT_TX_COUNT : Fld := ⟨.spn, 0x170, 0, 0, 32⟩  -- RW, R293
abbrev SPN_CNT_RX_COUNT : Fld := ⟨.spn, 0x174, 0, 0, 32⟩  -- RW, R293
abbrev SPN_CNT_RETX_COUNT : Fld := ⟨.spn, 0x178, 0, 0, 32⟩  -- RW, R293
abbrev SPN_CNT_NAK_TX_COUNT : Fld := ⟨.spn, 0x17C, 0, 0, 32⟩  -- RW, R293
abbrev SPN_CNT_NAK_RX_COUNT : Fld := ⟨.spn, 0x180, 0, 0, 32⟩  -- RW, R293
abbrev SPN_CNT_DUP_COUNT : Fld := ⟨.spn, 0x184, 0, 0, 32⟩  -- RW, R293
abbrev SPN_CNT_NOBUF_COUNT : Fld := ⟨.spn, 0x188, 0, 0, 32⟩  -- RW, R293
abbrev SPN_CNT_REFUSED_COUNT : Fld := ⟨.spn, 0x18C, 0, 0, 32⟩  -- RW, R293
abbrev SPN_CNT_MALFORMED_COUNT : Fld := ⟨.spn, 0x190, 0, 0, 32⟩  -- RW, R293
abbrev SPN_CNT_BADENCAP_COUNT : Fld := ⟨.spn, 0x194, 0, 0, 32⟩  -- RW, R293
abbrev SPN_CNT_RD_TIMEOUT_COUNT : Fld := ⟨.spn, 0x198, 0, 0, 32⟩  -- RW, R293
abbrev SPN_CNT_LOST_COUNT : Fld := ⟨.spn, 0x19C, 0, 0, 32⟩  -- RW, R293
abbrev SPN_INJECT_DROP_ACK : Fld := ⟨.spn, 0x1A0, 0, 2, 1⟩  -- WO, R293
abbrev SPN_INJECT_DROP_RX : Fld := ⟨.spn, 0x1A0, 0, 1, 1⟩  -- WO, R293
abbrev SPN_INJECT_DROP_TX : Fld := ⟨.spn, 0x1A0, 0, 0, 1⟩  -- WO, R293
abbrev SPN_CNT_STALE_COUNT : Fld := ⟨.spn, 0x1A4, 0, 0, 32⟩  -- RW, R293
abbrev CTG_CFG_CQ_POLL : Fld := ⟨.ctg, 0x100, 0, 24, 8⟩  -- RW, R319
abbrev CTG_CFG_CQ_RESERVE : Fld := ⟨.ctg, 0x100, 0, 16, 8⟩  -- RW, R319
abbrev CTG_CFG_FETCH_MAX : Fld := ⟨.ctg, 0x100, 0, 0, 8⟩  -- RW, R319
abbrev CTG_RESET_TIMEOUT_US : Fld := ⟨.ctg, 0x104, 0, 0, 16⟩  -- RW, R319
abbrev CTG_COUNTS_HALTED : Fld := ⟨.ctg, 0x108, 0, 16, 12⟩  -- RO, R319
abbrev CTG_COUNTS_ENABLED : Fld := ⟨.ctg, 0x108, 0, 0, 12⟩  -- RO, R319
abbrev CTG_LAST_HALT_CAUSE : Fld := ⟨.ctg, 0x10C, 0, 24, 8⟩  -- RO, R319
abbrev CTG_LAST_HALT_CONTEXT : Fld := ⟨.ctg, 0x10C, 0, 0, 18⟩  -- RO, R319
abbrev CTG_CNT_DB_COUNT : Fld := ⟨.ctg, 0x110, 0, 0, 32⟩  -- RW, R319
abbrev CTG_CNT_DB_REFUSED_COUNT : Fld := ⟨.ctg, 0x114, 0, 0, 32⟩  -- RW, R319
abbrev CTG_CNT_FETCH_COUNT : Fld := ⟨.ctg, 0x118, 0, 0, 32⟩  -- RW, R319
abbrev CTG_CNT_MALFORMED_COUNT : Fld := ⟨.ctg, 0x11C, 0, 0, 32⟩  -- RW, R319
abbrev CTG_CNT_CQ_STALL_COUNT : Fld := ⟨.ctg, 0x120, 0, 0, 32⟩  -- RW, R319
abbrev CTG_CNT_IN_REFUSED_COUNT : Fld := ⟨.ctg, 0x124, 0, 0, 32⟩  -- RW, R319
abbrev CTG_CNT_CACHE_MISS_COUNT : Fld := ⟨.ctg, 0x128, 0, 0, 32⟩  -- RW, R319
abbrev CTG_INJECT_FETCH_ERR : Fld := ⟨.ctg, 0x130, 0, 1, 1⟩  -- WO, R319
abbrev CTG_INJECT_MALFORMED : Fld := ⟨.ctg, 0x130, 0, 0, 1⟩  -- WO, R319
abbrev CTG_MRING_CFG_PORT : Fld := ⟨.ctg, 0x180, 0, 24, 6⟩  -- RWS, R319
abbrev CTG_MRING_CFG_ON_MGT : Fld := ⟨.ctg, 0x180, 0, 23, 1⟩  -- RWS, R319
abbrev CTG_MRING_CFG_CMD_IN_HBM : Fld := ⟨.ctg, 0x180, 0, 22, 1⟩  -- RWS, R319
abbrev CTG_MRING_CFG_CQ_IN_HBM : Fld := ⟨.ctg, 0x180, 0, 21, 1⟩  -- RWS, R319
abbrev CTG_MRING_CFG_CMD_LOG2 : Fld := ⟨.ctg, 0x180, 0, 16, 5⟩  -- RWS, R319
abbrev CTG_MRING_CFG_CQ_LOG2 : Fld := ⟨.ctg, 0x180, 0, 8, 5⟩  -- RWS, R319
abbrev CTG_MRING_CTRL_ENABLE : Fld := ⟨.ctg, 0x184, 0, 0, 1⟩  -- RW, R319
abbrev CTG_MRING_BASE_ADDR : Fld := ⟨.ctg, 0x188, 0, 0, 64⟩  -- RWS, R319
abbrev CTG_MCQ_BASE_ADDR : Fld := ⟨.ctg, 0x190, 0, 0, 64⟩  -- RWS, R319
abbrev CTG_MCQ_TAIL_ADDR_ADDR : Fld := ⟨.ctg, 0x198, 0, 0, 64⟩  -- RWS, R319
abbrev CTG_MCQ_HEAD_ADDR_ADDR : Fld := ⟨.ctg, 0x1A0, 0, 0, 64⟩  -- RWS, R319
abbrev MAT_EAGER_MAX_BYTES : Fld := ⟨.mat, 0x100, 0, 0, 17⟩  -- RW, R344
abbrev MAT_RDV_PULL_WINDOW : Fld := ⟨.mat, 0x104, 0, 0, 8⟩  -- RW, R344
abbrev MAT_UNEXP_CTX_RECORDS : Fld := ⟨.mat, 0x108, 0, 16, 16⟩  -- RW, R344
abbrev MAT_UNEXP_CTX_KIB : Fld := ⟨.mat, 0x108, 0, 0, 16⟩  -- RW, R344
abbrev MAT_HOOK_CFG_EN : Fld := ⟨.mat, 0x10C, 0, 31, 1⟩  -- RW, R344
abbrev MAT_HOOK_CFG_QUEUE : Fld := ⟨.mat, 0x10C, 0, 16, 12⟩  -- RW, R344
abbrev MAT_HOOK_CFG_MASK : Fld := ⟨.mat, 0x10C, 0, 0, 4⟩  -- RW, R344
abbrev MAT_HOOK_THRESH_RECORDS : Fld := ⟨.mat, 0x110, 0, 0, 18⟩  -- RW, R344
abbrev MAT_POSTED_COUNT : Fld := ⟨.mat, 0x114, 0, 0, 17⟩  -- RO, R344
abbrev MAT_UNEXP_RECORDS : Fld := ⟨.mat, 0x118, 0, 0, 18⟩  -- RO, R344
abbrev MAT_MSG_ACTIVE_COUNT : Fld := ⟨.mat, 0x11C, 0, 0, 17⟩  -- RO, R344
abbrev MAT_CNT_MATCH_COUNT : Fld := ⟨.mat, 0x130, 0, 0, 32⟩  -- RW, R344
abbrev MAT_CNT_UNEXP_COUNT : Fld := ⟨.mat, 0x134, 0, 0, 32⟩  -- RW, R344
abbrev MAT_CNT_HELD_COUNT : Fld := ⟨.mat, 0x138, 0, 0, 32⟩  -- RW, R344
abbrev MAT_CNT_TRUNC_COUNT : Fld := ⟨.mat, 0x13C, 0, 0, 32⟩  -- RW, R344
abbrev MAT_CNT_FULL_COUNT : Fld := ⟨.mat, 0x140, 0, 0, 32⟩  -- RW, R344
abbrev MAT_CNT_WILD_SCAN_COUNT : Fld := ⟨.mat, 0x144, 0, 0, 32⟩  -- RW, R344
abbrev MAT_CNT_RDV_COUNT : Fld := ⟨.mat, 0x148, 0, 0, 32⟩  -- RW, R344
abbrev MAT_CNT_CANCEL_COUNT : Fld := ⟨.mat, 0x14C, 0, 0, 32⟩  -- RW, R344
abbrev MAT_CNT_PROTO_COUNT : Fld := ⟨.mat, 0x150, 0, 0, 32⟩  -- RW, R344
abbrev MAT_INJECT_STATE_ECC : Fld := ⟨.mat, 0x154, 0, 0, 1⟩  -- WO, R344
abbrev REL_RTX_RTO_US : Fld := ⟨.rel, 0x100, 0, 24, 8⟩  -- RW, R373
abbrev REL_RTX_RTO_MAX_US : Fld := ⟨.rel, 0x100, 0, 16, 8⟩  -- RW, R373
abbrev REL_RTX_RETRY_LIMIT : Fld := ⟨.rel, 0x100, 0, 8, 8⟩  -- RW, R373
abbrev REL_ACK_CFG_COALESCE : Fld := ⟨.rel, 0x104, 0, 24, 8⟩  -- RW, R373
abbrev REL_ACK_CFG_DELAY_NS : Fld := ⟨.rel, 0x104, 0, 0, 16⟩  -- RW, R373
abbrev REL_HOLD_REFUSE_HOLD_US : Fld := ⟨.rel, 0x108, 0, 16, 16⟩  -- RW, R373
abbrev REL_HOLD_RESP_HOLD_US : Fld := ⟨.rel, 0x108, 0, 0, 16⟩  -- RW, R373
abbrev REL_IDLE_TX_IDLE_US : Fld := ⟨.rel, 0x10C, 0, 16, 16⟩  -- RW, R373
abbrev REL_IDLE_LIFE_US : Fld := ⟨.rel, 0x10C, 0, 0, 16⟩  -- RW, R373
abbrev REL_PARK_PARK_TIMEOUT_MS : Fld := ⟨.rel, 0x110, 0, 16, 16⟩  -- RW, R373
abbrev REL_PARK_SUSPEND_LIMIT_MS : Fld := ⟨.rel, 0x110, 0, 0, 16⟩  -- RW, R373
abbrev REL_CHANNELS_OPEN : Fld := ⟨.rel, 0x114, 0, 0, 13⟩  -- RO, R373
abbrev REL_OCCUPANCY_PARKED : Fld := ⟨.rel, 0x118, 0, 16, 13⟩  -- RO, R373
abbrev REL_OCCUPANCY_RESP_USED : Fld := ⟨.rel, 0x118, 0, 0, 15⟩  -- RO, R373
abbrev REL_REVOKE_BUSY : Fld := ⟨.rel, 0x11C, 0, 31, 1⟩  -- RO, R373
abbrev REL_REVOKE_REGION : Fld := ⟨.rel, 0x11C, 0, 0, 20⟩  -- RO, R373
abbrev REL_CNT_SENT_COUNT : Fld := ⟨.rel, 0x120, 0, 0, 32⟩  -- RW, R373
abbrev REL_CNT_RETX_COUNT : Fld := ⟨.rel, 0x124, 0, 0, 32⟩  -- RW, R373
abbrev REL_CNT_ACK_TX_COUNT : Fld := ⟨.rel, 0x128, 0, 0, 32⟩  -- RW, R373
abbrev REL_CNT_ACK_RX_COUNT : Fld := ⟨.rel, 0x12C, 0, 0, 32⟩  -- RW, R373
abbrev REL_CNT_ACK_BAD_COUNT : Fld := ⟨.rel, 0x130, 0, 0, 32⟩  -- RW, R373
abbrev REL_CNT_DUP_COUNT : Fld := ⟨.rel, 0x134, 0, 0, 32⟩  -- RW, R373
abbrev REL_CNT_AHEAD_COUNT : Fld := ⟨.rel, 0x138, 0, 0, 32⟩  -- RW, R373
abbrev REL_CNT_REFUSED_COUNT : Fld := ⟨.rel, 0x13C, 0, 0, 32⟩  -- RW, R373
abbrev REL_CNT_PARKED_COUNT : Fld := ⟨.rel, 0x140, 0, 0, 32⟩  -- RW, R373
abbrev REL_CNT_RESP_HIT_COUNT : Fld := ⟨.rel, 0x144, 0, 0, 32⟩  -- RW, R373
abbrev REL_CNT_RESP_FULL_COUNT : Fld := ⟨.rel, 0x148, 0, 0, 32⟩  -- RW, R373
abbrev REL_CNT_UNREACH_COUNT : Fld := ⟨.rel, 0x14C, 0, 0, 32⟩  -- RW, R373
abbrev REL_CNT_FENCE_FULL_COUNT : Fld := ⟨.rel, 0x150, 0, 0, 32⟩  -- RW, R373
abbrev REL_INJECT_RESP_ECC : Fld := ⟨.rel, 0x154, 0, 2, 1⟩  -- WO, R373
abbrev REL_INJECT_DROP_ACK : Fld := ⟨.rel, 0x154, 0, 1, 1⟩  -- WO, R373
abbrev REL_INJECT_DROP_RX : Fld := ⟨.rel, 0x154, 0, 0, 1⟩  -- WO, R373
abbrev XLT_CFG_LOCAL_TIMEOUT_MS : Fld := ⟨.xlt, 0x100, 0, 24, 8⟩  -- RW, R397
abbrev XLT_CFG_WCACHE_EN : Fld := ⟨.xlt, 0x100, 0, 1, 1⟩  -- RW, R397
abbrev XLT_CFG_TCACHE_EN : Fld := ⟨.xlt, 0x100, 0, 0, 1⟩  -- RW, R397
abbrev XLT_OCCUPANCY_WALKS : Fld := ⟨.xlt, 0x104, 0, 16, 8⟩  -- RO, R397
abbrev XLT_OCCUPANCY_ENTRIES : Fld := ⟨.xlt, 0x104, 0, 0, 9⟩  -- RO, R397
abbrev XLT_INV_CTRL_BUSY : Fld := ⟨.xlt, 0x108, 0, 31, 1⟩  -- RO, R397
abbrev XLT_INV_CTRL_START : Fld := ⟨.xlt, 0x108, 0, 30, 1⟩  -- WO, R397
abbrev XLT_INV_CTRL_SCOPE : Fld := ⟨.xlt, 0x108, 0, 28, 2⟩  -- RW, R397
abbrev XLT_INV_CTRL_ABANDON : Fld := ⟨.xlt, 0x108, 0, 27, 1⟩  -- RW, R397
abbrev XLT_INV_CTRL_RESUME : Fld := ⟨.xlt, 0x108, 0, 26, 1⟩  -- RW, R397
abbrev XLT_INV_CTRL_SPACE : Fld := ⟨.xlt, 0x108, 0, 0, 16⟩  -- RW, R397
abbrev XLT_INV_PAGES_COUNT : Fld := ⟨.xlt, 0x10C, 0, 0, 32⟩  -- RW, R397
abbrev XLT_INV_ADDR_ADDR : Fld := ⟨.xlt, 0x110, 0, 0, 64⟩  -- RW, R397
abbrev XLT_INV_SEQ_COUNT : Fld := ⟨.xlt, 0x118, 0, 0, 32⟩  -- RO, R397
abbrev XLT_PTE_ADDR_ADDR : Fld := ⟨.xlt, 0x120, 0, 0, 64⟩  -- RW, R397
abbrev XLT_PTE_DATA_DATA : Fld := ⟨.xlt, 0x128, 0, 0, 64⟩  -- RW, R397
abbrev XLT_FAULT_INFO_CODE : Fld := ⟨.xlt, 0x130, 0, 24, 8⟩  -- RO, R397
abbrev XLT_FAULT_INFO_LEVEL : Fld := ⟨.xlt, 0x130, 0, 22, 2⟩  -- RO, R397
abbrev XLT_FAULT_INFO_SPACE : Fld := ⟨.xlt, 0x130, 0, 0, 16⟩  -- RO, R397
abbrev XLT_FAULT_VA_ADDR : Fld := ⟨.xlt, 0x138, 0, 0, 64⟩  -- RO, R397
abbrev XLT_CNT_LOOKUP_COUNT : Fld := ⟨.xlt, 0x140, 0, 0, 32⟩  -- RW, R397
abbrev XLT_CNT_HIT_COUNT : Fld := ⟨.xlt, 0x144, 0, 0, 32⟩  -- RW, R397
abbrev XLT_CNT_WALK_COUNT : Fld := ⟨.xlt, 0x148, 0, 0, 32⟩  -- RW, R397
abbrev XLT_CNT_WCACHE_HIT_COUNT : Fld := ⟨.xlt, 0x14C, 0, 0, 32⟩  -- RW, R397
abbrev XLT_CNT_FAULT_COUNT : Fld := ⟨.xlt, 0x150, 0, 0, 32⟩  -- RW, R397
abbrev XLT_CNT_MARK_COUNT : Fld := ⟨.xlt, 0x154, 0, 0, 32⟩  -- RW, R397
abbrev XLT_CNT_WAF_COUNT : Fld := ⟨.xlt, 0x158, 0, 0, 32⟩  -- RW, R397
abbrev XLT_CNT_INVAL_COUNT : Fld := ⟨.xlt, 0x15C, 0, 0, 32⟩  -- RW, R397
abbrev XLT_CNT_RETRY_COUNT : Fld := ⟨.xlt, 0x160, 0, 0, 32⟩  -- RW, R397
abbrev XLT_INJECT_TCACHE_ECC : Fld := ⟨.xlt, 0x164, 0, 1, 1⟩  -- WO, R397
abbrev XLT_INJECT_WALK_ERR : Fld := ⟨.xlt, 0x164, 0, 0, 1⟩  -- WO, R397
abbrev ENG_CFG_FLOOR : Fld := ⟨.eng, 0x100, 0, 16, 16⟩  -- RW, R424
abbrev ENG_CFG_DRAIN_US : Fld := ⟨.eng, 0x100, 0, 8, 8⟩  -- RW, R424
abbrev ENG_HART_RUN_RUN : Fld := ⟨.eng, 0x110, 4, 0, 32⟩  -- RW, R424
abbrev ENG_HART_STOPPED_STOPPED : Fld := ⟨.eng, 0x120, 4, 0, 32⟩  -- RO, R424
abbrev ENG_RESET_PC_PC : Fld := ⟨.eng, 0x130, 0, 0, 64⟩  -- RW, R424
abbrev ENG_RST_CTRL_BUSY : Fld := ⟨.eng, 0x138, 0, 31, 1⟩  -- RO, R424
abbrev ENG_RST_CTRL_KIND : Fld := ⟨.eng, 0x138, 0, 29, 2⟩  -- WO, R424
abbrev ENG_RST_CTRL_HART : Fld := ⟨.eng, 0x138, 0, 0, 7⟩  -- WO, R424
abbrev ENG_QTBL_CTRL_SYNC_BUSY : Fld := ⟨.eng, 0x140, 0, 3, 1⟩  -- RO, R424
abbrev ENG_QTBL_CTRL_SYNC : Fld := ⟨.eng, 0x140, 0, 2, 1⟩  -- WO, R424
abbrev ENG_QTBL_CTRL_NEXT : Fld := ⟨.eng, 0x140, 0, 1, 1⟩  -- RWS, R424
abbrev ENG_QTBL_CTRL_ACTIVE : Fld := ⟨.eng, 0x140, 0, 0, 1⟩  -- RO, R424
abbrev ENG_QTBL_SEQ_A_SEQ : Fld := ⟨.eng, 0x144, 0, 0, 32⟩  -- RW, R424
abbrev ENG_QTBL_SEQ_B_SEQ : Fld := ⟨.eng, 0x148, 0, 0, 32⟩  -- RW, R424
abbrev ENG_STATE_WAITING : Fld := ⟨.eng, 0x150, 0, 16, 8⟩  -- RO, R424
abbrev ENG_STATE_RUNNING : Fld := ⟨.eng, 0x150, 0, 8, 8⟩  -- RO, R424
abbrev ENG_STATE_STOPPED : Fld := ⟨.eng, 0x150, 0, 0, 8⟩  -- RO, R424
abbrev ENG_CNT_INVOKE_COUNT : Fld := ⟨.eng, 0x160, 0, 0, 32⟩  -- RW, R424
abbrev ENG_CNT_PREEMPT_COUNT : Fld := ⟨.eng, 0x164, 0, 0, 32⟩  -- RW, R424
abbrev ENG_CNT_INHERIT_COUNT : Fld := ⟨.eng, 0x168, 0, 0, 32⟩  -- RW, R424
abbrev ENG_CNT_ABANDON_COUNT : Fld := ⟨.eng, 0x16C, 0, 0, 32⟩  -- RW, R424
abbrev ENG_CNT_QDROP_COUNT : Fld := ⟨.eng, 0x170, 0, 0, 32⟩  -- RW, R424
abbrev ENG_INJECT_STATE_ECC : Fld := ⟨.eng, 0x180, 0, 1, 1⟩  -- WO, R424
abbrev ENG_INJECT_DRAIN_STALL : Fld := ⟨.eng, 0x180, 0, 0, 1⟩  -- WO, R424
abbrev HOM_CFG_BROADCAST : Fld := ⟨.hom, 0x100, 0, 0, 1⟩  -- RW, R447
abbrev HOM_TRACKERS_IN_USE : Fld := ⟨.hom, 0x104, 0, 0, 11⟩  -- RO, R447
abbrev HOM_POISON_ADDR_ADDR : Fld := ⟨.hom, 0x108, 0, 0, 64⟩  -- RW, R447
abbrev HOM_POISON_CTRL_BUSY : Fld := ⟨.hom, 0x110, 0, 31, 1⟩  -- RO, R447
abbrev HOM_POISON_CTRL_CLEAR : Fld := ⟨.hom, 0x110, 0, 1, 1⟩  -- WO, R447
abbrev HOM_POISON_CTRL_MARK : Fld := ⟨.hom, 0x110, 0, 0, 1⟩  -- WO, R447
abbrev HOM_CNT_REQ_COUNT : Fld := ⟨.hom, 0x120, 0, 0, 32⟩  -- RW, R447
abbrev HOM_CNT_SNP_COUNT : Fld := ⟨.hom, 0x124, 0, 0, 32⟩  -- RW, R447
abbrev HOM_CNT_STALE_COUNT : Fld := ⟨.hom, 0x128, 0, 0, 32⟩  -- RW, R447
abbrev HOM_CNT_POISON_MARK_COUNT : Fld := ⟨.hom, 0x12C, 0, 0, 32⟩  -- RW, R447
abbrev HOM_CNT_POISON_READ_COUNT : Fld := ⟨.hom, 0x130, 0, 0, 32⟩  -- RW, R447
abbrev HOM_INJECT_SF_ECC : Fld := ⟨.hom, 0x134, 0, 0, 1⟩  -- WO, R447
abbrev HBM_CFG_SCRUB_H : Fld := ⟨.hbm, 0x100, 0, 8, 8⟩  -- RW, R448
abbrev HBM_CFG_SCRUB_EN : Fld := ⟨.hbm, 0x100, 0, 0, 1⟩  -- RW, R448
abbrev HBM_STATUS_TEMP_C : Fld := ⟨.hbm, 0x104, 0, 8, 8⟩  -- RO, R448
abbrev HBM_STATUS_STATE : Fld := ⟨.hbm, 0x104, 0, 0, 4⟩  -- RO, R448
abbrev HBM_ERR_ADDR_ADDR : Fld := ⟨.hbm, 0x108, 0, 0, 64⟩  -- RO, R448
abbrev HBM_CNT_CORR_COUNT : Fld := ⟨.hbm, 0x110, 0, 0, 32⟩  -- RW, R448
abbrev HBM_CNT_UNCORR_COUNT : Fld := ⟨.hbm, 0x114, 0, 0, 32⟩  -- RW, R448
abbrev HBM_CNT_SCRUB_FIX_COUNT : Fld := ⟨.hbm, 0x118, 0, 0, 32⟩  -- RW, R448
abbrev HBM_INJECT_CORR : Fld := ⟨.hbm, 0x11C, 0, 1, 1⟩  -- WO, R448
abbrev HBM_INJECT_UNCORR : Fld := ⟨.hbm, 0x11C, 0, 0, 1⟩  -- WO, R448
abbrev LCK_USED_ENTRIES : Fld := ⟨.lck, 0x100, 0, 0, 15⟩  -- RO, R449
abbrev LCK_ABANDONED_ENTRIES : Fld := ⟨.lck, 0x104, 0, 0, 15⟩  -- RO, R449
abbrev LCK_CLR_ADDR_ADDR : Fld := ⟨.lck, 0x108, 0, 0, 64⟩  -- RW, R449
abbrev LCK_CLR_CTRL_GO : Fld := ⟨.lck, 0x110, 0, 0, 1⟩  -- WO, R449
abbrev LCK_CNT_ACQ_COUNT : Fld := ⟨.lck, 0x120, 0, 0, 32⟩  -- RW, R449
abbrev LCK_CNT_WAIT_COUNT : Fld := ⟨.lck, 0x124, 0, 0, 32⟩  -- RW, R449
abbrev LCK_CNT_FULL_COUNT : Fld := ⟨.lck, 0x128, 0, 0, 32⟩  -- RW, R449
abbrev LCK_INJECT_ENTRY_ECC : Fld := ⟨.lck, 0x12C, 0, 0, 1⟩  -- WO, R449
abbrev PLC_CFG_CONSOLIDATE_EN : Fld := ⟨.plc, 0x100, 0, 1, 1⟩  -- RW, R468
abbrev PLC_CFG_MIG_EN : Fld := ⟨.plc, 0x100, 0, 0, 1⟩  -- RW, R468
abbrev PLC_MIG_CFG_PERIOD_US : Fld := ⟨.plc, 0x104, 0, 24, 8⟩  -- RW, R468
abbrev PLC_MIG_CFG_HIGH : Fld := ⟨.plc, 0x104, 0, 16, 8⟩  -- RW, R468
abbrev PLC_MIG_CFG_LOW : Fld := ⟨.plc, 0x104, 0, 8, 8⟩  -- RW, R468
abbrev PLC_MIG_CFG_SLEEP_BELOW : Fld := ⟨.plc, 0x104, 0, 0, 8⟩  -- RW, R468
abbrev PLC_MIG_RATE_HOLD_US : Fld := ⟨.plc, 0x108, 0, 16, 16⟩  -- RW, R468
abbrev PLC_MIG_RATE_MAX : Fld := ⟨.plc, 0x108, 0, 0, 8⟩  -- RW, R468
abbrev PLC_CONSOLIDATE_US : Fld := ⟨.plc, 0x10C, 0, 0, 16⟩  -- RW, R468
abbrev PLC_STAGE_SRAM_CELLS : Fld := ⟨.plc, 0x110, 0, 16, 16⟩  -- RW, R468
abbrev PLC_STAGE_SRAM_MAX_KIB : Fld := ⟨.plc, 0x110, 0, 0, 16⟩  -- RW, R468
abbrev PLC_UNEXP_SRAM_UNITS : Fld := ⟨.plc, 0x114, 0, 16, 16⟩  -- RW, R468
abbrev PLC_UNEXP_SRAM_MAX_BYTES : Fld := ⟨.plc, 0x114, 0, 0, 16⟩  -- RW, R468
abbrev PLC_ABC_HBM_ABOVE : Fld := ⟨.plc, 0x118, 0, 24, 8⟩  -- RW, R468
abbrev PLC_ABC_QUOTA : Fld := ⟨.plc, 0x118, 0, 0, 16⟩  -- RW, R468
abbrev PLC_SPILL_BUDGET_UNITS : Fld := ⟨.plc, 0x11C, 0, 0, 16⟩  -- RW, R468
abbrev PLC_SPILL_USED_UNITS : Fld := ⟨.plc, 0x120, 0, 0, 16⟩  -- RO, R468
abbrev PLC_HANDLER_TIMEOUT_US : Fld := ⟨.plc, 0x124, 0, 16, 16⟩  -- RW, R468
abbrev PLC_HANDLER_DONE_CANCEL : Fld := ⟨.plc, 0x128, 0, 16, 1⟩  -- WO, R468
abbrev PLC_HANDLER_DONE_TAG : Fld := ⟨.plc, 0x128, 0, 0, 16⟩  -- WO, R468
abbrev PLC_HQUEUE_QUEUE : Fld := ⟨.plc, 0x130, 4, 0, 12⟩  -- RW, R468
abbrev PLC_MIGRATE_GO : Fld := ⟨.plc, 0x1B0, 0, 31, 1⟩  -- WO, R468
abbrev PLC_MIGRATE_CLUSTER : Fld := ⟨.plc, 0x1B0, 0, 18, 5⟩  -- WO, R468
abbrev PLC_MIGRATE_CONTEXT : Fld := ⟨.plc, 0x1B0, 0, 0, 18⟩  -- WO, R468
abbrev PLC_MIG_STATUS_PENDING : Fld := ⟨.plc, 0x1B4, 0, 31, 1⟩  -- RO, R468
abbrev PLC_MIG_STATUS_REFUSED : Fld := ⟨.plc, 0x1B4, 0, 30, 1⟩  -- RO, R468
abbrev PLC_MIG_STATUS_CONTEXT : Fld := ⟨.plc, 0x1B4, 0, 0, 18⟩  -- RO, R468
abbrev PLC_LOAD_AWAKE : Fld := ⟨.plc, 0x1C0, 4, 31, 1⟩  -- RO, R468
abbrev PLC_LOAD_SCORE : Fld := ⟨.plc, 0x1C0, 4, 0, 16⟩  -- RO, R468
abbrev PLC_CNT_MIG_COUNT : Fld := ⟨.plc, 0x240, 0, 0, 32⟩  -- RW, R468
abbrev PLC_CNT_MIG_SW_COUNT : Fld := ⟨.plc, 0x244, 0, 0, 32⟩  -- RW, R468
abbrev PLC_CNT_MIG_REFUSED_COUNT : Fld := ⟨.plc, 0x248, 0, 0, 32⟩  -- RW, R468
abbrev PLC_CNT_STAGE_SRAM_COUNT : Fld := ⟨.plc, 0x24C, 0, 0, 32⟩  -- RW, R468
abbrev PLC_CNT_STAGE_HBM_COUNT : Fld := ⟨.plc, 0x250, 0, 0, 32⟩  -- RW, R468
abbrev PLC_CNT_HTIMEOUT_COUNT : Fld := ⟨.plc, 0x254, 0, 0, 32⟩  -- RW, R468
abbrev PLC_CNT_REDELIVER_COUNT : Fld := ⟨.plc, 0x258, 0, 0, 32⟩  -- RW, R468
abbrev PLC_INJECT_STEER_ECC : Fld := ⟨.plc, 0x25C, 0, 0, 1⟩  -- WO, R468
abbrev SCH_CFG_OUTQ_CELLS : Fld := ⟨.sch, 0x100, 0, 16, 16⟩  -- RW, R493
abbrev SCH_CFG_POLICE_EN : Fld := ⟨.sch, 0x100, 0, 1, 1⟩  -- RW, R493
abbrev SCH_CFG_SHAPE_EN : Fld := ⟨.sch, 0x100, 0, 0, 1⟩  -- RW, R493
abbrev SCH_VTIME_V : Fld := ⟨.sch, 0x108, 0, 0, 48⟩  -- RO, R493
abbrev SCH_OUT_MODE_STRICT : Fld := ⟨.sch, 0x110, 0, 0, 8⟩  -- RW, R493
abbrev SCH_OUT_QUANTUM_BYTES : Fld := ⟨.sch, 0x120, 4, 0, 16⟩  -- RW, R493
abbrev SCH_CNT_ADMIT_COUNT : Fld := ⟨.sch, 0x140, 0, 0, 32⟩  -- RW, R493
abbrev SCH_CNT_SHAPED_COUNT : Fld := ⟨.sch, 0x144, 0, 0, 32⟩  -- RW, R493
abbrev SCH_CNT_WINDOW_COUNT : Fld := ⟨.sch, 0x148, 0, 0, 32⟩  -- RW, R493
abbrev SCH_CNT_OUTQ_COUNT : Fld := ⟨.sch, 0x14C, 0, 0, 32⟩  -- RW, R493
abbrev SCH_CNT_YELLOW_COUNT : Fld := ⟨.sch, 0x150, 0, 0, 32⟩  -- RW, R493
abbrev SCH_INJECT_QSTATE_ECC : Fld := ⟨.sch, 0x154, 0, 0, 1⟩  -- WO, R493
abbrev SCH_QCFG_SHAPED : Fld := ⟨.sch, 0x400, 4, 31, 1⟩  -- RW, R493
abbrev SCH_QCFG_SHAPER : Fld := ⟨.sch, 0x400, 4, 24, 5⟩  -- RW, R493
abbrev SCH_QCFG_WEIGHT : Fld := ⟨.sch, 0x400, 4, 0, 16⟩  -- RW, R493
abbrev SCH_SHAPER_RATE : Fld := ⟨.sch, 0x800, 16, 0, 16⟩  -- RW, R493
abbrev SCH_SHAPER_BURST : Fld := ⟨.sch, 0x804, 16, 0, 24⟩  -- RW, R493
abbrev SCH_SHAPER_TOKENS : Fld := ⟨.sch, 0x808, 16, 0, 32⟩  -- RO, R493
abbrev SCH_POLICER_PIR : Fld := ⟨.sch, 0xA00, 16, 16, 16⟩  -- RW, R493
abbrev SCH_POLICER_CIR : Fld := ⟨.sch, 0xA00, 16, 0, 16⟩  -- RW, R493
abbrev SCH_POLICER_CBS : Fld := ⟨.sch, 0xA04, 16, 0, 24⟩  -- RW, R493
abbrev SCH_POLICER_PBS : Fld := ⟨.sch, 0xA08, 16, 0, 24⟩  -- RW, R493
abbrev SCH_POLICER_RED : Fld := ⟨.sch, 0xA0C, 16, 0, 32⟩  -- RW, R493
abbrev SCH_POLMAP_EN : Fld := ⟨.sch, 0xC00, 4, 31, 1⟩  -- RW, R493
abbrev SCH_POLMAP_POLICER : Fld := ⟨.sch, 0xC00, 4, 8, 5⟩  -- RW, R493
abbrev SCH_POLMAP_TC_MASK : Fld := ⟨.sch, 0xC00, 4, 0, 8⟩  -- RW, R493
abbrev RFA_CFG_BACKOFF_MAX_LOG2 : Fld := ⟨.rfa, 0x100, 0, 0, 4⟩  -- RW, R494
abbrev RFA_WAIT_WARN_US : Fld := ⟨.rfa, 0x104, 0, 0, 16⟩  -- RW, R494
abbrev RFA_PRIO_LEVELS : Fld := ⟨.rfa, 0x110, 4, 0, 32⟩  -- RWS, R494
abbrev RFA_LAST_REQUESTOR : Fld := ⟨.rfa, 0x150, 0, 0, 7⟩  -- RO, R494
abbrev RFA_MAXWAIT_REQUESTOR : Fld := ⟨.rfa, 0x154, 0, 16, 7⟩  -- RO, R494
abbrev RFA_MAXWAIT_US : Fld := ⟨.rfa, 0x154, 0, 0, 16⟩  -- RW, R494
abbrev RFA_CNT_GRANT_COUNT : Fld := ⟨.rfa, 0x160, 0, 0, 32⟩  -- RW, R494
abbrev RFA_CNT_LOSS_COUNT : Fld := ⟨.rfa, 0x164, 0, 0, 32⟩  -- RW, R494
abbrev RFA_CNT_MASKED_COUNT : Fld := ⟨.rfa, 0x168, 0, 0, 32⟩  -- RW, R494
abbrev KST_CFG_LEGACY_ALERT : Fld := ⟨.kst, 0x100, 0, 3, 1⟩  -- RW, R519
abbrev KST_CFG_ALERT_EN : Fld := ⟨.kst, 0x100, 0, 2, 1⟩  -- RW, R519
abbrev KST_CFG_S0_OVERWRITE : Fld := ⟨.kst, 0x100, 0, 1, 1⟩  -- RW, R519
abbrev KST_REACT_US : Fld := ⟨.kst, 0x104, 0, 0, 16⟩  -- RW, R519
abbrev KST_NOTIFY_EN : Fld := ⟨.kst, 0x108, 0, 31, 1⟩  -- RW, R519
abbrev KST_NOTIFY_HART : Fld := ⟨.kst, 0x108, 0, 0, 12⟩  -- RW, R519
abbrev KST_PROG_US : Fld := ⟨.kst, 0x10C, 0, 0, 8⟩  -- RW, R519
abbrev KST_LOG_HEAD_COUNT : Fld := ⟨.kst, 0x110, 0, 0, 32⟩  -- RW, R519
abbrev KST_LOG_TAIL_COUNT : Fld := ⟨.kst, 0x114, 0, 0, 32⟩  -- RO, R519
abbrev KST_LOG_STAT_FATAL_PENDING : Fld := ⟨.kst, 0x118, 0, 31, 1⟩  -- RO, R519
abbrev KST_LOG_STAT_OVERFLOW : Fld := ⟨.kst, 0x118, 0, 30, 1⟩  -- RO, R519
abbrev KST_LOG_STAT_LIVE : Fld := ⟨.kst, 0x118, 0, 0, 11⟩  -- RO, R519
abbrev KST_REACT_STAT_RUNNING : Fld := ⟨.kst, 0x11C, 0, 31, 1⟩  -- RO, R519
abbrev KST_REACT_STAT_LEFT_US : Fld := ⟨.kst, 0x11C, 0, 0, 16⟩  -- RO, R519
abbrev KST_SAFE_ACTIVE : Fld := ⟨.kst, 0x120, 0, 31, 1⟩  -- RO, R519
abbrev KST_SAFE_CAUSE : Fld := ⟨.kst, 0x120, 0, 0, 8⟩  -- RO, R519
abbrev KST_SAFE_CTRL_KEY : Fld := ⟨.kst, 0x124, 0, 0, 32⟩  -- WO, R519
abbrev KST_SAFE_TIME_TIME : Fld := ⟨.kst, 0x128, 0, 0, 64⟩  -- RO, R519
abbrev KST_SAFE_DETAIL_DETAIL : Fld := ⟨.kst, 0x130, 0, 0, 64⟩  -- RO, R519
abbrev KST_TEST_EVENT_GO : Fld := ⟨.kst, 0x138, 0, 31, 1⟩  -- WO, R519
abbrev KST_TEST_EVENT_SOURCE : Fld := ⟨.kst, 0x138, 0, 20, 10⟩  -- RW, R519
abbrev KST_TEST_EVENT_KIND : Fld := ⟨.kst, 0x138, 0, 12, 8⟩  -- RW, R519
abbrev KST_CNT_RECORDS_COUNT : Fld := ⟨.kst, 0x140, 0, 0, 32⟩  -- RW, R519
abbrev KST_CNT_MERGED_COUNT : Fld := ⟨.kst, 0x144, 0, 0, 32⟩  -- RW, R519
abbrev KST_CNT_S0_DROPPED_COUNT : Fld := ⟨.kst, 0x148, 0, 0, 32⟩  -- RW, R519
abbrev KST_CNT_LOST_COUNT : Fld := ⟨.kst, 0x14C, 0, 0, 32⟩  -- RW, R519
abbrev KST_LEGACY_ANY : Fld := ⟨.kst, 0x150, 0, 0, 1⟩  -- RO, R519
abbrev KST_INJECT_LOG_ECC : Fld := ⟨.kst, 0x154, 0, 1, 1⟩  -- WO, R519
abbrev KST_INJECT_LOCKSTEP : Fld := ⟨.kst, 0x154, 0, 0, 1⟩  -- WO, R519
abbrev PWR_CFG_SLEEP_EN : Fld := ⟨.pwr, 0x100, 0, 0, 1⟩  -- RW, R535
abbrev PWR_IDLE_CLUSTER_US : Fld := ⟨.pwr, 0x104, 0, 16, 16⟩  -- RW, R535
abbrev PWR_IDLE_OTHER_US : Fld := ⟨.pwr, 0x104, 0, 0, 16⟩  -- RW, R535
abbrev PWR_AWAKE_CLUSTER_MASK : Fld := ⟨.pwr, 0x108, 0, 0, 32⟩  -- RO, R535
abbrev PWR_AWAKE_PIPE_MASK : Fld := ⟨.pwr, 0x10C, 0, 0, 32⟩  -- RO, R535
abbrev PWR_AWAKE_TILE_MASK : Fld := ⟨.pwr, 0x110, 0, 0, 32⟩  -- RO, R535
abbrev PWR_AWAKE_OTHER_SLICE : Fld := ⟨.pwr, 0x114, 0, 16, 16⟩  -- RO, R535
abbrev PWR_AWAKE_OTHER_ENDPOINT : Fld := ⟨.pwr, 0x114, 0, 15, 1⟩  -- RO, R535
abbrev PWR_AWAKE_OTHER_HBM_SR : Fld := ⟨.pwr, 0x114, 0, 0, 4⟩  -- RO, R535
abbrev PWR_AVS_TARGET_MV : Fld := ⟨.pwr, 0x118, 0, 16, 16⟩  -- RO, R535
abbrev PWR_AVS_TOL_MV : Fld := ⟨.pwr, 0x118, 0, 8, 8⟩  -- RW, R535
abbrev PWR_PIN_IDLE_VALID : Fld := ⟨.pwr, 0x11C, 0, 8, 8⟩  -- RO, R535
abbrev PWR_PIN_IDLE_LEVEL : Fld := ⟨.pwr, 0x11C, 0, 0, 8⟩  -- RO, R535
abbrev PWR_RESET_STAT_LAST : Fld := ⟨.pwr, 0x120, 0, 24, 8⟩  -- RO, R535
abbrev PWR_RESET_STAT_COUNT : Fld := ⟨.pwr, 0x120, 0, 0, 16⟩  -- RO, R535
abbrev PWR_STATE_THERMAL_HOLD : Fld := ⟨.pwr, 0x124, 0, 0, 1⟩  -- RO, R535
abbrev CLK_CFG_FAILOVER : Fld := ⟨.clk, 0x100, 0, 1, 1⟩  -- RW, R535
abbrev CLK_CFG_LANE_SRC : Fld := ⟨.clk, 0x100, 0, 0, 1⟩  -- RWS, R535
abbrev CLK_STATUS_ON_OSC : Fld := ⟨.clk, 0x104, 0, 3, 1⟩  -- RO, R535
abbrev CLK_STATUS_LANE_ON_REF0 : Fld := ⟨.clk, 0x104, 0, 2, 1⟩  -- RO, R535
abbrev CLK_STATUS_REF1_OK : Fld := ⟨.clk, 0x104, 0, 1, 1⟩  -- RO, R535
abbrev CLK_STATUS_REF0_OK : Fld := ⟨.clk, 0x104, 0, 0, 1⟩  -- RO, R535
abbrev CLK_PPM_OFFSET : Fld := ⟨.clk, 0x108, 4, 0, 16⟩  -- RO, R535
abbrev CLK_CNT_LOSS_COUNT : Fld := ⟨.clk, 0x110, 0, 0, 32⟩  -- RW, R535
abbrev SNS_TEMP_CFG_WARN_C : Fld := ⟨.sns, 0x100, 0, 24, 8⟩  -- RW, R535
abbrev SNS_TEMP_CFG_CRIT_C : Fld := ⟨.sns, 0x100, 0, 16, 8⟩  -- RW, R535
abbrev SNS_TEMP_CFG_TRIP_C : Fld := ⟨.sns, 0x100, 0, 8, 8⟩  -- RO, R535
abbrev SNS_TEMP_CFG_HYST_C : Fld := ⟨.sns, 0x100, 0, 0, 8⟩  -- RW, R535
abbrev SNS_TEMP_MAX_SENSOR : Fld := ⟨.sns, 0x104, 0, 8, 5⟩  -- RO, R535
abbrev SNS_TEMP_MAX_C : Fld := ⟨.sns, 0x104, 0, 0, 8⟩  -- RO, R535
abbrev SNS_TEMP_C : Fld := ⟨.sns, 0x110, 4, 0, 32⟩  -- RO, R535
abbrev SNS_SUPPLY_UV_MV : Fld := ⟨.sns, 0x140, 8, 16, 16⟩  -- RW, R535
abbrev SNS_SUPPLY_OV_MV : Fld := ⟨.sns, 0x140, 8, 0, 16⟩  -- RW, R535
abbrev SNS_SUPPLY_CUR_DA : Fld := ⟨.sns, 0x144, 8, 16, 16⟩  -- RO, R535
abbrev SNS_SUPPLY_MV : Fld := ⟨.sns, 0x144, 8, 0, 16⟩  -- RO, R535
abbrev SNS_INJECT_SUPPLY_OOR : Fld := ⟨.sns, 0x180, 0, 0, 1⟩  -- WO, R535
abbrev SEC_IMG_LOADED : Fld := ⟨.sec, 0x100, 4, 31, 1⟩  -- RO, R556
abbrev SEC_IMG_COPY : Fld := ⟨.sec, 0x100, 4, 30, 1⟩  -- RO, R556
abbrev SEC_IMG_REASON_A : Fld := ⟨.sec, 0x100, 4, 24, 6⟩  -- RO, R556
abbrev SEC_IMG_REASON_B : Fld := ⟨.sec, 0x100, 4, 18, 6⟩  -- RO, R556
abbrev SEC_IMG_SVN : Fld := ⟨.sec, 0x100, 4, 0, 7⟩  -- RO, R556
abbrev SEC_IMG_SEQ_SEQ : Fld := ⟨.sec, 0x110, 4, 0, 32⟩  -- RO, R556
abbrev SEC_OWNER_SLOT : Fld := ⟨.sec, 0x120, 0, 8, 2⟩  -- RO, R556
abbrev SEC_OWNER_REVOKED : Fld := ⟨.sec, 0x120, 0, 4, 4⟩  -- RO, R556
abbrev SEC_OWNER_PROGRAMMED : Fld := ⟨.sec, 0x120, 0, 0, 4⟩  -- RO, R556
abbrev SEC_SVN_MIN_MIN : Fld := ⟨.sec, 0x124, 0, 0, 24⟩  -- RO, R556
abbrev SEC_FUSE_CMD_GO : Fld := ⟨.sec, 0x128, 0, 31, 1⟩  -- WO, R556
abbrev SEC_FUSE_CMD_BUSY : Fld := ⟨.sec, 0x128, 0, 30, 1⟩  -- RO, R556
abbrev SEC_FUSE_CMD_RESULT : Fld := ⟨.sec, 0x128, 0, 28, 2⟩  -- RO, R556
abbrev SEC_FUSE_CMD_ARG : Fld := ⟨.sec, 0x128, 0, 8, 4⟩  -- RW, R556
abbrev SEC_FUSE_CMD_OP : Fld := ⟨.sec, 0x128, 0, 0, 4⟩  -- RW, R556
abbrev SEC_FUSE_DATA_HASH : Fld := ⟨.sec, 0x140, 4, 0, 32⟩  -- WO, R556
abbrev SEC_NONCE_NONCE : Fld := ⟨.sec, 0x160, 4, 0, 32⟩  -- RW, R556
abbrev SEC_ATTEST_GO : Fld := ⟨.sec, 0x180, 0, 31, 1⟩  -- WO, R556
abbrev SEC_ATTEST_BUSY : Fld := ⟨.sec, 0x180, 0, 30, 1⟩  -- RO, R556
abbrev SEC_ATTEST_DONE : Fld := ⟨.sec, 0x180, 0, 29, 1⟩  -- RO, R556
abbrev SEC_EXTEND_GO : Fld := ⟨.sec, 0x184, 0, 31, 1⟩  -- WO, R556
abbrev SEC_EXTEND_BUSY : Fld := ⟨.sec, 0x184, 0, 30, 1⟩  -- RO, R556
abbrev SEC_CERT_LEN_BYTES : Fld := ⟨.sec, 0x188, 0, 0, 16⟩  -- RO, R556
abbrev SEC_EXTEND_DATA_DATA : Fld := ⟨.sec, 0x1A0, 4, 0, 32⟩  -- WO, R556
abbrev SEC_MEAS_DIGEST : Fld := ⟨.sec, 0x1C0, 4, 0, 32⟩  -- RO, R556
abbrev SEC_FLASH_ADDR_ADDR : Fld := ⟨.sec, 0x240, 0, 0, 32⟩  -- RW, R556
abbrev SEC_FLASH_CMD_GO : Fld := ⟨.sec, 0x244, 0, 31, 1⟩  -- WO, R556
abbrev SEC_FLASH_CMD_BUSY : Fld := ⟨.sec, 0x244, 0, 30, 1⟩  -- RO, R556
abbrev SEC_FLASH_CMD_RESULT : Fld := ⟨.sec, 0x244, 0, 28, 2⟩  -- RO, R556
abbrev SEC_FLASH_CMD_OP : Fld := ⟨.sec, 0x244, 0, 0, 4⟩  -- RW, R556
abbrev SEC_VERIFY_STAT_VALID : Fld := ⟨.sec, 0x248, 0, 31, 1⟩  -- RO, R556
abbrev SEC_VERIFY_STAT_REASON : Fld := ⟨.sec, 0x248, 0, 24, 7⟩  -- RO, R556
abbrev SEC_VERIFY_SEQ_SEQ : Fld := ⟨.sec, 0x24C, 0, 0, 32⟩  -- RO, R556
abbrev SEC_FLASH_PROT_COPY : Fld := ⟨.sec, 0x250, 0, 0, 4⟩  -- RO, R556
abbrev SEC_FLASH_BUF_DATA : Fld := ⟨.sec, 0x300, 4, 0, 32⟩  -- RW, R556
abbrev DEV_PART_ID_PART : Fld := ⟨.dev, 0x100, 0, 16, 16⟩  -- RO, R557
abbrev DEV_PART_ID_STEPPING : Fld := ⟨.dev, 0x100, 0, 8, 8⟩  -- RO, R557
abbrev DEV_ROUTER_ID_ID : Fld := ⟨.dev, 0x104, 0, 0, 14⟩  -- RWS, R557
abbrev DEV_BOOT_DONE : Fld := ⟨.dev, 0x108, 0, 31, 1⟩  -- WO, R557
abbrev DEV_BOOT_BOOT_SEL : Fld := ⟨.dev, 0x108, 0, 6, 2⟩  -- RO, R557
abbrev DEV_BOOT_MGT_MODE : Fld := ⟨.dev, 0x108, 0, 5, 1⟩  -- RO, R557
abbrev DEV_BOOT_STAGE : Fld := ⟨.dev, 0x108, 0, 0, 4⟩  -- RO, R557
abbrev DEV_SERIAL_SERIAL : Fld := ⟨.dev, 0x110, 4, 0, 32⟩  -- RO, R557
abbrev DEV_RESET_CMD_KEY : Fld := ⟨.dev, 0x1F0, 0, 0, 32⟩  -- WO, R557
abbrev TAL_CTRL_SNAP : Fld := ⟨.tal, 0x100, 0, 31, 1⟩  -- WO, R572
abbrev TAL_CTRL_CLEAR : Fld := ⟨.tal, 0x100, 0, 30, 1⟩  -- WO, R572
abbrev TAL_CTRL_SLOTS : Fld := ⟨.tal, 0x100, 0, 0, 9⟩  -- RO, R572
abbrev TAL_SNAP_TIME_TIME : Fld := ⟨.tal, 0x110, 0, 0, 64⟩  -- RO, R572
abbrev TAL_OVF_SLOT : Fld := ⟨.tal, 0x120, 4, 0, 32⟩  -- W1C, R572
abbrev TAL_DUMP_CFG_PERIOD_US : Fld := ⟨.tal, 0x180, 0, 16, 16⟩  -- RW, R572
abbrev TAL_DUMP_CFG_DEST : Fld := ⟨.tal, 0x180, 0, 14, 2⟩  -- RW, R572
abbrev TAL_DUMP_CFG_PORT : Fld := ⟨.tal, 0x180, 0, 8, 6⟩  -- RW, R572
abbrev TAL_DUMP_CFG_RING_LOG2 : Fld := ⟨.tal, 0x180, 0, 0, 5⟩  -- RW, R572
abbrev TAL_RING_BASE_ADDR : Fld := ⟨.tal, 0x188, 0, 0, 64⟩  -- RW, R572
abbrev TAL_DUMP_SEQ_SEQ : Fld := ⟨.tal, 0x190, 0, 0, 32⟩  -- RO, R572
abbrev TAL_LAST_OFF_OFFSET : Fld := ⟨.tal, 0x194, 0, 0, 32⟩  -- RO, R572
abbrev TAL_CNT_SKIP_COUNT : Fld := ⟨.tal, 0x198, 0, 0, 32⟩  -- RW, R572
abbrev TAL_BANK_EN_BANKS : Fld := ⟨.tal, 0x1A0, 4, 0, 32⟩  -- RW, R572
abbrev TAL_COUNTER_COUNT : Fld := ⟨.tal, 0x800, 8, 0, 64⟩  -- RO, R572
abbrev HDR_PAGE_ID_TYPE : HFld := ⟨0x0, 16, 16⟩  -- RO, R579
abbrev HDR_PAGE_ID_INSTANCE : HFld := ⟨0x0, 0, 16⟩  -- RO, R579
abbrev HDR_PAGE_REV_MAJOR : HFld := ⟨0x4, 8, 8⟩  -- RO, R579
abbrev HDR_PAGE_REV_MINOR : HFld := ⟨0x4, 0, 8⟩  -- RO, R579
abbrev HDR_CTRL_SLEEP_ALLOW : HFld := ⟨0x8, 2, 1⟩  -- RW, R579
abbrev HDR_CTRL_SOFT_RESET : HFld := ⟨0x8, 1, 1⟩  -- RW, R579
abbrev HDR_CTRL_ENABLE : HFld := ⟨0x8, 0, 1⟩  -- RW, R579
abbrev HDR_STATUS_NOTIFY : HFld := ⟨0xC, 2, 1⟩  -- RO, R579
abbrev HDR_STATUS_STATE : HFld := ⟨0xC, 0, 2⟩  -- RO, R579
abbrev HDR_EVT_RAW_KINDS : HFld := ⟨0x10, 0, 32⟩  -- RO, R579
abbrev HDR_EVT_PEND_KINDS : HFld := ⟨0x14, 0, 32⟩  -- W1C, R579
abbrev HDR_EVT_EN_KINDS : HFld := ⟨0x18, 0, 32⟩  -- RW, R579
abbrev HDR_COMMIT_GUARD : HFld := ⟨0x20, 0, 32⟩  -- WO, R579
abbrev HDR_COMMIT_SEQ_COUNT : HFld := ⟨0x24, 0, 32⟩  -- RO, R579
abbrev HDR_CFG_SEQ_SEQ : HFld := ⟨0x28, 0, 32⟩  -- RW, R579
abbrev HDR_PAGE_PARITY_ERROR : HFld := ⟨0x2C, 31, 1⟩  -- RO, R579
abbrev HDR_PAGE_PARITY_OFFSET : HFld := ⟨0x2C, 0, 12⟩  -- RO, R579
abbrev RFA_CNT_UNMAPPED_COUNT : Fld := ⟨.rfa, 0x170, 0, 0, 32⟩  -- RW, R592
abbrev RFA_CNT_PRIV_COUNT : Fld := ⟨.rfa, 0x174, 0, 0, 32⟩  -- RW, R592
abbrev RFA_CNT_SAFE_COUNT : Fld := ⟨.rfa, 0x178, 0, 0, 32⟩  -- RW, R592
abbrev RFA_CNT_GUARD_COUNT : Fld := ⟨.rfa, 0x17C, 0, 0, 32⟩  -- RW, R592
abbrev RFA_LAST_REFUSED_ADDR : Fld := ⟨.rfa, 0x180, 0, 0, 26⟩  -- RO, R592

end Sys2Proof.Machine.F
end

