-- ==== Sys2Proof/Config.lean ====
section
/-!
DEFINITION. Config.lean: what one implementation or one part fixes, and the values the spec leaves open. A constant
without a body is a free value: no proof can see what it is, so a claim holds whatever it is. The log entry of each is
named in its docstring.
-/
namespace Sys2Proof.Config

/-- FREE VALUE (log 4): the `n`-th output of the security block's generator, which seeds the pipelines (R608). -/
opaque secRandom : Nat → BitVec 64

/-- FREE VALUE (log 5): the device serial number (R557; DEV.SERIAL has no fixed reset value). -/
opaque serial : BitVec 128

/-- FREE VALUE (log 5): the unique device secret (R547), readable by no agent. -/
opaque uds : BitVec 256

/-- FREE VALUE (log 5): the SHA-256 of the Grengista root public key, held in ROM (R543). -/
opaque rootKeyHash : BitVec 256

/-- FREE VALUE (log 6): the to-be-signed bytes of the alias certificate, from the alias public key and MEAS[0..2]. R548
gives its contents but not every byte of its DER form. -/
opaque aliasTbs : (pub : List (BitVec 8)) → (meas : List (BitVec 8)) → List (BitVec 8)

/-- FREE VALUE (log 7): the code of a domain type in PWR kind 0x01 (R536), which no table gives. -/
opaque domainTypeCode : Nat → BitVec 8

/-- FREE VALUE (log 8): the `n`-th choice the spec leaves open (a random replacement, a tie with no stated rule). -/
opaque choice : Nat → Nat

/-- FREE VALUE (log 14): the rate adjust that the `n`-th valid exchange gives the follower's servo, or the `n`-th capture a
PPS root's (R178, R180). The spec gives the servo's bounds and not its law. -/
opaque servoRate : Nat → BitVec 32

/-- FREE VALUE (log 15): whether a quotient that is not whole is rounded up, where R176 and R181 name no rounding. -/
opaque roundUp : Int → Bool

/-- FREE VALUE (log 17): the transmit swing in mV that a lane states in LAUNCH (R153). -/
opaque launchMv : Nat → BitVec 16

/-- FREE VALUE (log 17): the TXEQ word, laid out as SRD TXEQ, of an equaliser preset (R153, R156). -/
opaque txPreset : Nat → BitVec 32

/-- FREE VALUE (log 22): LENGTH of the `n`-th completion entry with a failing status for which no rule states the bytes
moved (R310). -/
opaque failLength : Nat → BitVec 32

/-- FREE VALUE (log 27): the DST that the source of a viaduct puts into the packets it builds, by viaduct. The entry gives the
source no destination (R185). -/
opaque viaDest : Nat → BitVec 32

/-- FREE VALUE (log 28): the trap value of an illegal-instruction or breakpoint exception, from its cause and the instruction. -/
opaque trapVal : (cause : Nat) → W32 → W64

/-- FREE VALUE (log 29): the depth field of sxgkhstat, 3 bits wide, when all 8 frames of the stack are in use (R422). -/
opaque fullDepth : BitVec 3

/-- FREE VALUE (log 32): a hart counter whose event the model does not count, because it is a matter of the pipeline's timing or
is counted by edges (R561, R562): by hart × 16 + counter and local time; and a tally slot of such events, by 2^16 + bank × 256 + slot. -/
opaque microCount : (key : Nat) → (time : Nat) → W64

end Sys2Proof.Config
end

