-- ==== Sys2Proof/Machine/RegTable.lean ====
section
/-!
DEFINITION. Machine/RegTable.lean: every register word of every block page, as the field tables of the chapters
give it (the rule of each block's table stands in the docstring of its list), with the masks of its access types
and its reset value. Words no table lists are reserved (R588).
-/
namespace Sys2Proof.Machine

/-- Register words of the ABC page: the field table at R227 (07_abacus_exact_arithmetic.md). -/
def wordsAbc : List RegWord :=
  [
    { off := 0x100, rw := 0xFF, rws := 0x100, reset := 0x10A },  -- CFG
    { off := 0x104, ro := 0x7FFFF },  -- CELLS
    { off := 0x108, ro := 0x1FFF1FFF },  -- WINDOWS
    { off := 0x10C, ro := 0xFFFF },  -- HBM_QUOTA
    { off := 0x110, ro := 0xFFFF },  -- HBM_USED
    { off := 0x120, rw := 0xFFFFFFFF },  -- CNT_ELEM
    { off := 0x124, rw := 0xFFFFFFFF },  -- CNT_PART_TX
    { off := 0x128, rw := 0xFFFFFFFF },  -- CNT_RESULT
    { off := 0x12C, rw := 0xFFFFFFFF },  -- CNT_INEXACT
    { off := 0x130, rw := 0xFFFFFFFF },  -- CNT_RESIDUE
    { off := 0x134, rw := 0xFFFFFFFF },  -- CNT_MALFORMED
    { off := 0x138, rw := 0xFFFFFFFF },  -- CNT_SPILL
    { off := 0x13C, rw := 0xFFFFFFFF },  -- CNT_FILL
    { off := 0x140, rw := 0xFFFFFFFF },  -- CNT_CORR
    { off := 0x150, wo := 0x7 }  -- INJECT
  ]

/-- Register words of the CLK page: the field table at R535 (20_power_clocks_reset.md). -/
def wordsClk : List RegWord :=
  [
    { off := 0x100, rw := 0x2, rws := 0x1, reset := 0x3 },  -- CFG
    { off := 0x104, ro := 0xF, reset := 0x1 },  -- STATUS
    { off := 0x108, stride := 4, count := 2, ro := 0xFFFF },  -- PPM
    { off := 0x110, rw := 0xFFFFFFFF }  -- CNT_LOSS
  ]

/-- Register words of the CTG page (part 1): the field table at R319 (11_contexts_rings_doorbells.md). -/
def wordsCtg0 : List RegWord :=
  [
    { off := 0x100, rw := 0xFFFF00FF, reset := 0xA080010 },  -- CFG
    { off := 0x104, rw := 0xFFFF, reset := 0x3E8 },  -- RESET_TIMEOUT
    { off := 0x108, ro := 0xFFF0FFF },  -- COUNTS
    { off := 0x10C, ro := 0xFF03FFFF },  -- LAST_HALT
    { off := 0x110, rw := 0xFFFFFFFF },  -- CNT_DB
    { off := 0x114, rw := 0xFFFFFFFF },  -- CNT_DB_REFUSED
    { off := 0x118, rw := 0xFFFFFFFF },  -- CNT_FETCH
    { off := 0x11C, rw := 0xFFFFFFFF },  -- CNT_MALFORMED
    { off := 0x120, rw := 0xFFFFFFFF },  -- CNT_CQ_STALL
    { off := 0x124, rw := 0xFFFFFFFF },  -- CNT_IN_REFUSED
    { off := 0x128, rw := 0xFFFFFFFF },  -- CNT_CACHE_MISS
    { off := 0x130, wo := 0x3 },  -- INJECT
    { off := 0x180, rws := 0x3FFF1F00, reset := 0x860600 },  -- MRING_CFG
    { off := 0x184, rw := 0x1 },  -- MRING_CTRL
    { off := 0x188, rws := 0xFFFFFFFF, pair := .low },  -- MRING_BASE
    { off := 0x18C, rws := 0xFFFFFFFF, pair := .high },  -- MRING_BASE
    { off := 0x190, rws := 0xFFFFFFFF, pair := .low },  -- MCQ_BASE
    { off := 0x194, rws := 0xFFFFFFFF, pair := .high },  -- MCQ_BASE
    { off := 0x198, rws := 0xFFFFFFFF, pair := .low },  -- MCQ_TAIL_ADDR
    { off := 0x19C, rws := 0xFFFFFFFF, pair := .high }  -- MCQ_TAIL_ADDR
  ]

/-- Register words of the CTG page (part 2): the field table at R319 (11_contexts_rings_doorbells.md). -/
def wordsCtg1 : List RegWord :=
  [
    { off := 0x1A0, rws := 0xFFFFFFFF, pair := .low },  -- MCQ_HEAD_ADDR
    { off := 0x1A4, rws := 0xFFFFFFFF, pair := .high }  -- MCQ_HEAD_ADDR
  ]

/-- Register words of the CTG page. -/
def wordsCtg : List RegWord := wordsCtg0 ++ wordsCtg1

/-- Register words of the DEV page: the field table at R557 (21_boot_security_config.md). -/
def wordsDev : List RegWord :=
  [
    { off := 0x100, ro := 0xFFFFFF00, reset := 0x51200100 },  -- PART_ID
    { off := 0x104, rws := 0x3FFF },  -- ROUTER_ID
    { off := 0x108, wo := 0x80000000, ro := 0xEF },  -- BOOT
    { off := 0x110, stride := 4, count := 4, ro := 0xFFFFFFFF },  -- SERIAL
    { off := 0x1F0, wo := 0xFFFFFFFF }  -- RESET_CMD
  ]

/-- Register words of the ENG page: the field table at R424 (15_engines.md). -/
def wordsEng : List RegWord :=
  [
    { off := 0x100, rw := 0xFFFFFF00, reset := 0x1900 },  -- CFG
    { off := 0x110, stride := 4, count := 4, rw := 0xFFFFFFFF },  -- HART_RUN
    { off := 0x120, stride := 4, count := 4, ro := 0xFFFFFFFF, reset := 0xFFFFFFFF },  -- HART_STOPPED
    { off := 0x130, rw := 0xFFFFFFFF, pair := .low },  -- RESET_PC
    { off := 0x134, rw := 0xFFFFFFFF, pair := .high },  -- RESET_PC
    { off := 0x138, wo := 0x6000007F, ro := 0x80000000 },  -- RST_CTRL
    { off := 0x140, rws := 0x2, wo := 0x4, ro := 0x9 },  -- QTBL_CTRL
    { off := 0x144, rw := 0xFFFFFFFF },  -- QTBL_SEQ_A
    { off := 0x148, rw := 0xFFFFFFFF },  -- QTBL_SEQ_B
    { off := 0x150, ro := 0xFFFFFF, reset := 0x80 },  -- STATE
    { off := 0x160, rw := 0xFFFFFFFF },  -- CNT_INVOKE
    { off := 0x164, rw := 0xFFFFFFFF },  -- CNT_PREEMPT
    { off := 0x168, rw := 0xFFFFFFFF },  -- CNT_INHERIT
    { off := 0x16C, rw := 0xFFFFFFFF },  -- CNT_ABANDON
    { off := 0x170, rw := 0xFFFFFFFF },  -- CNT_QDROP
    { off := 0x180, wo := 0x3 }  -- INJECT
  ]

/-- Register words of the FWD page: the field table at R64 (02_fabric_packets_forwarding.md). -/
def wordsFwd : List RegWord :=
  [
    { off := 0x100, rw := 0x7, reset := 0x7 },  -- CFG
    { off := 0x104, rws := 0xFFFFF, reset := 0x800 },  -- CE_THRESH
    { off := 0x110, stride := 4, count := 8, rws := 0xFFFF, reset := 0x48 },  -- BUF_RSV
    { off := 0x130, rws := 0xFFFFFFFF, reset := 0x40004000 },  -- SHARED_CFG
    { off := 0x134, ro := 0xFFFFF },  -- OCCUPANCY
    { off := 0x140, rw := 0xFFFFFFFF },  -- CNT_HCHK
    { off := 0x144, rw := 0xFFFFFFFF },  -- CNT_PATH
    { off := 0x148, rw := 0xFFFFFFFF },  -- CNT_LEN
    { off := 0x14C, rw := 0xFFFFFFFF },  -- CNT_CLASS
    { off := 0x150, rw := 0xFFFFFFFF },  -- CNT_E2E
    { off := 0x154, rw := 0xFFFFFFFF },  -- CNT_ABORT
    { off := 0x158, rw := 0xFFFFFFFF },  -- CNT_DETOUR
    { off := 0x15C, rw := 0xFFFFFFFF },  -- CNT_RTERR
    { off := 0x160, wo := 0x7 }  -- INJECT
  ]

/-- Register words of the HBM page: the field table at R448 (16_memory_system_ordering.md). -/
def wordsHbm : List RegWord :=
  [
    { off := 0x100, rw := 0xFF01, reset := 0x1801 },  -- CFG
    { off := 0x104, ro := 0xFF0F },  -- STATUS
    { off := 0x108, ro := 0xFFFFFFFF, pair := .low },  -- ERR_ADDR
    { off := 0x10C, ro := 0xFFFFFFFF, pair := .high },  -- ERR_ADDR
    { off := 0x110, rw := 0xFFFFFFFF },  -- CNT_CORR
    { off := 0x114, rw := 0xFFFFFFFF },  -- CNT_UNCORR
    { off := 0x118, rw := 0xFFFFFFFF },  -- CNT_SCRUB_FIX
    { off := 0x11C, wo := 0x3 }  -- INJECT
  ]

/-- Register words of the HOM page: the field table at R447 (16_memory_system_ordering.md). -/
def wordsHom : List RegWord :=
  [
    { off := 0x100, rw := 0x1 },  -- CFG
    { off := 0x104, ro := 0x7FF },  -- TRACKERS
    { off := 0x108, rw := 0xFFFFFFFF, pair := .low },  -- POISON_ADDR
    { off := 0x10C, rw := 0xFFFFFFFF, pair := .high },  -- POISON_ADDR
    { off := 0x110, wo := 0x3, ro := 0x80000000 },  -- POISON_CTRL
    { off := 0x120, rw := 0xFFFFFFFF },  -- CNT_REQ
    { off := 0x124, rw := 0xFFFFFFFF },  -- CNT_SNP
    { off := 0x128, rw := 0xFFFFFFFF },  -- CNT_STALE
    { off := 0x12C, rw := 0xFFFFFFFF },  -- CNT_POISON_MARK
    { off := 0x130, rw := 0xFFFFFFFF },  -- CNT_POISON_READ
    { off := 0x134, wo := 0x1 }  -- INJECT
  ]

/-- Register words of the HPT page (part 1): the field table at R266 (09_host_ethernet_ports.md). -/
def wordsHpt0 : List RegWord :=
  [
    { off := 0x100, rws := 0xFFFE000, reset := 0x4000 },  -- CFG
    { off := 0x104, ro := 0xFF00001F },  -- PSTATE
    { off := 0x108, rw := 0x3FFF, reset := 0x2400 },  -- MAX_FRAME
    { off := 0x10C, rw := 0xFFFFF800, reset := 0xFF0000 },  -- FC_CFG
    { off := 0x110, rw := 0xFFFFFFFF, reset := 0x1000080 },  -- PFC_THRESH
    { off := 0x114, rw := 0x78FFFFFF, rws := 0x80000000, reset := 0x20000040 },  -- MACSEC_CFG
    { off := 0x118, rws := 0xFFFFFFFF, pair := .low },  -- MACSEC_SCI
    { off := 0x11C, rws := 0xFFFFFFFF, pair := .high },  -- MACSEC_SCI
    { off := 0x120, rw := 0x7, wo := 0x8 },  -- SA_CTRL
    { off := 0x124, stride := 4, count := 8, wo := 0xFFFFFFFF },  -- SAK
    { off := 0x144, stride := 4, count := 3, wo := 0xFFFFFFFF },  -- SALT
    { off := 0x150, wo := 0xFFFFFFFF },  -- SSCI
    { off := 0x158, ro := 0xFFFFFFFF, pair := .low },  -- TX_PN
    { off := 0x15C, ro := 0xFFFFFFFF, pair := .high },  -- TX_PN
    { off := 0x160, rw := 0xC0000FFF },  -- PTP_CFG
    { off := 0x164, ro := 0x8000FFFF },  -- TS_STAT
    { off := 0x168, ro := 0xFFFFFFFF, pair := .low },  -- TS_TIME
    { off := 0x16C, ro := 0xFFFFFFFF, pair := .high },  -- TS_TIME
    { off := 0x170, rw := 0xFFFFFFFF },  -- CNT_RX
    { off := 0x174, rw := 0xFFFFFFFF }  -- CNT_TX
  ]

/-- Register words of the HPT page (part 2): the field table at R266 (09_host_ethernet_ports.md). -/
def wordsHpt1 : List RegWord :=
  [
    { off := 0x178, rw := 0xFFFFFFFF },  -- CNT_BAD
    { off := 0x17C, rw := 0xFFFFFFFF },  -- CNT_OTHER
    { off := 0x180, rw := 0xFFFFFFFF },  -- CNT_PFC_RX
    { off := 0x184, rw := 0xFFFFFFFF },  -- CNT_PFC_TX
    { off := 0x188, rw := 0xFFFFFFFF },  -- CNT_FULL
    { off := 0x18C, rw := 0xFFFFFFFF },  -- CNT_MACSEC
    { off := 0x190, rw := 0xFFFFFFFF },  -- CNT_FEC_CORR
    { off := 0x194, rw := 0xFFFFFFFF },  -- CNT_FEC_UNCORR
    { off := 0x198, rw := 0xFFFFFFFF },  -- CNT_TS_LOST
    { off := 0x19C, wo := 0x3 }  -- INJECT
  ]

/-- Register words of the HPT page. -/
def wordsHpt : List RegWord := wordsHpt0 ++ wordsHpt1

/-- Register words of the KST page (part 1): the field table at R519 (19_keystone_fault_safety.md). -/
def wordsKst0 : List RegWord :=
  [
    { off := 0x100, rw := 0xE, reset := 0x6 },  -- CFG
    { off := 0x104, rw := 0xFFFF, reset := 0x64 },  -- REACT
    { off := 0x108, rw := 0x80000FFF },  -- NOTIFY
    { off := 0x10C, rw := 0xFF, reset := 0x4 },  -- PROG
    { off := 0x110, rw := 0xFFFFFFFF },  -- LOG_HEAD
    { off := 0x114, ro := 0xFFFFFFFF },  -- LOG_TAIL
    { off := 0x118, ro := 0xC00007FF },  -- LOG_STAT
    { off := 0x11C, ro := 0x8000FFFF },  -- REACT_STAT
    { off := 0x120, ro := 0x800000FF },  -- SAFE
    { off := 0x124, wo := 0xFFFFFFFF },  -- SAFE_CTRL
    { off := 0x128, ro := 0xFFFFFFFF, pair := .low },  -- SAFE_TIME
    { off := 0x12C, ro := 0xFFFFFFFF, pair := .high },  -- SAFE_TIME
    { off := 0x130, ro := 0xFFFFFFFF, pair := .low },  -- SAFE_DETAIL
    { off := 0x134, ro := 0xFFFFFFFF, pair := .high },  -- SAFE_DETAIL
    { off := 0x138, rw := 0x3FFFF000, wo := 0x80000000 },  -- TEST_EVENT
    { off := 0x140, rw := 0xFFFFFFFF },  -- CNT_RECORDS
    { off := 0x144, rw := 0xFFFFFFFF },  -- CNT_MERGED
    { off := 0x148, rw := 0xFFFFFFFF },  -- CNT_S0_DROPPED
    { off := 0x14C, rw := 0xFFFFFFFF },  -- CNT_LOST
    { off := 0x150, ro := 0x1 }  -- LEGACY
  ]

/-- Register words of the KST page (part 2): the field table at R519 (19_keystone_fault_safety.md). -/
def wordsKst1 : List RegWord :=
  [
    { off := 0x154, wo := 0x3 }  -- INJECT
  ]

/-- Register words of the KST page. -/
def wordsKst : List RegWord := wordsKst0 ++ wordsKst1

/-- Register words of the LCK page: the field table at R449 (16_memory_system_ordering.md). -/
def wordsLck : List RegWord :=
  [
    { off := 0x100, ro := 0x7FFF },  -- USED
    { off := 0x104, ro := 0x7FFF },  -- ABANDONED
    { off := 0x108, rw := 0xFFFFFFFF, pair := .low },  -- CLR_ADDR
    { off := 0x10C, rw := 0xFFFFFFFF, pair := .high },  -- CLR_ADDR
    { off := 0x110, wo := 0x1 },  -- CLR_CTRL
    { off := 0x120, rw := 0xFFFFFFFF },  -- CNT_ACQ
    { off := 0x124, rw := 0xFFFFFFFF },  -- CNT_WAIT
    { off := 0x128, rw := 0xFFFFFFFF },  -- CNT_FULL
    { off := 0x12C, wo := 0x1 }  -- INJECT
  ]

/-- Register words of the LNK page: the field table at R144 (04_fabric_link_layer.md). -/
def wordsLnk : List RegWord :=
  [
    { off := 0x100, rws := 0xFFFFC00, reset := 0x10C00 },  -- CFG
    { off := 0x104, ro := 0xFF0000EF },  -- LSTATE
    { off := 0x108, ro := 0x3FFF00FF },  -- PARTNER
    { off := 0x10C, ro := 0xFFFFF },  -- RTT_NS
    { off := 0x110, rw := 0xFFFFFFFF, reset := 0xA140814 },  -- TIMERS
    { off := 0x114, rw := 0xFFFFFFFF, reset := 0xA0A0A64 },  -- TIMERS2
    { off := 0x118, rws := 0xFFFF00FF, reset := 0x800020 },  -- CREDIT_CFG
    { off := 0x11C, rws := 0xFF, reset := 0xFF, ones := 0x80 },  -- TC_EN
    { off := 0x120, ro := 0xFFFFFFFF },  -- REPLAY
    { off := 0x124, ro := 0xFFFF },  -- SPILL
    { off := 0x130, rw := 0xFFFFFFFF },  -- CNT_CORR
    { off := 0x134, rw := 0xFFFFFFFF },  -- CNT_BAD
    { off := 0x138, rw := 0xFFFFFFFF },  -- CNT_REPLAY
    { off := 0x13C, rw := 0xFFFFFFFF },  -- CNT_RESENT
    { off := 0x140, rw := 0xFFFFFFFF },  -- CNT_SPILL
    { off := 0x144, rw := 0xFFFFFFFF },  -- CNT_ABORT
    { off := 0x148, rw := 0xFFFFFFFF },  -- CNT_BYPDROP
    { off := 0x14C, rw := 0xFFFFFFFF },  -- CNT_DOWN
    { off := 0x150, wo := 0x7 }  -- INJECT
  ]

/-- Register words of the MAT page: the field table at R344 (12_message_matching.md). -/
def wordsMat : List RegWord :=
  [
    { off := 0x100, rw := 0x1FFFF, reset := 0x2000 },  -- EAGER
    { off := 0x104, rw := 0xFF, reset := 0x10 },  -- RDV
    { off := 0x108, rw := 0xFFFFFFFF, reset := 0x10001000 },  -- UNEXP_CTX
    { off := 0x10C, rw := 0x8FFF000F },  -- HOOK_CFG
    { off := 0x110, rw := 0x3FFFF, reset := 0x1C000 },  -- HOOK_THRESH
    { off := 0x114, ro := 0x1FFFF },  -- POSTED
    { off := 0x118, ro := 0x3FFFF },  -- UNEXP
    { off := 0x11C, ro := 0x1FFFF },  -- MSG_ACTIVE
    { off := 0x130, rw := 0xFFFFFFFF },  -- CNT_MATCH
    { off := 0x134, rw := 0xFFFFFFFF },  -- CNT_UNEXP
    { off := 0x138, rw := 0xFFFFFFFF },  -- CNT_HELD
    { off := 0x13C, rw := 0xFFFFFFFF },  -- CNT_TRUNC
    { off := 0x140, rw := 0xFFFFFFFF },  -- CNT_FULL
    { off := 0x144, rw := 0xFFFFFFFF },  -- CNT_WILD_SCAN
    { off := 0x148, rw := 0xFFFFFFFF },  -- CNT_RDV
    { off := 0x14C, rw := 0xFFFFFFFF },  -- CNT_CANCEL
    { off := 0x150, rw := 0xFFFFFFFF },  -- CNT_PROTO
    { off := 0x154, wo := 0x1 }  -- INJECT
  ]

/-- Register words of the PLC page (part 1): the field table at R468 (17_placement.md). -/
def wordsPlc0 : List RegWord :=
  [
    { off := 0x100, rw := 0x3, reset := 0x3 },  -- CFG
    { off := 0x104, rw := 0xFFFFFFFF, reset := 0xA400802 },  -- MIG_CFG
    { off := 0x108, rw := 0xFFFF00FF, reset := 0x3E80040 },  -- MIG_RATE
    { off := 0x10C, rw := 0xFFFF, reset := 0x64 },  -- CONSOLIDATE
    { off := 0x110, rw := 0xFFFFFFFF, reset := 0x1000040 },  -- STAGE
    { off := 0x114, rw := 0xFFFFFFFF, reset := 0x8001000 },  -- UNEXP
    { off := 0x118, rw := 0xFF00FFFF, reset := 0x5A000800 },  -- ABC
    { off := 0x11C, rw := 0xFFFF, reset := 0x3E80 },  -- SPILL_BUDGET
    { off := 0x120, ro := 0xFFFF },  -- SPILL_USED
    { off := 0x124, rw := 0xFFFF0000, reset := 0x640000 },  -- HANDLER
    { off := 0x128, wo := 0x1FFFF },  -- HANDLER_DONE
    { off := 0x130, stride := 4, count := 32, rw := 0xFFF },  -- HQUEUE
    { off := 0x1B0, wo := 0x807FFFFF },  -- MIGRATE
    { off := 0x1B4, ro := 0xC003FFFF },  -- MIG_STATUS
    { off := 0x1C0, stride := 4, count := 32, ro := 0x8000FFFF },  -- LOAD
    { off := 0x240, rw := 0xFFFFFFFF },  -- CNT_MIG
    { off := 0x244, rw := 0xFFFFFFFF },  -- CNT_MIG_SW
    { off := 0x248, rw := 0xFFFFFFFF },  -- CNT_MIG_REFUSED
    { off := 0x24C, rw := 0xFFFFFFFF },  -- CNT_STAGE_SRAM
    { off := 0x250, rw := 0xFFFFFFFF }  -- CNT_STAGE_HBM
  ]

/-- Register words of the PLC page (part 2): the field table at R468 (17_placement.md). -/
def wordsPlc1 : List RegWord :=
  [
    { off := 0x254, rw := 0xFFFFFFFF },  -- CNT_HTIMEOUT
    { off := 0x258, rw := 0xFFFFFFFF },  -- CNT_REDELIVER
    { off := 0x25C, wo := 0x1 }  -- INJECT
  ]

/-- Register words of the PLC page. -/
def wordsPlc : List RegWord := wordsPlc0 ++ wordsPlc1

/-- Register words of the PWR page: the field table at R535 (20_power_clocks_reset.md). -/
def wordsPwr : List RegWord :=
  [
    { off := 0x100, rw := 0x1, reset := 0x1 },  -- CFG
    { off := 0x104, rw := 0xFFFFFFFF, reset := 0xA0002 },  -- IDLE
    { off := 0x108, ro := 0xFFFFFFFF },  -- AWAKE_CLUSTER
    { off := 0x10C, ro := 0xFFFFFFFF },  -- AWAKE_PIPE
    { off := 0x110, ro := 0xFFFFFFFF },  -- AWAKE_TILE
    { off := 0x114, ro := 0xFFFF800F },  -- AWAKE_OTHER
    { off := 0x118, rw := 0xFF00, ro := 0xFFFF0000, reset := 0x2EE1E00 },  -- AVS
    { off := 0x11C, ro := 0xFFFF },  -- PIN_IDLE
    { off := 0x120, ro := 0xFF00FFFF },  -- RESET_STAT
    { off := 0x124, ro := 0x1 }  -- STATE
  ]

/-- Register words of the REL page (part 1): the field table at R373 (13_remote_memory_access.md). -/
def wordsRel0 : List RegWord :=
  [
    { off := 0x100, rw := 0xFFFFFF00, reset := 0x8400800 },  -- RTX
    { off := 0x104, rw := 0xFF00FFFF, reset := 0x10000064 },  -- ACK_CFG
    { off := 0x108, rw := 0xFFFFFFFF, reset := 0x1F401F4 },  -- HOLD
    { off := 0x10C, rw := 0xFFFFFFFF, reset := 0x4E2003E8 },  -- IDLE
    { off := 0x110, rw := 0xFFFFFFFF, reset := 0x6400C8 },  -- PARK
    { off := 0x114, ro := 0x1FFF },  -- CHANNELS
    { off := 0x118, ro := 0x1FFF7FFF },  -- OCCUPANCY
    { off := 0x11C, ro := 0x800FFFFF },  -- REVOKE
    { off := 0x120, rw := 0xFFFFFFFF },  -- CNT_SENT
    { off := 0x124, rw := 0xFFFFFFFF },  -- CNT_RETX
    { off := 0x128, rw := 0xFFFFFFFF },  -- CNT_ACK_TX
    { off := 0x12C, rw := 0xFFFFFFFF },  -- CNT_ACK_RX
    { off := 0x130, rw := 0xFFFFFFFF },  -- CNT_ACK_BAD
    { off := 0x134, rw := 0xFFFFFFFF },  -- CNT_DUP
    { off := 0x138, rw := 0xFFFFFFFF },  -- CNT_AHEAD
    { off := 0x13C, rw := 0xFFFFFFFF },  -- CNT_REFUSED
    { off := 0x140, rw := 0xFFFFFFFF },  -- CNT_PARKED
    { off := 0x144, rw := 0xFFFFFFFF },  -- CNT_RESP_HIT
    { off := 0x148, rw := 0xFFFFFFFF },  -- CNT_RESP_FULL
    { off := 0x14C, rw := 0xFFFFFFFF }  -- CNT_UNREACH
  ]

/-- Register words of the REL page (part 2): the field table at R373 (13_remote_memory_access.md). -/
def wordsRel1 : List RegWord :=
  [
    { off := 0x150, rw := 0xFFFFFFFF },  -- CNT_FENCE_FULL
    { off := 0x154, wo := 0x7 }  -- INJECT
  ]

/-- Register words of the REL page. -/
def wordsRel : List RegWord := wordsRel0 ++ wordsRel1

/-- Register words of the RFA page: the field table at R494 (18_scheduling_arbitration.md), R592 (23_register_map.md). -/
def wordsRfa : List RegWord :=
  [
    { off := 0x100, rw := 0xF, reset := 0x6 },  -- CFG
    { off := 0x104, rw := 0xFFFF, reset := 0x64 },  -- WAIT_WARN
    { off := 0x110, stride := 4, count := 13, rws := 0x77777777, reset := 0x33333333 },  -- PRIO
    { off := 0x150, ro := 0x7F },  -- LAST
    { off := 0x154, rw := 0xFFFF, ro := 0x7F0000 },  -- MAXWAIT
    { off := 0x160, rw := 0xFFFFFFFF },  -- CNT_GRANT
    { off := 0x164, rw := 0xFFFFFFFF },  -- CNT_LOSS
    { off := 0x168, rw := 0xFFFFFFFF },  -- CNT_MASKED
    { off := 0x170, rw := 0xFFFFFFFF },  -- CNT_UNMAPPED
    { off := 0x174, rw := 0xFFFFFFFF },  -- CNT_PRIV
    { off := 0x178, rw := 0xFFFFFFFF },  -- CNT_SAFE
    { off := 0x17C, rw := 0xFFFFFFFF },  -- CNT_GUARD
    { off := 0x180, ro := 0x3FFFFFF }  -- LAST_REFUSED
  ]

/-- Register words of the ROU page: the field table at R101 (03_routing_paths_multicast.md). -/
def wordsRou : List RegWord :=
  [
    { off := 0x100, rw := 0x7, rws := 0x8, reset := 0x7 },  -- CFG
    { off := 0x104, rw := 0xFFFF, reset := 0x40 },  -- VAL_BIAS
    { off := 0x108, rws := 0x2, wo := 0x4, ro := 0x9 },  -- TBL_CTRL
    { off := 0x10C, rw := 0xFFFFFFFF },  -- TBL_SEQ_A
    { off := 0x110, rw := 0xFFFFFFFF },  -- TBL_SEQ_B
    { off := 0x114, rws := 0xFFFFFFFF, reset := 0x1 },  -- RNG_SEED
    { off := 0x118, rw := 0xFFFF0000, rws := 0xFFFF, reset := 0x2010000A },  -- LR_CFG
    { off := 0x11C, rw := 0xFFFFFFFF, reset := 0xFA003E8 },  -- AGE_CFG
    { off := 0x120, rw := 0xFFFF, reset := 0x2710 },  -- FAIL_HOLD
    { off := 0x124, rw := 0xFFFF, reset := 0x8000, ones := 0x8000 },  -- TC_CFG
    { off := 0x130, stride := 4, count := 8, rws := 0xFFFFFFFF },  -- BOUNDARY
    { off := 0x150, rw := 0xFFFFFFFF },  -- CNT_MIN
    { off := 0x154, rw := 0xFFFFFFFF },  -- CNT_VAL
    { off := 0x158, rw := 0xFFFFFFFF },  -- CNT_NOROUTE
    { off := 0x15C, rw := 0xFFFFFFFF },  -- CNT_LR_RX
    { off := 0x160, rw := 0xFFFFFFFF },  -- CNT_LR_STALE
    { off := 0x164, rw := 0xFFFFFFFF },  -- CNT_FAILMARK
    { off := 0x168, wo := 0x1 },  -- INJECT
    { off := 0x16C, rw := 0xFFFFFFFF }  -- CNT_LR_BAD
  ]

/-- Register words of the SCH page: the field table at R493 (18_scheduling_arbitration.md). -/
def wordsSch : List RegWord :=
  [
    { off := 0x100, rw := 0xFFFF0003, reset := 0x400003 },  -- CFG
    { off := 0x108, ro := 0xFFFFFFFF, pair := .low },  -- VTIME
    { off := 0x10C, ro := 0xFFFF, pair := .high },  -- VTIME
    { off := 0x110, rw := 0xFF, reset := 0x80, ones := 0x80 },  -- OUT_MODE
    { off := 0x120, stride := 4, count := 7, rw := 0xFFFF, reset := 0x1200 },  -- OUT_QUANTUM
    { off := 0x140, rw := 0xFFFFFFFF },  -- CNT_ADMIT
    { off := 0x144, rw := 0xFFFFFFFF },  -- CNT_SHAPED
    { off := 0x148, rw := 0xFFFFFFFF },  -- CNT_WINDOW
    { off := 0x14C, rw := 0xFFFFFFFF },  -- CNT_OUTQ
    { off := 0x150, rw := 0xFFFFFFFF },  -- CNT_YELLOW
    { off := 0x154, wo := 0x1 },  -- INJECT
    { off := 0x400, stride := 4, count := 224, rw := 0x9F00FFFF, reset := 0x400 },  -- QCFG
    { off := 0x800, stride := 16, count := 32, rw := 0xFFFF },  -- SHAPER
    { off := 0x804, stride := 16, count := 32, rw := 0xFFFFFF, reset := 0x2000 },  -- SHAPER
    { off := 0x808, stride := 16, count := 32, ro := 0xFFFFFFFF, reset := 0x2000 },  -- SHAPER
    { off := 0xA00, stride := 16, count := 32, rw := 0xFFFFFFFF, reset := 0xFFFFFFFF },  -- POLICER
    { off := 0xA04, stride := 16, count := 32, rw := 0xFFFFFF, reset := 0x10000 },  -- POLICER
    { off := 0xA08, stride := 16, count := 32, rw := 0xFFFFFF, reset := 0x10000 },  -- POLICER
    { off := 0xA0C, stride := 16, count := 32, rw := 0xFFFFFFFF },  -- POLICER
    { off := 0xC00, stride := 4, count := 256, rw := 0x80001FFF, reset := 0x7F }  -- POLMAP
  ]

/-- Register words of the SEC page: the field table at R556 (21_boot_security_config.md). -/
def wordsSec : List RegWord :=
  [
    { off := 0x100, stride := 4, count := 4, ro := 0xFFFC007F },  -- IMG
    { off := 0x110, stride := 4, count := 4, ro := 0xFFFFFFFF },  -- IMG_SEQ
    { off := 0x120, ro := 0x3FF },  -- OWNER
    { off := 0x124, ro := 0xFFFFFF },  -- SVN_MIN
    { off := 0x128, rw := 0xF0F, wo := 0x80000000, ro := 0x70000000 },  -- FUSE_CMD
    { off := 0x140, stride := 4, count := 8, wo := 0xFFFFFFFF },  -- FUSE_DATA
    { off := 0x160, stride := 4, count := 8, rw := 0xFFFFFFFF },  -- NONCE
    { off := 0x180, wo := 0x80000000, ro := 0x60000000 },  -- ATTEST
    { off := 0x184, wo := 0x80000000, ro := 0x40000000 },  -- EXTEND
    { off := 0x188, ro := 0xFFFF },  -- CERT_LEN
    { off := 0x1A0, stride := 4, count := 8, wo := 0xFFFFFFFF },  -- EXTEND_DATA
    { off := 0x1C0, stride := 4, count := 32, ro := 0xFFFFFFFF },  -- MEAS
    { off := 0x240, rw := 0xFFFFFFFF },  -- FLASH_ADDR
    { off := 0x244, rw := 0xF, wo := 0x80000000, ro := 0x70000000 },  -- FLASH_CMD
    { off := 0x248, ro := 0xFF000000 },  -- VERIFY_STAT
    { off := 0x24C, ro := 0xFFFFFFFF },  -- VERIFY_SEQ
    { off := 0x250, ro := 0xF },  -- FLASH_PROT
    { off := 0x300, stride := 4, count := 64, rw := 0xFFFFFFFF }  -- FLASH_BUF
  ]

/-- Register words of the SNS page: the field table at R535 (20_power_clocks_reset.md). -/
def wordsSns : List RegWord :=
  [
    { off := 0x100, rw := 0xFFFF00FF, ro := 0xFF00, reset := 0x5F697805 },  -- TEMP_CFG
    { off := 0x104, ro := 0x1FFF },  -- TEMP_MAX
    { off := 0x110, stride := 4, count := 6, ro := 0xFFFFFFFF },  -- TEMP
    { off := 0x140, stride := 8, count := 8, rw := 0xFFFFFFFF },  -- SUPPLY
    { off := 0x144, stride := 8, count := 8, ro := 0xFFFFFFFF },  -- SUPPLY
    { off := 0x180, wo := 0x1 }  -- INJECT
  ]

/-- Register words of the SPN page (part 1): the field table at R293 (10_span_protocol.md). -/
def wordsSpn0 : List RegWord :=
  [
    { off := 0x100, rws := 0xFFFFC000, reset := 0x88B54000 },  -- CFG
    { off := 0x104, rws := 0xFFFF, reset := 0x4B35 },  -- UDP
    { off := 0x108, rws := 0xFFFF0000, reset := 0x40000000 },  -- IP_CFG
    { off := 0x110, rws := 0xFFFFFFFF, pair := .low },  -- LOCAL_MAC
    { off := 0x114, rws := 0xFFFF, pair := .high },  -- LOCAL_MAC
    { off := 0x118, rws := 0xFFFFFFFF, pair := .low },  -- PEER_MAC
    { off := 0x11C, rws := 0xFFFF, pair := .high },  -- PEER_MAC
    { off := 0x120, stride := 4, count := 4, rws := 0xFFFFFFFF },  -- LOCAL_IP6
    { off := 0x130, stride := 4, count := 4, rws := 0xFFFFFFFF },  -- PEER_IP6
    { off := 0x140, rw := 0x3FFF, reset := 0x2000 },  -- WINDOW
    { off := 0x144, rw := 0xFF00FFFF, reset := 0x100001F4 },  -- ACK_CFG
    { off := 0x148, rw := 0xFFFFFFFF, reset := 0x50100A },  -- TIMERS
    { off := 0x14C, rw := 0xFFFFFFFF, reset := 0x640064 },  -- TIMERS2
    { off := 0x150, rw := 0x7FF, reset := 0x100 },  -- RD_CFG
    { off := 0x154, rws := 0x7, reset := 0x4 },  -- PRIV
    { off := 0x158, ro := 0xC000FFFF },  -- SESSION
    { off := 0x15C, wo := 0x1 },  -- SESSION_CTRL
    { off := 0x160, ro := 0xFFFFFFFF },  -- TX_STATE
    { off := 0x164, ro := 0xFFFFFFFF },  -- RX_STATE
    { off := 0x168, ro := 0xFFFFF }  -- RX_BUF
  ]

/-- Register words of the SPN page (part 2): the field table at R293 (10_span_protocol.md). -/
def wordsSpn1 : List RegWord :=
  [
    { off := 0x170, rw := 0xFFFFFFFF },  -- CNT_TX
    { off := 0x174, rw := 0xFFFFFFFF },  -- CNT_RX
    { off := 0x178, rw := 0xFFFFFFFF },  -- CNT_RETX
    { off := 0x17C, rw := 0xFFFFFFFF },  -- CNT_NAK_TX
    { off := 0x180, rw := 0xFFFFFFFF },  -- CNT_NAK_RX
    { off := 0x184, rw := 0xFFFFFFFF },  -- CNT_DUP
    { off := 0x188, rw := 0xFFFFFFFF },  -- CNT_NOBUF
    { off := 0x18C, rw := 0xFFFFFFFF },  -- CNT_REFUSED
    { off := 0x190, rw := 0xFFFFFFFF },  -- CNT_MALFORMED
    { off := 0x194, rw := 0xFFFFFFFF },  -- CNT_BADENCAP
    { off := 0x198, rw := 0xFFFFFFFF },  -- CNT_RD_TIMEOUT
    { off := 0x19C, rw := 0xFFFFFFFF },  -- CNT_LOST
    { off := 0x1A0, wo := 0x7 },  -- INJECT
    { off := 0x1A4, rw := 0xFFFFFFFF }  -- CNT_STALE
  ]

/-- Register words of the SPN page. -/
def wordsSpn : List RegWord := wordsSpn0 ++ wordsSpn1

/-- Register words of the SRD page: the field table at R170 (05_serdes_lanes_measurement.md). -/
def wordsSrd : List RegWord :=
  [
    { off := 0x100, rw := 0x180, rws := 0xFE40, reset := 0x800 },  -- CFG
    { off := 0x104, ro := 0xFFFFF800 },  -- STATUS
    { off := 0x108, rw := 0x3FFFFFFF, reset := 0xE30F00 },  -- TXEQ
    { off := 0x10C, ro := 0xFFFF },  -- LOSS
    { off := 0x110, ro := 0xFFFFF },  -- CABLE
    { off := 0x114, ro := 0xF },  -- ERR
    { off := 0x118, ro := 0xFFFFFFFF, pair := .low },  -- PARTNER_CAP
    { off := 0x11C, ro := 0xFFFFFFFF, pair := .high },  -- PARTNER_CAP
    { off := 0x120, rw := 0xCFF00000, reset := 0x5000000 },  -- PRBS_CFG
    { off := 0x124, rw := 0xFFFF, ro := 0x80000000 },  -- PRBS_STAT
    { off := 0x128, rw := 0xFFFFFFFF, pair := .low },  -- PRBS_ERR
    { off := 0x12C, rw := 0xFFFFFFFF, pair := .high },  -- PRBS_ERR
    { off := 0x130, rw := 0xFFFFFFFF, pair := .low },  -- PRBS_BITS
    { off := 0x134, rw := 0xFFFFFFFF, pair := .high },  -- PRBS_BITS
    { off := 0x138, rw := 0xFFFFFFFF, pair := .low },  -- PRBS_USER
    { off := 0x13C, rw := 0xFFFFFFFF, pair := .high },  -- PRBS_USER
    { off := 0x140, rw := 0xF0, wo := 0x3 },  -- INJECT
    { off := 0x144, ro := 0xC00000FF }  -- OWNER
  ]

/-- Register words of the TAL page: the field table at R572 (22_performance_counters.md). -/
def wordsTal : List RegWord :=
  [
    { off := 0x100, wo := 0xC0000000, ro := 0x1FF },  -- CTRL
    { off := 0x110, ro := 0xFFFFFFFF, pair := .low },  -- SNAP_TIME
    { off := 0x114, ro := 0xFFFFFFFF, pair := .high },  -- SNAP_TIME
    { off := 0x120, stride := 4, count := 8, w1c := 0xFFFFFFFF },  -- OVF
    { off := 0x180, rw := 0xFFFFFF1F, reset := 0x14 },  -- DUMP_CFG
    { off := 0x188, rw := 0xFFFFFFFF, pair := .low },  -- RING_BASE
    { off := 0x18C, rw := 0xFFFFFFFF, pair := .high },  -- RING_BASE
    { off := 0x190, ro := 0xFFFFFFFF },  -- DUMP_SEQ
    { off := 0x194, ro := 0xFFFFFFFF },  -- LAST_OFF
    { off := 0x198, rw := 0xFFFFFFFF },  -- CNT_SKIP
    { off := 0x1A0, stride := 4, count := 8, rw := 0xFFFFFFFF },  -- BANK_EN
    { off := 0x800, stride := 8, count := 256, ro := 0xFFFFFFFF, pair := .low },  -- COUNTER
    { off := 0x804, stride := 8, count := 256, ro := 0xFFFFFFFF, pair := .high }  -- COUNTER
  ]

/-- Register words of the TIL page: the field table at R171 (05_serdes_lanes_measurement.md). -/
def wordsTil : List RegWord :=
  [
    { off := 0x100, rws := 0x3 },  -- CFG
    { off := 0x104, ro := 0xF000FFFF },  -- TSTATUS
    { off := 0x108, rw := 0xFFF00000, reset := 0x20600000 },  -- LIMITS
    { off := 0x10C, rw := 0xFFFF, reset := 0x1388 },  -- PROP
    { off := 0x110, rw := 0xFFFF, reset := 0x64 }  -- TIMERS
  ]

/-- Register words of the TRE page: the field table at R102 (03_routing_paths_multicast.md), R252 (08_collective_trees.md). -/
def wordsTre : List RegWord :=
  [
    { off := 0x100, rw := 0x1, reset := 0x1 },  -- CFG
    { off := 0x104, rws := 0x2, wo := 0x4, ro := 0x9 },  -- TBL_CTRL
    { off := 0x108, rw := 0xFFFFFFFF },  -- TBL_SEQ_A
    { off := 0x10C, rw := 0xFFFFFFFF },  -- TBL_SEQ_B
    { off := 0x110, rw := 0xFFFFFFFF },  -- CNT_REPL
    { off := 0x114, rw := 0xFFFFFFFF },  -- CNT_NOTREE
    { off := 0x118, wo := 0x1 },  -- INJECT
    { off := 0x120, rw := 0xFFFFFFFF },  -- CNT_REPULL_TX
    { off := 0x124, rw := 0xFFFFFFFF },  -- CNT_REPULL_RX
    { off := 0x128, rw := 0xFFFFFFFF },  -- CNT_DUP
    { off := 0x12C, rw := 0xFFFFFFFF },  -- CNT_AHEAD
    { off := 0x130, rw := 0xFFFFFFFF },  -- CNT_FAIL
    { off := 0x134, rw := 0xFFFFFFFF },  -- CNT_GONE
    { off := 0x138, rw := 0xFFFFFFFF },  -- CNT_BARRIER
    { off := 0x13C, wo := 0x1 }  -- COLL_INJECT
  ]

/-- Register words of the VIA page (part 1): the field table at R197 (06_viaducts_fabric_time.md). -/
def wordsVia0 : List RegWord :=
  [
    { off := 0x100, rw := 0x7, reset := 0x2 },  -- CFG
    { off := 0x104, rws := 0x2, wo := 0x4, ro := 0x9 },  -- TBL_CTRL
    { off := 0x108, rw := 0xFFFFFFFF },  -- TBL_SEQ_A
    { off := 0x10C, rw := 0xFFFFFFFF },  -- TBL_SEQ_B
    { off := 0x110, rws := 0xFFFFF, reset := 0x2710 },  -- CYCLE
    { off := 0x114, rws := 0xFFFFF000, reset := 0x10100000 },  -- GATE_PARAM
    { off := 0x118, rws := 0xFFFFFFFF, pair := .low },  -- CYCLE_BASE
    { off := 0x11C, rws := 0xFFFFFFFF, pair := .high },  -- CYCLE_BASE
    { off := 0x120, rw := 0xFFFFFFFF, pair := .low },  -- SWAP_AT
    { off := 0x124, rw := 0xFFFFFFFF, pair := .high },  -- SWAP_AT
    { off := 0x128, rw := 0xFF, rws := 0xFFFFE000, reset := 0x14 },  -- TIME_CFG
    { off := 0x12C, rw := 0xFFFFFF00, reset := 0xC80800 },  -- TIME_LIMITS
    { off := 0x130, ro := 0xFFFFF3FC },  -- TIME_STATUS
    { off := 0x134, ro := 0xFFFFFFFF },  -- TIME_OFFSET
    { off := 0x138, rw := 0xFFFFFFFF },  -- TIME_RATE
    { off := 0x13C, ro := 0xFFFFF },  -- TIME_PATH
    { off := 0x140, ro := 0xFFFFFFFF, pair := .low },  -- TIME_NOW
    { off := 0x144, ro := 0xFFFFFFFF, pair := .high },  -- TIME_NOW
    { off := 0x148, wo := 0xFFFFFFFF, pair := .low },  -- TIME_SET
    { off := 0x14C, wo := 0xFFFFFFFF, pair := .high }  -- TIME_SET
  ]

/-- Register words of the VIA page (part 2): the field table at R197 (06_viaducts_fabric_time.md). -/
def wordsVia1 : List RegWord :=
  [
    { off := 0x150, wo := 0xFFFFFFFF },  -- TIME_ADJ
    { off := 0x154, rw := 0xFFFFFFFF },  -- ASYM
    { off := 0x158, ro := 0xFFFFFFFF, pair := .low },  -- PPS_CAP
    { off := 0x15C, ro := 0xFFFFFFFF, pair := .high },  -- PPS_CAP
    { off := 0x160, rw := 0xFF80, reset := 0x6400 },  -- PPS_CFG
    { off := 0x170, rw := 0xFFFFFFFF },  -- CNT_SENT
    { off := 0x174, rw := 0xFFFFFFFF },  -- CNT_HELD
    { off := 0x178, rw := 0xFFFFFFFF },  -- CNT_MISSED
    { off := 0x17C, rw := 0xFFFFFFFF },  -- CNT_OVERRUN
    { off := 0x180, rw := 0xFFFFFFFF },  -- CNT_NOENTRY
    { off := 0x184, rw := 0xFFFFFFFF },  -- CNT_GAP
    { off := 0x188, rw := 0xFFFFFFFF },  -- CNT_TIME_BAD
    { off := 0x18C, wo := 0x3 }  -- INJECT
  ]

/-- Register words of the VIA page. -/
def wordsVia : List RegWord := wordsVia0 ++ wordsVia1

/-- Register words of the XLT page (part 1): the field table at R397 (14_address_translation.md). -/
def wordsXlt0 : List RegWord :=
  [
    { off := 0x100, rw := 0xFF000003, reset := 0x64000003 },  -- CFG
    { off := 0x104, ro := 0xFF01FF },  -- OCCUPANCY
    { off := 0x108, rw := 0x3C00FFFF, wo := 0x40000000, ro := 0x80000000 },  -- INV_CTRL
    { off := 0x10C, rw := 0xFFFFFFFF, reset := 0x1 },  -- INV_PAGES
    { off := 0x110, rw := 0xFFFFFFFF, pair := .low },  -- INV_ADDR
    { off := 0x114, rw := 0xFFFFFFFF, pair := .high },  -- INV_ADDR
    { off := 0x118, ro := 0xFFFFFFFF },  -- INV_SEQ
    { off := 0x120, rw := 0xFFFFFFFF, pair := .low },  -- PTE_ADDR
    { off := 0x124, rw := 0xFFFFFFFF, pair := .high },  -- PTE_ADDR
    { off := 0x128, rw := 0xFFFFFFFF, pair := .low },  -- PTE_DATA
    { off := 0x12C, rw := 0xFFFFFFFF, pair := .high },  -- PTE_DATA
    { off := 0x130, ro := 0xFFC0FFFF },  -- FAULT_INFO
    { off := 0x138, ro := 0xFFFFFFFF, pair := .low },  -- FAULT_VA
    { off := 0x13C, ro := 0xFFFFFFFF, pair := .high },  -- FAULT_VA
    { off := 0x140, rw := 0xFFFFFFFF },  -- CNT_LOOKUP
    { off := 0x144, rw := 0xFFFFFFFF },  -- CNT_HIT
    { off := 0x148, rw := 0xFFFFFFFF },  -- CNT_WALK
    { off := 0x14C, rw := 0xFFFFFFFF },  -- CNT_WCACHE_HIT
    { off := 0x150, rw := 0xFFFFFFFF },  -- CNT_FAULT
    { off := 0x154, rw := 0xFFFFFFFF }  -- CNT_MARK
  ]

/-- Register words of the XLT page (part 2): the field table at R397 (14_address_translation.md). -/
def wordsXlt1 : List RegWord :=
  [
    { off := 0x158, rw := 0xFFFFFFFF },  -- CNT_WAF
    { off := 0x15C, rw := 0xFFFFFFFF },  -- CNT_INVAL
    { off := 0x160, rw := 0xFFFFFFFF },  -- CNT_RETRY
    { off := 0x164, wo := 0x3 }  -- INJECT
  ]

/-- Register words of the XLT page. -/
def wordsXlt : List RegWord := wordsXlt0 ++ wordsXlt1

/-- The management port's own words: CFG and PSTATE of R264, then the HPT words from +0x108 upward (R264, R266).
The FEC_OFF and MODE_25G fields replace those of HPT.CFG. -/
def wordsMgtPort : List RegWord :=
  { off := 0x100, rws := 0x2, ro := 0x1 } :: wordsHpt.filter (fun w => decide (0x104 ≤ w.off ∧ w.off < 0x200))

/-- The register words of a block kind, from +0x100 upward. The MGT page holds a port and, at each offset plus 0x200, a pier (R264, R293). -/
def Blk.words : Blk → List RegWord
  | .dev => wordsDev
  | .kst => wordsKst
  | .pwr => wordsPwr
  | .clk => wordsClk
  | .sns => wordsSns
  | .sec => wordsSec
  | .rfa => wordsRfa
  | .mgt => wordsMgtPort ++ (wordsSpn.filter (fun w => decide (w.off < 0x200))).map (fun w => { w with off := w.off + 0x200 })
  | .lnk => wordsLnk
  | .srd => wordsSrd
  | .til => wordsTil
  | .hpt => wordsHpt
  | .spn => wordsSpn
  | .fwd => wordsFwd
  | .rou => wordsRou
  | .tre => wordsTre
  | .via => wordsVia
  | .abc => wordsAbc
  | .mat => wordsMat
  | .rel => wordsRel
  | .xlt => wordsXlt
  | .ctg => wordsCtg
  | .eng => wordsEng
  | .hom => wordsHom
  | .hbm => wordsHbm
  | .lck => wordsLck
  | .plc => wordsPlc
  | .sch => wordsSch
  | .tal => wordsTal

end Sys2Proof.Machine
end

