-- ==== Sys2Proof/Machine/Severity.lean ====
section
/-!
DEFINITION. Machine/Severity.lean: the reset severity of every kind of every source (R504, with the kind table of each
block), the severity floors of R505, and the sources that never report (R501).
-/
namespace Sys2Proof.Machine

/-- The event-source ranges of the blocks (R6, R501), as used by the severity tables. -/
inductive SrcBlk where
  | lnk | hpt | til | eng0 | eng1 | abc | hbm | fwd | hom | xlt | lck | ctg | mat | rel | sch
  | plc | rou | tre | via | pwr | clk | sns | sec | dev | mgt | kst | rfa | die | reserved
deriving DecidableEq, Repr

/-- The block that a source number names (R6, R501). -/
def srcBlk (s : Nat) : SrcBlk :=
  if s < 256 then .lnk else if s < 320 then .hpt else if s < 352 then .til
  else if s < 416 then (if s % 2 = 0 then .eng0 else .eng1)
  else if s < 432 then .abc else if s < 448 then .hbm else if s < 480 then .fwd
  else if s < 488 then .hom else if s < 504 then .xlt else if s = 504 then .lck else if s < 512 then .reserved
  else if s < 640 then .ctg else if s < 656 then .mat else if s < 672 then .rel else if s < 688 then .sch
  else if s = 688 then .plc else if s = 689 then .rou else if s = 690 then .tre else if s = 691 then .via
  else if s < 704 then .reserved
  else if s = 704 then .pwr else if s = 705 then .clk else if s = 706 then .sns else if s = 707 then .sec
  else if s = 708 then .dev else if s = 709 then .mgt else if s < 752 then .reserved
  else if s = 752 then .kst else if s = 753 then .rfa else if s < 765 then .die else .reserved

/-- The reset severity of a kind that its block's kind table states: (kind, severity). -/
def kindTable : SrcBlk → List (Nat × Nat)
  | .lnk => [(0x01, 1), (0x02, 0), (0x04, 1), (0x05, 2), (0x06, 2), (0x07, 0), (0x09, 1), (0x0A, 1)]
  | .til => [(0x01, 1), (0x02, 1), (0x03, 1), (0x04, 1), (0x05, 0), (0x06, 1), (0x07, 2)]
  | .eng0 => [(0x01, 2), (0x02, 1), (0x03, 1)]
  | .eng1 => [(0x11, 0), (0x12, 0), (0x13, 1), (0x14, 1), (0x15, 1)]
  | .abc => [(0x01, 2), (0x02, 2), (0x03, 1), (0x04, 1), (0x05, 1), (0x06, 2), (0x08, 2)]
  | .hbm => [(0x01, 2), (0x02, 0), (0x03, 3)]
  | .fwd => [(0x01, 1), (0x02, 1), (0x03, 1), (0x04, 1), (0x05, 2), (0x06, 1), (0x07, 2), (0x08, 0), (0x09, 1)]
  | .hom => [(0x01, 1), (0x02, 1), (0x03, 2), (0x04, 3)]
  | .xlt => [(0x01, 2), (0x02, 0), (0x03, 0), (0x04, 1), (0x05, 1), (0x06, 1), (0x81, 2), (0x82, 0), (0x83, 0), (0x84, 1), (0x85, 1), (0x86, 1)]
  | .lck => [(0x01, 0), (0x02, 2)]
  | .ctg => [(0x01, 1), (0x02, 3), (0x03, 0), (0x04, 2), (0x05, 1), (0x06, 0), (0x07, 1)]
  | .mat => [(0x01, 1), (0x02, 0), (0x03, 2), (0x04, 0), (0x05, 1), (0x06, 2), (0x07, 1)]
  | .rel => [(0x01, 1), (0x02, 1), (0x03, 0), (0x04, 1), (0x05, 0), (0x06, 1), (0x07, 1), (0x08, 1), (0x09, 0), (0x0A, 1), (0x0B, 2), (0x0C, 0)]
  | .sch => [(0x01, 2), (0x02, 0), (0x03, 2)]
  | .plc => [(0x01, 0), (0x02, 1), (0x03, 1), (0x04, 2), (0x05, 0), (0x06, 0)]
  | .rou => [(0x01, 1), (0x02, 1), (0x03, 2), (0x04, 1), (0x05, 0)]
  | .tre => [(0x01, 1), (0x02, 2), (0x03, 1), (0x04, 1), (0x05, 1), (0x06, 1), (0x07, 1), (0x08, 1), (0x09, 1)]
  | .via => [(0x01, 1), (0x02, 2), (0x03, 1), (0x04, 1), (0x05, 1), (0x06, 1), (0x07, 1), (0x08, 0), (0x09, 1), (0x0A, 1), (0x0B, 2), (0x0C, 1)]
  | .pwr => [(0x01, 3), (0x03, 1), (0x04, 0)]
  | .clk => [(0x01, 3), (0x02, 2), (0x03, 3)]
  | .sns => [(0x01, 1), (0x02, 3), (0x03, 3), (0x04, 3), (0x05, 1)]
  | .sec => [(0x01, 1), (0x02, 2), (0x03, 1), (0x04, 1), (0x05, 1), (0x06, 2), (0x07, 1)]
  | .dev => [(0x01, 1), (0x02, 0)]
  | .kst => [(0x01, 3), (0x02, 3), (0x03, 3), (0x04, 3), (0x05, 3)]
  | .rfa => [(0x01, 1), (0x02, 1), (0x03, 2), (0x04, 0), (0x05, 1)]
  | .hpt | .mgt => [(0x01, 1), (0x02, 1), (0x04, 1), (0x05, 1), (0x10, 1), (0x11, 1), (0x12, 1), (0x13, 2), (0x14, 1), (0x15, 1), (0x16, 1), (0x18, 1)]
  | .die | .reserved => []

/-- The reset severity of the generic kinds (R502). -/
def genericTable : List (Nat × Nat) := [(0xF0, 3), (0xF1, 2), (0xF2, 3), (0xF3, 2)]

/-- The severity entry of a kind after a power-on or cold reset: its table's, and 1 for kinds no table defines (R504). -/
def resetSeverity (src kind : Nat) : Nat :=
  match (kindTable (srcBlk src) ++ (if srcBlk src = .kst then [] else genericTable)).find? (fun p => decide (p.1 = kind)) with
  | some p => p.2
  | none => 1

/-- The kinds under the severity floor (R505, Table 10). -/
def floorKinds : SrcBlk → List Nat
  | .fwd => [0x01, 0x02, 0x05, 0x07]
  | .lnk => [0x01, 0x04, 0x06]
  | .til => [0x07]
  | .rou => [0x03]
  | .tre => [0x02]
  | .via => [0x0B]
  | .abc => [0x01, 0x02, 0x06, 0x08]
  | .ctg => [0x04]
  | .mat => [0x03]
  | .rel => [0x0B]
  | .xlt => [0x01, 0x81]
  | .eng0 => [0x01]
  | .hom => [0x01, 0x03, 0x04]
  | .hbm => [0x01]
  | .lck => [0x02]
  | .plc => [0x04]
  | .sch => [0x01, 0x03]
  | .rfa => [0x03]
  | .clk => [0x01, 0x02, 0x03]
  | .sns => [0x04]
  | .eng1 | .hpt | .mgt | .pwr | .sec | .dev | .kst | .die | .reserved => []

/-- The lowest severity a kind may be given (R505). -/
def severityFloor (src kind : Nat) : Nat :=
  if kind ∈ floorKinds (srcBlk src) ∨ (kind ∈ [0xF0, 0xF1, 0xF2, 0xF3] ∧ src ≠ 752) then
    min (resetSeverity src kind) 2
  else 0

/-- Kinds whose severity is fixed: writes are ignored (R505). -/
def severityFixed (src kind : Nat) : Bool :=
  decide (srcBlk src = .kst) || (decide (srcBlk src = .ctg) && decide (kind = 0x02)) ||
  (decide (srcBlk src = .hom) && decide (kind = 0x04))

/-- The reset word of the severity window at word `i` of source `s`: sixteen 2-bit entries (R504). -/
def severityResetWord (s i : Nat) : W32 :=
  BitVec.ofNat 32 ((List.range 16).foldl (fun a j => a + resetSeverity s (16 * i + j) * 4 ^ j) 0)

end Sys2Proof.Machine
end

