-- ==== Sys2Proof/Machine/RegMap.lean ====
section
/-!
DEFINITION. Machine/RegMap.lean: what each register address is (R591, R587, R588): a word of a block page, a word of a
table window, a reserved address or an unmapped one; and what every word reads after reset.
-/
namespace Sys2Proof.Machine

/-- The table windows of R591; `c` false is copy A and true is copy B. -/
inductive Win where
  | route (c : Bool) | detour (c : Bool) | tree (c : Bool) | gate (c : Bool) | viaduct (c : Bool) | member (c : Bool)
  | summary | queue (c : Bool) | queueOcc | hint | flow | log | severity | report | cert
deriving DecidableEq, Repr

/-- What a page holds (R591, Table 6). -/
inductive PageKind where
  | block (b : Blk) (n : Nat)
  | window (w : Win) (first : Nat)
  | unmapped
deriving DecidableEq, Repr

/-- The windows with their first and last pages (R591, Table 6). -/
def winPages : List (Nat × Nat × Win) :=
  [(0x1000, 0x11FF, .route false), (0x1200, 0x13FF, .route true), (0x1400, 0x1400, .detour false), (0x1401, 0x1401, .detour true),
   (0x1500, 0x15FF, .tree false), (0x1600, 0x16FF, .tree true), (0x1800, 0x181F, .gate false), (0x1820, 0x183F, .gate true),
   (0x1840, 0x185F, .viaduct false), (0x1860, 0x187F, .viaduct true), (0x1900, 0x19FF, .member false), (0x1A00, 0x1AFF, .member true),
   (0x2000, 0x23FF, .summary), (0x2800, 0x280F, .queue false), (0x2810, 0x281F, .queue true), (0x2820, 0x2823, .queueOcc),
   (0x3000, 0x31FF, .hint), (0x3200, 0x323F, .flow), (0x3300, 0x3303, .log), (0x3400, 0x340B, .severity), (0x3800, 0x3800, .report),
   (0x3801, 0x3810, .cert)]

/-- The kind of a page (R591). -/
def pageKind (p : Nat) : PageKind :=
  match blockOfPage p with
  | some (b, n) => .block b n
  | none =>
    match winPages.find? (fun t => decide (t.1 ≤ p) && decide (p ≤ t.2.1)) with
    | some (f, _, w) => .window w f
    | none => .unmapped

/-- The bytes of a window's stated content; a word beyond it is unmapped (R587). The detour page holds the detour,
report-target and class-map tables; the report window holds the 512-byte report (R554). -/
def Win.size : Win → Nat
  | .route _ => 0x200000
  | .detour _ => 0x1000
  | .tree _ => 0x100000
  | .gate _ => 0x20000
  | .viaduct _ => 0x20000
  | .member _ => 0x100000
  | .summary => 0x400000
  | .queue _ => 0x10000
  | .queueOcc => 0x4000
  | .hint => 0x200000
  | .flow => 0x40000
  | .log => 0x4000
  | .severity => 0xC000
  | .report => 0x200
  | .cert => 0x10000

/-- A window that ignores writes from every agent (R591). -/
def Win.readOnly : Win → Bool
  | .summary | .queueOcc | .log | .report | .cert => true
  | _ => false

/-- A window whose entries are 64 bits wide, so that its word pairs behave as pairs (R585). -/
def Win.wide : Win → Bool
  | .gate _ | .hint => true
  | _ => false

/-- Whether an address is mapped (R587). -/
def mapped (a : Nat) : Bool :=
  match pageKind (a / 0x1000) with
  | .block _ _ => true
  | .window w f => decide (a - f * 0x1000 < w.size)
  | .unmapped => false

/-- The register word at an offset of a block page from +0x100 upward. -/
def Blk.wordAt (b : Blk) (off : Nat) : Option RegWord :=
  b.words.find? (fun w => decide (w.off ≤ off) && decide (off < w.off + w.stride * w.count) &&
    decide ((off - w.off) % w.stride = 0))

/-- The access masks and reset value of a header word (R579). -/
def headerWord (b : Blk) (n off : Nat) : Option RegWord :=
  if off = 0x000 then some { off := off, ro := 0xFFFFFFFF, reset := b.typeCode * 0x10000 + n }
  else if off = 0x004 then some { off := off, ro := 0xFFFF, reset := 0x0100 }
  else if off = 0x008 then
    some { off := off, rw := 1 + (if b.hasSleepAllow then 4 else 0), ones := if b.enableFixed then 1 else 0,
           reset := (if b.enableResetsZero then 0 else 1) + (if b.hasSleepAllow then 4 else 0) }
  else if off = 0x00C then some { off := off, ro := 0x7 }
  else if off = 0x010 then some { off := off, ro := 0xFFFFFFFF }
  else if off = 0x014 then some { off := off, w1c := 0xFFFFFFFF }
  else if off = 0x018 then some { off := off, rw := 0xFFFFFFFF }
  else if off = 0x020 then some { off := off, wo := 0xFFFFFFFF }
  else if off = 0x024 then some { off := off, ro := 0xFFFFFFFF }
  else if off = 0x028 then some { off := off, rw := 0xFFFFFFFF }
  else if off = 0x02C then some { off := off, ro := 0x80000FFF }
  else none

/-- The operating range of a rail in mV, its low limit above its high one, as SUPPLY word 0 holds them (R534, R601). -/
def supplyReset (r : Nat) : Nat :=
  match r with
  | 1 => 825 * 0x10000 + 875
  | 2 => 725 * 0x10000 + 775
  | 3 => 875 * 0x10000 + 925
  | 4 => 1165 * 0x10000 + 1235
  | 5 => 1070 * 0x10000 + 1130
  | 6 => 380 * 0x10000 + 420
  | 7 => 1710 * 0x10000 + 1890
  | _ => 720 * 0x10000 + 780

/-- The slots of a tally bank that count (R565). -/
def talSlots (b : Nat) : Nat :=
  if b < 32 then 8 + 16 * 8 else if b < 96 then 11 + 13 else if b < 112 then 9 else if b < 128 then 9
  else if b < 144 then 13 else if b < 160 then 5 + 32 else if b < 192 then 9 else if b < 224 then 5 + 8 else 4 * 8

/-- The register word of an address on a block page, with its reset value for this instance. -/
def regWordAt (a : Nat) : Option RegWord :=
  match pageKind (a / 0x1000) with
  | .block b n =>
    let off := a % 0x1000 / 4 * 4
    if off < 0x100 then headerWord b n off
    else
      match b.wordAt off with
      | none => none
      | some w =>
        match b with
        | .sns => if 0x140 ≤ off ∧ off < 0x180 ∧ off % 8 = 0 then
              some { w with reset := supplyReset ((off - 0x140) / 8), rw := if off = 0x140 then 0 else w.rw,
                            ro := if off = 0x140 then 0xFFFFFFFF else w.ro } else some w
        | .rfa => if off = 0x110 then some { w with reset := 0x33333377 }
              else if off = 0x140 then some { w with rws := 0x77, reset := 0x33 } else some w
        | .mgt => if off = 0x354 then some { w with rws := 0x4, ro := 0x3, reset := 0x3 } else some w
        | .tal => if off = 0x100 then some { w with reset := talSlots n }
              else if 0x180 ≤ off ∧ off < 0x1C0 ∧ n ≠ 0 then some { w with rw := 0, reset := 0 } else some w
        | _ => some w
  | _ => none

/-- What a register address reads after reset while nothing has written it: the reset word of its table, the reset
severities in the severity window (R504), and 0 in every other window and at reserved addresses (R588). -/
def regReset (a : Nat) : W32 :=
  match pageKind (a / 0x1000) with
  | .window .severity f =>
    let o := a - f * 0x1000
    severityResetWord (o / 64) (o % 64 / 4)
  | _ => match regWordAt a with
    | some w => BitVec.ofNat 32 w.reset
    | none => 0#32

end Sys2Proof.Machine
end

