-- ==== Sys2Proof/Machine/StKeeper.lean ====
section
/-!
DEFINITION. Machine/StKeeper.lean: the state of the register space, Keystone, power, clocks, sensors, security, JTAG, the
register fabric arbiter and the tally banks.
-/
namespace Sys2Proof.Machine

/-- Registers and table windows. `act` holds the active words, `shadow` the last written values of RWS fields (R583),
`pend` the pending copy of a page's COMMIT (R584), by page. A word unlisted in `act` or `shadow` reads as its reset. -/
structure Regs where
  act : SMap W32 := []
  shadow : SMap W32 := []
  pend : SMap (SMap W32) := []
  /-- The latched high word of a pair, by agent key: (address of the high word, value) (R585). -/
  latch : SMap (Nat × W32) := []
  /-- Staged low words, by agent key: (address of the low word, value) (R586). -/
  staged : SMap (SMap W32) := []
  /-- Words whose stored parity fails: address to parts, bit 0 shadow, bit 1 pending copy, bit 2 active value (R589). -/
  parBad : SMap Nat := []
  /-- Armed injections: bits written to an INJECT register and not yet used, by the register's address. -/
  inj : SMap W32 := []
  /-- Pages whose soft reset is in progress (R581), by page. -/
  softReset : SMap Bool := []
deriving DecidableEq, Repr

/-- A Keystone record (R499). `time` is the low 38 bits of fabric time. -/
structure KRec where
  src : Nat := 0
  kind : Nat := 0
  sev : Nat := 0
  rep : Nat := 0
  time : Nat := 0
  detail : W64 := 0
deriving DecidableEq, Repr

/-- Keystone (chapter 19). -/
structure Keystone where
  /-- The log's slots (R506). -/
  log : SMap KRec := []
  /-- The reaction timer: its deadline in tenths of a nanosecond of the local clock, while it runs (R510). -/
  react : Option Nat := none
  /-- The slot of the record that started the timer (SAFE_DETAIL of cause 1). -/
  reactSlot : Nat := 0
  /-- Consecutive heartbeats missing, by source (R512). -/
  beatsMissed : SMap Nat := []
  /-- The head that has raised kind 0xF1 last, as its number plus 1, by watched queue (R513). -/
  stalled : SMap Nat := []
  /-- Words 1 to 3 of a log slot latched by a read of word 0, by agent key (R508). -/
  latch : SMap (Nat × W32 × W32 × W32) := []
  /-- Records waiting for the EVENT frame on the management port (R509, R287), oldest first. -/
  gather : List KRec := []
deriving DecidableEq, Repr

/-- The phase of a fast domain (R27, R522). -/
inductive DomSt where
  | asleep | waking | awake | entering
deriving DecidableEq, Repr

/-- A fast domain: its phase and whether a wake cause waits for its sleep entry to end (R28). -/
structure Dom where
  st : DomSt := .asleep
  wakeWaiting : Bool := false
deriving DecidableEq, Repr

/-- The kinds of device reset, as RESET_STAT.LAST codes them (R535). -/
inductive ResetKind where
  | powerOn | resetN | coldCmd | warmCmd
deriving DecidableEq, Repr

/-- RESET_STAT.LAST of a reset kind (R535). -/
def ResetKind.code : ResetKind → Nat
  | .powerOn => 1 | .resetN => 2 | .coldCmd => 3 | .warmCmd => 4

/-- Power, clocks, reset, sensors and pins (chapters 20 and 24). -/
structure Power where
  /-- Domains by number: cluster c at c, slice n at 32 + n, pipeline t at 48 + t, tile t at 80 + t, endpoint core at 112. -/
  dom : SMap Dom := []
  /-- Nanoseconds for which each cluster has been awake, which its harts' mcycle counts twice (R559). -/
  awakeNs : SMap Nat := []
  /-- HBM stacks in self-refresh (R523), and stacks leaving it, by stack. -/
  hbmSr : SMap Bool := []
  hbmSrExit : SMap Bool := []
  /-- The reset in force, until its hold ends (R529–R531). -/
  inReset : Option ResetKind := some .powerOn
  /-- A reset commanded by DEV.RESET_CMD and not yet begun (R530). -/
  resetPending : Option ResetKind := none
  /-- A cold reset held until the hottest sensor reads below 100 °C (R533). -/
  coldWaitsTemp : Bool := false
  /-- Input pins. -/
  pwrok : Bool := true
  resetN : Bool := true
  ppsIn : Bool := false
  /-- READY_OUT asserted (R546). -/
  ready : Bool := false
  /-- PPS_OUT asserted (R182). -/
  ppsOut : Bool := false
  /-- SNS kinds 0x01 and 0x02 may be raised again: the temperature has fallen below the threshold by HYST_C (R533). -/
  warnArmed : Bool := true
  critArmed : Bool := true
  /-- Consecutive samples out of range, by rail (R534), and rails already reported. -/
  supplyBad : SMap Nat := []
  /-- The core voltage target before the last change, and the local time of the change (R527). -/
  avsOld : Nat := 750
  avsAt : Option Nat := none
  /-- Samples of VDD_IO18 still to read out of range (SNS INJECT, R535). -/
  oorLeft : Nat := 0
  /-- REFCLK1 has been found lost (R526). -/
  ref1Lost : Bool := false
  /-- Stacks whose refresh rate is doubled (R606). -/
  hbmFast : SMap Bool := []
  /-- The domains whose wake has been reported late since it started (R536). -/
  wakeLate : SMap Bool := []
deriving DecidableEq, Repr

/-- An owner key slot's fuses (R543). -/
structure KeySlot where
  programmed : Bool := false
  partly : Bool := false
  revoked : Bool := false
  hash : BitVec 256 := 0
deriving DecidableEq, Repr

/-- A fuse command in the order written (R544). -/
structure FuseOp where
  op : Nat
  arg : Nat
  data : BitVec 256
deriving DecidableEq, Repr

/-- A flash command in progress (R552). -/
structure FlashOp where
  op : Nat
  addr : Nat
deriving DecidableEq, Repr

/-- The security block (chapter 21): fuses, flash, boot and identity. -/
structure Sec where
  slots : SMap KeySlot := []
  /-- Fused minimum SVN of types 0x02–0x04, by type − 2 (R544). -/
  svnMin : SMap Nat := []
  fuseOps : List FuseOp := []
  /-- The boot flash; an unlisted byte reads as erased, 0xFF. -/
  flash : List (Nat × Byte) := []
  flashOp : Option FlashOp := none
  /-- FUSE_DATA and EXTEND_DATA as last written (both are write-only registers). -/
  fuseData : BitVec 256 := 0
  extendData : BitVec 256 := 0
  /-- The boot steps done (R545): 0 to 7. In boot hold, STAGE reads 0xE. -/
  bootStep : Nat := 0
  /-- The body of the chosen copy was found bad, so the other copy is being read (R541), by type − 2. -/
  bodyFailed : SMap Bool := []
  /-- Configuration entries are being applied: the bytes from the next entry on, and its index (R549). -/
  cfgOn : Bool := false
  cfgBody : List Byte := []
  cfgIndex : Nat := 0
  cdiK : BitVec 256 := 0
  cdiE : BitVec 256 := 0
  aliasKey : BitVec 256 := 0
  /-- KEY_SLOT of the engine firmware loaded (R554). -/
  keySlot : Nat := 0xFF
  /-- The report's bytes as taken at ATTEST.GO, and the tables swapped since (R554, R555). -/
  attestBody : List Byte := []
  attestVoid : Nat := 0
  /-- EXTEND_DATA as taken at EXTEND.GO (R547). -/
  extendRun : Option (BitVec 256) := none
  /-- The UDS is locked until the next reset (R545). -/
  udsLocked : Bool := false
deriving DecidableEq, Repr

/-- One register access waiting at the register fabric arbiter (R486). `token` names what waits for its answer. -/
structure RegReq where
  agent : Agent
  write : Bool
  addr : Nat
  data : W32 := 0
  token : Nat := 0
  /-- The local time at which it was presented, and whether its long wait has been reported. -/
  since : Nat := 0
  warned : Bool := false
  heldWarned : Bool := false
deriving DecidableEq, Repr

/-- The register fabric arbiter (chapter 18). -/
structure Rfa where
  /-- Requests by requestor, oldest first (R486). -/
  req : SMap (List RegReq) := []
  /-- The back-off after the next loss, by requestor, in keeper clocks (unlisted: 1), and clocks still to sit out (R488). -/
  backoff : SMap Nat := []
  sitOut : SMap Nat := []
  /-- The last requestor granted, by level (R487). -/
  lastAt : SMap Nat := []
deriving DecidableEq, Repr

/-- The JTAG TAP (R576, R599). -/
structure Tap where
  busy : Bool := false
  data : W32 := 0
  status : Nat := 0
  /-- The boundary register as last updated under EXTEST, and whether it drives the lands. -/
  boundary : BitVec 64 := 0
  extest : Bool := false
deriving DecidableEq, Repr

/-- A tally dump being written or sent (R569): to the HBM ring at an offset from its base where `dest` is 0, else to a pier (64: the
management pier). -/
structure Dump where
  record : List Byte
  dest : Nat
  port : Nat
  base : Nat
  offset : Nat
  seq : Nat
deriving DecidableEq, Repr

/-- The tally banks (chapter 22). Live counters and snapshots by bank × 256 + slot; snapshot OVF words by bank × 8 + i. -/
structure Tally where
  live : SMap W64 := []
  snap : SMap W64 := []
  snapOvf : SMap W32 := []
  /-- Slots whose storage reported an uncorrectable error (R566). -/
  eccBad : SMap Bool := []
  dump : Option Dump := none
  /-- Where the next record of the HBM ring may start (R570), and whether a dump has started since cold reset. -/
  ringNext : Nat := 0
  started : Bool := false
deriving DecidableEq, Repr

end Sys2Proof.Machine
end

