-- ==== Sys2Proof/Machine/StLink.lean ====
section
/-!
DEFINITION. Machine/StLink.lean: the state of fabric links and lanes (chapters 04 and 05) beyond their registers.
-/
namespace Sys2Proof.Machine

/-- A stored data flit of the replay store (R121, R127). -/
structure RepFlit where
  seq : Nat
  offset : Nat
  data : List Byte
  spilled : Bool := false
  /-- A spilled flit read back from HBM and ready to be resent (R129). -/
  readBack : Bool := false
  sentAt : Nat := 0
  eccBad : Bool := false
deriving DecidableEq, Repr

/-- A packet received or being received on a link (R111, R117). -/
structure RxPkt where
  tc : Nat
  vc : Nat
  shared : Bool
  len : Nat
  bytes : List Byte := []
  /-- 0 still arriving, 1 END good, 2 END abort. -/
  ended : Nat := 0
  /-- The packet's number in the packet buffer, once its header has been taken (R42). -/
  pkt : Option Nat := none
deriving DecidableEq, Repr

/-- A packet being transmitted on a link: its buffer number, its bytes already put into the stream, the end-to-end CRC that
replaces its own (R95), whether that CRC is inverted (R64), whether it ends with the abort marker (R50), its viaduct, and
the local time at which bytes were last supplied (R113). -/
structure TxPkt where
  pkt : Nat
  sent : Nat
  crc : Option W32 := none
  badE2e : Bool := false
  bad : Bool := false
  via : Option Nat := none
  since : Nat := 0
deriving DecidableEq, Repr

/-- A time exchange being received on a link (R176). Stamps are fabric times in quarter nanoseconds; `t1` is modulo 2^50. -/
structure Exch where
  seq : Nat
  sndState : Nat
  t1 : Nat
  t2 : Nat
  since : Nat
  /-- SYNC_HI has arrived: the sender's root and depth. -/
  hi : Option (Nat × Nat) := none
deriving DecidableEq, Repr

/-- A fabric link's state beyond its registers. -/
structure Link where
  /-- A valid claim is held (R149). -/
  claimed : Bool := false
  /-- Bring-up step of Table 7 in progress, 1–7; 0 when none. -/
  step : Nat := 0
  /-- Lane bring-up step of Table 2 in progress, 1–7; 0 when none. -/
  lanesStep : Nat := 0
  /-- Consecutive good flits since the lanes came up; flit lock holds from 64 (step 2). -/
  lockCount : Nat := 0
  /-- The 10 µs down hold is running (R142). -/
  downHold : Bool := false
  /-- The claim lapsed because a TIL or SRD ENABLE was cleared (R150). -/
  claimLapsed : Bool := false
  /-- Retraining waits for REFCLK1 to return (R526). -/
  clockHeld : Bool := false
  /-- Step 3 timed out and its retry timer is running (R135). -/
  paramRetry : Bool := false
  /-- ENABLE was written 0 and then 1 while the down hold ran (R142). -/
  reEnabled : Bool := false
  /-- Graceful tear-down is running (R138). -/
  teardown : Bool := false
  /-- The lanes hold electrical idle. -/
  idle : Bool := true
  /-- Next data sequence, and the oldest unacknowledged one (R121, R123). -/
  txSeq : Nat := 0
  acked : Nat := 0
  replay : List RepFlit := []
  /-- A replay under way: next sequence to resend; and the S and start time of the last replay started (R124). -/
  replayPos : Option Nat := none
  replayFrom : Option (Nat × Nat) := none
  retries : Nat := 0
  /-- Spill budget left, in bytes, and the local time it was last refilled (R128). -/
  spillBytes : Nat := 0
  spillAt : Nat := 0
  /-- When the spill rate was first found exhausted (kind 0x07 after 1 ms). -/
  spillDry : Option Nat := none
  /-- Stream bytes waiting to be put into data flits; the mark says that an item begins at the byte. -/
  txStream : List (Byte × Bool) := []
  /-- Leading bytes of `txStream` that only finish an IDLE item. -/
  idleLeft : Nat := 0
  /-- The packet being transmitted. -/
  txPkt : Option TxPkt := none
  /-- Bypass messages waiting, oldest first, and the second half of the one being sent (R131, R133). -/
  byp : List (BitVec 62) := []
  bypHalf : Option (BitVec 31) := none
  /-- The receiver: E, replay wait, accepted flits not acknowledged (R122, R123). -/
  rxE : Nat := 0
  replayWait : Bool := false
  unacked : Nat := 0
  /-- First half of a bypass message taken with its arrival stamp (R131, R175), and messages received and not yet handled,
  oldest first, each with the stamp of its first half's arrival in quarter nanoseconds. -/
  rxHalf : Option (BitVec 31 × Nat) := none
  bypIn : List (BitVec 62 × Nat) := []
  /-- Stream bytes of an item not yet complete, and whether the parser is inside a packet. -/
  rxItem : List Byte := []
  rxq : List RxPkt := []
  /-- Transmit credits: USED and LIMIT by pool id; receive LIMIT advertised by pool id (R115). -/
  used : SMap Nat := []
  limit : SMap Nat := []
  rxLimit : SMap Nat := []
  /-- Pools whose initial LIMIT has been received (step 7 of R135). -/
  limGot : SMap Bool := []
  /-- Shared cells the die has allocated to this link as a receiver (R58). -/
  rxShared : Nat := 0
  /-- Pools on which the head has been reported stalled (R120), by pool id. -/
  stallSeen : SMap Bool := []
  /-- LINK_PARAM words received from the partner, and PEER_SEEN received (R135). -/
  peer0 : Option (BitVec 56) := none
  peer1 : Option (BitVec 56) := none
  peerSeen : Bool := false
  /-- Echo measurement (R160): requests sent, responses received, minimum. -/
  echoSent : Nat := 0
  echoGot : Nat := 0
  echoMin : Option Nat := none
  echoClosed : Bool := false
  /-- The link asked for strong-FEC, so TIL kind 0x05 has been raised for this bring-up (R157). -/
  strongAsked : Bool := false
  /-- Time transfer (R175, R176): the SEQ of the next exchange sent, the stamps t1 and t3 of the last SYNC and DELAY_REQ
  sent, and the exchange being received. -/
  timeSeq : Nat := 0
  t1 : Nat := 0
  t3 : Nat := 0
  exch : Option Exch := none
  /-- SLEEP_REQ outstanding (R137), and the lanes waking from quiet sleep (R162). -/
  sleepReq : Bool := false
  waking : Bool := false
  /-- The partner of the previous ACTIVE period: (router, link) (R136). -/
  lastPartner : Option (Nat × Nat) := none
  /-- The class mask in use and the last good flit's time. -/
  tcMask : Nat := 0x80
deriving DecidableEq, Repr

/-- A lane's state beyond its registers (chapter 05). -/
structure Lane where
  /-- Frame lock, and consecutive frames with a bad FCRC (R154). -/
  frameLock : Bool := false
  badFrames : Nat := 0
  /-- The search of R154: intervals in a row that showed a good frame, at this polarity and bit offset. -/
  runLen : Nat := 0
  runPol : Bool := false
  runSlip : Nat := 0
  /-- The tap of the request sent and not yet answered (R156); 0 none. -/
  reqTap : Nat := 0
  /-- Partner's SEEN and last training frame type received; frames sent and received with EQ_DONE (R156); READY frames with SEEN sent (R159). -/
  peerSeen : Bool := false
  peerType : Nat := 0
  eqSent : Nat := 0
  eqGot : Nat := 0
  readySent : Nat := 0
  framesSent : Nat := 0
  /-- The receiver's adaptation is complete (EQ_DONE). -/
  adapted : Bool := false
  /-- The answer owed to the partner's last equaliser request: STS_TAP and STS_RES (R156). -/
  stsTap : Nat := 0
  stsRes : Nat := 0
  /-- Loss bursts received, as their losses in quarter decibels, newest first (R157). -/
  losses : List Nat := []
  /-- Fraction of a bit counted by the checker, in eighths, and bits inverted by INJECT since the generator started (R166, R167). -/
  prbsFrac : Nat := 0
  inverted : Nat := 0
  /-- PRBS interval of step 6 done (R157). -/
  prbsDone : Bool := false
deriving DecidableEq, Repr

/-- A tile's state beyond its registers: locks of the two group PLLs (R147). -/
structure Tile where
  pll0 : Bool := false
  pll1 : Bool := false
  pll0Starting : Bool := false
  pll1Starting : Bool := false
  /-- The tile's PLLs take REFCLK0 (R525, R526). -/
  ref0 : Bool := false
deriving DecidableEq, Repr

end Sys2Proof.Machine
end

