-- ==== Sys2Proof/Machine/StFabric.lean ====
section
/-!
DEFINITION. Machine/StFabric.lean: the state of forwarding, routing and the injection schedulers (chapters 02, 03 and 18)
beyond their registers and tables.
-/
namespace Sys2Proof.Machine

/-- What forwarding has decided for a packet (R42). -/
inductive Fate where
  | forward | deliver | viaduct | discard
deriving DecidableEq, Repr

/-- A packet held in the packet buffer (R57, R60). -/
structure Pkt where
  bytes : List Byte
  /-- The length that the link's START named, or the packet's own length when it was built here. -/
  len : Nat
  /-- The input link, or none for a packet built at this router. -/
  inLink : Option Nat := none
  /-- The pipeline that forwards it: that of the input tile, or its source pipeline (R34, R610). -/
  pipe : Nat
  /-- The credit pools it was charged to on its input link (R117). -/
  tc : Nat := 0
  vc : Nat := 0
  shared : Bool := false
  /-- Every byte has been stored, and what the checks on the whole packet found (R53). -/
  whole : Bool := true
  fate : Fate := .forward
  bad : Bool := false
  /-- Outputs, local deliveries and hand-offs not yet finished (R60). -/
  copies : Nat := 1
  /-- A cell of it reports an uncorrectable ECC error when read (R53, R64). -/
  eccBad : Bool := false
deriving DecidableEq, Repr

/-- A copy of a packet in an output queue (R44): the header it leaves with, and its end-to-end CRC when a tree member has
computed it afresh (R95). -/
structure QEnt where
  pkt : Nat
  /-- The header as it entered this hop, from which the copy is forwarded again when its link goes down (R141). -/
  hdr0 : List Byte
  hdr : List Byte
  crc : Option W32 := none
  /-- An injection that this copy carries (R64). -/
  badE2e : Bool := false
deriving DecidableEq, Repr

/-- A packet at the last hop of its path, whole and checked, waiting for its endpoint block (R42, R49). -/
structure Dlv where
  pkt : Nat
  bytes : List Byte
  inLink : Option Nat := none
deriving DecidableEq, Repr

/-- A recorded class level (R82). -/
structure ClassRec where
  level : Nat := 0
  reporter : Nat := 0
  time : Nat := 0
deriving DecidableEq, Repr

/-- Forwarding: the packet buffer, the output queues and deliveries. -/
structure Fwd where
  pkts : SMap Pkt := []
  nextPkt : Nat := 0
  /-- Output queues by link × 32 + 4 × TC + VC (R44). -/
  outQ : SMap (List QEnt) := []
  /-- Deliveries, oldest first. -/
  dlv : List Dlv := []
  /-- Viaduct packets stored whole and not yet eligible at their gate, oldest first (R42, R189). -/
  viaStored : List Nat := []
  /-- The local time of the last route error to a source router (R54). -/
  rtErrAt : SMap Nat := []
  /-- The deficit of a weighted class on a link, by link × 8 + TC, and the round pointer by link (R484). -/
  deficit : SMap Nat := []
  rrPtr : SMap Nat := []
deriving DecidableEq, Repr

/-- Routing (chapter 03). -/
structure Rou where
  /-- Generator states by pipeline; an unlisted pipeline holds its reset seed (R608). -/
  gen : SMap W64 := []
  /-- Class levels by path class (R82). -/
  cls : SMap ClassRec := []
  /-- Failed marks by destination × 16 + candidate (R84): the local time of the mark. -/
  failed : SMap Nat := []
  /-- Destinations for which kind 0x02 was raised, with the local time (R77). -/
  allFailedAt : SMap Nat := []
  /-- The candidate pinned to an operation, by tag (R74). -/
  pinned : SMap Nat := []
  /-- Where the report cycle stands (R81). -/
  cycle : Nat := 0
  /-- Table swaps not yet done and COMMITs held by a sync, for ROU (0), TRE (1), VIA (2) and the queue table (3) (R99). -/
  swapping : SMap Bool := []
  commitHeld : SMap Bool := []
deriving DecidableEq, Repr

/-- The packet at the head of an injection queue (R472): an operation's next segment, or a retransmission of a channel's
packet; the candidate chosen for it (R611) and its finish tag (R474). -/
structure InjHead where
  tag : Nat
  retx : Option (Nat × Nat) := none
  bytes : List Byte
  dest : Nat
  pipe : Nat
  /-- The candidate's index and path word. -/
  cand : Option (Nat × Nat) := none
  fin : Nat
deriving DecidableEq, Repr

/-- An injection queue of a scheduler (R472, R474): retransmissions, operations by tag in arrival order, its head, and the
finish tag of the last head while the queue has been busy since. -/
structure InjQ where
  retx : List (Nat × Nat) := []
  ops : List Nat := []
  head : Option InjHead := none
  lastF : Option Nat := none
deriving DecidableEq, Repr

/-- The policer buckets (R480). -/
structure Policer where
  tc : Nat := 0x10000
  tp : Nat := 0x10000
  /-- When kind 0x02 was last raised (R482). -/
  redAt : Option Nat := none
deriving DecidableEq, Repr

/-- The injection schedulers: queues by SCH × 256 + queue, policers by SCH × 32 + policer. -/
structure Sched where
  q : SMap InjQ := []
  pol : SMap Policer := []
deriving DecidableEq, Repr

/-- A packet in a gate queue (R189): its entry of the packet buffer, its header on leaving, its slot sequence and the
windows it has missed (R190). -/
structure GateEnt where
  pkt : Nat
  hdr : List Byte
  slot : Nat
  missed : Nat := 0
deriving DecidableEq, Repr

/-- A viaduct at its source (R191, R194). -/
structure ViaSrc where
  /-- 0 not set up, 1 setup sent, 2 armed, 3 tear-down sent. -/
  phase : Nat := 0
  resent : Nat := 0
  /-- Next slot sequence to stage. -/
  slot : Nat := 0
  /-- Descriptors being sent, by tag, oldest first. -/
  ops : List Nat := []
deriving DecidableEq, Repr

/-- A destination's account of a viaduct (R193): the next expected sequence, the count missing since the last completion and in
all, the highest sequence of a completion that is due, and the tear-down to be answered after it. -/
structure ViaDst where
  expect : Nat := 0
  missing : Nat := 0
  gaps : Nat := 0
  due : Option Nat := none
  fin : Option (List Byte) := none
deriving DecidableEq, Repr

/-- The follower's servo and states (R178, R179) and the roots' rate and slew (R180). -/
structure Servo where
  /-- The first valid exchange since UNLOCKED has stepped fabric time. -/
  stepped : Bool := false
  /-- Consecutive valid exchanges with |offset| ≤ 4 ns. -/
  good : Nat := 0
  /-- The rate adjust in force, in units of 2^−32 (R173), and those of the last 16 exchanges, newest first. -/
  rate : Int := 0
  rates : List Int := []
  /-- Nanoseconds × 2^32 still to slew by (TIME_ADJ). -/
  slew : Int := 0
  /-- Exchanges are taken from ALT, and the valid exchanges PARENT has given meanwhile (R179). -/
  useAlt : Bool := false
  parentGood : Nat := 0
  /-- ALT has failed since it was taken up (R179). -/
  altFailed : Bool := false
deriving DecidableEq, Repr

/-- Viaducts and time transfer (chapter 06). -/
structure Via where
  servo : Servo := {}
  /-- Gate queues by link × 4096 + viaduct (R189). -/
  gq : SMap (List GateEnt) := []
  /-- The open window of a link: the entry's index and its viaduct (R188). -/
  open? : SMap (Nat × Nat) := []
  /-- The next window of a link passes nothing (WINDOW_SKIP, R197). -/
  skip : SMap Bool := []
  /-- Viaducts armed at this router (R194). -/
  armed : SMap Bool := []
  src : SMap ViaSrc := []
  dst : SMap ViaDst := []
  /-- VIA_TEARDOWN packets that wait at this hop for the gate queue (R194), by viaduct: the packet's number. -/
  tear : SMap Nat := []
  /-- A COMMIT that swaps has been accepted, and the fabric time from which a cycle start may swap (R195). -/
  swapFrom : Option Nat := none
deriving DecidableEq, Repr

end Sys2Proof.Machine
end

