-- ==== Sys2Proof/Machine/StSpan.lean ====
section
/-!
DEFINITION. Machine/StSpan.lean: the state of host ports and piers (chapters 09 and 10) beyond their registers, and what
waits for an answer from memory.
-/
namespace Sys2Proof.Machine

/-- What a memory access is for: who takes its data or its landing. -/
inductive Waiter where
  | none
  /-- A descriptor fetch of a context: its first slot and the number of slots (R305). -/
  | fetch (ctx slot n : Nat)
  /-- A completion head word (R301). -/
  | cqHead (ctx : Nat)
  /-- A completion entry or tail word of a context: it is written again after a session loss (R311). `after` names the
  channel and sequence of the PUT_NOTIFY whose last packet waits for this entry to land (R350). -/
  | cqWrite (ctx : Nat) (addr : Nat) (data : List Byte) (after : Option (Nat × Nat))
  /-- A fragment of an endpoint memory job, by the job and the fragment's offset in it. -/
  | job (id off : Nat)
  /-- An engine's load or store (R433). -/
  | hartRead (hart : Nat)
  | hartWrite (hart : Nat)
deriving DecidableEq, Repr

/-- A Span frame: its flags [3:0], operation, sequences, fields and payload (R270), and whether MACsec verified it. -/
structure SFrame where
  flags : Nat := 0
  op : Nat
  tseq : Nat := 0
  aseq : Nat := 0
  target : Nat := 0
  opspec : Nat := 0
  payload : List Byte := []
  secure : Bool := false
  /-- PLEN agrees with the payload received (R282). -/
  plenOk : Bool := true
deriving DecidableEq, Repr

/-- A sequenced frame of the device (R278): its retransmissions, whether the last bitmap shows it held, when it was last
sent and last retransmitted, and the tag it serves (R295). -/
structure TxFrame where
  f : SFrame
  tag : Option Nat := none
  waiter : Waiter := .none
  retries : Nat := 0
  held : Bool := false
  sentAt : Nat := 0
  resentAt : Option Nat := none
deriving DecidableEq, Repr

/-- An outstanding read toward a host (R280); `seq` is its frame's sequence once sent. -/
structure HostRd where
  id : Nat
  len : Nat
  seq : Option Nat := none
  got : List Byte := []
  waiter : Waiter
  tag : Option Nat := none
deriving DecidableEq, Repr

/-- A MEM_WR not yet covered by a MEM_WR_ACK (R281). -/
structure HostWr where
  seq : Nat
  waiter : Waiter
  tag : Option Nat := none
  acked : Bool := false
deriving DecidableEq, Repr

/-- A pier's state beyond its registers (chapter 10). -/
structure Pier where
  /-- Span frames arrived and not yet taken by the sequence logic, and sequenced frames held out of order. -/
  rx : List SFrame := []
  held : List SFrame := []
  /-- Frames delivered in order and not yet carried out. -/
  delivered : List SFrame := []
  /-- Sequenced frames waiting to be sent, and those sent and unacknowledged, oldest first. -/
  wait : List TxFrame := []
  tx : List TxFrame := []
  /-- A session has been opened since the last power-on or cold reset, and whether its sequence T must move on (R272). -/
  began : Bool := false
  t : Nat := 0
  answered : Bool := false
  peerSync : Bool := false
  /-- Frames delivered since the last ASEQ sent (R277). -/
  sinceAck : Nat := 0
  /-- The gap for which a NAK was sent, and when (R277). -/
  nakAt : Option (Nat × Nat) := none
  /-- Reads outstanding and reads waiting for RD_MAX (R280), and the next read id. -/
  reads : List HostRd := []
  readWait : List (Nat × HostRd) := []
  nextId : Nat := 0
  writes : List HostWr := []
  /-- When kind 0x16 was last raised for a frame of another version (R270). -/
  verAt : Option Nat := none
  /-- Register requests being served: (requestor's frame, words done so far) (R284, R578). -/
  reg : Option (SFrame × List W32) := none
deriving DecidableEq, Repr

/-- An installed MACsec security association (R261). -/
structure Sa where
  key : BitVec 256
  salt : BitVec 96
  ssci : W32
  /-- Transmit: the next PN. Receive: the highest PN verified plus 1. -/
  pn : Nat := 1
  /-- Receive: PNs verified inside the replay window. -/
  seen : List Nat := []
deriving DecidableEq, Repr

/-- A host port's state beyond its registers (chapter 09). -/
structure Port where
  claimed : Bool := false
  /-- Down and to restart 10 ms later while ENABLE stays 1 (R256). -/
  restart : Bool := false
  /-- Running pause timers: PFC by priority, and 802.3x pause as 8 (R259). -/
  paused : SMap Bool := []
  /-- XOFF stands (R260). -/
  xoff : Bool := false
  /-- Frames waiting for a pause timer: (priority, bytes). -/
  txq : List (Nat × List Byte) := []
  /-- MAC control frames received and not yet taken (R257). -/
  control : List (List Byte) := []
  /-- Staged key registers (R261). -/
  sak : BitVec 256 := 0
  salt : BitVec 96 := 0
  ssci : W32 := 0
  txSa : SMap Sa := []
  rxSa : SMap Sa := []
  /-- Transmit stamps: (SEQUENCE_ID, time in quarter nanoseconds) (R263). -/
  stamps : List (Nat × Nat) := []
  /-- PTP frames received, with their stamps, waiting for the engine queue (R263). -/
  ptp : List (Nat × List Byte) := []
  /-- Kind 0x05 raised for the AN in use. -/
  pnWarned : Bool := false
deriving DecidableEq, Repr

end Sys2Proof.Machine
end

