-- ==== Sys2Proof/Machine/StEngine.lean ====
section
/-!
DEFINITION. Machine/StEngine.lean: the state of the engines, their caches, the home agents, HBM, the hardware queues and the
lock table (chapters 15 and 16) beyond their registers.
-/
namespace Sys2Proof.Machine

/-- A frame of the pre-emption stack (R417). -/
structure HFrame where
  pc : W64
  priv : Nat
  prio : Nat
deriving DecidableEq, Repr

/-- A store that has not been performed (R426, R433): Normal bytes at a physical address, or a Host store. -/
inductive SbEnt where
  | normal (addr : Nat) (data : List Byte)
  | host (port addr : Nat) (data : List Byte)
deriving DecidableEq, Repr

/-- A translation held by an engine TLB: virtual page, level, ASID, table entry (R395). -/
structure TlbEnt where
  vpn : Nat
  level : Nat
  asid : Nat
  pte : W64
deriving DecidableEq, Repr

/-- What a hart that is not ready waits for (R405, R407, R416, R432, R433). -/
inductive HWait where
  /-- WAITQ: queue, event flag, destination register. -/
  | queue (q : Nat) (ev : Bool) (rd : Nat)
  /-- LKACQ: the lock's key, destination register, order of arrival. -/
  | lock (key : Nat) (rd : Nat) (order : Nat)
  /-- A Host load: destination register, width, signed, its virtual address, the next pc. -/
  | hostLoad (rd width : Nat) (signed : Bool) (va npc : W64)
  /-- A Device load or store: destination register, register address, words left, the data to write or read so far, signed, the next pc. -/
  | device (rd : Nat) (write : Bool) (signed : Bool) (addr left : Nat) (data : List W32) (npc : W64)
  /-- FENCE.EP: destination register. -/
  | fenceEp (rd : Nat)
deriving DecidableEq, Repr

/-- A hart (R399–R422). Registers and CSRs unlisted read as 0. -/
structure Hart where
  pc : W64 := 0
  x : SMap W64 := []
  csr : SMap W64 := []
  /-- Privilege: 0 U, 1 S, 3 M. -/
  priv : Nat := 3
  wait : Option HWait := none
  /-- A reservation: the line, and whether the probe deferral stands (R437). -/
  resv : Option (Nat × Bool) := none
  sb : List SbEnt := []
  /-- Host stores accepted by a pier and not yet landed or failed, and whether one has failed since the last FENCE.EP. -/
  hostOut : Nat := 0
  hostFail : Bool := false
  frames : List HFrame := []
  /-- The priority of the handler that runs, while a frame stands (R417). -/
  run : Nat := 0
  tlb : List TlbEnt := []
  /-- Reset, and not yet started at RESET_PC (R420, R424). -/
  fresh : Bool := true
  /-- sxgkftcmp has been reached and bit 32 set for it. -/
  ftDone : Bool := true
  /-- The hart's reset in progress (R420). -/
  resetting : Bool := false
  /-- Instructions retired and not yet counted in the cluster's tally of used slots (R562, R565). -/
  used : Nat := 0
deriving DecidableEq, Repr

/-- MOESI states (R429). -/
inductive Mo where
  | i | s | e | o | m
deriving DecidableEq, Repr

/-- A line of a cluster's L2 (R426, R429): state, way, bytes, the poison mark with the bytes written since (R441), and
whether it stands in the retire buffer (R430). -/
structure L2Line where
  st : Mo := .i
  way : Nat := 0
  data : List Byte := []
  poison : Bool := false
  written : BitVec 64 := 0
  retiring : Bool := false
deriving DecidableEq, Repr

/-- Codes of the coherence messages (R431, Table 3). -/
inductive CCode where
  | fetchSh | fetchEx | promote | retire | ioRead | ioWrite
  | probeSh | probeEx | probeKill
  | fill | grant | none | ack | clean | dirty
deriving DecidableEq, Repr

/-- A message in flight for a line: a cluster's number, or 32 and above for an I/O agent. -/
structure CMsg where
  code : CCode
  agent : Nat
  line : Nat
  data : List Byte := []
  poison : Bool := false
  /-- Of a FILL: the state to take the line in. -/
  st : Mo := .i
deriving DecidableEq, Repr

/-- An ask at a home agent (R430): the bytes that an IO_WRITE writes are (offset, data). -/
structure CAsk where
  code : CCode
  agent : Nat
  way : Nat := 0
  off : Nat := 0
  data : List Byte := []
deriving DecidableEq, Repr

/-- The transaction that a home agent runs on a line: probes still to be answered, data gathered from an owner, and whether
the poison mark came with it. -/
structure CTx where
  ask : CAsk
  left : Nat := 0
  data : Option (List Byte) := none
  poison : Bool := false
  /-- Dirty data has moved to the requester (RETIRE against a probe, R430). -/
  moved : Bool := false
  /-- Some other cluster keeps a shared copy. -/
  shared : Bool := false
deriving DecidableEq, Repr

/-- A hardware queue's entries, oldest first, with their slot indices (R412–R415), and the count of entries ever pushed. -/
structure HwQ where
  ents : List (Nat × List Byte) := []
  pushed : Nat := 0
deriving DecidableEq, Repr

/-- A lock-table entry (R444). -/
structure Lock where
  holder : Option Nat := none
  abandoned : Bool := false
deriving DecidableEq, Repr

/-- A cluster's reset (R420): its kind, the hart for KIND 1, and stores discarded so far. -/
structure CReset where
  kind : Nat
  hart : Nat
  stall : Bool := false
  discarded : Nat := 0
deriving DecidableEq, Repr

/-- The engines and the memory system. -/
structure Eng where
  hart : SMap Hart := []
  /-- HBM: an unlisted byte reads as 0 (log 20). -/
  mem : List (Nat × Byte) := []
  /-- Lines marked poisoned in HBM (R440, R442), by line. -/
  poison : SMap Bool := []
  /-- L2 lines by cluster × 2^31 + line. -/
  l2 : SMap L2Line := []
  /-- Snoop filter by cluster × 2^31 + line: the way named (R428), and sets snooped by broadcast (kind 0x03). -/
  sf : SMap Nat := []
  sfBad : SMap Nat := []
  /-- Transactions and waiting asks by line, and messages in flight, oldest first. -/
  tx : SMap CTx := []
  asks : SMap (List CAsk) := []
  net : List CMsg := []
  /-- The data of the last I/O read by agent, taken when it completes: (bytes, poisoned). -/
  ioGot : SMap (List Byte × Bool) := []
  /-- L1I lines by engine × 2^31 + line (R426). -/
  l1i : SMap (List Byte) := []
  q : SMap HwQ := []
  lck : SMap Lock := []
  /-- Arrivals at the lock table, which order waiters of equal priority (R407). -/
  arrivals : Nat := 0
  reset : SMap CReset := []
deriving DecidableEq, Repr

end Sys2Proof.Machine
end

