-- ==== Sys2Proof/Machine/StEndpoint.lean ====
section
/-!
DEFINITION. Machine/StEndpoint.lean: the state of contexts and operations (chapter 11), message matching (chapter 12), the
reliability units and regions (chapter 13), address translation (chapter 14) and placement (chapter 17) beyond their
registers.
-/
namespace Sys2Proof.Machine

/-- CTX STATE codes (R296, Table 1). -/
abbrev CS.disabled : Nat := 0
abbrev CS.enabled : Nat := 1
abbrev CS.halted : Nat := 2
abbrev CS.resetting : Nat := 3

/-- A context's record (R296): the fields of its image, then the device's own state. -/
structure Ctx where
  state : Nat := 0
  haltCause : Nat := 0
  port : Nat := 0
  flags : Nat := 0
  pd : Nat := 0
  space : Nat := 0
  key : Nat := 0
  tcMask : Nat := 0
  cmdLog2 : Nat := 0
  cqLog2 : Nat := 0
  maxOps : Nat := 0
  cmdBase : Nat := 0
  cqBase : Nat := 0
  cqTailAddr : Nat := 0
  cqHeadAddr : Nat := 0
  cmdTail : Nat := 0
  cmdHead : Nat := 0
  cqWritten : Nat := 0
  cqHeadSeen : Nat := 0
  cqReserved : Nat := 0
  tagsHeld : Nat := 0
  parked : Nat := 0
  haltSlot : Nat := 0
  overflow : Nat := 0
  cluster : Nat := 0
  epoch : Nat := 0
  /-- Slots fetched or given inline and not yet validated, in ring order. -/
  fetched : List (Nat × List Byte) := []
  /-- Inline copies kept for slots not yet reached (R303). -/
  inline_ : List (Nat × List Byte) := []
  /-- A fetch in flight: its first slot and count; and one to repeat after a session loss (R306). -/
  fetching : Option (Nat × Nat) := none
  polling : Bool := false
  /-- Entries written since the last event record (R310). -/
  sinceEvent : Nat := 0
  /-- The management operation being carried out (context 0, R317). -/
  mgmt : Option Nat := none
  /-- CTX_DISABLE or CTX_RESET in progress: the management tag that waits, and tags released by force. -/
  closing : Option Nat := none
  /-- Further entries are not written (CTX_RESET step 3). -/
  mute : Bool := false
  /-- PLC has steered the context (R451), and when it last migrated. -/
  steered : Bool := false
  movedAt : Option Nat := none
  /-- The epoch whose operations have not all been released since the last migration, with the old cluster (R461). -/
  oldCluster : Option Nat := none
  /-- Held viaduct completions (R310), by viaduct: highest sequence passed and missing count. -/
  viaHeld : SMap (Nat × Nat) := []
deriving DecidableEq, Repr

/-- An operation, by its tag (R19). -/
structure Op where
  ctx : Nat
  opc : Nat
  flags : Nat := 0
  tc : Nat := 0
  dest : Nat := 0
  cookie : Nat := 0
  slot : Nat := 0
  desc : List Byte := []
  /-- Owner (R452) and position in tag-assignment order. -/
  cluster : Nat := 0
  epoch : Nat := 0
  order : Nat := 0
  /-- The descriptor's own row has carried it out. -/
  started : Bool := false
  /-- Handler entry (R457, R458): 0 none, 1 pushed and waiting, 2 done, 3 to be pushed once its queue has room, 4 to be
pushed again. -/
  handler : Nat := 0
  flow : Nat := 0
  /-- A SEND that uses rendezvous (R334). -/
  rdv : Bool := false
  chan : Option Nat := none
  mseq : Option Nat := none
  /-- Staged payload: 0 none, 1 SRAM, 2 HBM (R463). -/
  staged : Nat := 0
  /-- Packets of the operation, packets built, and packets retired. -/
  segs : Nat := 0
  built : Nat := 0
  retired : Nat := 0
  /-- Payload read and not yet built into a packet, by segment. -/
  ready : SMap (List Byte) := []
  /-- No further packet is sent (R72, R366), and the refusal of the lowest sequence: (sequence, status, DETAIL). -/
  stop : Bool := false
  fail : Option (Nat × Nat × Nat) := none
  /-- Segments or chunks landed, returned or complete. -/
  done : List Nat := []
  /-- Chunks resent, with the count (R247), by chunk. -/
  resent : SMap Nat := []
  /-- A packet of the operation has been sent. -/
  sent : Bool := false
  /-- Cancelled by CTX_RESET: its completion writes nothing. -/
  dead : Bool := false
deriving DecidableEq, Repr

/-- What an endpoint memory job serves. -/
inductive Who where
  /-- A segment of an operation's payload (R463). -/
  | payload (tag k : Nat)
  /-- The deposit of a response at the requester (R364): the segment's offset. -/
  | reply (tag off : Nat)
  /-- The deposit of a message's segment (R332). -/
  | recv (msg seg : Nat)
  /-- A PUT or PUT_NOTIFY at the target (R353), a GET_REQ (R363), and an ATOMIC's read and write (R349). -/
  | put (chan seq : Nat)
  | get (chan seq : Nat)
  | atomRead (chan seq : Nat)
  | atomWrite (chan seq : Nat)
  /-- A collective result, broadcast or gather chunk at a member context (R243), and a chunk staged for a re-pull (R240). -/
  | coll (tag chunk : Nat)
  | viaDep (ctx via slot : Nat)
  | viaRead (tag k : Nat)
deriving DecidableEq, Repr

/-- A memory job: a range of virtual addresses of one space read or written page by page. -/
structure Job where
  who : Who
  ctx : Nat
  space : Nat
  va : Nat
  len : Nat
  write : Bool
  atomic : Bool := false
  data : List Byte := []
  /-- The first byte not yet issued, fragments not yet answered, and data read so far by offset. -/
  next : Nat := 0
  outst : Nat := 0
  got : SMap (List Byte) := []
  /-- The first failure: Span status and virtual address. -/
  failed : Option (Nat × Nat) := none
  /-- A resolvable fault that holds or parks it: code and level (R386), and its park slot. -/
  fault : Option (Nat × Nat) := none
  slot : Option Nat := none
  /-- The region that admitted it (R371). -/
  region : Option Nat := none
  /-- The channel packet it answers, and the pipeline it arrived on. -/
  pkt : List Byte := []
  pipe : Nat := 0
  /-- Fully issued has been told. -/
  issued : Bool := false
  /-- An ATOMIC's host port and physical address, once translated (R349), and whether it waits for its granule. -/
  atomAt : Option (Nat × Nat) := none
  atomWait : Bool := false
deriving DecidableEq, Repr

/-- What has happened to a job. -/
inductive JobEv where
  /-- Every byte has been passed to a pier. -/
  | issued
  /-- Translation found a fault: code and level (R386). -/
  | fault (code level : Nat)
  /-- Every fragment has been answered. -/
  | done
  /-- Its fault is reported unresolvable (R368, R388, R389). -/
  | unresolved
deriving DecidableEq, Repr

/-- An address space entry (R375). -/
structure Space where
  pd : Nat := 0
  key : Nat := 0
  root : Nat := 0
  /-- The key that is valid: a SPACE_SET changes it when it completes (R376). -/
  okKey : Option Nat := none
deriving DecidableEq, Repr

/-- A region entry (R352). -/
structure Region where
  valid : Bool := false
  gen : Nat := 0
  pd : Nat := 0
  rights : Nat := 0
  base : Nat := 0
  len : Nat := 0
  key : Nat := 0
deriving DecidableEq, Repr

/-- A leaf in a translation cache (R391). -/
structure TEnt where
  space : Nat
  level : Nat
  vpn : Nat
  pte : W64
deriving DecidableEq, Repr

/-- A non-leaf in a walk cache (R391): the level of the table it leads to, the address bits above it, and the table. -/
structure WEnt where
  space : Nat
  level : Nat
  pre : Nat
  table : Nat
deriving DecidableEq, Repr

/-- A walk (R381): the page, the level and table of its next step, and whether it used a walk-cache entry. -/
structure Walk where
  space : Nat
  va : Nat
  level : Nat := 3
  table : Nat
  cached : Bool := false
  jobs : List Nat := []
deriving DecidableEq, Repr

/-- An invalidation (R392): scope, space, first page, pages, flags, and the management tag or none for a register. -/
structure Inval where
  scope : Nat
  space : Nat
  va : Nat := 0
  pages : Nat := 1
  resume : Bool := false
  abandon : Bool := false
  tag : Option Nat := none
  /-- It completes a SPACE_SET (R376). -/
  spaceSet : Bool := false
  /-- Jobs with accesses translated through what it removed (R393 item 3). -/
  waits : List Nat := []
deriving DecidableEq, Repr

/-- A translation unit. -/
structure Xlt where
  tc : List TEnt := []
  wc : List WEnt := []
  walks : List Walk := []
  inv : Option Inval := none
  invQ : List Inval := []
deriving DecidableEq, Repr

/-- An unretired channel packet (R358, R359). -/
structure TxPk where
  seq : Nat
  opc : Nat
  tag : Option Nat
  bytes : List Byte
  /-- The message and segment that a pull or a closing packet of a rendezvous serves (R335, R337). -/
  msg : Option (Nat × Nat) := none
  retries : Nat := 0
  suspended : Bool := false
  /-- It stands in an injection queue, to be sent again. -/
  queued : Bool := false
  /-- The candidate that carried the last copy (R84): destination router and index, and its path word. -/
  cand : Option (Nat × Nat × Nat) := none
deriving DecidableEq, Repr

/-- Why a received packet is not acknowledgeable (R356). -/
inductive Hold where
  | fence
  | work
  | notify
  | parked
  /-- Refused, with the ACCESS_NAK that is sent again (R367). -/
  | refused (nak : List Byte)
deriving DecidableEq, Repr

/-- A received packet that is not acknowledgeable. -/
structure RxEnt where
  seq : Nat
  hold : Hold
  bytes : List Byte := []
  pipe : Nat := 0
deriving DecidableEq, Repr

/-- A PUT_NOTIFY operation at its target (R350). -/
structure Notify where
  value : Nat
  len : Nat
  landed : List Nat := []
  lastSeq : Option Nat := none
deriving DecidableEq, Repr

/-- A peer channel (R354). -/
structure Chan where
  ctx : Nat
  remote : Nat
  /-- Send half: next sequence, unretired packets oldest first, next message sequence, last packet sent. -/
  next : Nat := 0
  unret : List TxPk := []
  mseq : Nat := 0
  sentAt : Nat := 0
  txFresh : Bool := true
  /-- Receive half: E, marks above E, NEXT_MATCH, packets not acknowledgeable, last packet received. -/
  e : Nat := 0
  marks : List Nat := []
  nextMatch : Nat := 0
  rx : List RxEnt := []
  rxFresh : Bool := true
  /-- Packets acknowledgeable since the last ACK, their CE, and the pipeline of the newest. -/
  sinceAck : Nat := 0
  ce : Bool := false
  pipe : Nat := 0
  notify : SMap Notify := []
deriving DecidableEq, Repr

/-- A posted receive (R325) with its stamp (R328). -/
structure Post where
  ctx : Nat
  tag : Nat
  ignore : Nat
  src : Nat
  comm : Nat
  anySrc : Bool
  handler : Bool
  buf : Nat
  len : Nat
  id : Nat
  stamp : Nat
deriving DecidableEq, Repr

/-- How a message stands (R329, R330). -/
inductive MSt where
  | held | unexpected | bound (p : Post)
deriving DecidableEq, Repr

/-- A message entry (R333), in the order in which messages were matched. -/
structure Msg where
  ctx : Nat
  chan : Nat
  mseq : Nat
  tag : Nat
  len : Nat
  comm : Nat
  src : Nat
  st : MSt
  /-- Position in the unexpected list (R330). -/
  order : Nat := 0
  opc : Nat := 0
  /-- Segments arrived, segments landed, and staged payload by segment with its place (R464). -/
  seen : List Nat := []
  landed : List Nat := []
  staged : SMap (List Byte) := []
  inHbm : Option Bool := none
  /-- Rendezvous (R335): LOCAL_ADDR, the RTS's tag, segments requested, the sender's class. -/
  rdv : Option (Nat × Nat) := none
  pulled : Nat := 0
  pullTag : Nat := 0
  tc : Nat := 0
  /-- It ends with this status and DETAIL once its accesses and pulls have ended. -/
  bad : Option (Nat × Nat) := none
  /-- A closing packet that waits for the channel's window (R337, R355): opcode and payload. -/
  closing : Option (Nat × List Byte) := none
deriving DecidableEq, Repr

/-- A matching unit. -/
structure Mat where
  posts : List Post := []
  stamp : Nat := 0
  /-- Ring receives that wait for room, oldest first (R326). -/
  waiting : List Nat := []
  /-- Hook records that wait for their queue (R343), with the context. -/
  hooks : List (Nat × List Byte) := []
  /-- Decisions that wait behind a hook record, by context: packets of messages. -/
  order : Nat := 0
deriving DecidableEq, Repr

/-- The response cache entry of an ATOMIC (R363). -/
structure Resp where
  status : Nat
  value : List Byte
deriving DecidableEq, Repr

/-- A region being revoked (R371): the management tag, packets refused, the fabric time of phase 1. -/
structure Revoke where
  region : Nat
  tag : Nat
  refused : Nat := 0
  at_ : Nat := 0
deriving DecidableEq, Repr

/-- The endpoint blocks. -/
structure Ep where
  ctx : SMap Ctx := []
  /-- The context cache, most recent first (R296). -/
  lru : List Nat := []
  op : SMap Op := []
  assigned : Nat := 0
  job : SMap Job := []
  nextJob : Nat := 0
  jev : List (Nat × JobEv) := []
  space : SMap Space := []
  region : SMap Region := []
  xlt : SMap Xlt := []
  chan : SMap Chan := []
  /-- Operations that wait for a channel entry or a send-half reset, oldest first (R354, R361). -/
  chanWait : List Nat := []
  resp : SMap Resp := []
  revoke : Option Revoke := none
  msg : SMap Msg := []
  mat : SMap Mat := []
  /-- The local times at which automatic migrations were made (R459), and since when a cluster's score has been low. -/
  migrations : List Nat := []
  lowSince : SMap Nat := []
  /-- Staged HBM and SRAM cells in use (R463), by switch die. -/
  stagedCells : SMap Nat := []
deriving DecidableEq, Repr

end Sys2Proof.Machine
end

