-- ==== Sys2Proof/Machine/StColl.lean ====
section
/-!
DEFINITION. Machine/StColl.lean: the state of the Abacus slices and of collective trees (chapters 07 and 08) beyond their
registers and tables.
-/
namespace Sys2Proof.Machine

/-- An accumulator (R203): its bead cells (D, C) and its head cell; `cur` is the value of a MIN or MAX. -/
structure Acc where
  beads : List (Nat × Int) := []
  adds : Nat := 0
  nan : Bool := false
  pinf : Bool := false
  ninf : Bool := false
  invalid : Bool := false
  zpos : Bool := true
  zneg : Bool := true
  res : Nat := 0
  cur : Option Nat := none
deriving DecidableEq, Repr

/-- How a window key stands (R223, R239, R244). -/
inductive WPh where
  | open_ | sent | tomb | failed
  /-- The copy window of a broadcast or gather chunk at the root (R239, R247). -/
  | copy
deriving DecidableEq, Repr

/-- A window (R222, R236–R244). -/
structure Window where
  ph : WPh := .open_
  tree : Nat
  inst : Nat
  chunk : Nat
  fmt : Nat := 0
  red : Nat := 0
  /-- Contributors fixed at allocation, NEXT by contributor, and those complete. -/
  contribs : List Nat := []
  next : SMap Nat := []
  complete : List Nat := []
  /-- The chunk's element count, once some contributor has ended. -/
  count : Option Nat := none
  /-- Contributions represented, and the status flags of R214. -/
  total : Nat := 0
  flags : Nat := 0
  acc : SMap Acc := []
  inHbm : Bool := false
  units : Nat := 0
  /-- Waiting to be filled back into SRAM (R224). -/
  filling : Bool := false
  /-- The last packet's tag, for details. -/
  tag : Nat := 0
  /-- Consecutive re-pulls without progress, and progress since the last (R240, R244). -/
  repulls : Nat := 0
  progress : Bool := true
  /-- The rounded result at the root, or a copied chunk: packets as (first element, count, payload bytes, LAST). -/
  out : List (Nat × Nat × List Byte × Bool) := []
  /-- Order of last update, for spilling (R224). -/
  used : Nat := 0
deriving DecidableEq, Repr

/-- A barrier instance at a member (R248). -/
structure Bar where
  ph : WPh := .open_
  contribs : List Nat := []
  arrived : List Nat := []
  repulls : Nat := 0
  progress : Bool := true
deriving DecidableEq, Repr

/-- Collectives. Windows by tree × 2^48 + instance × 2^16 + chunk; barriers by tree × 2^32 + instance. -/
structure Coll where
  win : SMap Window := []
  bar : SMap Bar := []
  /-- Packets that wait for window space, a key, a fill or a barrier instance, oldest first: (key wanted, packet). -/
  waiting : List (Nat × Dlv) := []
  used : Nat := 0
  /-- Keys for which a wait for window space has been reported (R225). -/
  stalled : List Nat := []
  /-- Trees whose entry was found bad, and is not used until it is rewritten and committed (R103). -/
  bad : List Nat := []
deriving DecidableEq, Repr

end Sys2Proof.Machine
end

