-- ==== Sys2Proof/Machine/State.lean ====
section
/-!
DEFINITION. Machine/State.lean: the whole state of the block, as plain data, the reasons a step can stop, and the state
after reset.
-/
namespace Sys2Proof.Machine

/-- What the device has put out on its pins: newest first in `State.out`. -/
inductive Emit where
  /-- A flit's content bytes on a fabric link (R104). -/
  | flit (link : Nat) (content : List Byte)
  /-- A 256-bit training frame on a lane (R153). -/
  | training (lane : Nat) (frame : BitVec 256)
  /-- An Ethernet frame with its FCS on a host port, or on the management port as port 64 (R257, R265). -/
  | frame (port : Nat) (bytes : List Byte)
deriving DecidableEq, Repr

/-- Fabric time and its servo live in the VIA block; the count itself is in the keeper domain (R25, R173). -/
structure TimeSt where
  /-- The 64-bit nanosecond count (R8). -/
  now : W64 := 0
  /-- Fraction of a nanosecond gathered by the rate adjustment, in units of 2^−32 ns (R173). -/
  frac : Nat := 0
deriving DecidableEq, Repr

/-- The state of the device. -/
structure State where
  pending : List Instr := []
  out : List Emit := []
  /-- Local time in nanoseconds since power-on, which rate limits are counted in (log 2). -/
  clk : Nat := 0
  /-- The model's own counter of free values taken (log 3). -/
  free : Nat := 0
  time : TimeSt := {}
  regs : Regs := {}
  kst : Keystone := {}
  pwr : Power := {}
  sec : Sec := {}
  rfa : Rfa := {}
  tap : Tap := {}
  tal : Tally := {}
  lnk : SMap Link := []
  srd : SMap Lane := []
  /-- Lanes whose PRBS checker is locked (R166). -/
  prbs : SMap Bool := []
  til : SMap Tile := []
  hpt : SMap Port := []
  spn : SMap Pier := []
  /-- Memory accesses ended and not yet handled by what waited for them: (waiter, Span status, data). -/
  ended : List (Waiter × Nat × List Byte) := []
  fwd : Fwd := {}
  rou : Rou := {}
  sch : Sched := {}
  via : Via := {}
  eng : Eng := {}
  ep : Ep := {}
  coll : Coll := {}
  /-- Event bits of harts (R416), by hart. -/
  evt : SMap W64 := []
deriving DecidableEq, Repr

/-- Reasons the machine stops with a fault. No command of this block faults. -/
inductive Fault where
  /-- Raised by nothing: the block reports its failures through Keystone and goes on. Safe. -/
  | none
deriving DecidableEq, Repr

/-- Reasons a command is refused. -/
inductive Refusal where
  /-- Answered by the dispatch for a command that has no meaning yet. Safe: the machine stops. -/
  | notModelled (mnemonic : String)
deriving DecidableEq, Repr

/-- The state right after power-on: every register at its reset value, the device held in power-on reset (log 1). -/
def State.reset : State := {}

end Sys2Proof.Machine
end

