-- ==== Sys2Proof/Machine/Ops.lean ====
section
/-!
DEFINITION. Machine/Ops.lean: the named operations every block shares: register fields, counters with their tally slots,
injections, Keystone records with their notifications, the reaction timer and the safe state, and the wake of domains.
-/
namespace Sys2Proof.Machine

/-- The outcome type of a step. -/
abbrev Out := Host.Outcome State Fault Refusal

/-! ## Registers -/

/-- The active word at a register address. -/
def State.rd (s : State) (a : Nat) : W32 := (mfind s.regs.act a).getD (regReset a)

/-- The state with the active word at a register address replaced. -/
def State.wr (s : State) (a : Nat) (v : W32) : State :=
  { s with regs := { s.regs with act := mput (regReset a) s.regs.act a v } }

/-- The shadow word of an RWS register (R583). -/
def State.rdShadow (s : State) (a : Nat) : W32 := (mfind s.regs.shadow a).getD (regReset a)

/-- The state with a shadow word replaced. -/
def State.wrShadow (s : State) (a : Nat) (v : W32) : State :=
  { s with regs := { s.regs with shadow := mput (regReset a) s.regs.shadow a v } }

/-- The active value of a field of instance `n`, array index `i`; a field wider than 32 bits is a pair (R10). -/
def State.fld (s : State) (f : Fld) (n : Nat := 0) (i : Nat := 0) : Nat :=
  let a := f.addr n i
  if f.w ≤ 32 then bits (s.rd a) f.lo f.w
  else (s.rd a).toNat + (s.rd (a + 4)).toNat % 2 ^ (f.w - 32) * 2 ^ 32

/-- A one-bit field. -/
def State.flag (s : State) (f : Fld) (n : Nat := 0) (i : Nat := 0) : Bool := s.fld f n i == 1

/-- The state with a field's active value replaced. -/
def State.setFld (s : State) (f : Fld) (v : Nat) (n : Nat := 0) (i : Nat := 0) : State :=
  let a := f.addr n i
  if f.w ≤ 32 then s.wr a (setBits (s.rd a) f.lo f.w v)
  else (s.wr a (BitVec.ofNat 32 v)).wr (a + 4) (setBits (s.rd (a + 4)) 0 (f.w - 32) (v / 2 ^ 32))

/-- A field of the common page header (R579). -/
def State.hdr (s : State) (b : Blk) (n : Nat) (f : HFld) : Nat := bits (s.rd (b.addr n f.off)) f.lo f.w

/-- The state with a header field replaced. -/
def State.setHdr (s : State) (b : Blk) (n : Nat) (f : HFld) (v : Nat) : State :=
  s.wr (b.addr n f.off) (setBits (s.rd (b.addr n f.off)) f.lo f.w v)

/-- A block instance runs: CTRL.ENABLE is 1 (R580) and its page has no parity error, which acts as ENABLE 0 (R502, R589). -/
def State.enabled (s : State) (b : Blk) (n : Nat) : Bool := s.hdr b n F.HDR_CTRL_ENABLE == 1 && s.hdr b n F.HDR_PAGE_PARITY_ERROR == 0

/-- A 64-bit pair written whole. -/
def State.wr64 (s : State) (a : Nat) (v : W64) : State :=
  (s.wr a (v.setWidth 32)).wr (a + 4) ((v >>> 32).setWidth 32)

/-- A 64-bit pair read whole. -/
def State.rd64 (s : State) (a : Nat) : W64 := BitVec.ofNat 64 ((s.rd a).toNat + (s.rd (a + 4)).toNat * 2 ^ 32)

/-- Fabric time as a number (R8). -/
def State.ftime (s : State) : Nat := s.time.now.toNat

/-- Fabric time in quarter nanoseconds, the resolution of stamps (R175). -/
def State.stampQ (s : State) : Nat := s.ftime * 4 + s.time.frac / 2 ^ 30

/-- One fresh free value's index, and the state that has used it (log 3). -/
def State.takeFree (s : State) : Nat × State := (s.free, { s with free := s.free + 1 })

/-- Something put out on the pins. -/
def State.emit (s : State) (e : Emit) : State := { s with out := e :: s.out }

/-! ## Counters and tallies (R565, R566) -/

/-- The offsets of a block's counters in the order in which its tally slots take them (R565). -/
def tallyOffsets : Blk → List Nat
  | .fwd => [0x140, 0x144, 0x148, 0x14C, 0x150, 0x154, 0x158, 0x15C]
  | .lnk => [0x130, 0x134, 0x138, 0x13C, 0x140, 0x144, 0x148, 0x14C]
  | .hpt => [0x170, 0x174, 0x178, 0x17C, 0x180, 0x184, 0x188, 0x18C, 0x190, 0x194, 0x198]
  | .spn => [0x170, 0x174, 0x178, 0x17C, 0x180, 0x184, 0x188, 0x18C, 0x190, 0x194, 0x198, 0x19C, 0x1A4]
  | .abc => [0x120, 0x124, 0x128, 0x12C, 0x130, 0x134, 0x138, 0x13C, 0x140]
  | .mat => [0x130, 0x134, 0x138, 0x13C, 0x140, 0x144, 0x148, 0x14C, 0x150]
  | .rel => [0x120, 0x124, 0x128, 0x12C, 0x130, 0x134, 0x138, 0x13C, 0x140, 0x144, 0x148, 0x14C, 0x150]
  | .sch => [0x140, 0x144, 0x148, 0x14C, 0x150]
  | .xlt => [0x140, 0x144, 0x148, 0x14C, 0x150, 0x154, 0x158, 0x15C, 0x160]
  | .eng => [0x160, 0x164, 0x168, 0x16C, 0x170]
  | .ctg => [0x110, 0x114, 0x118, 0x11C, 0x120, 0x124, 0x128]
  | _ => []

/-- The first lane of a link's active configuration. -/
def State.firstLane (s : State) (l : Nat) : Nat := s.fld F.LNK_CFG_FIRST_LANE l

/-- The tile of a link: that of its first lane (R14). -/
def State.linkTile (s : State) (l : Nat) : Nat := s.firstLane l / 16

/-- The bank and slot that count the same events as a counter (R564, R565). -/
def State.tallySlot (s : State) (b : Blk) (n off : Nat) : Option (Nat × Nat) :=
  match (tallyOffsets b).findIdx? (· == off) with
  | none => none
  | some i =>
    match b with
    | .fwd => some (n, i)
    | .lnk => some (s.linkTile n, 8 + 8 * (s.firstLane n % 16) + i)
    | .hpt => if n < 64 then some (32 + n, i) else none
    | .spn => if n < 64 then some (32 + n, 16 + i) else none
    | .abc => some (96 + n, i)
    | .mat => some (112 + n, i)
    | .rel => some (128 + n, i)
    | .sch => some (144 + n, i)
    | .xlt => some (160 + n, i)
    | .eng => some (192 + n, i)
    | .ctg => some (224 + n / 4, 32 * (n % 4) + i)
    | _ => none

/-- Add `k` to a live tally counter; a wrap sets the slot's OVF bit (R566). -/
def State.tally (s : State) (bank slot k : Nat) : State :=
  let key := bank * 256 + slot
  let v := (mget 0#64 s.tal.live key).toNat + k
  let s1 := { s with tal := { s.tal with live := mput 0#64 s.tal.live key (BitVec.ofNat 64 v) } }
  if v < 2 ^ 64 then s1
  else
    let a := Blk.tal.addr bank (0x120 + 4 * (slot / 32))
    s1.wr a (s1.rd a ||| BitVec.ofNat 32 (2 ^ (slot % 32)))

/-- Count `k` events in a saturating CNT register, and in the tally slot that counts the same events. -/
def State.count (s : State) (f : Fld) (n : Nat) (k : Nat := 1) (i : Nat := 0) : State :=
  let s1 := s.setFld f (satAdd f.w (s.fld f n i) k) n i
  match s1.tallySlot f.blk n f.off with
  | some (b, sl) => s1.tally b sl k
  | none => s1

/-! ## Injections -/

/-- An injection bit written and not yet used. -/
def State.armed (s : State) (f : Fld) (n : Nat) : Bool := bitAt (mget 0#32 s.regs.inj (f.addr n 0)) f.lo

/-- Arm or use up an injection bit. -/
def State.setArmed (s : State) (f : Fld) (n : Nat) (on : Bool) : State :=
  let a := f.addr n 0
  let w := setBits (mget 0#32 s.regs.inj a) f.lo 1 (if on then 1 else 0)
  { s with regs := { s.regs with inj := mput 0#32 s.regs.inj a w } }

/-! ## Keystone (chapter 19) -/

/-- The severity entry of a kind (R504). -/
def State.severity (s : State) (src kind : Nat) : Nat :=
  bits (s.rd (0x3400000 + 64 * src + 4 * (kind / 16))) (2 * (kind % 16)) 2

/-- The block page of a source, for its EVT_PEND bits (R518). HPT and its pier share a source; kinds 0x10–0x1F are the pier's. -/
def sourcePage (src kind : Nat) : Option (Blk × Nat) :=
  match srcBlk src with
  | .lnk => some (.lnk, src)
  | .hpt => if 0x10 ≤ kind ∧ kind < 0x20 then some (.spn, src - 256) else some (.hpt, src - 256)
  | .til => some (.til, src - 320)
  | .eng0 | .eng1 => some (.eng, (src - 352) / 2)
  | .abc => some (.abc, src - 416)
  | .hbm => some (.hbm, (src - 432) / 4)
  | .fwd => some (.fwd, src - 448)
  | .hom => some (.hom, src - 480)
  | .xlt => some (.xlt, 2 * (src - 488) + (if kind ≥ 0x80 ∧ kind < 0xF0 then 1 else 0))
  | .lck => some (.lck, 0)
  | .ctg => some (.ctg, src - 512)
  | .mat => some (.mat, src - 640)
  | .rel => some (.rel, src - 656)
  | .sch => some (.sch, src - 672)
  | .plc => some (.plc, 0)
  | .rou => some (.rou, 0)
  | .tre => some (.tre, 0)
  | .via => some (.via, 0)
  | .pwr => some (.pwr, 0)
  | .clk => some (.clk, 0)
  | .sns => some (.sns, 0)
  | .sec => some (.sec, 0)
  | .dev => some (.dev, 0)
  | .mgt => some (.mgt, 0)
  | .kst => some (.kst, 0)
  | .rfa => some (.rfa, 0)
  | .die | .reserved => none

/-- The EVT bit of a kind: bit 7 cleared for the XLT pairs, kinds from 31 upward at bit 31 (R518). -/
def evtBit (src kind : Nat) : Nat :=
  let k := if srcBlk src = .xlt ∧ kind < 0xF0 then kind % 128 else kind
  min k 31

/-- Live records: written and not yet retired (R506). -/
def State.logLive (s : State) : Nat :=
  seqDist 32 (s.fld F.KST_LOG_TAIL_COUNT) (s.fld F.KST_LOG_HEAD_COUNT)

/-- The record in the slot of a count (R506). -/
def State.logRec (s : State) (c : Nat) : KRec := mget {} s.kst.log (c % 1024)

/-- The counts of the live records, oldest first. -/
def State.liveCounts (s : State) : List Nat :=
  (List.range s.logLive).map (fun i => (s.fld F.KST_LOG_HEAD_COUNT + i) % 2 ^ 32)

/-- The live record of severity 1 or higher of a source, by count: an event merges into it (R506). -/
def State.mergeInto (s : State) (src : Nat) : Option Nat :=
  s.liveCounts.find? (fun c => decide ((s.logRec c).src = src) && decide (1 ≤ (s.logRec c).sev))

/-- Some live record is of severity `v` or higher. -/
def State.liveSeverity (s : State) (v : Nat) : Bool := s.liveCounts.any (fun c => decide (v ≤ (s.logRec c).sev))

/-- Store a record in the slot of a count. -/
def State.setRec (s : State) (c : Nat) (r : KRec) : State :=
  { s with kst := { s.kst with log := mput {} s.kst.log (c % 1024) r } }

/-- Set an event bit of a hart (R416). -/
def State.setEvt (s : State) (hart bit : Nat) : State :=
  { s with evt := mput 0#64 s.evt hart (mget 0#64 s.evt hart ||| BitVec.ofNat 64 (2 ^ bit)) }

/-- The notifications of a record newly of severity 1 or higher (R509). ALERT_OUT follows from the live records. -/
def State.notifyRec (s : State) (c : Nat) : State :=
  let s1 := { s with kst := { s.kst with gather := s.kst.gather ++ [s.logRec c] } }
  if s1.flag F.KST_NOTIFY_EN then s1.setEvt (s1.fld F.KST_NOTIFY_HART) 33 else s1

/-- Start the reaction timer for the record of a count, unless it runs (R510). -/
def State.startReaction (s : State) (c : Nat) : State :=
  match s.kst.react with
  | some _ => s
  | none =>
    let us := min (s.fld F.KST_REACT_US) 10000
    let clocks := (us * 15625 + 99) / 100
    { s with kst := { s.kst with react := some (10 * s.clk + 64 * clocks), reactSlot := c % 1024 } }

/-- Write a new record and do what its severity asks (R499, R506, R509, R510); `timer` false writes it without the timer. -/
def State.writeRec (s : State) (r : KRec) (timer : Bool) : State :=
  let c := s.fld F.KST_LOG_TAIL_COUNT
  let s1 := (s.setRec c r).setFld F.KST_LOG_TAIL_COUNT (c + 1)
  let s2 := s1.count F.KST_CNT_RECORDS_COUNT 0
  let s3 := if 1 ≤ r.sev then s2.notifyRec c else s2
  if r.sev = 3 ∧ timer then s3.startReaction c else s3

/-- Merge an event into the live record of a count (R506). -/
def State.mergeRec (s : State) (c : Nat) (kind sev : Nat) (detail : W64) (timer : Bool) : State :=
  let r := s.logRec c
  let up := decide (r.sev < sev)
  let r1 := { r with rep := min (r.rep + 1) 63 }
  let r2 := if up then { r1 with sev := sev, kind := kind, detail := detail } else r1
  let s1 := (s.setRec c r2).count F.KST_CNT_MERGED_COUNT 0
  if up ∧ sev = 3 ∧ timer then s1.startReaction c else s1

/-- Retire the oldest live record (R507). -/
def State.retireOldest (s : State) : State :=
  s.setFld F.KST_LOG_HEAD_COUNT (s.fld F.KST_LOG_HEAD_COUNT + 1)

/-- Whether a new record of a source finds its limit reached (R507). -/
def State.logFull (s : State) (src : Nat) : Bool :=
  if src = 752 then decide (1024 ≤ s.logLive)
  else decide (1024 ≤ s.logLive) || decide (1008 ≤ (s.liveCounts.filter (fun c => decide ((s.logRec c).src ≠ 752))).length)

/-- An overflow of the log: KST kind 0x01, later overflows merging into its record with a fresh detail (R506, R507, R521). -/
def State.logOverflow (s : State) (timer : Bool) : State :=
  let s1 := s.count F.KST_CNT_LOST_COUNT 0
  let live := s1.logLive
  let own := s1.liveCounts.find? (fun c => decide ((s1.logRec c).src = 752) && decide (1 ≤ (s1.logRec c).sev))
  own.elim
    (if s1.logFull 752 then s1
     else s1.writeRec { src := 752, kind := 0x01, sev := 3, time := s1.ftime % 2 ^ 38,
                        detail := BitVec.ofNat 64 (2 ^ 32 + live % 1024) } timer)
    (fun c =>
      let r := s1.logRec c
      let lost := if r.kind = 0x01 then min (r.detail.toNat / 2 ^ 32 + 1) (2 ^ 32 - 1) else 1
      let s2 := s1.mergeRec c 0x01 3 (BitVec.ofNat 64 (lost * 2 ^ 32 + live % 1024)) timer
      if r.kind = 0x01 then
        s2.setRec c { s2.logRec c with detail := BitVec.ofNat 64 (lost * 2 ^ 32 + live % 1024) }
      else s2)

/-- Set the EVT_PEND bit of an event on its instance's page (R518). -/
def State.pend (s : State) (src kind : Nat) : State :=
  match sourcePage src kind with
  | none => s
  | some (b, n) =>
    let a := b.addr n 0x014
    s.wr a (s.rd a ||| BitVec.ofNat 32 (2 ^ evtBit src kind))

/-- An event of a stated severity reaches Keystone: it is merged or written, or lost to a full log (R506, R507). -/
def State.keyEvent (s : State) (src kind sev : Nat) (detail : W64) (timer : Bool) : State :=
  let s := s.pend src kind
  let r : KRec := { src := src, kind := kind, sev := sev, rep := 0, time := s.ftime % 2 ^ 38, detail := detail }
  (s.mergeInto src).elim
    (if s.logFull src then
      if s.logLive ≠ 0 ∧ (s.logRec (s.fld F.KST_LOG_HEAD_COUNT)).sev = 0 ∧ s.flag F.KST_CFG_S0_OVERWRITE then
        (s.retireOldest.count F.KST_CNT_S0_DROPPED_COUNT 0).writeRec r timer
      else if sev = 0 then s.count F.KST_CNT_S0_DROPPED_COUNT 0
      else s.logOverflow timer
    else s.writeRec r timer)
    (fun c => s.mergeRec c kind sev detail timer)

/-! ## The safe state (R511, R516) -/

/-- SAFE.ACTIVE. -/
def State.safe (s : State) : Bool := s.flag F.KST_SAFE_ACTIVE

/-- PWR.STATE.THERMAL_HOLD (R533). -/
def State.thermalHold (s : State) : Bool := s.flag F.PWR_STATE_THERMAL_HOLD

/-- Boot hold: DEV.BOOT.STAGE reads 0xE (R550). -/
def State.bootHold (s : State) : Bool := s.fld F.DEV_BOOT_STAGE == 0xE

/-- LSTATE.STATE codes (R144). -/
abbrev LS.disabled : Nat := 0
abbrev LS.training : Nat := 1
abbrev LS.param : Nat := 2
abbrev LS.creditInit : Nat := 3
abbrev LS.active : Nat := 4
abbrev LS.quiet : Nat := 5
abbrev LS.down : Nat := 6

/-- The link's state beyond its registers. -/
def State.link (s : State) (l : Nat) : Link := mget {} s.lnk l

/-- The state with a link's own state replaced. -/
def State.setLink (s : State) (l : Nat) (k : Link) : State := { s with lnk := mput {} s.lnk l k }

/-- LSTATE.STATE of a link. -/
def State.lstate (s : State) (l : Nat) : Nat := s.fld F.LNK_LSTATE_STATE l

/-- A bypass message (R132). -/
def bypMsg (type payload : Nat) : BitVec 62 := BitVec.ofNat 62 (type * 2 ^ 56 + payload % 2 ^ 56)

/-- LINK_STATE with a state and a reason (R132, Table 6). -/
def linkStateMsg (st reason : Nat) : BitVec 62 := bypMsg 0x05 (st * 2 ^ 52 + reason * 2 ^ 44)

/-! ## Fabric time on the loss of a link (R178, R179) -/

/-- A quotient; where it is not whole and no rounding is stated, up or down by a free value (log 15). -/
def divR (n d : Int) : Int := if n % d ≠ 0 ∧ Config.roundUp n then n / d + 1 else n / d

def State.setServo (s : State) (v : Servo) : State := { s with via := { s.via with servo := v } }

/-- The link from which a follower takes its exchanges (R178, R179). -/
def State.timeLink (s : State) : Nat := if s.via.servo.useAlt then s.fld F.VIA_TIME_CFG_ALT else s.fld F.VIA_TIME_CFG_PARENT

/-- A follower returns to PARENT once PARENT has given 16 valid exchanges and ALT has failed (R179). -/
def State.backToParent (s : State) : State :=
  let v := s.via.servo
  if v.useAlt ∧ v.altFailed ∧ 16 ≤ v.parentGood then
    (s.setServo { v with useAlt := false, altFailed := false, parentGood := 0 }).setFld F.VIA_TIME_STATUS_LINK (s.fld F.VIA_TIME_CFG_PARENT)
  else s

/-- LOCKED is left for HOLDOVER: the rate is frozen at the mean of the last 16 exchanges, and ALT is taken up where it may
be (R178, R179). -/
def State.enterHoldover (s : State) (timer : Bool) : State :=
  let v := s.via.servo
  let mean := if v.rates = [] then v.rate else divR v.rates.sum v.rates.length
  let alt := s.fld F.VIA_TIME_CFG_ALT
  let take := !v.useAlt && s.flag F.VIA_TIME_CFG_ALT_VALID && decide (s.lstate alt = LS.active)
  let l := s.timeLink
  let v := { v with rate := mean, good := 0 }
  let s := s.setServo (if take then { v with useAlt := true, altFailed := false, parentGood := 0 } else v)
  let s := s.setFld F.VIA_TIME_STATUS_STATE 2
  let s := if take then s.setFld F.VIA_TIME_STATUS_LINK alt else s
  s.keyEvent 691 0x01 (s.severity 691 0x01) (BitVec.ofNat 64 l) timer

/-- A link has gone down: a LOCKED follower that used it enters HOLDOVER, and ALT has failed where it was ALT (R178, R179). -/
def State.timeLinkDown (s : State) (l : Nat) (timer : Bool) : State :=
  if s.fld F.VIA_TIME_CFG_ROLE ≠ 0 ∨ l ≠ s.timeLink then s
  else
    let v := s.via.servo
    let s := if v.useAlt then (s.setServo { v with altFailed := true }).backToParent else s
    if s.fld F.VIA_TIME_STATUS_STATE = 1 then s.enterHoldover timer else s

/-- What a link keeps when it goes down: its claim and its previous partner. Everything else of R141 is cleared; the
messages it still sends are given. -/
def Link.downed (k : Link) (msgs : List (BitVec 62)) : Link :=
  { claimed := k.claimed, downHold := true, claimLapsed := k.claimLapsed, clockHeld := k.clockHeld, byp := msgs,
    lastPartner := k.lastPartner, idle := msgs.isEmpty, timeSeq := k.timeSeq }

/-- The register side of a link going down (R141, R142): state, reason, grants; and its kind 0x01 (R146). -/
def State.linkDownRegs (s : State) (l reason : Nat) (sev : Option Nat) (timer : Bool) : State :=
  let k := s.link l
  let d := BitVec.ofNat 64 (reason * 2 ^ 56 + k.rxE % 2 ^ 20 * 2 ^ 36 + (k.acked + 2 ^ 20 - 1) % 2 ^ 20 * 2 ^ 16)
  let s := ((s.setFld F.LNK_LSTATE_STATE LS.down l).setFld F.LNK_LSTATE_DOWN_REASON reason l)
  let s := (s.setFld F.LNK_REPLAY_GRANT 0 l).setFld F.LNK_SPILL_RATE 0 l
  let s := s.count F.LNK_CNT_DOWN_COUNT l
  (s.keyEvent l 0x01 (sev.getD (s.severity l 0x01)) d timer).timeLinkDown l timer

/-- Links 0–255 that are neither DISABLED nor DOWN. -/
def State.liveLinks (s : State) : List Nat :=
  (List.range 256).filter (fun l => decide (s.lstate l ≠ LS.disabled) && decide (s.lstate l ≠ LS.down))

/-- Every link that was neither DISABLED nor DOWN goes down with reason 0x0B: after the fence marker in eight successive
messages where it was ACTIVE and `fence` holds (R139, R516). -/
def State.fenceLinks (s : State) (fence : Bool) : State :=
  s.liveLinks.foldl (fun s l =>
    let msgs := if fence ∧ s.lstate l = LS.active then List.replicate 8 (linkStateMsg 1 0x0B) else []
    (s.linkDownRegs l 0x0B none false).setLink l ((s.link l).downed msgs)) s

/-- Packets queued for links that have all gone down are discarded; those already delivered stay (R141). -/
def State.dropQueued (s : State) : State :=
  { s with fwd := { s.fwd with outQ := [], pkts := s.fwd.pkts.filter (fun p => s.fwd.dlv.any (fun d => decide (d.pkt = p.1))) } }

/-- Every hart stops (R516 step 3). -/
def State.stopAllHarts (s : State) : State :=
  (List.range 128).foldl (fun s i => s.setFld F.ENG_HART_STOPPED_STOPPED 0xFFFFFFFF (i / 4) (i % 4)) s

/-- Entry into the safe state (R516), with its cause, detail and the requestor of a SAFE_CTRL write. Entering it again
changes nothing. -/
def State.enterSafe (s : State) (cause : Nat) (detail : W64) (requestor : Nat) : State :=
  if s.safe then s
  else
    let s := (s.setFld F.KST_SAFE_ACTIVE 1).setFld F.KST_SAFE_CAUSE cause
    let s := (s.setFld F.KST_SAFE_TIME_TIME s.ftime).setFld F.KST_SAFE_DETAIL_DETAIL detail.toNat
    let s := ((s.stopAllHarts.fenceLinks true).dropQueued)
    if cause = 3 then s.keyEvent 752 0x05 3 (BitVec.ofNat 64 (requestor * 2 ^ 56)) false
    else s.keyEvent 752 0x04 3 (BitVec.ofNat 64 (cause * 2 ^ 56 + detail.toNat % 1024)) false

/-- An event with a stated severity, and the safe state at once where REACT.US is 0 and it starts the timer (R510). -/
def State.raiseSev (s : State) (src kind sev : Nat) (detail : W64) : State :=
  let running := s.kst.react.isSome
  let s1 := s.keyEvent src kind sev detail true
  if ¬ running ∧ s1.kst.react.isSome ∧ s1.fld F.KST_REACT_US = 0 then
    ({ s1 with kst := { s1.kst with react := none } }).enterSafe 1 (BitVec.ofNat 64 s1.kst.reactSlot) 0
  else s1

/-- An event raised by a source: its severity is that of the severity window, or the fixed one of KST (R504, R521). -/
def State.raise (s : State) (src kind detail : Nat) : State :=
  s.raiseSev src kind (if src = 752 then 3 else s.severity src kind) (BitVec.ofNat 64 detail)

/-! ## Domains (R27, R28, R522) -/

abbrev Dom.cluster (c : Nat) : Nat := c
abbrev Dom.slice (n : Nat) : Nat := 32 + n
abbrev Dom.pipe (t : Nat) : Nat := 48 + t
abbrev Dom.tile (t : Nat) : Nat := 80 + t
abbrev Dom.endpoint : Nat := 112

def State.dom (s : State) (d : Nat) : Dom := mget {} s.pwr.dom d

/-- The PWR mask bit that shows a domain awake (R535). -/
def domAwakeBit (d : Nat) : Fld × Nat :=
  if d < 32 then (F.PWR_AWAKE_CLUSTER_MASK, d)
  else if d < 48 then (F.PWR_AWAKE_OTHER_SLICE, d - 32)
  else if d < 80 then (F.PWR_AWAKE_PIPE_MASK, d - 48)
  else if d < 112 then (F.PWR_AWAKE_TILE_MASK, d - 80)
  else (F.PWR_AWAKE_OTHER_ENDPOINT, 0)

/-- The state with a domain's phase replaced and its AWAKE bit following it. -/
def State.setDom (s : State) (d : Nat) (x : Dom) : State :=
  let s := { s with pwr := { s.pwr with dom := mput {} s.pwr.dom d x } }
  let (f, i) := domAwakeBit d
  let m := s.fld f
  let on := decide (x.st = .awake)
  s.setFld f (if on = m.testBit i then m else if on then m + 2 ^ i else m - 2 ^ i)

/-- A domain is awake. -/
def State.awake (s : State) (d : Nat) : Bool := decide ((s.dom d).st = .awake)

/-- One wake cause of a domain: a sleeping domain starts to wake, one entering sleep wakes once entry completes (R28). Every fast domain
stays stopped in thermal hold (R533). -/
def State.wakeOne (s : State) (d : Nat) : State :=
  if s.thermalHold then s else match (s.dom d).st with
  | .asleep => s.setDom d { st := .waking }
  | .entering => s.setDom d { st := .entering, wakeWaiting := true }
  | _ => s

/-- A wake cause; waking a cluster starts the endpoint core's wake in parallel (R524), and waking a tile wakes its
pipeline and starts every stack's exit from self-refresh (R27, R523). -/
def State.wake (s : State) (d : Nat) : State :=
  if d < 32 then (s.wakeOne d).wakeOne Dom.endpoint
  else if 80 ≤ d ∧ d < 112 then
    let s := (s.wakeOne d).wakeOne (Dom.pipe (d - 80))
    { s with pwr := { s.pwr with hbmSrExit := s.pwr.hbmSr } }
  else s.wakeOne d

/-- What a register access to a page wakes: an ENG page its cluster, an ABC page its slice, and a page or window of the endpoint
core's blocks the core (R27, R524). -/
def pageDomain (p : Nat) : Option Nat := match pageKind p with
  | .block .eng n => some (Dom.cluster n)
  | .block .abc n => some (Dom.slice n)
  | .block .ctg _ | .block .mat _ | .block .rel _ | .block .xlt _ | .block .hom _ | .block .hbm _ | .block .lck _ | .block .plc _ => some Dom.endpoint
  | .window .summary _ | .window .hint _ => some Dom.endpoint
  | _ => none

def State.wakePage (s : State) (p : Nat) : State := match pageDomain p with
  | some d => s.wake d
  | none => s

/-! ## Shadows and commits (R583, R584) -/

/-- The RWS mask of a register address. -/
def rwsMask (a : Nat) : W32 := match regWordAt a with
  | some w => BitVec.ofNat 32 w.rws
  | none => 0#32

/-- The register words of a page that have RWS fields, by address. -/
def pageRws (page : Nat) : List Nat :=
  match pageKind page with
  | .block b _ => b.words.flatMap (fun w => if w.rws = 0 then [] else (List.range w.count).map (fun i => page * 0x1000 + w.off + w.stride * i))
  | _ => []

/-- The RWS bits of every shadow of a page that differ from the active value, captured (R584). -/
def State.capture (s : State) (page : Nat) : SMap W32 :=
  (pageRws page).foldl (fun m a =>
    let k := rwsMask a
    if (s.rdShadow a) &&& k = (s.rd a) &&& k then m else minsert m a (s.rdShadow a &&& k)) []

/-- Parts of a page's words have been written afresh, which computes their parity again (R590). -/
def State.freshParity (s : State) (page part : Nat) : State :=
  let bad := s.regs.parBad.foldl (fun m e =>
    let v := if e.1 / 0x1000 = page ∧ e.2.testBit part then e.2 - 2 ^ part else e.2
    if v = 0 then m else m ++ [(e.1, v)]) []
  { s with regs := { s.regs with parBad := bad } }

/-- A commit request: the shadows captured into the page's pending copy, which replaces an earlier one (R584). -/
def State.commitRequest (s : State) (page : Nat) : State :=
  let s := s.freshParity page 1
  { s with regs := { s.regs with pend := minsert s.regs.pend page (s.capture page) } }

/-- A pending copy waits on a page. -/
def State.pending? (s : State) (page : Nat) : Bool := (mfind s.regs.pend page).isSome

/-- The pending copy of a page is discarded (R584). -/
def State.dropPend (s : State) (page : Nat) : State :=
  { s with regs := { s.regs with pend := merase s.regs.pend page } }

/-- A field's value in the pending copy of its page, or its active value where the copy changes nothing there. -/
def State.pendFld (s : State) (f : Fld) (n : Nat := 0) (i : Nat := 0) : Nat :=
  let a := f.addr n i
  match mfind s.regs.pend (a / 0x1000) with
  | none => s.fld f n i
  | some c =>
    let w (a : Nat) : W32 := match mfind c a with
      | some v => (s.rd a &&& ~~~(rwsMask a)) ||| v
      | none => s.rd a
    if f.w ≤ 32 then bits (w a) f.lo f.w else (w a).toNat + (w (a + 4)).toNat % 2 ^ (f.w - 32) * 2 ^ 32

/-- COMMIT_SEQ of a page advances by 1. -/
def State.bumpSeq (s : State) (page : Nat) : State := s.wr (page * 0x1000 + 0x024) (s.rd (page * 0x1000 + 0x024) + 1)

/-- An application writes every active word with RWS fields afresh. -/
def State.freshActive (s : State) (page : Nat) : State :=
  let bad := s.regs.parBad.foldl (fun m e =>
    let v := if e.1 / 0x1000 = page ∧ e.2.testBit 2 ∧ rwsMask e.1 ≠ 0 then e.2 - 4 else e.2
    if v = 0 then m else m ++ [(e.1, v)]) []
  { s with regs := { s.regs with parBad := bad } }

/-- The pending copy of a page replaces every active RWS value (R584), without COMMIT_SEQ. -/
def State.applyVals (s : State) (page : Nat) : State :=
  match mfind s.regs.pend page with
  | none => s
  | some c => ((c.foldl (fun s e => s.wr e.1 ((s.rd e.1 &&& ~~~(rwsMask e.1)) ||| e.2)) s).freshActive page).dropPend page

/-- A table swaps while an attestation report is being built: its digest is void (R555). Tables: 0 ROU, 1 TRE, 2 VIA. -/
def State.noteSwap (s : State) (t : Nat) : State :=
  if s.flag F.SEC_ATTEST_BUSY then { s with sec := { s.sec with attestVoid := s.sec.attestVoid ||| 2 ^ t } } else s

/-- An application: the active values and COMMIT_SEQ (R584). -/
def State.applyPend (s : State) (page : Nat) : State :=
  if s.pending? page then (s.applyVals page).bumpSeq page else s

end Sys2Proof.Machine
end

