-- ==== Sys2Proof/Machine/Memory.lean ====
section
/-!
DEFINITION. Machine/Memory.lean: HBM, the home agents and the coherence messages (chapter 16). A line is 64 bytes, named by
its address divided by 64. A cluster is an agent below 32; an I/O port is 32 and above.
-/
namespace Sys2Proof.Machine

/-- The home agent of a line (R427). -/
def homeOf (line : Nat) : Nat := (line % 8) ^^^ (line / 8 % 8) ^^^ (line / 64 % 8)
/-- The stack of a line (R427). -/
def stackOf (line : Nat) : Nat := (line / 64 % 4) ^^^ (line / 65536 % 4)
/-- The channel group of a line (R427). -/
def groupOf (line : Nat) : Nat := line / 16 % 4
/-- The L2 set of a line (log 21). -/
def setOf (line : Nat) : Nat := line % 2048
/-- A map key of a cluster or an engine and a line. -/
def lineKey (c line : Nat) : Nat := c * 2 ^ 31 + line

def State.setEng (s : State) (e : Eng) : State := { s with eng := e }

/-! ## HBM (R441, R442, R448) -/

/-- The bytes of a line in HBM. -/
def State.hbmData (s : State) (line : Nat) : List Byte := (List.range 64).map (fun i => mget 0#8 s.eng.mem (64 * line + i))

/-- The canonical form of a memory whose unlisted bytes read as 0 (log 20): addresses strictly rising, no entry equal to 0. -/
def Memory.wf (m : List (Nat × Byte)) : Bool := mwf (fun _ => 0#8) m

/-- Bytes written to HBM from an address. -/
def State.hbmPut (s : State) (a : Nat) (d : List Byte) : State :=
  s.setEng { s.eng with mem := (d.zip (List.range d.length)).foldl (fun m x => mput 0#8 m (a + x.2) x.1) s.eng.mem }

def State.poisoned (s : State) (line : Nat) : Bool := mget false s.eng.poison line
def State.setPoison (s : State) (line : Nat) (on : Bool) : State :=
  s.setEng { s.eng with poison := mput false s.eng.poison line on }

/-- A stack in self-refresh leaves it for an access (R523). -/
def State.hbmWake (s : State) (n : Nat) : State :=
  if mget false s.pwr.hbmSr n then
    ({ s with pwr := { s.pwr with hbmSr := mput false s.pwr.hbmSr n false, hbmSrExit := mput false s.pwr.hbmSrExit n false } }).setFld F.HBM_STATUS_STATE 1 n
  else s

/-- A read of a line by its controller: a corrected or an uncorrectable read where one is injected (R442, R448). -/
def State.hbmRead (s : State) (line : Nat) : (List Byte × Bool) × State :=
  let n := stackOf line
  let s := s.hbmWake n
  let s := if s.armed F.HBM_INJECT_CORR n then (s.setArmed F.HBM_INJECT_CORR n false).count F.HBM_CNT_CORR_COUNT n else s
  let s := if s.armed F.HBM_INJECT_UNCORR n then
      let s := (s.setArmed F.HBM_INJECT_UNCORR n false).count F.HBM_CNT_UNCORR_COUNT n
      let s := (s.setFld F.HBM_ERR_ADDR_ADDR (64 * line) n).setPoison line true
      s.raise (432 + 4 * n + groupOf line) 0x01 (64 * line)
    else s
  ((s.hbmData line, s.poisoned line), s)

/-- A whole line written with its mark. -/
def State.hbmWrite (s : State) (line : Nat) (d : List Byte) (poison : Bool) : State :=
  ((s.hbmWake (stackOf line)).hbmPut (64 * line) d).setPoison line poison

/-- A poisoned line has been read (R441). -/
def State.poisonRead (s : State) (line who : Nat) : State :=
  (s.count F.HOM_CNT_POISON_READ_COUNT (homeOf line)).raise (480 + homeOf line) 0x01 (64 * line + min who 0x1F)

/-! ## L2 lines and the snoop filter (R426, R428) -/

def State.l2 (s : State) (c line : Nat) : L2Line := mget {} s.eng.l2 (lineKey c line)
def State.setL2 (s : State) (c line : Nat) (l : L2Line) : State := s.setEng { s.eng with l2 := mput {} s.eng.l2 (lineKey c line) l }

/-- The state of a line whose retire buffer does not hold it. -/
def L2Line.live (l : L2Line) : Mo := if l.retiring then .i else l.st

/-- A hart's record. -/
def State.hart (s : State) (h : Nat) : Hart := mget {} s.eng.hart h
def State.putHart (s : State) (h : Nat) (x : Hart) : State := s.setEng { s.eng with hart := mput {} s.eng.hart h x }

/-- The state with a hart replaced; what it has retired is counted in slot 8 of its cluster's tally bank (R565). -/
def State.setHart (s : State) (h : Nat) (x : Hart) : State :=
  if x.used = 0 then s.putHart h x else (s.putHart h { x with used := 0 }).tally (192 + h / 128) 8 x.used

/-- Harts of a cluster that hold a reservation of a line. -/
def State.reservers (s : State) (c line : Nat) : List Nat :=
  (s.eng.hart.filter (fun (e : Nat × Hart) => decide (e.1 / 128 = c) && (match e.2.resv with
    | some (l, _) => decide (l = line)
    | none => false))).map (·.1)

/-- The reservations of a line in a cluster are lost (R437). -/
def State.dropResv (s : State) (c line : Nat) : State :=
  (s.reservers c line).foldl (fun s h => s.setHart h { s.hart h with resv := none }) s

/-- Some hart of the cluster defers probes to the line (R437). -/
def State.deferred (s : State) (c line : Nat) : Bool :=
  (s.reservers c line).any (fun h => match (s.hart h).resv with
    | some (_, d) => d
    | none => false)

/-- The deferral of a line's probes ends. -/
def State.endDefer (s : State) (c line : Nat) : State :=
  (s.reservers c line).foldl (fun s h => s.setHart h { s.hart h with resv := some (line, false) }) s

/-- The filter's entry for a cluster's way now names this line (R428). -/
def State.sfFill (s : State) (c line way : Nat) : State :=
  let others := s.eng.sf.filter (fun (e : Nat × Nat) => !(decide (e.1 / 2 ^ 31 = c) && decide (setOf (e.1 % 2 ^ 31) = setOf line) && decide (e.2 = way)))
  let key := c * 2048 + setOf line
  let bad := mget 0 s.eng.sfBad key
  let bad' := if bad.testBit way then bad - 2 ^ way else bad
  s.setEng { s.eng with sf := minsert others (lineKey c line) way, sfBad := mput 0 s.eng.sfBad key bad' }

def State.sfClear (s : State) (c line : Nat) : State := s.setEng { s.eng with sf := merase s.eng.sf (lineKey c line) }

/-- The clusters, other than the asker, that a home snoops for a line: those its filter names, or all of them under
BROADCAST and for a set whose entry was found bad (R428, R447, R450). -/
def State.snooped (s : State) (line asker : Nat) : List Nat :=
  let all := s.flag F.HOM_CFG_BROADCAST (homeOf line)
  (List.range 32).filter (fun c => decide (c ≠ asker) &&
    (all || decide (mget 0 s.eng.sfBad (c * 2048 + setOf line) ≠ 0) || (mfind s.eng.sf (lineKey c line)).isSome))

/-! ## Messages (R429–R431) -/

/-- The code of a message (Table 3). -/
def CCode.num : CCode → Nat
  | .fetchSh => 1 | .fetchEx => 2 | .promote => 3 | .retire => 4 | .ioRead => 5 | .ioWrite => 6
  | .probeSh => 8 | .probeEx => 9 | .probeKill => 10
  | .fill => 7 | .grant => 11 | .none => 12 | .ack => 13 | .clean => 14 | .dirty => 15

def State.send (s : State) (m : CMsg) : State := s.setEng { s.eng with net := s.eng.net ++ [m] }

/-- TRACKERS.IN_USE of a home agent: its transactions and waiting asks (R431). -/
def State.showTrackers (s : State) (h : Nat) : State :=
  let n := (s.eng.tx.filter (fun (e : Nat × CTx) => decide (homeOf e.1 = h))).length +
    ((s.eng.asks.filter (fun (e : Nat × List CAsk) => decide (homeOf e.1 = h))).map (fun e => e.2.length)).sum
  s.setFld F.HOM_TRACKERS_IN_USE n h

/-- The ask is an asker of sole ownership. -/
def CCode.excl : CCode → Bool
  | .fetchEx | .promote | .ioWrite => true
  | _ => false

/-- The probe that a home sends to a cluster for an ask, or none: to owners and stale names, and to holders of S where the
ask takes the line away (R427–R429). -/
def probeFor (ask : CCode) (l : L2Line) : Option CCode :=
  match ask with
  | .fetchSh | .ioRead => if l.st = .s ∧ ¬ l.retiring then none else some .probeSh
  | .fetchEx => some .probeEx
  | .promote | .ioWrite => some (if l.st = .s ∧ ¬ l.retiring then .probeKill else .probeEx)
  | _ => none

/-- A transaction whose probes have all been answered completes with FILL or GRANT (R429, R430). -/
def State.finishTx (s : State) (line : Nat) (t : CTx) : State :=
  let read (s : State) : (List Byte × Bool) × State := match t.data with
    | some d => ((d, t.poison), s)
    | none => s.hbmRead line
  let s := s.setEng { s.eng with tx := merase s.eng.tx line }
  match t.ask.code with
  | .fetchSh =>
    let ((d, p), s) := read s
    let st : Mo := if t.moved then .o else if t.shared then .s else .e
    s.send { code := .fill, agent := t.ask.agent, line := line, data := d, poison := p, st := st }
  | .fetchEx =>
    let ((d, p), s) := read s
    s.send { code := .fill, agent := t.ask.agent, line := line, data := d, poison := p, st := .m }
  | .promote =>
    if (mfind s.eng.sf (lineKey t.ask.agent line)).isSome ∧ t.data = none then s.send { code := .grant, agent := t.ask.agent, line := line, st := .m }
    else
      let ((d, p), s) := read s
      s.send { code := .fill, agent := t.ask.agent, line := line, data := d, poison := p, st := .m }
  | .retire =>
    let l := s.l2 t.ask.agent line
    let s := if l.st = .i then s else s.hbmWrite line l.data l.poison
    (s.sfClear t.ask.agent line).send { code := .grant, agent := t.ask.agent, line := line }
  | .ioRead =>
    let ((d, p), s) := read s
    let s := if t.moved then s.hbmWrite line d p else s
    (if p then s.poisonRead line 0x1F else s).send { code := .fill, agent := t.ask.agent, line := line, data := d, poison := p }
  | .ioWrite =>
    let ((d, p), s) := read s
    let whole := decide (64 ≤ t.ask.data.length)
    let s := s.hbmWrite line ((overwrite d t.ask.off t.ask.data).take 64) (p && !whole)
    s.send { code := .grant, agent := t.ask.agent, line := line }
  | _ => s

/-- A home agent starts on an ask: the filter is read, and the probes are sent (R427–R430). -/
def State.startAsk (s : State) (line : Nat) (a : CAsk) : State :=
  let h := homeOf line
  let s := s.count F.HOM_CNT_REQ_COUNT h
  let s := if s.armed F.HOM_INJECT_SF_ECC h then
      let s := s.setArmed F.HOM_INJECT_SF_ECC h false
      let c := a.agent % 32
      let s := s.setEng { s.eng with sfBad := mput 0 s.eng.sfBad (c * 2048 + setOf line) 0xFFFF }
      s.raise (480 + h) 0x03 (c * 2 ^ 16 + setOf line)
    else s
  let cs := if a.code = .retire then [] else s.snooped line a.agent
  let ps := cs.filterMap (fun c => (probeFor a.code (s.l2 c line)).map (fun k => (c, k)))
  let t : CTx := { ask := a, left := ps.length, shared := cs.any (fun c => decide ((s.l2 c line).live ≠ .i)) }
  let s := s.setEng { s.eng with tx := minsert s.eng.tx line t }
  let s := ps.foldl (fun s p => (s.count F.HOM_CNT_SNP_COUNT h).send { code := p.2, agent := p.1, line := line }) s
  if ps = [] then s.finishTx line t else s

/-- Waiting asks of a line are started while it is free (R430). -/
def State.nextAskN (s : State) (line : Nat) : Nat → State
  | 0 => s
  | k + 1 =>
    if (mfind s.eng.tx line).isSome then s
    else match mget [] s.eng.asks line with
      | [] => s
      | a :: rest => ((s.setEng { s.eng with asks := mput [] s.eng.asks line rest }).startAsk line a).nextAskN line k

/-- An ask reaches its home agent: it waits while its line is busy (R430). -/
def State.ask (s : State) (line : Nat) (a : CAsk) : State :=
  let s := s.setEng { s.eng with asks := mput [] s.eng.asks line (mget [] s.eng.asks line ++ [a]) }
  (s.nextAskN line 1024).showTrackers (homeOf line)

/-- A cluster answers a probe (R429, Table 2): its state after, the answer, and the data given. -/
def probeAnswer (k : CCode) (l : L2Line) : L2Line × CCode × Bool :=
  if l.retiring then (if l.st = .i then (l, .none, false) else ({ l with st := .i }, .dirty, true))
  else
    let sh := decide (k = .probeSh)
    match l.st with
    | .i => (l, .none, false)
    | .s => (if sh then l else {}, .ack, false)
    | .e => (if sh then { l with st := .s } else {}, .clean, true)
    | .o => (if sh then l else {}, .dirty, true)
    | .m => (if sh then { l with st := .o } else {}, .dirty, true)

/-- A probe is taken by its cluster and answered. -/
def State.takeProbe (s : State) (m : CMsg) : State :=
  let l := s.l2 m.agent m.line
  let (l', k, data) := probeAnswer m.code l
  let s := s.setL2 m.agent m.line l'
  let s := if m.code = .probeSh then s else s.dropResv m.agent m.line
  s.send { code := k, agent := m.agent, line := m.line, data := if data then l.data else [], poison := l.poison && data,
           st := if l.retiring then .o else if m.code = .probeSh then .s else .i }

/-- An answer is taken by the home agent (R428–R430). A FETCH_EX, PROMOTE or IO_WRITE answered clears the filter entry. -/
def State.takeAnswer (s : State) (m : CMsg) : State :=
  let h := homeOf m.line
  let s := if m.code = .none then (s.count F.HOM_CNT_STALE_COUNT h).sfClear m.agent m.line
    else if m.st = .i then s.sfClear m.agent m.line else s
  match mfind s.eng.tx m.line with
  | none => s
  | some t =>
    let t := { t with left := t.left - 1, data := if m.data = [] then t.data else some m.data, poison := t.poison || m.poison,
                      moved := t.moved || (decide (m.code = .dirty) && decide (m.st = .o) && (s.l2 m.agent m.line).retiring) }
    let s := s.setEng { s.eng with tx := minsert s.eng.tx m.line t }
    if t.left = 0 then ((s.finishTx m.line t).nextAskN m.line 1024).showTrackers h else s

/-- FILL or GRANT reaches its requester (R428–R430). -/
def State.takeFill (s : State) (m : CMsg) : State :=
  if 32 ≤ m.agent then s.setEng { s.eng with ioGot := minsert s.eng.ioGot m.agent (m.data, m.poison) }
  else
    let l := s.l2 m.agent m.line
    if m.code = .fill then
      (s.setL2 m.agent m.line { st := m.st, way := l.way, data := m.data, poison := m.poison }).sfFill m.agent m.line l.way
    else if l.retiring then s.setL2 m.agent m.line {}
    else s.setL2 m.agent m.line { l with st := .m }

/-- The oldest message in flight between a home and an agent for a line is delivered, where it has this code. A deferred
probe stays. -/
def State.deliverMsg (s : State) (k : CCode) (agent line : Nat) : State :=
  match s.eng.net.findIdx? (fun m => decide (m.agent = agent) && decide (m.line = line)) with
  | none => s
  | some i =>
    match s.eng.net[i]? with
    | none => s
    | some m =>
      if m.code ≠ k then s
      else
        let probe := decide (k = .probeSh) || decide (k = .probeEx) || decide (k = .probeKill)
        if probe ∧ s.deferred agent line then s
        else
          let s := s.setEng { s.eng with net := s.eng.net.eraseIdx i }
          if probe then s.takeProbe m
          else if k = .fill ∨ k = .grant then (s.takeFill m)
          else s.takeAnswer m

/-- Every message of a line is delivered, deferrals having ended (R431: a probe is always answered). -/
def State.settleLine (s : State) (line : Nat) : Nat → State
  | 0 => s
  | k + 1 =>
    match s.eng.net.find? (fun m => decide (m.line = line)) with
    | none => s
    | some m => ((s.endDefer m.agent line).deliverMsg m.code m.agent line).settleLine line k

/-- An ask, with every message it causes. -/
def State.runAsk (s : State) (line : Nat) (a : CAsk) : State := (s.ask line a).settleLine line 4096

/-! ## Accesses by device blocks (R427) -/

/-- One line read as an I/O read. -/
def State.ioReadLine (s : State) (line : Nat) : (List Byte × Bool) × State :=
  let s := (s.settleLine line 4096).runAsk line { code := .ioRead, agent := 32 }
  (mget ([], false) s.eng.ioGot 32, s.setEng { s.eng with ioGot := merase s.eng.ioGot 32 })

/-- Bytes read from HBM by a device block: none where a line is poisoned (R441). -/
def State.memRead (s : State) (a len : Nat) : Option (List Byte) × State :=
  let first := a / 64
  let n := if len = 0 then 0 else (a + len - 1) / 64 + 1 - first
  let (d, bad, s) := (List.range n).foldl (fun (acc : List Byte × Bool × State) i =>
    let ((x, p), s) := acc.2.2.ioReadLine (first + i)
    (acc.1 ++ x, acc.2.1 || p, s)) (([], false, s) : List Byte × Bool × State)
  (if bad then none else some (slice d (a % 64) len), s)

/-- Bytes written to HBM by a device block, line by line (R427). -/
def State.memWrite (s : State) (a : Nat) (d : List Byte) : State :=
  let first := a / 64
  let n := if d = [] then 0 else (a + d.length - 1) / 64 + 1 - first
  (List.range n).foldl (fun s i =>
    let lo := if i = 0 then a else 64 * (first + i)
    let hi := min (a + d.length) (64 * (first + i + 1))
    (s.settleLine (first + i) 4096).runAsk (first + i)
      { code := .ioWrite, agent := 32, off := lo % 64, data := slice d (lo - a) (hi - lo) }) s

/-! ## Accesses by engines (R426, R429) -/

/-- The way for a new line of a set: an unused one, or a victim's, which is evicted (R426); pseudo-LRU is a free choice (log 8). -/
def State.chooseWay (s : State) (c line : Nat) : Nat × State :=
  let mine := s.eng.l2.filter (fun (e : Nat × L2Line) => decide (e.1 / 2 ^ 31 = c) && decide (setOf (e.1 % 2 ^ 31) = setOf line))
  match (List.range 16).find? (fun w => !(mine.any (fun e => decide (e.2.way = w)))) with
  | some w => (w, s)
  | none =>
    let (k, s) := s.takeFree
    let w := Config.choice k % 16
    match mine.find? (fun e => decide (e.2.way = w)) with
    | none => (w, s)
    | some (key, l) =>
      let v := key % 2 ^ 31
      let s := s.dropResv c v
      let s := s.setEng { s.eng with l1i := s.eng.l1i.filter (fun (e : Nat × List Byte) => !(decide (e.1 / 2 ^ 31 / 32 = c) && decide (e.1 % 2 ^ 31 = v))) }
      if l.st = .m ∨ l.st = .o then
        (w, (s.setL2 c v { l with retiring := true }).runAsk v { code := .retire, agent := c })
      else (w, s.setL2 c v {})

/-- A cluster obtains a line: for writing with `excl` (R429). -/
def State.l2Get (s : State) (c line : Nat) (excl : Bool) : State :=
  let s := s.settleLine line 4096
  let l := s.l2 c line
  match l.st with
  | .m => s
  | .e => if excl then s.setL2 c line { l with st := .m } else s
  | .s | .o => if excl then s.runAsk line { code := .promote, agent := c, way := l.way } else s
  | .i =>
    let (w, s) := s.chooseWay c line
    let s := s.setL2 c line { way := w }
    s.runAsk line { code := if excl then .fetchEx else .fetchSh, agent := c, way := w }

/-- Bytes of one line read by an engine, and whether the line is poisoned (R441). -/
def State.l2Read (s : State) (c a len : Nat) : (List Byte × Bool) × State :=
  let line := a / 64
  let s := s.l2Get c line false
  let l := s.l2 c line
  ((slice l.data (a % 64) len, l.poison), if l.poison then s.poisonRead line c else s)

/-- Bytes of one line written by an engine: the mark is cleared once every byte has been written while held in M (R441). -/
def State.l2Write (s : State) (c a : Nat) (d : List Byte) : State :=
  let line := a / 64
  let s := s.l2Get c line true
  let l := s.l2 c line
  let w := l.written ||| BitVec.ofNat 64 ((2 ^ d.length - 1) * 2 ^ (a % 64))
  let full := decide (w = BitVec.ofNat 64 (2 ^ 64 - 1))
  let clean := !l.poison || full
  s.setL2 c line { l with data := (overwrite l.data (a % 64) d).take 64, poison := !clean, written := if clean then 0 else w }

/-! ## The commands of the coherence protocol -/

/-- The L2 asks for a line it does not hold (R429). -/
def State.askFetch (s : State) (c line : Nat) (excl : Bool) : State :=
  if (s.l2 c line).st ≠ .i ∨ (s.l2 c line).retiring then s
  else
    let (w, s) := s.chooseWay c line
    (s.setL2 c line { way := w }).ask line { code := if excl then .fetchEx else .fetchSh, agent := c, way := w }

/-- FETCH_SH (R429): a load that misses. -/
def execFetchSh (c : Fin 32) (line : Fin hbmLines) (s : State) : Out := .next (s.askFetch c.val line.val false)

/-- FETCH_EX (R429): a store that misses. -/
def execFetchEx (c : Fin 32) (line : Fin hbmLines) (s : State) : Out := .next (s.askFetch c.val line.val true)

/-- PROMOTE (R429, R430): a store to a line held in S or O. -/
def execPromote (c : Fin 32) (line : Fin hbmLines) (s : State) : Out :=
  let l := s.l2 c.val line.val
  if (l.st = .s ∨ l.st = .o) ∧ ¬ l.retiring then .next (s.ask line.val { code := .promote, agent := c.val, way := l.way }) else .next s

/-- RETIRE (R429, R430): a dirty line is evicted and kept in the retire buffer until GRANT. -/
def execRetire (c : Fin 32) (line : Fin hbmLines) (s : State) : Out :=
  let l := s.l2 c.val line.val
  if (l.st = .m ∨ l.st = .o) ∧ ¬ l.retiring then
    .next (((s.dropResv c.val line.val).setL2 c.val line.val { l with retiring := true }).ask line.val { code := .retire, agent := c.val })
  else .next s

/-- IO_READ (R427). -/
def execIoRead (p : Fin 64) (line : Fin hbmLines) (s : State) : Out := .next (s.ask line.val { code := .ioRead, agent := 32 + p.val })

/-- IO_WRITE (R427): bytes of one line from an offset. -/
def execIoWrite (p : Fin 64) (line : Fin hbmLines) (off : Fin 64) (data : List Byte) (s : State) : Out :=
  .next (s.ask line.val { code := .ioWrite, agent := 32 + p.val, off := off.val, data := data.take (64 - off.val) })

/-- PROBE_SH (R429). -/
def execProbeSh (c : Fin 32) (line : Fin hbmLines) (s : State) : Out := .next (s.deliverMsg .probeSh c.val line.val)

/-- PROBE_EX (R429). -/
def execProbeEx (c : Fin 32) (line : Fin hbmLines) (s : State) : Out := .next (s.deliverMsg .probeEx c.val line.val)

/-- PROBE_KILL (R429). -/
def execProbeKill (c : Fin 32) (line : Fin hbmLines) (s : State) : Out := .next (s.deliverMsg .probeKill c.val line.val)

/-- FILL (R429): to a cluster, or to an I/O port as agent 32 and above. -/
def execFill (agent : Fin 96) (line : Fin hbmLines) (s : State) : Out := .next (s.deliverMsg .fill agent.val line.val)

/-- GRANT (R430). -/
def execGrant (agent : Fin 96) (line : Fin hbmLines) (s : State) : Out := .next (s.deliverMsg .grant agent.val line.val)

/-- NONE (R428). -/
def execNone (c : Fin 32) (line : Fin hbmLines) (s : State) : Out := .next (s.deliverMsg .none c.val line.val)

/-- PROBE_ACK (R429). -/
def execProbeAck (c : Fin 32) (line : Fin hbmLines) (s : State) : Out := .next (s.deliverMsg .ack c.val line.val)

/-- CLEAN (R429). -/
def execClean (c : Fin 32) (line : Fin hbmLines) (s : State) : Out := .next (s.deliverMsg .clean c.val line.val)

/-- DIRTY (R429, R430). -/
def execDirty (c : Fin 32) (line : Fin hbmLines) (s : State) : Out := .next (s.deliverMsg .dirty c.val line.val)

/-- RESERVATION_DEFER_END (R437): 256 clocks after a hart's LR, probes of its line are deferred no longer. -/
def execReservationDeferEnd (h : Fin 4096) (s : State) : Out :=
  match (s.hart h.val).resv with
  | some (l, _) => .next (s.setHart h.val { s.hart h.val with resv := some (l, false) })
  | none => .next s

/-! ## Poison control, scrub and injections (R447, R448) -/

/-- Every copy of a line is given up and its data discarded (R440, R447). -/
def State.killCopies (s : State) (line : Nat) : State :=
  (List.range 32).foldl (fun s c => if (s.l2 c line).st = .i then s.sfClear c line
    else ((s.dropResv c line).setL2 c line {}).sfClear c line) (s.settleLine line 4096)

/-- A line is marked poisoned, every copy invalidated (R440, R447). -/
def State.markPoison (s : State) (line : Nat) : State :=
  (((s.killCopies line).setPoison line true).count F.HOM_CNT_POISON_MARK_COUNT (homeOf line))

/-- The line that POISON_ADDR names, where it is one of the home's (R447). -/
def State.poisonLine (s : State) (h : Nat) : Option Nat :=
  let line := s.fld F.HOM_POISON_ADDR_ADDR h / 64
  if line < hbmLines ∧ homeOf line = h ∧ s.fld F.HOM_POISON_CTRL_BUSY h = 0 then some line else none

/-- POISON_CTRL_MARK (R447): the command runs, and BUSY reads 1 until POISON_CTRL_DONE. -/
def execPoisonCtrlMark (h : Fin 8) (s : State) : Out :=
  (s.poisonLine h.val).elim (.next s) (fun line => .next ((s.markPoison line).setFld F.HOM_POISON_CTRL_BUSY 1 h.val))

/-- POISON_CTRL_CLEAR (R441, R447): zeros are written to the line and its mark is cleared. -/
def execPoisonCtrlClear (h : Fin 8) (s : State) : Out :=
  (s.poisonLine h.val).elim (.next s) (fun line =>
    .next (((s.killCopies line).hbmWrite line (List.replicate 64 0#8) false).setFld F.HOM_POISON_CTRL_BUSY 1 h.val))

/-- POISON_CTRL_DONE (R447): the command has ended. -/
def execPoisonCtrlDone (h : Fin 8) (s : State) : Out := .next (s.setFld F.HOM_POISON_CTRL_BUSY 0 h.val)

/-- HBM_SCRUB (R448): the background scrub reads a line of the stack; a single error is corrected in place. -/
def execHbmScrub (n : Fin 4) (line : Fin hbmLines) (s : State) : Out :=
  if ¬ s.flag F.HBM_CFG_SCRUB_EN n.val ∨ stackOf line.val ≠ n.val ∨ s.fld F.HBM_STATUS_STATE n.val ≠ 1 then .next s
  else if s.armed F.HBM_INJECT_CORR n.val then
    let s := (s.setArmed F.HBM_INJECT_CORR n.val false).count F.HBM_CNT_SCRUB_FIX_COUNT n.val
    .next (s.raise (432 + 4 * n.val + groupOf line.val) 0x02 (64 * line.val))
  else .next (s.hbmRead line.val).2

/-- HOM_INJECT_SF_ECC (R447). -/
def execHomInjectSfEcc (h : Fin 8) (s : State) : Out := .next (s.setArmed F.HOM_INJECT_SF_ECC h.val true)

/-- HBM_INJECT_CORR (R448). -/
def execHbmInjectCorr (n : Fin 4) (s : State) : Out := .next (s.setArmed F.HBM_INJECT_CORR n.val true)

/-- HBM_INJECT_UNCORR (R448). -/
def execHbmInjectUncorr (n : Fin 4) (s : State) : Out := .next (s.setArmed F.HBM_INJECT_UNCORR n.val true)

end Sys2Proof.Machine
end

