-- ==== Sys2Proof/Machine/Queues.lean ====
section
/-!
DEFINITION. Machine/Queues.lean: the hardware queues, events and handler invocation (R412–R418), and the state of a hart
that they look at.
-/
namespace Sys2Proof.Machine

/-! ## Harts -/

/-- The CSR addresses of Table 7 (R422). -/
abbrev CSR.prio : Nat := 0x5C0
abbrev CSR.evten : Nat := 0x5C1
abbrev CSR.hvec : Nat := 0x5C3
abbrev CSR.hcause : Nat := 0x5C4
abbrev CSR.hstat : Nat := 0x5C5
abbrev CSR.ftcmp : Nat := 0x5C7
abbrev CSR.xgkcfg : Nat := 0x7C0

def Hart.c (h : Hart) (a : Nat) : W64 := mget 0#64 h.csr a
def Hart.setC (h : Hart) (a : Nat) (v : W64) : Hart := { h with csr := mput 0#64 h.csr a v }
/-- Register x0 reads as 0 and discards writes. -/
def Hart.rx (h : Hart) (r : Nat) : W64 := if r = 0 then 0#64 else mget 0#64 h.x r
def Hart.wx (h : Hart) (r : Nat) (v : W64) : Hart := if r = 0 then h else { h with x := mput 0#64 h.x r v }

/-- Hart events that a counter cannot count here: those of the pipeline's timing, and counts by edges (log 32). -/
def microEvent (sel : W64) : Bool :=
  let e := bits sel 0 16
  decide (e ≠ 0) && (bitAt sel 16 || decide (e = 3) || decide (e = 7) || (decide (0x11 ≤ e) && decide (e ≤ 0x15)))

/-- An event of a hart is counted `k` times by each of its eight counters that selects it, unless inhibited; a wrap sets OF
(R559–R561). -/
def Hart.countEv (h : Hart) (code k : Nat) : Hart :=
  let mode := if h.priv = 3 then 62 else if h.priv = 1 then 61 else 60
  ([3, 4, 5, 6, 7, 8, 9, 10] : List Nat).foldl (fun (x : Hart) i =>
    let sel := x.c (0x320 + i)
    if bits sel 0 16 ≠ code ∨ code = 0 ∨ microEvent sel ∨ bitAt (x.c 0x320) i ∨ bitAt sel mode then x
    else
      let v := (x.c (0xB00 + i)).toNat + k
      let x := x.setC (0xB00 + i) (BitVec.ofNat 64 v)
      if v < 2 ^ 64 then x else x.setC (0x320 + i) (setBits sel 63 1 1)) h

/-- An instruction of the hart has completed: the next pc, and minstret unless it is inhibited; it used one issue slot. -/
def Hart.retire (h : Hart) (npc : W64) : Hart :=
  let h := ({ h with wait := none, pc := npc, used := h.used + 1 }.countEv 0x0002 1).countEv 0x0010 1
  if bitAt (h.c 0x320) 2 then h else h.setC 0xB02 (h.c 0xB02 + 1)

/-- A WAITQ returns: its status is written and a reservation is lost (R416, R437). -/
def Hart.waitqEnd (h : Hart) (rd : Nat) (v : W64) : Hart := { (h.wx rd v).retire (h.pc + 4) with resv := none }

/-- A hart is stopped: HART_STOPPED (R424). -/
def State.stopped (s : State) (h : Nat) : Bool := (s.fld F.ENG_HART_STOPPED_STOPPED (h / 128) (h % 128 / 32)).testBit (h % 32)

/-- HART_STOPPED of a hart, and STATE of its cluster (R424). -/
def State.setStopped (s : State) (h : Nat) (on : Bool) : State :=
  let c := h / 128
  let i := h % 128 / 32
  let m := s.fld F.ENG_HART_STOPPED_STOPPED c i
  let b := 2 ^ (h % 32)
  s.setFld F.ENG_HART_STOPPED_STOPPED (if on = m.testBit (h % 32) then m else if on then m + b else m - b) c i

/-- STATE of a cluster (R424). -/
def State.showCluster (s : State) (c : Nat) : State :=
  let stopped := ((List.range 4).map (fun i => popCount 32 (s.fld F.ENG_HART_STOPPED_STOPPED c i))).sum
  let waits := (s.eng.hart.filter (fun (e : Nat × Hart) => decide (e.1 / 128 = c) && !s.stopped e.1 && (match e.2.wait with
    | some (.queue _ _ _) => true
    | some (.lock _ _ _) => true
    | _ => false))).length
  ((s.setFld F.ENG_STATE_STOPPED stopped c).setFld F.ENG_STATE_WAITING waits c).setFld F.ENG_STATE_RUNNING (128 - stopped - waits) c

/-- The priority of what a hart runs: its base priority, or that of its handler (R417). -/
def Hart.running (h : Hart) : Nat := if h.frames = [] then bits (h.c CSR.prio) 0 3 else h.run

/-! ## The queue table (R413) -/

/-- A word of a queue-table entry in the active copy. -/
def State.qWord (s : State) (q w : Nat) : Nat :=
  (s.rd64 ((if s.flag F.ENG_QTBL_CTRL_ACTIVE then 0x2810000 else 0x2800000) + 16 * q + 8 * w)).toNat

def qBase (w0 : Nat) : Nat := w0 / 4096 * 4096
def qDepth (w0 : Nat) : Nat := w0 / 128 % 32
def qMode (w0 : Nat) : Nat := let m := w0 / 32 % 4; if m = 3 then 0 else m
def qPrio (w0 : Nat) : Nat := max 1 (w0 / 4 % 8)
def qUserOk (w0 : Nat) : Bool := w0.testBit 1
/-- The queue is valid: configured, with a depth of 6 to 16 (R413). -/
def State.qValid (s : State) (q : Nat) : Bool :=
  let w := s.qWord q 0
  decide (0x20 ≤ q) && decide (q < 4096) && w.testBit 0 && decide (6 ≤ qDepth w) && decide (qDepth w ≤ 16)

def State.queue (s : State) (q : Nat) : HwQ := mget {} s.eng.q q
def State.setQueue (s : State) (q : Nat) (x : HwQ) : State := s.setEng { s.eng with q := mput {} s.eng.q q x }
def State.qFull (s : State) (q : Nat) : Bool := decide (2 ^ qDepth (s.qWord q 0) ≤ (s.queue q).ents.length)
/-- The hart that a queue wakes or invokes. -/
def State.qHart (s : State) (q : Nat) : Nat := s.qWord q 1 % 4096

/-! ## Handler invocation (R417) -/

/-- The queues that qualify to invoke a handler on a hart, in ascending order. -/
def State.qualifying (s : State) (h : Nat) : List Nat :=
  let x := s.hart h
  if s.stopped h ∨ x.priv = 3 ∨ ¬ bitAt (x.c CSR.hstat) 0 ∨ x.resetting ∨ 8 ≤ x.frames.length then []
  else (s.eng.q.filter (fun (e : Nat × HwQ) => s.qValid e.1 && decide (qMode (s.qWord e.1 0) = 2) && decide (s.qHart e.1 = h) &&
    decide (x.running < qPrio (s.qWord e.1 0)) && !e.2.ents.isEmpty)).map (·.1)

/-- A hart's wait can be ended by an invocation or a trap: WAITQ writes 2 and moves on, LKACQ is withdrawn (R408, R416). -/
def Hart.interruptible (h : Hart) : Bool := match h.wait with
  | none => true
  | some (.queue _ _ _) => true
  | some (.lock _ _ _) => true
  | _ => false

/-- A hart's WAITQ or LKACQ is ended by a trap or an invocation. -/
def Hart.breakWait (h : Hart) : Hart := match h.wait with
  | some (.queue _ _ rd) => h.waitqEnd rd 2#64
  | some (.lock _ _ _) => { h with wait := none }
  | _ => h

/-- The highest PRIO among queues that qualify is invoked, the lowest number among equals (R417). -/
def State.invoke (s : State) (h : Nat) : State :=
  let x := s.hart h
  if ¬ x.interruptible then s
  else match s.qualifying h with
    | [] => s
    | q0 :: rest =>
      let q := rest.foldl (fun b q => if qPrio (s.qWord b 0) < qPrio (s.qWord q 0) then q else b) q0
      let p := qPrio (s.qWord q 0)
      let pre := !x.frames.isEmpty
      let y := x.breakWait
      let z := { y with frames := { pc := y.pc, priv := y.priv, prio := y.running } :: y.frames, run := p, priv := 1, pc := y.c CSR.hvec, resv := none }
      let s := s.setHart h ((z.setC CSR.hcause (BitVec.ofNat 64 (p * 4096 + q))).countEv 0x000B 1)
      let s := s.count F.ENG_CNT_INVOKE_COUNT (h / 128)
      (if pre then s.count F.ENG_CNT_PREEMPT_COUNT (h / 128) else s).showCluster (h / 128)

/-- Harts whose WAITQ on a queue ends because it holds an entry (R416). -/
def State.wakeWaiters (s : State) (q : Nat) : State :=
  (s.eng.hart.filter (fun (e : Nat × Hart) => match e.2.wait with
    | some (.queue k _ _) => decide (k = q) && !s.stopped e.1
    | _ => false)).foldl (fun s e => match e.2.wait with
      | some (.queue _ _ rd) => (s.setHart e.1 (e.2.waitqEnd rd 0#64)).showCluster (e.1 / 128)
      | _ => s) s

/-- An event enabled on a hart is pending (R416). -/
def State.eventPending (s : State) (h : Nat) : Bool := decide (mget 0#64 s.evt h &&& (s.hart h).c CSR.evten ≠ 0#64)

/-- A hart's WAITQ with the event flag ends when an enabled event is pending (R416). -/
def State.wakeEvent (s : State) (h : Nat) : State :=
  let x := s.hart h
  match x.wait with
  | some (.queue _ true rd) =>
    if s.eventPending h ∧ ¬ s.stopped h then (s.setHart h (x.waitqEnd rd 1#64)).showCluster (h / 128) else s
  | _ => s

/-- An entry joins a queue that has room (R414): it is written to the ring, a WAITQ ends, the hart's cluster wakes and a
handler may be invoked. -/
def State.qAppend (s : State) (q : Nat) (e : List Byte) : State :=
  let x := s.queue q
  let w := s.qWord q 0
  let slot := x.pushed % 2 ^ qDepth w
  let s := s.setQueue q { ents := x.ents ++ [(slot, e)], pushed := x.pushed + 1 }
  let s := s.memWrite ((qBase w + 16 * slot) % hbmBytes) e
  let s := (s.wakeWaiters q)
  if qMode w = 0 then s
  else
    let h := s.qHart q
    let s := s.wake (Dom.cluster (h / 128))
    if qMode w = 2 then s.invoke h else s

/-- A device's push (R414): whether the queue took it. A queue that is not valid takes nothing. -/
def State.devPush (s : State) (q : Nat) (e : List Byte) : Bool × State :=
  if ¬ s.qValid q ∨ s.qFull q then (false, s) else (true, s.qAppend q e)

/-- A received PTP frame is pushed with its data slot, or dropped and counted (R263, R414, R415). -/
def State.ptpPush (s : State) (q port stampNs : Nat) (frame : List Byte) : State :=
  let w := s.qWord q 0
  let base := s.qWord q 1 / 4096 * 4096
  let c := s.qHart q / 128
  if ¬ s.qValid q ∨ s.qFull q ∨ base = 0 then
    (s.count F.ENG_CNT_QDROP_COUNT c).raise (353 + 2 * c) 0x12 q
  else
    let slot := (s.queue q).pushed % 2 ^ qDepth w
    let rec_ := leBytes 2 port ++ leBytes 2 frame.length ++ leBytes 4 0 ++ slice frame 0 248
    let s := s.memWrite ((base + 256 * slot) % hbmBytes) rec_
    s.qAppend q (leBytes 8 stampNs ++ leBytes 2 slot ++ leBytes 6 0)

/-- Set an event bit of a hart and end its WAITQ where the event is enabled (R416). -/
def State.signal (s : State) (h bit : Nat) : State :=
  if h < 4096 then (((s.setEvt h bit).wakeEvent h)).wake (Dom.cluster (h / 128)) else s

end Sys2Proof.Machine
end

