-- ==== Sys2Proof/Machine/Placement.lean ====
section
/-!
DEFINITION. Machine/Placement.lean: steering, hints, migration, and where payload lies (chapter 17).
-/
namespace Sys2Proof.Machine

def State.setEp (s : State) (e : Ep) : State := { s with ep := e }
def State.ctx (s : State) (c : Nat) : Ctx := mget {} s.ep.ctx c
def State.setCtx (s : State) (c : Nat) (x : Ctx) : State := s.setEp { s.ep with ctx := mput {} s.ep.ctx c x }
def State.op (s : State) (t : Nat) : Option Op := mfind s.ep.op t
def State.setOp (s : State) (t : Nat) (o : Op) : State := s.setEp { s.ep with op := minsert s.ep.op t o }

/-- One of several equally good members, by a free choice where the spec states no tie rule (log 8). -/
def State.pickTie (s : State) (l : List Nat) : Option Nat × State :=
  match l with
  | [] => (none, s)
  | [x] => (some x, s)
  | _ => let (k, s) := s.takeFree; (l[Config.choice k % l.length]?, s)

/-- The first number not in use, counting cyclically from a free start (log 8). -/
def State.freshId (s : State) (n : Nat) (used : Nat → Bool) : Option Nat × State :=
  let (k, s) := s.takeFree
  let k := Config.choice k % n
  ((((List.range n).map (fun i => (k + i) % n)).find? (fun i => !used i)), s)

/-! ## Hints and scores (R453–R455) -/

/-- The hint entry of a context in force (R455). -/
def State.hint (s : State) (c : Nat) : Nat := (s.rd64 (0x3000000 + 8 * c)).toNat
def hPin (h : Nat) : Bool := h.testBit 63
def hPinCluster (h : Nat) : Nat := h / 2 ^ 58 % 32
/-- STAGE and UNEXP, with 3 taken as 0. -/
def hStage (h : Nat) : Nat := let v := h / 2 ^ 56 % 4; if v = 3 then 0 else v
def hUnexp (h : Nat) : Nat := let v := h / 2 ^ 54 % 4; if v = 3 then 0 else v
def hHandler (h : Nat) : Nat := h / 2 ^ 50 % 16

/-- The clusters that may serve a context (R453). -/
def allowedSet (h : Nat) : List Nat :=
  if hPin h then [hPinCluster h]
  else
    let m := h % 2 ^ 32
    if m = 0 then List.range 32 else (List.range 32).filter (fun c => m.testBit c)

/-- Operations by tag that satisfy a test. -/
def State.opsWhere (s : State) (p : Op → Bool) : List (Nat × Op) := s.ep.op.filter (fun e => p e.2)

/-- The score of a cluster (R454). -/
def State.scoreNow (s : State) (c : Nat) : Nat :=
  (s.opsWhere (fun o => decide (o.cluster = c) && (decide (o.handler = 1) || decide (o.handler = 4)))).length +
    (s.ep.ctx.filter (fun (e : Nat × Ctx) => e.2.steered && (decide (e.2.cluster = c) || decide (e.2.oldCluster = some c)))).length / 64

/-- The score last sampled (R454). -/
def State.score (s : State) (c : Nat) : Nat := s.fld F.PLC_LOAD_SCORE 0 c

/-- The members of a list with the least measure. -/
def leastOf (f : Nat → Nat) (l : List Nat) : List Nat :=
  match l with
  | [] => []
  | a :: t => let m := t.foldl (fun b x => min b (f x)) (f a); l.filter (fun x => decide (f x = m))

/-- The cluster that PLC chooses from a set: the awake one with the lowest score, or the lowest number (R453). -/
def State.chooseCluster (s : State) (set : List Nat) : Nat :=
  let awake := set.filter (fun c => s.awake (Dom.cluster c))
  ((leastOf s.score awake).head?).getD (set.head?.getD 0)

/-! ## Migration (R459–R462) -/

/-- A context's unreleased operations of an epoch other than its own (R460). -/
def State.oldEpoch (s : State) (c : Nat) : Bool :=
  let e := (s.ctx c).epoch
  !(s.opsWhere (fun o => decide (o.ctx = c) && decide (o.epoch ≠ e))).isEmpty

/-- The steering entry is rewritten with epoch + 1, and kind 0x01 raised (R461, R467). -/
def State.migrate (s : State) (c cl : Nat) : State :=
  let x := s.ctx c
  let e := (x.epoch + 1) % 2 ^ 24
  let busy := !(s.opsWhere (fun o => decide (o.ctx = c))).isEmpty
  let s := s.setCtx c { x with cluster := cl, epoch := e, steered := true, movedAt := some s.clk, oldCluster := if busy then some x.cluster else none }
  s.raise 688 0x01 (e * 2 ^ 28 + x.cluster * 2 ^ 23 + cl * 2 ^ 18 + c)

/-- A software migration (R460). -/
def State.softMigrate (s : State) (c cl : Nat) : State :=
  let x := s.ctx c
  let s := (s.setFld F.PLC_MIG_STATUS_CONTEXT c).setFld F.PLC_MIG_STATUS_PENDING 0
  if x.state = CS.disabled ∨ x.state = CS.resetting ∨ cl ∉ allowedSet (s.hint c) ∨ s.oldEpoch c then
    ((s.setFld F.PLC_MIG_STATUS_REFUSED 1).count F.PLC_CNT_MIG_REFUSED_COUNT 0).raise 688 0x02 (cl * 2 ^ 18 + c)
  else ((s.setFld F.PLC_MIG_STATUS_REFUSED 0).count F.PLC_CNT_MIG_SW_COUNT 0).migrate c cl

/-- A context that PLC may move by itself (R459). -/
def State.movable (s : State) (c : Nat) : Bool :=
  let x := s.ctx c
  (decide (x.state = CS.enabled) || decide (x.state = CS.halted)) && !hPin (s.hint c) && !s.oldEpoch c &&
    (match x.movedAt with
    | some t => decide (t + 1000 * s.fld F.PLC_MIG_RATE_HOLD_US ≤ s.clk)
    | none => true)

/-- Unreleased handler entries of a context on a cluster. -/
def State.handlersOf (s : State) (c cl : Nat) : Nat :=
  (s.opsWhere (fun o => decide (o.ctx = c) && decide (o.cluster = cl) && (decide (o.handler = 1) || decide (o.handler = 4)))).length

/-- One automatic migration, within the rate (R459). -/
def State.autoMigrate (s : State) (c cl : Nat) : State :=
  let recent := s.ep.migrations.filter (fun t => decide (s.clk < t + 100000))
  if s.fld F.PLC_MIG_RATE_MAX ≤ recent.length then s
  else ((s.setEp { s.ep with migrations := s.clk :: recent }).count F.PLC_CNT_MIG_COUNT 0).migrate c cl

/-- The contexts that PLC may move from a cluster to one of a list of others, with the targets that each may take. -/
def State.moves (s : State) (cl : Nat) (others : List Nat) : List (Nat × List Nat) :=
  (s.ep.ctx.filterMap (fun (e : Nat × Ctx) =>
    if e.2.steered ∧ e.2.cluster = cl ∧ s.movable e.1 then
      let ts := others.filter (fun o => decide (o ∈ allowedSet (s.hint e.1)))
      if ts = [] then none else some (e.1, ts)
    else none))

/-- The balance case of R459. -/
def State.balance (s : State) : State :=
  let awake := (List.range 32).filter (fun c => s.awake (Dom.cluster c))
  let high := leastOf (fun c => 65535 - s.score c) awake
  match s.pickTie high with
  | (none, s) => s
  | (some h, s) =>
    if s.score h < s.fld F.PLC_MIG_CFG_HIGH then s
    else
      let lows := awake.filter (fun c => decide (c ≠ h) && decide (s.score c ≤ s.fld F.PLC_MIG_CFG_LOW))
      let ms := s.moves h lows
      match s.pickTie (leastOf (fun c => 65536 - s.handlersOf c h) (ms.map (·.1))) with
      | (none, s) => s
      | (some c, s) =>
        let ts := ((ms.find? (fun m => decide (m.1 = c))).map (·.2)).getD []
        match s.pickTie (leastOf s.score ts) with
        | (none, s) => s
        | (some t, s) => s.autoMigrate c t

/-- The consolidation case of R459 for one cluster. -/
def State.consolidate (s : State) (cl : Nat) : State :=
  match mfind s.ep.lowSince cl with
  | none => s
  | some t =>
    if s.clk < t + 1000 * s.fld F.PLC_CONSOLIDATE_US then s
    else
      let others := (List.range 32).filter (fun c => decide (c ≠ cl) && s.awake (Dom.cluster c))
      let ms := s.moves cl others
      match s.pickTie (leastOf (fun c => s.handlersOf c cl) (ms.map (·.1))) with
      | (none, s) => s
      | (some c, s) =>
        let ts := ((ms.find? (fun m => decide (m.1 = c))).map (·.2)).getD []
        match s.pickTie (leastOf s.score ts) with
        | (none, s) => s
        | (some t, s) => s.autoMigrate c t

/-- The steering entry of a context as a decision reads it: an uncorrectable one is replaced by a fresh choice (R462). -/
def State.steer (s : State) (c : Nat) : State :=
  if s.armed F.PLC_INJECT_STEER_ECC 0 then
    let s := (s.setArmed F.PLC_INJECT_STEER_ECC 0 false).raise 688 0x04 c
    s.migrate c (s.chooseCluster (allowedSet (s.hint c)))
  else s

/-- The first steering of a context: its cluster under R453, its epoch as before (R451). -/
def State.firstSteer (s : State) (c : Nat) : State :=
  let x := s.ctx c
  if x.steered then s else s.setCtx c { x with cluster := s.chooseCluster (allowedSet (s.hint c)), steered := true }

/-! ## Payload (R463, R464) -/

/-- The tile and the switch die of a context's host port; the management port counts as die 0. -/
def State.portTile (s : State) (p : Nat) : Nat := if p < 64 then s.fld F.HPT_CFG_FIRST_LANE p / 16 % 32 else 0
def State.portDie (s : State) (p : Nat) : Nat := s.portTile p / 16

/-- Cells of the die's buffer that no reserved share takes and that no link holds of the shared pool (R57, R58). -/
def State.freeShared (s : State) (die : Nat) : Nat :=
  let ls := s.lnk.filter (fun (e : Nat × Link) => decide (s.linkTile e.1 / 16 = die) && (decide (s.lstate e.1 = LS.active) || decide (s.lstate e.1 = LS.quiet)))
  393216 - (ls.map (fun e => e.2.rxShared + ((List.range 8).map (fun tc => s.fld F.FWD_BUF_RSV_CELLS (s.linkTile e.1) tc)).sum)).sum

/-- PLC's choice of the place of an operation's staged payload: HBM or not (R463). -/
def State.stageDecide (s : State) (c len : Nat) : Bool × State :=
  let st := hStage (s.hint c)
  let die := s.portDie (s.ctx c).port
  let cells := (len + 255) / 256
  let hbm := decide (st = 2) || (decide (st = 0) && decide (1024 * s.fld F.PLC_STAGE_SRAM_MAX_KIB < len)) ||
    decide (256 * s.fld F.PLC_STAGE_SRAM_CELLS < mget 0 s.ep.stagedCells die + cells) || decide (s.freeShared die < mget 0 s.ep.stagedCells die + cells)
  let s := if hbm then s.count F.PLC_CNT_STAGE_HBM_COUNT 0
    else (s.setEp { s.ep with stagedCells := mput 0 s.ep.stagedCells die (mget 0 s.ep.stagedCells die + cells) }).count F.PLC_CNT_STAGE_SRAM_COUNT 0
  (hbm, s)

/-- PLC's choice of the place of a message's staged payload (R464); `units` are the SRAM units in use at the MAT. -/
def State.unexpDecide (s : State) (c len units : Nat) : Bool :=
  let u := hUnexp (s.hint c)
  decide (u = 2) || (decide (u = 0) && decide (s.fld F.PLC_UNEXP_SRAM_MAX_BYTES < len)) ||
    decide (s.fld F.PLC_UNEXP_SRAM_UNITS < units + (len + 255) / 256)

/-! ## The commands of placement -/

/-- A cluster's score at or below SLEEP_BELOW is timed from its first sample (R459). -/
def State.timeLow (s : State) (c v : Nat) : State :=
  let low := s.ep.lowSince
  let low := if v ≤ s.fld F.PLC_MIG_CFG_SLEEP_BELOW then (if (mfind low c).isSome then low else minsert low c s.clk) else merase low c
  s.setEp { s.ep with lowSince := low }

/-- SCORE_SAMPLE (R454): every cluster's score and AWAKE are shown, and a score at or below SLEEP_BELOW is timed. -/
def execScoreSample (s : State) : Out :=
  .next ((List.range 32).foldl (fun s c =>
    let v := min (s.scoreNow c) 65535
    ((s.setFld F.PLC_LOAD_SCORE v 0 c).setFld F.PLC_LOAD_AWAKE (if s.awake (Dom.cluster c) then 1 else 0) 0 c).timeLow c v) s)

/-- MIGRATION_CHECK (R459). -/
def execMigrationCheck (s : State) : Out :=
  if ¬ s.flag F.PLC_CFG_MIG_EN then .next s
  else
    let s := s.balance
    .next (if s.flag F.PLC_CFG_CONSOLIDATE_EN then (List.range 32).foldl State.consolidate s else s)

/-- MIGRATE (R460): a write of PLC.MIGRATE with GO. -/
def execMigrate (ctx : Fin 262144) (cluster : Fin 32) (s : State) : Out :=
  if s.flag F.PLC_MIG_STATUS_PENDING then .next s else .next (s.softMigrate ctx.val cluster.val)

/-- HINT_APPLY (R455, R456): a write of the high word applies it with the agent's staged low word. -/
def execHintApply (ag : Agent) (ctx : Fin 262144) (hi : W32) (s : State) : Out :=
  let a := 0x3000000 + 8 * ctx.val
  let m := mget [] s.regs.staged ag.key
  let lo := (mfind m a).getD (s.rd a)
  let s := { s with regs := { s.regs with staged := mput [] s.regs.staged ag.key (merase m a) } }
  let s := (s.wr a lo).wr (a + 4) (hi &&& 0xFFFC0000#32)
  let set := allowedSet (s.hint ctx.val)
  let x := s.ctx ctx.val
  if x.steered ∧ x.cluster ∉ set then .next (s.softMigrate ctx.val (s.chooseCluster set)) else .next s

/-- PLC_INJECT_STEER_ECC (R468). -/
def execPlcInjectSteerEcc (s : State) : Out := .next (s.setArmed F.PLC_INJECT_STEER_ECC 0 true)

end Sys2Proof.Machine
end

