-- ==== Sys2Proof/Machine/Aes.lean ====
section
/-!
DEFINITION. Machine/Aes.lean: AES-256 and its Galois/counter mode, the cipher of the port's MACsec suite GCM-AES-XPN-256
(R261), as FIPS 197 and NIST SP 800-38D define them.
-/
namespace Sys2Proof.Machine

/-- Multiplication by x in GF(2^8) modulo x^8 + x^4 + x^3 + x + 1. -/
def xtime (b : Byte) : Byte := if b.msb then (b <<< 1) ^^^ 0x1B#8 else b <<< 1

/-- Multiplication in GF(2^8). -/
def gmul (a b : Byte) : Byte :=
  ((List.range 8).foldl (fun (r : Byte × Byte) i => (if b.getLsbD i then r.1 ^^^ r.2 else r.1, xtime r.2)) (0#8, a)).1

/-- The inverse in GF(2^8), 0 for 0: the 254th power. -/
def ginv (a : Byte) : Byte :=
  let a2 := gmul a a
  let a4 := gmul a2 a2
  let a8 := gmul a4 a4
  let a16 := gmul a8 a8
  let a32 := gmul a16 a16
  let a64 := gmul a32 a32
  let a128 := gmul a64 a64
  gmul (gmul (gmul a128 a64) (gmul a32 a16)) (gmul (gmul a8 a4) a2)

/-- The AES S-box. -/
def sbox (a : Byte) : Byte :=
  let b := ginv a
  b ^^^ b.rotateLeft 1 ^^^ b.rotateLeft 2 ^^^ b.rotateLeft 3 ^^^ b.rotateLeft 4 ^^^ 0x63#8

/-- Bytes combined by exclusive or. -/
def xorB (a b : List Byte) : List Byte := List.zipWith (· ^^^ ·) a b

/-- The AES-256 key schedule, newest word first: 60 words of four bytes. -/
def keyWords (key : List Byte) : List (List Byte) :=
  let w0 := ((List.range 8).map (fun i => slice key (4 * i) 4)).reverse
  ((List.range 52).foldl (fun (r : List (List Byte) × Byte) k =>
    let i := k + 8
    let last := r.1.headD []
    let t :=
      if i % 8 = 0 then
        match (last.drop 1 ++ last.take 1).map sbox with
        | x :: tl => (x ^^^ r.2) :: tl
        | [] => []
      else if i % 8 = 4 then last.map sbox
      else last
    (xorB (r.1.getD 7 []) t :: r.1, if i % 8 = 0 then xtime r.2 else r.2)) (w0, 1#8)).1

/-- One column of MixColumns. -/
def mixColumn (c : List Byte) : List Byte :=
  let x (i : Nat) : Byte := c.getD (i % 4) 0
  (List.range 4).map (fun i => gmul 2#8 (x i) ^^^ gmul 3#8 (x (i + 1)) ^^^ x (i + 2) ^^^ x (i + 3))

/-- ShiftRows on a block in column order. -/
def shiftRows (b : List Byte) : List Byte := (List.range 16).map (fun i => b.getD ((i + 4 * (i % 4)) % 16) 0)

/-- AES-256 of one block. -/
def aes256 (key block : List Byte) : List Byte :=
  let ws := (keyWords key).reverse
  let rk (r : Nat) : List Byte := (List.range 4).flatMap (fun i => ws.getD (4 * r + i) [])
  let mix (b : List Byte) : List Byte := (List.range 4).flatMap (fun i => mixColumn (slice b (4 * i) 4))
  let mid := (List.range 13).foldl (fun b r => xorB (mix (shiftRows (b.map sbox))) (rk (r + 1))) (xorB block (rk 0))
  xorB (shiftRows (mid.map sbox)) (rk 14)

/-- Multiplication in GHASH's field, bit 127 the coefficient of x^0. -/
def ghashMul (x y : BitVec 128) : BitVec 128 :=
  ((List.range 128).foldl (fun (r : BitVec 128 × BitVec 128) i =>
    (if x.getLsbD (127 - i) then r.1 ^^^ r.2 else r.1,
     if r.2.getLsbD 0 then (r.2 >>> 1) ^^^ (0xE1#128 <<< 120) else r.2 >>> 1)) (0#128, y)).1

/-- A list cut into blocks of 16 bytes, the last padded with zeros. -/
def blocks16 (l : List Byte) : List (List Byte) := (List.range ((l.length + 15) / 16)).map (fun i => slice l (16 * i) 16)

/-- GHASH of additional data and ciphertext. -/
def ghash (h : BitVec 128) (aad c : List Byte) : BitVec 128 :=
  (blocks16 aad ++ blocks16 c ++ [beBytes 8 (8 * aad.length) ++ beBytes 8 (8 * c.length)]).foldl
    (fun y b => ghashMul (y ^^^ BitVec.ofNat 128 (beNat b)) h) 0#128

/-- The counter-mode stream over data from counter 2. -/
def gcmCtr (key iv data : List Byte) : List Byte :=
  ((List.range ((data.length + 15) / 16)).flatMap (fun i =>
    let d := (data.drop (16 * i)).take 16
    xorB d (aes256 key (iv ++ beBytes 4 (i + 2)))))

/-- The tag of additional data and ciphertext under a 96-bit IV. -/
def gcmTag (key iv aad c : List Byte) : List Byte :=
  let h := BitVec.ofNat 128 (beNat (aes256 key (List.replicate 16 0#8)))
  xorB (beBytes 16 (ghash h aad c).toNat) (aes256 key (iv ++ beBytes 4 1))

end Sys2Proof.Machine
end

