-- ==== Sys2Proof/Machine/Packet.lean ====
section
/-!
DEFINITION. Machine/Packet.lean: the forms of the fabric packet (chapter 02): header fields, checks, opcodes, extensions
and the building of packets.
-/
namespace Sys2Proof.Machine

/-- One bit step of a non-reflected CRC-16 with polynomial 0x1021. -/
def crc16Bit (c : BitVec 16) : BitVec 16 := if c.msb then (c <<< 1) ^^^ 0x1021#16 else c <<< 1

/-- One byte of HCHK's CRC-16 (R37). -/
def crc16Byte (c : BitVec 16) (b : Byte) : BitVec 16 :=
  Nat.repeat crc16Bit 8 (c ^^^ (b.setWidth 16 <<< 8))

/-- HCHK over header bytes 0–29 (R37). -/
def hchk (hdr : List Byte) : BitVec 16 := (hdr.take 30).foldl crc16Byte 0xFFFF#16

/-- One bit step of a reflected CRC-32 with a reversed polynomial. -/
def crc32Bit (poly : W32) (c : W32) : W32 := if c.getLsbD 0 then (c >>> 1) ^^^ poly else c >>> 1

/-- A reflected CRC-32 with initial value 0xFFFF_FFFF and final inversion. -/
def crc32 (poly : W32) (l : List Byte) : W32 :=
  ~~~ (l.foldl (fun c b => Nat.repeat (crc32Bit poly) 8 (c ^^^ b.setWidth 32)) 0xFFFFFFFF#32)

/-- CRC-32C, polynomial 0x1EDC6F41 reflected (R38). -/
def crc32c (l : List Byte) : W32 := crc32 0x82F63B78#32 l

/-- LCRC and FCRC, polynomial 0x04C11DB7 reflected (R107, R153). -/
def lcrc (l : List Byte) : W32 := crc32 0xEDB88320#32 l

/-! ## Header fields (R33) -/

def pPath (p : List Byte) : Nat := beAt p 0 8
def pDst (p : List Byte) : Nat := beAt p 8 4
def pSrc (p : List Byte) : Nat := beAt p 12 4
def pSeq (p : List Byte) : Nat := beAt p 16 4
def pOpc (p : List Byte) : Nat := beAt p 20 1
def pClass (p : List Byte) : Nat := beAt p 21 1
def pPlen (p : List Byte) : Nat := beAt p 22 2
def pTag (p : List Byte) : Nat := beAt p 24 2
def pChunk (p : List Byte) : Nat := beAt p 26 2
def pXlen (p : List Byte) : Nat := beAt p 28 1
def pFlags (p : List Byte) : Nat := beAt p 29 1
def pHchk (p : List Byte) : Nat := beAt p 30 2
def pTc (p : List Byte) : Nat := pClass p / 32
def pVc (p : List Byte) : Nat := pClass p / 8 % 4
def pFence (p : List Byte) : Bool := (pClass p).testBit 2
def pViaduct (p : List Byte) : Bool := (pClass p).testBit 1
def pAckReq (p : List Byte) : Bool := (pClass p).testBit 0
def pCe (p : List Byte) : Bool := (pFlags p).testBit 7
def pFirst (p : List Byte) : Bool := (pFlags p).testBit 6
def pLast (p : List Byte) : Bool := (pFlags p).testBit 5
def pTrace (p : List Byte) : Bool := (pFlags p).testBit 3
def pBump (p : List Byte) : Bool := (pFlags p).testBit 2
/-- The router id of a fabric address (R5). -/
def routerOf (a : Nat) : Nat := a / 2 ^ 18 % 2 ^ 14
/-- The context index of a fabric address (R5). -/
def ctxOf (a : Nat) : Nat := a % 2 ^ 18
/-- A fabric address (R5). -/
def fabAddr (router ctx : Nat) : Nat := router % 2 ^ 14 * 2 ^ 18 + ctx % 2 ^ 18
/-- The extension bytes. -/
def pExt (p : List Byte) : List Byte := slice p 32 (8 * pXlen p)
/-- The payload bytes. -/
def pPayload (p : List Byte) : List Byte := slice p (32 + 8 * pXlen p) (pPlen p)
/-- The length that the header states (R36). -/
def pLen (p : List Byte) : Nat := 32 + 8 * pXlen p + pPlen p + 4

/-! ## Path words (R65) -/

def wHop (w k : Nat) : Nat := w / 2 ^ (56 - 8 * k) % 256
def wCount (w : Nat) : Nat := w / 2 ^ 13 % 8
def wNext (w : Nat) : Nat := w / 2 ^ 10 % 8
def wValiant (w : Nat) : Bool := w.testBit 9
def wDetoured (w : Nat) : Bool := w.testBit 8
def wClass (w : Nat) : Nat := w % 256
/-- A path word from its hops and fields. -/
def mkPath (hops : List Nat) (count next : Nat) (valiant detoured : Bool) (cls : Nat) : Nat :=
  (List.range 6).foldl (fun a k => a + hops.getD k 0 * 2 ^ (56 - 8 * k)) 0 + count * 2 ^ 13 + next * 2 ^ 10 +
    (if valiant then 512 else 0) + (if detoured then 256 else 0) + cls
/-- The hops of a path word, all six fields. -/
def wHops (w : Nat) : List Nat := (List.range 6).map (wHop w)

/-! ## Changing a header in flight -/

def setPath (h : List Byte) (w : Nat) : List Byte := overwrite h 0 (beBytes 8 w)
def setVc (h : List Byte) (vc : Nat) : List Byte :=
  overwrite h 21 (beBytes 1 (pClass h / 32 * 32 + vc % 4 * 8 + pClass h % 8))
/-- FLAGS with one bit set or cleared. -/
def setFlag (h : List Byte) (i : Nat) (on : Bool) : List Byte :=
  let f := pFlags h
  overwrite h 29 (beBytes 1 (if on = f.testBit i then f else if on then f + 2 ^ i else f - 2 ^ i))
/-- The header with HCHK recomputed (R37). -/
def sealHdr (h : List Byte) : List Byte := overwrite (slice h 0 32) 30 (beBytes 2 (hchk h).toNat)

/-- The header bytes that the end-to-end CRC covers: 8–29 with VC, CE and BUMP taken as 0 (R38). -/
def e2eHeader (h : List Byte) : List Byte :=
  slice (setFlag (setFlag (setVc h 0) 7 false) 2 false) 8 22

/-- The end-to-end CRC of a packet whose last four bytes are the CRC field (R38). -/
def e2eCrc (p : List Byte) : W32 := crc32c (e2eHeader p ++ slice p 32 (p.length - 36))

/-- The end-to-end CRC field matches (R38). -/
def e2eOk (p : List Byte) : Bool := beAt p (p.length - 4) 4 == (e2eCrc p).toNat

/-- The fields from which a packet is built. -/
structure PktHead where
  dst : Nat
  src : Nat
  seq : Nat := 0
  opc : Nat
  tc : Nat
  fence : Bool := false
  viaduct : Bool := false
  ackReq : Bool := false
  tag : Nat := 0
  chunk : Nat := 0
  first : Bool := false
  last : Bool := false
  retx : Bool := false
  trace : Bool := false
deriving DecidableEq, Repr

/-- A packet with its end-to-end CRC computed by the source, on VC0, with an empty path word (R33, R38, R67). -/
def mkPacket (h : PktHead) (ext payload : List Byte) : List Byte :=
  let b (x : Bool) (v : Nat) : Nat := if x then v else 0
  let cls := h.tc % 8 * 32 + b h.fence 4 + b h.viaduct 2 + b h.ackReq 1
  let flags := b h.first 64 + b h.last 32 + b h.retx 16 + b h.trace 8
  let hdr := beBytes 8 0 ++ beBytes 4 h.dst ++ beBytes 4 h.src ++ beBytes 4 h.seq ++ beBytes 1 h.opc ++ beBytes 1 cls ++
    beBytes 2 payload.length ++ beBytes 2 h.tag ++ beBytes 2 h.chunk ++ beBytes 1 (ext.length / 8) ++ beBytes 1 flags ++ beBytes 2 0
  let body := sealHdr hdr ++ ext ++ payload
  body ++ beBytes 4 (e2eCrc (body ++ beBytes 4 0)).toNat

/-- The opcodes of Table 3 (R39): whether the code is marked TC7, and its XLEN. -/
def opcodeInfo (o : Nat) : Option (Bool × Nat) :=
  if o ≤ 0x03 then some (false, 3)
  else if o = 0x20 ∨ o = 0x21 ∨ o = 0x22 ∨ o = 0x24 then some (false, 3)
  else if o = 0x23 ∨ o = 0x25 ∨ o = 0x26 then some (false, 1)
  else if 0x40 ≤ o ∧ o ≤ 0x47 then some (false, 2)
  else if o = 0x48 then some (true, 2)
  else if o = 0x60 then some (true, 5)
  else if o = 0x62 then some (true, 4)
  else if o = 0x63 ∨ o = 0x64 then some (true, 2)
  else if o = 0x70 then some (false, 1)
  else if o = 0x71 then some (true, 4)
  else if o = 0x72 then some (true, 2)
  else none

/-- The class rule of R40 holds for a header. A reserved opcode is marked neither way. -/
def classOk (h : List Byte) : Bool :=
  let tc7 := decide (pTc h = 7)
  let marked := match opcodeInfo (pOpc h) with
    | some (t, _) => t
    | none => false
  decide (tc7 = marked) && decide (pViaduct h = decide (pOpc h = 0x70))

/-- The opcode and extension check at the destination (R41, R53). -/
def opcodeOk (h : List Byte) : Bool :=
  match opcodeInfo (pOpc h) with
  | some (_, x) => decide (pXlen h = x)
  | none => false

/-- A collective opcode, taken by a tree entry at the last hop (R42, R93). -/
def isColl (o : Nat) : Bool := decide (0x40 ≤ o ∧ o ≤ 0x48) || decide (o = 0x64)

/-- The cells a packet of a length occupies (R57). -/
def cellsOf (len : Nat) : Nat := (len + 255) / 256

/-- The wire length of a packet (R31). -/
def wireLen (len : Nat) : Nat := len + 8

end Sys2Proof.Machine
end

