-- ==== Sys2Proof/Machine/Routing.lean ====
section
/-!
DEFINITION. Machine/Routing.lean: route entries, levels, the choice of a path, failed marks, detours and load levels
(chapter 03).
-/
namespace Sys2Proof.Machine

/-! ## The packet buffer -/

def State.pkt (s : State) (id : Nat) : Option Pkt := mfind s.fwd.pkts id
def State.setPkt (s : State) (id : Nat) (p : Pkt) : State := { s with fwd := { s.fwd with pkts := minsert s.fwd.pkts id p } }
/-- A packet stored under a fresh number. -/
def State.addPkt (s : State) (p : Pkt) : Nat × State :=
  (s.fwd.nextPkt, { s with fwd := { s.fwd with pkts := minsert s.fwd.pkts s.fwd.nextPkt p, nextPkt := s.fwd.nextPkt + 1 } })
/-- The key of an output queue (R44). -/
def outKey (l tc vc : Nat) : Nat := l * 32 + tc * 4 + vc
def State.outQ (s : State) (l tc vc : Nat) : List QEnt := mget [] s.fwd.outQ (outKey l tc vc)
def State.setOutQ (s : State) (l tc vc : Nat) (q : List QEnt) : State :=
  { s with fwd := { s.fwd with outQ := mput [] s.fwd.outQ (outKey l tc vc) q } }
/-- The cells that the entries of a queue hold (R57). -/
def State.qCells (s : State) (q : List QEnt) : Nat :=
  (q.map (fun e => match s.pkt e.pkt with
    | some p => cellsOf p.len
    | none => 0)).sum
/-- The cells queued for a link on TC0–TC6 (R75). -/
def State.linkCells (s : State) (l : Nat) : Nat :=
  ((List.range 28).map (fun k => s.qCells (s.outQ l (k / 4) (k % 4)))).sum

/-! ## Levels (R75, R83) -/

/-- A link that forwarding may queue for: ACTIVE and not being torn down, or in quiet sleep (R46, R135, R137, R138). -/
def State.linkUsable (s : State) (l : Nat) : Bool :=
  (s.lstate l == LS.active && !(s.link l).teardown) || s.lstate l == LS.quiet

/-- The level of an output link at its own router (R75). -/
def State.level (s : State) (l : Nat) : Nat :=
  if ¬ s.linkUsable l then 255
  else if s.lstate l = LS.quiet then s.fld F.ROU_LR_CFG_SLEEP_LEVEL
  else min 254 (s.linkCells l / max 1 (s.fld F.ROU_LR_CFG_SCALE))

/-- The class level used in R76: the stored level aged, 0 for a class never reported (R83). -/
def State.classLevel (s : State) (c : Nat) : Nat :=
  let r := mget {} s.rou.cls c
  let el := s.clk - r.time
  if r.level = 255 then (if s.fld F.ROU_FAIL_HOLD_US * 1000 ≤ el then 0 else 255)
  else
    let p := s.fld F.ROU_AGE_CFG_PERIOD
    if p = 0 then r.level else r.level / 2 ^ (el / p)

/-! ## The route table (R69–R73) -/

/-- The active copy of ROU's tables is copy B. -/
def State.rouB (s : State) : Bool := s.flag F.ROU_TBL_CTRL_ACTIVE

/-- Word `w` of the route entry of a destination router in the active copy (R69, R97). -/
def State.routeWord (s : State) (dest w : Nat) : Nat :=
  (s.rd64 ((if s.rouB then 0x1200000 else 0x1000000) + 128 * dest + 8 * w)).toNat

/-- Candidate `i` (1–3 minimal, 4–15 Valiant) of an entry is valid (R69, R70). -/
def candValid (i w : Nat) : Bool :=
  decide (1 ≤ wCount w ∧ wCount w ≤ 6) && (if i ≤ 3 then !wValiant w && decide (wCount w ≤ 3) else wValiant w)

/-- The valid candidates of an index range: (index, path word) in ascending index. -/
def State.candidates (s : State) (dest lo hi : Nat) : List (Nat × Nat) :=
  (((List.range 16).filter (fun i => decide (lo ≤ i ∧ i ≤ hi))).map (fun i => (i, s.routeWord dest i))).filter
    (fun c => candValid c.1 c.2)

/-- One lookup's ECC injection: the other die's copy is read instead and kind 0x03 is raised for die 0 (R73, R101). -/
def State.routeLookup (s : State) (dest pipe : Nat) : State :=
  if s.armed F.ROU_INJECT_TBL_ECC 0 ∧ pipe < 16 then
    (s.setArmed F.ROU_INJECT_TBL_ECC 0 false).raise 689 0x03 (dest * 2 ^ 48)
  else s

/-! ## The choice (R76, R77, R608, R609) -/

/-- The generator's step (R608). -/
def xorshift (x : W64) : W64 :=
  let x := x ^^^ (x <<< 13)
  let x := x ^^^ (x >>> 7)
  x ^^^ (x <<< 17)

/-- A seed of 0 is replaced (R608). -/
def seedOf (x : W64) : W64 := if x = 0#64 then 0x9E3779B97F4A7C15#64 else x

/-- The generator state of a pipeline; at reset its seed comes from the security block's generator (R608). -/
def State.genState (s : State) (p : Nat) : W64 := (mfind s.rou.gen p).getD (seedOf (Config.secRandom p))

/-- One generator step of a pipeline: its output. -/
def State.genStep (s : State) (p : Nat) : W64 × State :=
  let y := xorshift (s.genState p)
  (y, { s with rou := { s.rou with gen := minsert s.rou.gen p y } })

/-- A random member of a non-empty set by one output (R609). -/
def memberAt (set : List (Nat × Nat)) (y : W64) : Option (Nat × Nat) :=
  set[(y.toNat / 2 ^ 32 * set.length) / 2 ^ 32]?

/-- The cost of a candidate (R76). -/
def State.cost (s : State) (w : Nat) : Nat := (s.level (wHop w 0) + s.classLevel (wClass w)) * wCount w

/-- pick2 of R77: two picks, the cheaper of them, the lower index on a tie. -/
def State.pick2 (s : State) (p : Nat) (set : List (Nat × Nat)) : Option (Nat × Nat) × State :=
  let (ya, s1) := s.genStep p
  let (yb, s2) := s1.genStep p
  match memberAt set ya, memberAt set yb with
  | some a, some b =>
    let ca := s.cost a.2
    let cb := s.cost b.2
    (some (if ca < cb then a else if cb < ca then b else if a.1 ≤ b.1 then a else b), s2)
  | _, _ => (none, s2)

/-- A failed mark stands on a candidate (R84). -/
def State.failedMark (s : State) (dest i : Nat) : Bool := (mfind s.rou.failed (dest * 16 + i)).isSome

/-- MIN_ONLY and PINNED of a class (R101). -/
def State.minOnly (s : State) (tc : Nat) : Bool := decide (tc = 7) || (s.fld F.ROU_TC_CFG_BITS).testBit (2 * tc + 1)
def State.pinnedTc (s : State) (tc : Nat) : Bool := (s.fld F.ROU_TC_CFG_BITS).testBit (2 * tc)

/-- All candidates marked failed: kind 0x02, at most once per FAIL_HOLD per destination (R77). -/
def State.allFailed (s : State) (dest tag : Nat) : State :=
  let hold := s.fld F.ROU_FAIL_HOLD_US * 1000
  let due := match mfind s.rou.allFailedAt dest with
    | some t => decide (t + hold ≤ s.clk)
    | none => true
  if due then
    ({ s with rou := { s.rou with allFailedAt := minsert s.rou.allFailedAt dest s.clk } }).raise 689 0x02 (dest * 2 ^ 48 + tag)
  else s

/-- One of the usable minimal and Valiant candidates (R77): any in the generator's order where adaptive routing is off, else the
less costly of the two picks, with the Valiant one's cost biased. -/
def State.chooseAmong (s : State) (pipe : Nat) (mins vals : List (Nat × Nat)) : Option (Nat × Nat) × State :=
  if ¬ s.flag F.ROU_CFG_ADAPTIVE_EN then
    let g := s.genStep pipe
    (memberAt (if mins.isEmpty then vals else mins) g.1, g.2)
  else if vals.isEmpty then s.pick2 pipe mins
  else if mins.isEmpty then s.pick2 pipe vals
  else
    let a := s.pick2 pipe mins
    let b := a.2.pick2 pipe vals
    let best : Option (Nat × Nat) := match a.1, b.1 with
      | some m, some v => some (if s.cost m.2 > s.cost v.2 + s.fld F.ROU_VAL_BIAS_BIAS then v else m)
      | _, _ => none
    (best, b.2)

/-- The choice of R77 for a destination router and class by the generator of a pipeline: the candidate's index and path
word, or none where the destination is unreachable (R72). -/
def State.choose (s : State) (dest tc pipe tag : Nat) : Option (Nat × Nat) × State :=
  let s := s.routeLookup dest pipe
  let w0 := s.routeWord dest 0
  let policy := w0 / 2 ^ 61 % 4
  let usable (c : Nat × Nat) : Bool := !s.failedMark dest c.1 && decide (s.level (wHop c.2 0) ≠ 255)
  let minsV := s.candidates dest 1 3
  let noVal := decide (tc = 7) || s.minOnly tc || decide (policy = 1) || !s.flag F.ROU_CFG_VALIANT_EN
  let valsV := if noVal then [] else s.candidates dest 4 15
  let mins0 := minsV.filter usable
  let vals0 := valsV.filter usable
  let mins1 := if policy = 2 ∧ vals0 ≠ [] then [] else mins0
  if ¬ w0.testBit 63 then (none, s)
  else
    let none0 := mins1.isEmpty && vals0.isEmpty
    let mins := if none0 then minsV else mins1
    let vals := if none0 then valsV else vals0
    if mins.isEmpty && vals.isEmpty then (none, s)
    else
      let s := if none0 then s.allFailed dest tag else s
      s.chooseAmong pipe mins vals

/-- A candidate chosen afresh, which a pinned class keeps for the operation. -/
def State.chooseFresh (s : State) (dest tc pipe tag : Nat) : Option (Nat × Nat) × State :=
  let c := s.choose dest tc pipe tag
  (c.1, c.1.elim c.2 (fun x => if s.pinnedTc tc then { c.2 with rou := { c.2.rou with pinned := minsert c.2.rou.pinned tag x.1 } } else c.2))

/-- The choice for a packet of an operation: the operation's first candidate in a pinned class unless it has been marked
failed since (R74), the choice of R77 otherwise. -/
def State.chooseFor (s : State) (dest tc pipe tag : Nat) : Option (Nat × Nat) × State :=
  if s.pinnedTc tc then
    match mfind s.rou.pinned tag with
    | some i => if s.failedMark dest i then s.chooseFresh dest tc pipe tag else
        let w := s.routeWord dest i
        if candValid i w ∧ (s.routeWord dest 0).testBit 63 then (some (i, w), s) else s.chooseFresh dest tc pipe tag
    | none => s.chooseFresh dest tc pipe tag
  else s.chooseFresh dest tc pipe tag

/-! ## Failed marks (R84) -/

/-- Set the failed mark of a candidate. -/
def State.markFailed (s : State) (dest i : Nat) : State :=
  let had := s.failedMark dest i
  let s1 := { s with rou := { s.rou with failed := minsert s.rou.failed (dest * 16 + i) s.clk } }
  if had then s1 else s1.count F.ROU_CNT_FAILMARK_COUNT 0

/-- Whether the path word of a ROUTE_ERROR matches a candidate (R84). -/
def errorMatches (w c : Nat) : Bool :=
  let n := wCount c
  let hopsEq (k : Nat) : Bool := (List.range k).all (fun j => decide (wHop w j = wHop c j))
  if ¬ wDetoured w then
    decide (wCount w = n) && decide (wValiant w = wValiant c) && hopsEq n
  else
    decide (wValiant w = wValiant c) &&
    (List.range n).any (fun d =>
      hopsEq d && decide (wHop w d ≠ wHop c d) &&
      ((decide (wCount w = n) && (List.range n).all (fun j => decide (j ≤ d) || decide (wHop w j = wHop c j))) ||
       (decide (wCount w = n + 1) && (List.range (n + 1)).all (fun j => decide (j < d + 2) || decide (wHop w j = wHop c (j - 1))))))

/-- Mark every matching candidate of a destination's entry. -/
def State.markMatching (s : State) (dest w : Nat) : State :=
  ((List.range 16).filter (fun i => decide (1 ≤ i))).foldl (fun s i =>
    let c := s.routeWord dest i
    if candValid i c ∧ errorMatches w c then s.markFailed dest i else s) s

/-! ## Detours (R87–R89) -/

/-- The detour entry of a link in the active copy (R87, R97). -/
def State.detourEntry (s : State) (l : Nat) : Nat := (s.rd64 ((if s.rouB then 0x1401000 else 0x1400000) + 8 * l)).toNat

/-- The detoured path word (NEXT not yet incremented) and BUMP, where a usable detour exists for the dead link named by
the hop field (R89). -/
def State.detour (s : State) (w : Nat) : Option (Nat × Bool) :=
  let e := s.detourEntry (wHop w (wNext w))
  let d1 := e / 2 ^ 48 % 256
  let d2 := e / 2 ^ 40 % 256
  let n := wNext w
  if ¬ s.flag F.ROU_CFG_DETOUR_EN ∨ ¬ e.testBit 63 ∨ wDetoured w ∨ ¬ s.linkUsable d1 then none
  else if e.testBit 61 then
    if wCount w = 6 then none
    else
      let hs := wHops w
      some (mkPath (hs.take n ++ [d1, d2] ++ hs.drop (n + 1)) (wCount w + 1) n (wValiant w) true (wClass w), e.testBit 62)
  else some (mkPath ((wHops w).set n d1) (wCount w) n (wValiant w) true (wClass w), e.testBit 62)

/-- A link is a class boundary (R90). -/
def State.boundary (s : State) (l : Nat) : Bool := (s.fld F.ROU_BOUNDARY_LINKS 0 (l / 32)).testBit (l % 32)

/-- This router's id (R557). -/
def State.routerId (s : State) : Nat := s.fld F.DEV_ROUTER_ID_ID

end Sys2Proof.Machine
end

