-- ==== Sys2Proof/Machine/Forward.lean ====
section
/-!
DEFINITION. Machine/Forward.lean: what forwarding does with a packet (chapter 02): queueing a copy, detours, discards,
route errors, credits returned, policing (R480–R482), the checks of each hop, delivery, and a link going down (R141).
-/
namespace Sys2Proof.Machine

/-! ## Credits returned to an input link (R114–R118) -/

/-- Queue a bypass message on a link (R133). -/
def State.queueByp (s : State) (l : Nat) (m : BitVec 62) : State :=
  let k := s.link l
  s.setLink l { k with byp := k.byp ++ [m] }

/-- The pools of a packet: (data, header) (R114). -/
def poolsOf (tc vc : Nat) (shared : Bool) : Nat × Nat :=
  if shared then (0x20, 0x60) else (4 * tc + vc, 0x40 + 4 * tc + vc)

/-- CREDIT_LIMIT for a pool (R118, R132). -/
def creditMsg (pool lim : Nat) : BitVec 62 := bypMsg 0x01 (pool * 2 ^ 49 + lim % 2 ^ 24)

/-- The receiver raises LIMIT of a pool and sends it (R117, R118). -/
def State.raiseLimit (s : State) (l pool n : Nat) : State :=
  let k := s.link l
  let v := (mget 0 k.rxLimit pool + n) % 2 ^ 24
  (s.setLink l { k with rxLimit := mput 0 k.rxLimit pool v }).queueByp l (creditMsg pool v)

/-- A packet's cells are freed: the pools it was charged to on its input link rise by its credits, where the link is
still up (R60, R117). Shared cells are allocated to the link again (log 12). -/
def State.freePkt (s : State) (id : Nat) : State :=
  match s.pkt id with
  | none => s
  | some p =>
    let s := { s with fwd := { s.fwd with pkts := merase s.fwd.pkts id } }
    match p.inLink with
    | none => s
    | some l =>
      if s.lstate l = LS.active ∨ s.lstate l = LS.quiet then
        let (d, h) := poolsOf p.tc p.vc p.shared
        (s.raiseLimit l d (cellsOf p.len)).raiseLimit l h 1
      else s

/-- One output, delivery or hand-off of a packet has finished; the last one frees its cells (R60). -/
def State.copyDone (s : State) (id : Nat) : State :=
  match s.pkt id with
  | none => s
  | some p => if p.copies ≤ 1 ∧ p.whole then s.freePkt id else s.setPkt id { p with copies := p.copies - 1 }

/-- A packet is discarded: its cells are freed at once, or when its last byte has arrived. -/
def State.discardPkt (s : State) (id : Nat) : State :=
  match s.pkt id with
  | none => s
  | some p => if p.whole then s.copyDone id else s.setPkt id { p with fate := .discard }

/-! ## Keystone details of a forwarding pipeline (R56) -/

/-- The input-link field and LOCAL of a detail: 0xFF and 1 for a packet built here. -/
def fwdDetail (inLink : Option Nat) (rest : Nat) : Nat :=
  (match inLink with
    | some l => l * 2 ^ 56
    | none => 0xFF * 2 ^ 56 + 2 ^ 31) + rest

/-- Kinds 0x02, 0x03 and 0x04 of a pipeline, counted in the counter given. -/
def State.hopError (s : State) (pipe kind reason : Nat) (inLink : Option Nat) (hdr : List Byte) (cnt : Fld) : State :=
  (s.count cnt pipe).raise (448 + pipe) kind (fwdDetail inLink (reason * 2 ^ 48 + routerOf (pSrc hdr) * 2 ^ 32 + pTag hdr))

/-! ## Queueing a copy for an output link -/

/-- The output queue entry appended, with CE marked when its own queue already holds more than CE_THRESH cells (R34, R44),
and the wakes that a queued packet causes (R27, R137). -/
def State.enqueue (s : State) (l : Nat) (pipe : Nat) (id : Nat) (hdr0 hdr : List Byte) (crc : Option W32) : State :=
  let q := s.outQ l (pTc hdr) (pVc hdr)
  let mark := s.flag F.FWD_CFG_CE_ENABLE pipe && decide (s.fld F.FWD_CE_THRESH_CELLS pipe < s.qCells q)
  let h := sealHdr (if mark then setFlag hdr 7 true else hdr)
  let s := s.setOutQ l (pTc hdr) (pVc hdr) (q ++ [{ pkt := id, hdr0 := hdr0, hdr := h, crc := crc }])
  let s := s.wake (Dom.pipe (s.linkTile l))
  if s.lstate l = LS.quiet then
    let k := s.link l
    (s.setLink l { k with waking := true, idle := false }).wake (Dom.tile (s.linkTile l))
  else s

/-- Why a copy could not be queued (R45, R46, R89). -/
inductive HopFail where
  | dead | vcLimit
deriving DecidableEq, Repr

/-- Queue a copy by the hop field that NEXT names: the detour where its link is dead (R46, R89), the VC increment at a
class boundary or after a detour (R45, R90), NEXT incremented (R43). -/
def State.queueHop (s : State) (pipe : Nat) (inLink : Option Nat) (id : Nat) (hdr : List Byte) (crc : Option W32) :
    Except HopFail State :=
  let w := pPath hdr
  let dead := wHop w (wNext w)
  let route : Option (Nat × Bool × Bool) :=
    if s.linkUsable dead then some (w, false, false)
    else match s.detour w with
      | some (w', b) => some (w', b, true)
      | none => none
  match route with
  | none => .error .dead
  | some (w', bump, detoured) =>
    let l := wHop w' (wNext w')
    let inc := s.boundary l || pBump hdr
    if inc ∧ pVc hdr = 3 then .error .vcLimit
    else
      let h1 := setPath (if inc then setVc hdr (pVc hdr + 1) else hdr) (w' + 2 ^ 10)
      let h2 := setFlag h1 2 bump
      let s := if detoured then
          (s.count F.FWD_CNT_DETOUR_COUNT pipe).raise 689 0x05 (dead * 2 ^ 56 + l * 2 ^ 48 + pTag hdr)
        else s
      let s := if pTrace hdr then s.raise (448 + pipe) 0x08 (fwdDetail inLink (l * 2 ^ 48 + pTag hdr)) else s
      .ok (s.enqueue l pipe id hdr h2 crc)

/-! ## Route errors (R54, R86) -/

/-- The ROUTE_ERROR extension (R41, Table 4). -/
def routeErrorExt (path next reason link router : Nat) : List Byte :=
  beBytes 8 path ++ beBytes 1 next ++ beBytes 1 reason ++ beBytes 1 link ++ beBytes 1 0 ++ beBytes 2 router ++ beBytes 2 0

/-- Store a packet built at this router and queue it by its path word; a destination at this router is delivered locally
(R68). A packet whose first hop fails is dropped, with the pipeline's count. In the safe state none is built (R516). -/
def State.sendBuilt (s : State) (bytes : List Byte) (path : Nat) (pipe : Nat) : State :=
  if s.safe then s
  else
  let h := sealHdr (setPath bytes path)
  let b := h ++ bytes.drop 32
  let (id, s) := s.addPkt { bytes := b, len := b.length, pipe := pipe, fate := .forward }
  if routerOf (pDst b) = s.routerId ∧ path = 0 then
    let s := { s with fwd := { s.fwd with dlv := s.fwd.dlv ++ [({ pkt := id, bytes := b } : Dlv)] } }
    if isColl (pOpc b) then s.wake (Dom.slice (pDst b % 2 ^ 12 % 16)) else s.wake Dom.endpoint
  else
    match s.queueHop pipe none id h none with
    | .ok s' => s'
    | .error .dead => (s.hopError pipe 0x02 0x02 none b F.FWD_CNT_PATH_COUNT).discardPkt id
    | .error .vcLimit => (s.hopError pipe 0x04 0x05 none b F.FWD_CNT_CLASS_COUNT).discardPkt id

/-- The first valid minimal candidate of an entry (R86). -/
def State.firstMinimal (s : State) (dest : Nat) : Option Nat :=
  if (s.routeWord dest 0).testBit 63 then ((s.candidates dest 1 3).head?).map (·.2) else none

/-- Send a route error for a failing packet, at most one per 1 µs for each source router; never for a ROUTE_ERROR, an ACK
or a LOAD_REPORT (R54). -/
def State.routeError (s : State) (pipe : Nat) (hdr : List Byte) (reason : Nat) : State :=
  let src := routerOf (pSrc hdr)
  if pOpc hdr = 0x63 ∨ pOpc hdr = 0x60 ∨ pOpc hdr = 0x62 then s
  else
    let soon := match mfind s.fwd.rtErrAt src with
      | some t => decide (s.clk < t + 1000)
      | none => false
    if soon then s.count F.FWD_CNT_RTERR_COUNT pipe
    else
      let s := { s with fwd := { s.fwd with rtErrAt := minsert s.fwd.rtErrAt src s.clk } }
      let w := pPath hdr
      let ext := routeErrorExt w (wNext w) reason (wHop w (wNext w)) s.routerId
      let p := mkPacket { dst := pSrc hdr, src := pDst hdr, seq := pSeq hdr, opc := 0x63, tc := 7, tag := pTag hdr,
                          chunk := pChunk hdr } ext []
      if src = s.routerId then s.sendBuilt p 0 pipe
      else match s.firstMinimal src with
        | some c => s.sendBuilt p c pipe
        | none => s

/-- A packet fails a hop's check: its kind, its counter, its route error, and the discard (R53). -/
def State.failHop (s : State) (id pipe kind reason : Nat) (inLink : Option Nat) (hdr : List Byte) (cnt : Fld) : State :=
  ((s.hopError pipe kind reason inLink hdr cnt).routeError pipe hdr reason).discardPkt id

/-- Forward a packet by its hop field, or discard it as R53 states. -/
def State.forwardPkt (s : State) (id pipe : Nat) (inLink : Option Nat) (hdr : List Byte) (crc : Option W32) : State :=
  match s.queueHop pipe inLink id hdr crc with
  | .ok s' => s'
  | .error .dead => s.failHop id pipe 0x02 0x02 inLink hdr F.FWD_CNT_PATH_COUNT
  | .error .vcLimit => s.failHop id pipe 0x04 0x05 inLink hdr F.FWD_CNT_CLASS_COUNT

/-! ## Policing (R480–R482) -/

/-- The colours of RFC 2698 (R481). -/
inductive Colour where
  | green | yellow | red
deriving DecidableEq, Repr

/-- Colour a packet of wire length `b` and take it from the buckets (R481). -/
def colourOf (p : Policer) (b : Nat) : Colour × Policer :=
  if p.tp < b then (.red, p)
  else if p.tc < b then (.yellow, { p with tp := p.tp - b })
  else (.green, { p with tp := p.tp - b, tc := p.tc - b })

/-- Police a packet that arrives on a link: its colour, with the counts of R482. -/
def State.police (s : State) (l : Nat) (hdr : List Byte) (len : Nat) : Colour × State :=
  let k := s.linkTile l / 2
  let i := s.fld F.SCH_POLMAP_POLICER k l
  if s.flag F.SCH_CFG_POLICE_EN k ∧ s.flag F.SCH_POLMAP_EN k l ∧ pTc hdr ≠ 7 ∧ pOpc hdr ≠ 0x70 ∧
      (s.fld F.SCH_POLMAP_TC_MASK k l).testBit (pTc hdr) then
    let key := k * 32 + i
    let (c, p) := colourOf (mget {} s.sch.pol key) (wireLen len)
    let s := { s with sch := { s.sch with pol := mput {} s.sch.pol key p } }
    match c with
    | .green => (c, s)
    | .yellow => (c, s.count F.SCH_CNT_YELLOW_COUNT k)
    | .red =>
      let red := satAdd 32 (s.fld F.SCH_POLICER_RED k i) 1
      let s := (s.setFld F.SCH_POLICER_RED red k i).tally (144 + k) (8 + i) 1
      let due := match p.redAt with
        | some t => decide (t + 1000000 ≤ s.clk)
        | none => true
      if due then
        let s := { s with sch := { s.sch with pol := mput {} s.sch.pol key { p with redAt := some s.clk } } }
        (c, s.raise (672 + k) 0x02 (i * 2 ^ 32 + red))
      else (c, s)
  else (.green, s)

/-! ## The header arrives (R42, R53) -/

/-- The path check's reason, where it fails before the output link is looked at (R53): 0x01 malformed, 0x03 wrong router. -/
def pathFault (w dstRouter here : Nat) : Option Nat :=
  if wCount w = 0 ∨ 6 < wCount w ∨ (¬ wValiant w ∧ ¬ wDetoured w ∧ 3 < wCount w) ∨ wCount w < wNext w then some 0x01
  else if wNext w = wCount w ∧ dstRouter ≠ here then some 0x03
  else none

/-- A forwarding pipeline resolves a packet whose header has arrived: the checks of R53 in their order, then the four ways
of R42. A packet for this router waits for its last byte (R49). -/
def State.resolve (s : State) (id : Nat) (p : Pkt) : State :=
  let hdr := slice p.bytes 0 32
  let fail := fun kind reason cnt => s.failHop id p.pipe kind reason p.inLink hdr cnt
  if pHchk hdr ≠ (hchk hdr).toNat then
    ((s.count F.FWD_CNT_HCHK_COUNT p.pipe).raise (448 + p.pipe) 0x01 (fwdDetail p.inLink 0)).discardPkt id
  else if 4096 < pPlen hdr ∨ 32 < pXlen hdr ∨ p.len ≠ pLen hdr then fail 0x03 0x04 F.FWD_CNT_LEN_COUNT
  else if ¬ classOk hdr then fail 0x04 0x05 F.FWD_CNT_CLASS_COUNT
  else match pathFault (pPath hdr) (routerOf (pDst hdr)) s.routerId with
    | some reason => fail 0x02 reason F.FWD_CNT_PATH_COUNT
    | none =>
      if wNext (pPath hdr) = wCount (pPath hdr) then s.setPkt id { p with fate := .deliver }
      else if pOpc hdr = 0x70 ∨ pOpc hdr = 0x71 ∨ pOpc hdr = 0x72 then s.setPkt id { p with fate := .viaduct }
      else s.forwardPkt id p.pipe p.inLink hdr none

/-- The input packets of a link, by the position of the first that satisfies a test. -/
def firstIdx {α : Type} (l : List α) (t : α → Bool) : Option (Nat × α) :=
  match l.findIdx? t with
  | some i => (l[i]?).map (fun x => (i, x))
  | none => none

/-- The oldest packet of a link whose header is complete and not yet taken is stored, policed and resolved (R42, R482). -/
def State.headerArrive (s : State) (l : Nat) : State :=
  let k := s.link l
  match firstIdx k.rxq (fun r => decide (r.pkt = none) && decide (32 ≤ r.bytes.length)) with
  | none => s
  | some (i, r) =>
    let pipe := s.linkTile l
    let p : Pkt := { bytes := r.bytes, len := r.len, inLink := some l, pipe := pipe, tc := r.tc, vc := r.vc,
                     shared := r.shared, whole := false, fate := .forward }
    let (id, s) := s.addPkt p
    let k := s.link l
    let s := s.setLink l { k with rxq := k.rxq.set i { r with pkt := some id } }
    let hdr := slice r.bytes 0 32
    if pHchk hdr ≠ (hchk hdr).toNat then s.resolve id p
    else
      match s.police l hdr r.len with
      | (.red, s) => s.discardPkt id
      | (.yellow, s) =>
        let b := sealHdr (setFlag hdr 7 true) ++ r.bytes.drop 32
        let p := { p with bytes := b }
        (s.setPkt id p).resolve id p
      | (.green, s) => s.resolve id p

/-! ## The last byte arrives (R49, R50, R53) -/

/-- The packet is being transmitted on some link. -/
def State.inTransmission (s : State) (id : Nat) : Bool :=
  s.lnk.any (fun e => match e.2.txPkt with
    | some t => decide (t.pkt = id)
    | none => false)

/-- A packet found bad while copies of it stand in output queues: copies not begun are removed, and one in transmission
is ended with the abort marker (R50). -/
def State.abortPkt (s : State) (id : Nat) (pipe : Nat) : State :=
  let q := (s.fwd.outQ.map (fun (e : Nat × List QEnt) => (e.1, e.2.filter (fun q => decide (q.pkt ≠ id))))).filter
    (fun (e : Nat × List QEnt) => !e.2.isEmpty)
  let s := { s with fwd := { s.fwd with outQ := q } }
  match s.pkt id with
  | none => s
  | some p =>
    if s.inTransmission id then
      (s.setPkt id { p with whole := true, bad := true, copies := 1 }).count F.FWD_CNT_ABORT_COUNT pipe
    else (s.setPkt id { p with whole := true, copies := 1 }).freePkt id

/-- The packet's last byte is counted against the tally of discarded opcode and extension failures of its context group
(R565). -/
def State.tallyOpcode (s : State) (hdr : List Byte) : State :=
  let g := ctxOf (pDst hdr) / 2048
  s.tally (224 + g / 4) (32 * (g % 4) + 7) 1

/-- A packet stored whole at its destination: end-to-end CRC, then opcode and extension, then delivery to its endpoint
block or Abacus slice, which wakes (R49, R53, R23, R524). -/
def State.deliver (s : State) (id : Nat) (p : Pkt) : State :=
  let hdr := slice p.bytes 0 32
  let ecc := s.armed F.FWD_INJECT_BUF_ECC p.pipe && decide (pTc hdr ≠ 7)
  if ecc ∨ p.eccBad then
    let s := if ecc then s.setArmed F.FWD_INJECT_BUF_ECC p.pipe false else s
    (s.raise (448 + p.pipe) 0x07 (id % 2 ^ 24 * 2 ^ 40 + pTag hdr)).freePkt id
  else if ¬ e2eOk p.bytes then
    ((s.count F.FWD_CNT_E2E_COUNT p.pipe).raise (448 + p.pipe) 0x05
      (fwdDetail p.inLink (routerOf (pSrc hdr) * 2 ^ 32 + pTag hdr))).freePkt id
  else if ¬ opcodeOk hdr then
    ((s.tallyOpcode hdr).raise (448 + p.pipe) 0x06 (fwdDetail p.inLink (pOpc hdr * 2 ^ 48 + pTag hdr))).freePkt id
  else
    let s := if pTrace hdr then s.raise (448 + p.pipe) 0x08 (fwdDetail p.inLink (0xFF * 2 ^ 48 + 2 ^ 30 + pTag hdr)) else s
    let s := { s with fwd := { s.fwd with dlv := s.fwd.dlv ++ [({ pkt := id, bytes := p.bytes, inLink := p.inLink } : Dlv)] } }
    if isColl (pOpc hdr) then s.wake (Dom.slice (pDst hdr % 2 ^ 12 % 16)) else s.wake Dom.endpoint

/-- The oldest packet of a link whose header has been taken and whose END has arrived is finished: an aborted one is
discarded (R112), a transit packet's end-to-end CRC is checked where E2E_TRANSIT is set (R53), a packet for this router
is delivered (R49), a viaduct packet waits for its gate, and each hop takes a VIA_SETUP or VIA_TEARDOWN that is no reply (R194). -/
def State.tailArrive (s : State) (l : Nat) : State :=
  let k := s.link l
  match firstIdx k.rxq (fun r => r.pkt.isSome && decide (r.ended ≠ 0)) with
  | none => s
  | some (i, r) =>
    let s := s.setLink l { k with rxq := k.rxq.eraseIdx i }
    match r.pkt with
    | none => s
    | some id =>
      match s.pkt id with
      | none => s
      | some p =>
        let b := slice p.bytes 0 32 ++ r.bytes.drop 32
        let p := { p with bytes := b, whole := true }
        let s := s.setPkt id p
        if r.ended = 2 then
          (match p.fate with
          | .forward => s.abortPkt id p.pipe
          | _ => s.freePkt id)
        else
          match p.fate with
          | .discard => s.freePkt id
          | .forward =>
            if s.flag F.FWD_CFG_E2E_TRANSIT p.pipe ∧ ¬ e2eOk b then
              ((s.count F.FWD_CNT_E2E_COUNT p.pipe).raise (448 + p.pipe) 0x05
                (fwdDetail p.inLink (routerOf (pSrc b) * 2 ^ 32 + pTag b))).abortPkt id p.pipe
            else if p.copies = 0 then s.freePkt id
            else s
          | .viaduct =>
            if s.flag F.FWD_CFG_E2E_TRANSIT p.pipe ∧ ¬ e2eOk b then
              ((s.count F.FWD_CNT_E2E_COUNT p.pipe).raise (448 + p.pipe) 0x05
                (fwdDetail p.inLink (routerOf (pSrc b) * 2 ^ 32 + pTag b))).freePkt id
            else if pOpc b = 0x70 then { s with fwd := { s.fwd with viaStored := s.fwd.viaStored ++ [id] } }
            else if (slice (pExt b) 4 1).any (fun x => x.getLsbD 7) then s.forwardPkt id p.pipe p.inLink (slice b 0 32) none
            else s.deliver id p
          | .deliver => s.deliver id p

/-! ## Spill rates (R466) -/

/-- Payload rate of a link in units of 100 MB/s: 50 GB/s a lane at 448 Gbit/s low-latency, 48 GB/s strong-FEC, half at 224 (R108). -/
def State.linkUnits (s : State) (l : Nat) : Nat :=
  2 ^ s.fld F.LNK_CFG_WIDTH l * (if s.flag F.LNK_LSTATE_NEG_STRONG l then 480 else 500) / (if s.flag F.LNK_CFG_RATE l then 2 else 1)

/-- DATA bytes of a flit in the link's coding mode (R104). -/
def State.flitData (s : State) (l : Nat) : Nat := if s.flag F.LNK_LSTATE_NEG_STRONG l then 192 else 200

/-- The largest number of unacknowledged data flits: 65,536, or 16,384 for link-layer version 1 (R121, R143). -/
def State.maxOutstanding (s : State) (l : Nat) : Nat := if s.fld F.LNK_LSTATE_NEG_VERSION l = 1 then 16384 else 65536

/-- A link's spill demand in units of 100 MB/s (R466). -/
def State.spillDemand (s : State) (l : Nat) : Nat :=
  let st := s.lstate l
  if st ≠ LS.creditInit ∧ st ≠ LS.active ∧ st ≠ LS.quiet then 0
  else if s.fld F.LNK_REPLAY_NEED l ≤ s.fld F.LNK_REPLAY_GRANT l then 0
  else
    let rtt := max 1 (s.fld F.LNK_RTT_NS_RTT l)
    min (s.linkUnits l) ((s.maxOutstanding l * s.flitData l * 10 + rtt - 1) / rtt)

/-- The largest whole level whose capped demands fit the budget, by binary search from the top bit down (R466). -/
def spillLevel (demands : List Nat) (budget : Nat) : Nat :=
  ((List.range 17).reverse).foldl (fun lam b =>
    let c := lam + 2 ^ b
    if (demands.map (fun d => min d c)).sum ≤ budget then c else lam) 0

/-- PLC recomputes every link's spill rate; a demand above the budget raises kind 0x05 (R466). -/
def State.spillRecompute (s : State) : State :=
  let ds := (List.range 256).map (fun l => (l, s.spillDemand l))
  let tot := (ds.map (·.2)).sum
  let budget := min (s.fld F.PLC_SPILL_BUDGET_UNITS) 16000
  let lam := if tot ≤ budget then 2 ^ 20 else spillLevel (ds.map (·.2)) budget
  let s1 := ds.foldl (fun s d => if s.fld F.LNK_SPILL_RATE d.1 = min d.2 lam then s else s.setFld F.LNK_SPILL_RATE (min d.2 lam) d.1) s
  let s2 := s1.setFld F.PLC_SPILL_USED_UNITS ((ds.map (fun d => min d.2 lam)).sum)
  if tot ≤ budget then s2 else s2.raise 688 0x05 (tot * 2 ^ 32 + lam)

/-! ## A link goes down (R140–R142) -/

/-- The lanes of a link's active configuration. -/
def State.linkLanes (s : State) (l : Nat) : List Nat :=
  (List.range (2 ^ s.fld F.LNK_CFG_WIDTH l)).map (fun i => s.firstLane l + i)

/-- Set SRD STATUS.LSTATE of a lane, and its bit of TIL TSTATUS.LANE_UP (R170, R171). -/
def State.setLane (s : State) (n code : Nat) : State :=
  let s := s.setFld F.SRD_STATUS_LSTATE code n
  let t := n / 16
  let m := s.fld F.TIL_TSTATUS_LANE_UP t
  let on := decide (code = 5)
  s.setFld F.TIL_TSTATUS_LANE_UP (if on = m.testBit (n % 16) then m else if on then m + 2 ^ (n % 16) else m - 2 ^ (n % 16)) t

/-- Every copy queued for a link, in class and channel order, and the state without them. -/
def State.takeQueued (s : State) (l : Nat) : List QEnt × State :=
  let es := (List.range 32).flatMap (fun k => s.outQ l (k / 4) (k % 4))
  (es, (List.range 32).foldl (fun s k => s.setOutQ l (k / 4) (k % 4) []) s)

/-- Every viaduct packet in a gate queue of a link, and the state without them. -/
def State.takeGated (s : State) (l : Nat) : List GateEnt × State :=
  let mine := s.via.gq.filter (fun (e : Nat × List GateEnt) => decide (e.1 / 4096 = l))
  (mine.flatMap (·.2), { s with via := { s.via with gq := s.via.gq.filter (fun (e : Nat × List GateEnt) => decide (e.1 / 4096 ≠ l)) } })

/-- The packet partly received when its link goes down is not supplied further: its copies are aborted, or it is
discarded (R112, R141). -/
def State.dropPartial (s : State) (r : RxPkt) : State :=
  match r.pkt with
  | none => s
  | some id =>
    match s.pkt id with
    | none => s
    | some p => if p.whole then s else match p.fate with
      | .forward => s.abortPkt id p.pipe
      | _ => (s.setPkt id { p with whole := true }).freePkt id

/-- Link-down actions (R141): state and reason, LINK_STATE DOWN once where the lanes still transmit, queued packets
forwarded again, the packet in transmission lost, partial packets dropped, replay, credits and grants cleared. -/
def State.linkDown (s : State) (l reason : Nat) (sev : Option Nat := none) (msgs : Option (List (BitVec 62)) := none) : State :=
  let k := s.link l
  let up := s.lstate l == LS.active || s.lstate l == LS.param || s.lstate l == LS.creditInit
  let out := msgs.getD (if up ∧ ¬ k.idle then [linkStateMsg 0 reason] else [])
  let s := s.linkDownRegs l reason sev true
  let s := s.setLink l (k.downed out)
  let s := (s.linkLanes l).foldl (fun s n => s.setLane n (if s.enabled .srd n && s.enabled .til (n / 16) then 1 else 0)) s
  let s := match k.txPkt with
    | some t => s.copyDone t.pkt
    | none => s
  let s := k.rxq.foldl State.dropPartial s
  let (es, s) := s.takeQueued l
  let (gs, s) := s.takeGated l
  let s := gs.foldl (fun s e => match s.pkt e.pkt with
    | some p => s.forwardPkt e.pkt p.pipe p.inLink (slice p.bytes 0 32) none
    | none => s) s
  (es.foldl (fun s e => match s.pkt e.pkt with
    | some p => s.forwardPkt e.pkt p.pipe p.inLink e.hdr0 e.crc
    | none => s) s).spillRecompute

/-- The oldest delivery that satisfies a test is taken; its cells are freed (R60). -/
def State.takeDlv (s : State) (t : List Byte → Bool) : Option Dlv × State :=
  match firstIdx s.fwd.dlv (fun d => t d.bytes) with
  | none => (none, s)
  | some (i, d) => (some d, ({ s with fwd := { s.fwd with dlv := s.fwd.dlv.eraseIdx i } }).copyDone d.pkt)

/-- The oldest delivery of an opcode. -/
def State.takeOpc (s : State) (o : Nat) : Option Dlv × State := s.takeDlv (fun b => decide (pOpc b = o))

/-! ## The commands of forwarding -/

/-- PACKET_HEADER_ARRIVE (R42, R43, R44, R45, R46, R53, R54, R482). -/
def execPacketHeaderArrive (l : Fin 256) (s : State) : Out := .next (s.headerArrive l.val)

/-- PACKET_TAIL_ARRIVE (R49, R50, R53). -/
def execPacketTailArrive (l : Fin 256) (s : State) : Out := .next (s.tailArrive l.val)

/-- FWD_INJECT_BUF_ECC (R64): a bit written while one is pending has no further effect. -/
def execFwdInjectBufEcc (t : Fin 32) (s : State) : Out := .next (s.setArmed F.FWD_INJECT_BUF_ECC t.val true)

/-- FWD_INJECT_E2E (R64). -/
def execFwdInjectE2e (t : Fin 32) (s : State) : Out := .next (s.setArmed F.FWD_INJECT_E2E t.val true)

/-- FWD_INJECT_HCHK (R64). -/
def execFwdInjectHchk (t : Fin 32) (s : State) : Out := .next (s.setArmed F.FWD_INJECT_HCHK t.val true)

end Sys2Proof.Machine
end

