-- ==== Sys2Proof/Machine/Link.lean ====
section
/-!
DEFINITION. Machine/Link.lean: the fabric link layer (chapter 04): flits, credits, replay, the bypass channel, bring-up,
quiet sleep and tear-down.
-/
namespace Sys2Proof.Machine

/-! ## Quantities of a link -/

/-- Link-layer version 1 is in use (R143). -/
def State.v1 (s : State) (l : Nat) : Bool := s.fld F.LNK_LSTATE_NEG_VERSION l == 1
/-- The sequence width: 20 bits, or 16 for version 1 (R121, R143). -/
def State.seqBits (s : State) (l : Nat) : Nat := if s.v1 l then 16 else 20
/-- Flit time in tenths of a nanosecond (R108). -/
def State.flitTime10 (s : State) (l : Nat) : Nat :=
  40 / 2 ^ s.fld F.LNK_CFG_WIDTH l * (if s.flag F.LNK_CFG_RATE l then 2 else 1)
/-- Every credit pool of the link; version 1 has no shared pools (R114, R143). -/
def State.pools (s : State) (l : Nat) : List Nat :=
  List.range 32 ++ (List.range 32).map (· + 0x40) ++ (if s.v1 l then [] else [0x20, 0x60])
/-- Distance from the oldest unacknowledged sequence to the next one. -/
def State.outstanding (s : State) (l : Nat) : Nat := seqDist (s.seqBits l) (s.link l).txSeq (s.link l).acked

/-! ## Flits (R104–R107) -/

/-- The HDR word (R104, R143). -/
def flitHdr (v1 : Bool) (seq offset type : Nat) : Nat :=
  if v1 then seq % 2 ^ 16 * 2 ^ 16 + offset % 256 * 2 ^ 8 + type else seq % 2 ^ 20 * 2 ^ 12 + offset % 256 * 2 ^ 4 + type

/-- A flit's content bytes (R104): HDR, BYP, DATA and LCRC. -/
def flitBytes (v1 : Bool) (seq offset type : Nat) (byp : W32) (data : List Byte) : List Byte :=
  let b := beBytes 4 (flitHdr v1 seq offset type) ++ beBytes 4 byp.toNat ++ data
  b ++ beBytes 4 (lcrc b).toNat

/-- The first of the waiting messages by the priority of R133, and the list without it. -/
def bypPriority (m : BitVec 62) : Nat :=
  let t := bits m 56 6
  if t = 0x05 then 0 else if t = 0x03 then 1 else if t = 0x02 then 2 else if 0x10 ≤ t ∧ t ≤ 0x17 then 3
  else if t = 0x01 then 4 else if t = 0x04 then 5 else if t = 0x06 ∨ t = 0x07 then 6 else 7

def nextByp (q : List (BitVec 62)) : Option (BitVec 62 × List (BitVec 62)) :=
  match firstNat (List.range 8) (fun p => q.any (fun m => decide (bypPriority m = p))) with
  | none => none
  | some p =>
    match firstIdx q (fun m => decide (bypPriority m = p)) with
    | none => none
    | some (i, m) => some (m, q.eraseIdx i)

/-- A message as it leaves: the stamps of ECHO and time transfer are those of its first half's flit (R160, R175). `q` is
fabric time in quarter nanoseconds. -/
def Link.stampByp (k : Link) (m : BitVec 62) (q : Nat) : BitVec 62 × Link :=
  let t := bits m 56 6
  let ns := q / 4
  let stamped := setBits (setBits m 48 2 (q % 4)) 0 48 (ns % 2 ^ 48)
  if t = 0x06 then (setBits m 0 40 (ns % 2 ^ 40), k)
  else if t = 0x07 then (setBits m 40 16 ((ns + 2 ^ 16 - bits m 40 16) % 2 ^ 16), k)
  else if t = 0x10 then (stamped, { k with t1 := q })
  else if t = 0x11 then (setBits m 0 16 (k.t1 / 4 / 2 ^ 48), k)
  else if t = 0x12 then (stamped, { k with t3 := q })
  else (m, k)

/-- The BYP field of the next flit: the second half of the message being sent, or the first half of the next one (R131). -/
def Link.takeByp (k : Link) (now : Nat) : W32 × Link :=
  match k.bypHalf with
  | some h => (h.setWidth 32, { k with bypHalf := none })
  | none =>
    match nextByp k.byp with
    | none => (0#32, k)
    | some (m, q) =>
      let (m, k) := k.stampByp m now
      (0x80000000#32 ||| (m >>> 31).setWidth 32, { k with byp := q, bypHalf := some (m.setWidth 31) })

/-- The bytes of IDLE items (R111). -/
def idleItems (n : Nat) : List (Byte × Bool) :=
  (List.range n).flatMap (fun _ => [(0x07#8, true), (0x07#8, false), (0x07#8, false), (0x07#8, false)])

/-- The index of the first item that begins in a flit's data, 0xFF for none (R106). -/
def itemOffset (d : List (Byte × Bool)) : Nat := (d.findIdx? (·.2)).getD 0xFF

/-- The stream can fill a data flit now: it holds a flit's worth, or no packet is waiting for more bytes (R113). -/
def Link.canSend (k : Link) (n : Nat) : Bool :=
  decide (k.idleLeft < k.txStream.length) && (decide (n ≤ k.txStream.length) || k.txPkt.isNone)

/-- The stream padded with IDLE items to at least `n` bytes. -/
def padStream (st : List (Byte × Bool)) (n : Nat) : List (Byte × Bool) :=
  st ++ idleItems ((n - st.length + 3) / 4)

/-- On-die replay entries in use (R128). -/
def Link.onDie (k : Link) : Nat := (k.replay.filter (fun r => !r.spilled)).length

/-- The spill budget refilled to the present, up to one flit more than the rate gives in 1 µs (R128, log 13). -/
def State.spillRefill (s : State) (l : Nat) : State :=
  let k := s.link l
  let r := s.fld F.LNK_SPILL_RATE l
  let add := (s.clk - k.spillAt) * r / 10
  if add = 0 then s else s.setLink l { k with spillBytes := min (k.spillBytes + add) (200 + 100 * r), spillAt := s.clk }

/-- Room in the replay store for one more data flit: none needed, or the spill of the oldest on-die entry (R128).
Answers the state to send from, or none where a null flit is sent instead. -/
def State.replayRoom (s : State) (l : Nat) : Option State :=
  let k := s.link l
  let grant := s.fld F.LNK_REPLAY_GRANT l
  if k.onDie < grant then some s
  else if s.fld F.LNK_REPLAY_NEED l ≤ grant then none
  else
    let s := s.spillRefill l
    let k := s.link l
    if k.spillBytes < 200 then none
    else match firstIdx k.replay (fun r => !r.spilled) with
      | none => none
      | some (i, r) =>
        some ((s.setLink l { k with replay := k.replay.set i { r with spilled := true }, spillBytes := k.spillBytes - 200,
                                    spillDry := none }).count F.LNK_CNT_SPILL_COUNT l)

/-- The spill rate has been exhausted: kind 0x07 once it has lasted 1 ms (R146). -/
def State.spillExhausted (s : State) (l : Nat) : State :=
  let k := s.link l
  match k.spillDry with
  | none => s.setLink l { k with spillDry := some s.clk }
  | some t =>
    if t + 1000000 ≤ s.clk then (s.setLink l { k with spillDry := some s.clk }).raise l 0x07 (s.fld F.LNK_SPILL_RATE l) else s

/-- Put a flit's content on the lanes, with the injections of R145: a data flit's LCRC inverted, or one byte of codeword 0. -/
def State.putFlit (s : State) (l : Nat) (isData : Bool) (b : List Byte) : State :=
  let bad := isData && s.armed F.LNK_INJECT_BAD_FLIT l
  let sym := s.armed F.LNK_INJECT_SYMBOL l
  let n := b.length - 4
  let b1 := if bad then b.take n ++ (b.drop n).map (fun x => ~~~x) else b
  let b2 := if sym then b1.modify 0 (fun x => ~~~x) else b1
  let s := if bad then s.setArmed F.LNK_INJECT_BAD_FLIT l false else s
  let s := if sym then s.setArmed F.LNK_INJECT_SYMBOL l false else s
  s.emit (.flit l b2)

/-- A null flit (R105). -/
def State.sendNull (s : State) (l : Nat) : State :=
  let (byp, k) := (s.link l).takeByp s.stampQ
  (s.setLink l k).putFlit l false (flitBytes (s.v1 l) k.txSeq 0xFF 0x2 byp (List.replicate (s.flitData l) 0#8))

/-- A new data flit from the stream, kept for replay (R105, R121). -/
def State.sendData (s : State) (l : Nat) : State :=
  let (byp, k) := (s.link l).takeByp s.stampQ
  let n := s.flitData l
  let st := padStream k.txStream n
  let d := st.take n
  let rest := st.drop n
  let padded := decide (k.txStream.length < n)
  let off := itemOffset d
  let data := d.map (·.1)
  let k := { k with txStream := rest, idleLeft := if padded then rest.length else 0, txSeq := (k.txSeq + 1) % 2 ^ s.seqBits l,
                    replay := k.replay ++ [({ seq := k.txSeq, offset := off, data := data, sentAt := s.clk } : RepFlit)] }
  (s.setLink l k).putFlit l true (flitBytes (s.v1 l) (k.txSeq + 2 ^ s.seqBits l - 1) off 0x1 byp data)

/-- The link goes down with reason 0x06 after an uncorrectable replay entry (R130, R146). -/
def State.replayEcc (s : State) (l : Nat) (r : RepFlit) : State :=
  (s.raise l 0x06 ((if r.spilled then 2 ^ 40 else 0) + r.seq)).linkDown l 0x06

/-- One flit time of a replay under way at sequence `q` (R124, R129, R130). -/
def State.sendReplay (s : State) (l q : Nat) : State :=
  let k := s.link l
  match k.replay.find? (fun r => decide (r.seq = q)) with
  | none => s.sendNull l
  | some r =>
    if r.eccBad then s.replayEcc l r
    else if r.spilled ∧ ¬ r.readBack then s.sendNull l
    else
      let (byp, k) := k.takeByp s.stampQ
      let nxt := (q + 1) % 2 ^ s.seqBits l
      let k := { k with replayPos := if nxt = k.txSeq then none else some nxt }
      ((s.setLink l k).putFlit l true (flitBytes (s.v1 l) r.seq r.offset 0x1 byp r.data)).count F.LNK_CNT_RESENT_COUNT l

/-- The link sends flits: it is not electrically idle, and its lanes are up or it has a last message to send (R104, R137, R141). -/
def State.sends (s : State) (l : Nat) : Bool :=
  let k := s.link l
  !k.idle && (decide (2 ≤ k.step) || !k.byp.isEmpty || k.bypHalf.isSome)

/-- A link that is down, or asleep and not waking, holds electrical idle once its last messages have gone (R137, R138). -/
def State.settle (s : State) (l : Nat) : State :=
  let k := s.link l
  if k.byp.isEmpty ∧ k.bypHalf.isNone ∧ (s.lstate l = LS.down ∨ (s.lstate l = LS.quiet ∧ ¬ k.waking)) then
    s.setLink l { k with idle := true }
  else s

/-- The bytes of a packet of the buffer that have been stored so far. -/
def State.storedBytes (s : State) (id : Nat) : List Byte :=
  match s.pkt id with
  | none => []
  | some p =>
    if p.whole then p.bytes
    else match p.inLink with
      | none => p.bytes
      | some m => match (s.link m).rxq.find? (fun r => decide (r.pkt = some id)) with
        | some r => p.bytes.take 32 ++ r.bytes.drop 32
        | none => p.bytes

/-- The bytes of the packet in transmission that have arrived since are put into the stream; its end-to-end CRC is replaced
or inverted as R95 and R64 state (R47, R113). -/
def State.supply (s : State) (l : Nat) : State :=
  let k := s.link l
  match k.txPkt with
  | none => s
  | some t =>
    match s.pkt t.pkt with
    | none => s
    | some p =>
      let b := s.storedBytes t.pkt
      let body := b.take (p.len - 4)
      let tail := b.drop (p.len - 4)
      let tail := match t.crc with
        | some c => if tail.length = 4 then beBytes 4 c.toNat else []
        | none => if t.badE2e then tail.map (fun x => ~~~x) else tail
      let new := (body ++ tail).drop t.sent
      if new = [] ∨ t.bad ∨ p.bad then s
      else s.setLink l { k with txStream := k.txStream ++ new.map (fun x => (x, false)),
                                txPkt := some { t with sent := t.sent + new.length, since := s.clk } }

/-- One flit time (R104, R113, R121, R124, R128). Before step 7 of bring-up only null flits are sent (R135). -/
def State.flitSend (s : State) (l : Nat) : State :=
  let s := s.supply l
  let k := s.link l
  if ¬ s.sends l then s
  else match k.replayPos with
    | some q => s.sendReplay l q
    | none =>
      if s.lstate l = LS.active ∧ k.canSend (s.flitData l) ∧ s.outstanding l < s.maxOutstanding l then
        match s.replayRoom l with
        | some s' => s'.sendData l
        | none => (if s.fld F.LNK_REPLAY_GRANT l < s.fld F.LNK_REPLAY_NEED l then s.spillExhausted l else s).sendNull l
      else (s.sendNull l).settle l

/-! ## The receiver (R106, R111, R122, R123, R131) -/

/-- The packet whose bytes are arriving, if the parser is inside one. -/
def Link.inPacket (k : Link) : Option RxPkt :=
  match k.rxq.getLast? with
  | some r => if r.ended = 0 ∧ r.bytes.length < r.len then some r else none
  | none => none

/-- The index of the first item that the parser expects to begin in a flit of `n` data bytes (R106). -/
def Link.expectOffset (k : Link) (n : Nat) : Nat :=
  match k.inPacket with
  | some r => if r.bytes = [] then 0 else if r.len - r.bytes.length < n then r.len - r.bytes.length else 0xFF
  | none => if k.rxItem = [] then 0 else 4 - k.rxItem.length

/-- One stream byte (R111). -/
def Link.rxByte (k : Link) (b : Byte) : Link :=
  match k.rxq.getLast? with
  | some r =>
    if r.ended = 0 ∧ r.bytes.length < r.len then
      { k with rxq := k.rxq.set (k.rxq.length - 1) { r with bytes := r.bytes ++ [b] } }
    else
      let it := k.rxItem ++ [b]
      if it.length < 4 then { k with rxItem := it }
      else
        let w := beNat it
        let k := { k with rxItem := [] }
        if r.ended = 0 then
          { k with rxq := k.rxq.set (k.rxq.length - 1) { r with ended := if w / 2 ^ 24 = 0xFD then 1 else 2 } }
        else if w / 2 ^ 24 = 0xFB then
          { k with rxq := k.rxq ++ [({ tc := w / 2 ^ 21 % 8, vc := w / 2 ^ 19 % 4, shared := w.testBit 18, len := w % 2 ^ 13 } : RxPkt)] }
        else k
  | none =>
    let it := k.rxItem ++ [b]
    if it.length < 4 then { k with rxItem := it }
    else
      let w := beNat it
      let k := { k with rxItem := [] }
      if w / 2 ^ 24 = 0xFB then
        { k with rxq := [({ tc := w / 2 ^ 21 % 8, vc := w / 2 ^ 19 % 4, shared := w.testBit 18, len := w % 2 ^ 13 } : RxPkt)] }
      else k

/-- The bypass field of a good flit (R131): the link with a whole message taken, and whether a half was dropped. -/
def Link.rxByp (k : Link) (byp : W32) (now : Nat) : Link × Nat :=
  if byp.msb then ({ k with rxHalf := some (byp.setWidth 31, now) }, if k.rxHalf.isSome then 1 else 0)
  else match k.rxHalf with
    | some (h, t) =>
      let m : BitVec 62 := (h ++ byp.setWidth 31).setWidth 62
      ({ k with rxHalf := none, bypIn := if bits m 56 6 = 0 then k.bypIn else k.bypIn ++ [(m, t)] }, 0)
    | none => (k, if byp = 0#32 then 0 else 1)

/-- ACK(E − 1) (R123). -/
def State.sendAck (s : State) (l : Nat) : State :=
  let k := s.link l
  (s.setLink l { k with unacked := 0 }).queueByp l (bypMsg 0x02 ((k.rxE + 2 ^ s.seqBits l - 1) % 2 ^ s.seqBits l))

/-- REPLAY_REQ(E), with an ACK beside it (R122, R123). -/
def State.sendReplayReq (s : State) (l : Nat) : State :=
  (s.sendAck l).queueByp l (bypMsg 0x03 (s.link l).rxE)

/-- Enter replay wait (R122). -/
def State.replayWaitEntry (s : State) (l : Nat) : State :=
  if (s.link l).replayWait then s
  else (s.setLink l { s.link l with replayWait := true }).sendReplayReq l

/-- Flit lock (R135 step 2): 64 consecutive good flits. Step 3 then begins. -/
def State.flitLock (s : State) (l : Nat) : State :=
  let k := s.link l
  if k.waking then
    let k := { k with waking := k.waking, lockCount := k.lockCount + 1 }
    s.setLink l k
  else if k.step = 2 then
    if 64 ≤ k.lockCount + 1 then
      (s.setLink l { k with lockCount := k.lockCount + 1, step := 3 }).setFld F.LNK_LSTATE_STATE LS.param l
    else s.setLink l { k with lockCount := k.lockCount + 1 }
  else s

/-- A flit received on a link whose lanes are up: its content bytes, the codewords corrected and whether one was
uncorrectable (R106, R107, R122, R123, R131, R135). -/
def State.flitReceive (s : State) (l : Nat) (b : List Byte) (corr : Nat) (uncorr : Bool) : State :=
  let k := s.link l
  if k.step < 2 then s
  else
    let s := if corr = 0 then s else s.count F.LNK_CNT_CORR_COUNT l corr
    let k := s.link l
    let n := s.flitData l
    let hdr := beAt b 0 4
    let (seq, off, type) := if s.v1 l then (hdr / 2 ^ 16, hdr / 2 ^ 8 % 256, hdr % 16) else (hdr / 2 ^ 12, hdr / 2 ^ 4 % 256, hdr % 16)
    let good := !uncorr && decide (b.length = n + 12) && decide (beAt b (n + 8) 4 = (lcrc (b.take (n + 8))).toNat) &&
      (decide (type = 1) || decide (type = 2))
    let ahead := seqDist (s.seqBits l) seq k.rxE
    let here := decide (ahead = 0)
    let before := decide (2 ^ s.seqBits l / 2 ≤ ahead)
    let offBad := good && decide (type = 1) && here && decide (off ≠ k.expectOffset n)
    if ¬ good ∨ offBad then
      let dropped := if k.rxHalf.isSome then 1 else 0
      let s := s.setLink l { k with rxHalf := none, lockCount := if k.step = 2 then 0 else k.lockCount }
      let s := s.count F.LNK_CNT_BAD_COUNT l
      let s := if dropped = 0 then s else s.count F.LNK_CNT_BYPDROP_COUNT l
      if k.step = 2 then s else s.replayWaitEntry l
    else
      let (k1, dropped) := k.rxByp (BitVec.ofNat 32 (beAt b 4 4)) s.stampQ
      let s := s.setLink l k1
      let s := if dropped = 0 then s else s.count F.LNK_CNT_BYPDROP_COUNT l
      let s := s.flitLock l
      if type = 2 then (if here ∨ before then s else s.replayWaitEntry l)
      else if before then s
      else if ¬ here then s.replayWaitEntry l
      else
        let k := s.link l
        let k2 := ((b.drop 8).take n).foldl Link.rxByte k
        let aborts := (k2.rxq.filter (fun r => decide (r.ended = 2))).length - (k.rxq.filter (fun r => decide (r.ended = 2))).length
        let s := s.setLink l { k2 with rxE := (k.rxE + 1) % 2 ^ s.seqBits l, replayWait := false, unacked := k.unacked + 1 }
        let s := if aborts = 0 then s else s.count F.LNK_CNT_ABORT_COUNT l aborts
        if 16 ≤ k.unacked + 1 then s.sendAck l else s

/-! ## Bypass messages received -/

/-- The oldest message of one of some types, with its arrival time; the link without it. -/
def State.takeByp (s : State) (l : Nat) (types : List Nat) : Option (BitVec 62 × Nat) × State :=
  let k := s.link l
  match firstIdx k.bypIn (fun m => decide (bits m.1 56 6 ∈ types)) with
  | none => (none, s)
  | some (i, m) => (some m, s.setLink l { k with bypIn := k.bypIn.eraseIdx i })

/-- ACK: entries up to and including the acknowledged sequence are freed (R123). -/
def State.linkAck (s : State) (l q : Nat) : State :=
  let k := s.link l
  let w := s.seqBits l
  let d := seqDist w q k.acked
  if s.outstanding l ≤ d then s
  else
    let a := (q + 1) % 2 ^ w
    let pos := match k.replayPos with
      | some p => if seqDist w p k.acked ≤ d then (if a = k.txSeq then none else some a) else some p
      | none => none
    s.setLink l { k with acked := a, retries := 0, replayPos := pos,
                         replay := k.replay.filter (fun r => decide (d < seqDist w r.seq k.acked)) }

/-- A replay starts or restarts from a sequence (R124, R125); the retry limit takes the link down (R126). -/
def State.startReplay (s : State) (l q : Nat) : State :=
  let k := s.link l
  let again := match k.replayFrom with
    | some (p, _) => decide (p = q)
    | none => false
  let r := if again then k.retries + 1 else 0
  if max 1 (s.fld F.LNK_TIMERS_RETRY_LIMIT l) < r then s.linkDown l 0x03
  else
    let s := s.setLink l { k with replayPos := some q, replayFrom := some (q, s.clk), retries := r }
    (s.count F.LNK_CNT_REPLAY_COUNT l).raise l 0x02 q

/-- REPLAY_REQ(S) (R124). A request for a sequence that no stored flit has asks for nothing. -/
def State.replayReq (s : State) (l q : Nat) : State :=
  let k := s.link l
  let w := s.seqBits l
  if s.outstanding l ≤ seqDist w q k.acked then s
  else
    let recent : Bool := match k.replayFrom with
      | some (p, t) => decide (p = q) && decide (s.clk < t + s.fld F.LNK_RTT_NS_RTT l)
      | none => false
    let inside : Bool := match k.replayPos, k.replayFrom with
      | some _, some (p, _) => decide (seqDist w p k.acked ≤ seqDist w q k.acked)
      | _, _ => false
    if recent || inside then s else s.startReplay l q

/-- CREDIT_LIMIT (R119), and step 7 once every initial limit has arrived (R135, R136). -/
def State.linkActive (s : State) (l : Nat) : State :=
  let k := s.link l
  if k.step = 6 ∧ (s.pools l).all (fun p => mget false k.limGot p) then
    let s := s.setLink l { k with step := 7, lastPartner := some (s.fld F.LNK_PARTNER_ROUTER l, s.fld F.LNK_PARTNER_LINK l) }
    let s := s.setFld F.LNK_LSTATE_STATE LS.active l
    let s := (s.linkLanes l).foldl (fun s n => s.setLane n 5) s
    match k.lastPartner with
    | some p =>
      let q := (s.fld F.LNK_PARTNER_ROUTER l, s.fld F.LNK_PARTNER_LINK l)
      if p = q then s else s.raise l 0x0A (q.1 * 2 ^ 32 + q.2 * 2 ^ 24)
    | none => s
  else s

/-- CREDIT_LIMIT for a pool (R119). -/
def State.creditLimit (s : State) (l pool v : Nat) : State :=
  let k := s.link l
  if pool ∉ s.pools l ∨ k.step < 6 then s
  else
    let held := mget 0 k.limit pool
    let diff := seqDist 24 v held
    if 2 ^ 23 ≤ diff then s
    else if 2 ^ 20 < seqDist 24 v (mget 0 k.used pool) then
      (s.raise l 0x05 (pool * 2 ^ 49 + v)).linkDown l 0x05
    else
      let k := { k with limit := mput 0 k.limit pool v, limGot := mput false k.limGot pool true,
                        stallSeen := if diff = 0 then k.stallSeen else mput false k.stallSeen pool false }
      (s.setLink l k).linkActive l

/-! ## Bring-up steps 3 to 6 (R110, R127, R135, R160, R161) -/

/-- The mode code of a link's configured lane rate: 1 for 448, 2 for 224 (R148). -/
def State.laneMode (s : State) (l : Nat) : Nat := if s.flag F.LNK_CFG_RATE l then 2 else 1

/-- Some lane of the link exceeds the loss or error limit (R157). -/
def State.wantsStrong (s : State) (l : Nat) : Bool :=
  let t := s.linkTile l
  (s.linkLanes l).any (fun n =>
    decide (4 * s.fld F.TIL_LIMITS_LOSS_LIMIT t < s.fld F.SRD_LOSS_QDB n) ||
    decide (s.fld F.SRD_ERR_ERR_EXP n < s.fld F.TIL_LIMITS_ERR_LIMIT_EXP t))

/-- The coding setting of LINK_PARAM word 0 (R110). -/
def State.codingAsk (s : State) (l : Nat) : Nat :=
  let c := s.fld F.LNK_CFG_CODING l
  if c = 0 then 2 else if c = 1 then 3 else if s.wantsStrong l then 1 else 0

/-- The highest version this end offers: CFG.VERSION 1 forces version 1 (R143, R144). -/
def State.versionOffer (s : State) (l : Nat) : Nat := if s.fld F.LNK_CFG_VERSION l = 1 then 1 else 2

/-- LINK_PARAM word `i` (R132). -/
def State.paramMsg (s : State) (l i : Nat) : BitVec 62 :=
  let k := s.link l
  let seen := if k.peer0.isSome ∧ k.peer1.isSome then 2 ^ 51 else 0
  if i = 0 then
    bypMsg 0x04 (seen + s.versionOffer l * 2 ^ 44 + s.fld F.LNK_CFG_WIDTH l * 2 ^ 42 + s.codingAsk l * 2 ^ 40 +
      s.fld F.LNK_CFG_RATE l * 2 ^ 38 + 2 ^ 37 + (if s.flag F.LNK_CFG_SLEEP_EN l then 2 ^ 36 else 0) +
      (s.fld F.LNK_TC_EN_MASK l ||| 0x80) * 2 ^ 28)
  else bypMsg 0x04 (2 ^ 52 + seen + s.routerId * 2 ^ 32 + l * 2 ^ 24 + max 1 (s.fld F.LNK_CREDIT_CFG_HDR_PER_VC l) * 2 ^ 16)

/-- LINK_PARAM words 0 and 1 are sent (R135 step 3); an AUTO end that asks for strong-FEC raises TIL kind 0x05 once (R157). -/
def State.paramSend (s : State) (l : Nat) : State :=
  let k := s.link l
  if k.step < 3 ∨ 7 ≤ k.step then s
  else
    let ask := decide (s.codingAsk l = 1) && !k.strongAsked
    let s := if ask then
        let n := ((s.linkLanes l).find? (fun n => decide (4 * s.fld F.TIL_LIMITS_LOSS_LIMIT (s.linkTile l) < s.fld F.SRD_LOSS_QDB n) ||
          decide (s.fld F.SRD_ERR_ERR_EXP n < s.fld F.TIL_LIMITS_ERR_LIMIT_EXP (s.linkTile l)))).getD (s.firstLane l)
        (s.setLink l { k with strongAsked := true }).raise (320 + s.linkTile l) 0x05
          (n * 2 ^ 32 + s.fld F.SRD_LOSS_QDB n * 2 ^ 16 + s.fld F.SRD_ERR_ERR_EXP n)
      else s
    (s.queueByp l (s.paramMsg l 0)).queueByp l (s.paramMsg l 1)

/-- The coding mode that two settings decide, none for a mismatch (R110). Settings: 0 low asked, 1 strong asked, 2 low forced, 3 strong forced. -/
def codingDecide (a b : Nat) : Option Bool :=
  if 2 ≤ a ∧ 2 ≤ b then (if a = b then some (decide (a = 3)) else none)
  else if 2 ≤ a then some (decide (a = 3))
  else if 2 ≤ b then some (decide (b = 3))
  else some (decide (a = 1) || decide (b = 1))

/-- What both ends' word 0 agree on: (version, strong-FEC, TC mask), or none for a mismatch (R110, R135 step 3, R143). -/
def State.agree (s : State) (l : Nat) (w : BitVec 56) : Option (Nat × Bool × Nat) :=
  let pv := bits w 44 4
  let v := min pv (s.versionOffer l)
  let sameShape := decide (bits w 42 2 = s.fld F.LNK_CFG_WIDTH l) && decide (bits w 38 2 = s.fld F.LNK_CFG_RATE l)
  let forced2 := decide (s.fld F.LNK_CFG_VERSION l = 2)
  if ¬ sameShape ∨ v = 0 ∨ (forced2 ∧ v ≠ 2) then none
  else match codingDecide (s.codingAsk l) (bits w 40 2) with
    | none => none
    | some strong =>
      if strong ∧ (¬ bitAt w 37 ∨ v = 1) then none
      else some (v, strong, (bits w 28 8 &&& s.fld F.LNK_TC_EN_MASK l) ||| 0x80)

/-- A bring-up mismatch: kind 0x09, and the link down with reason 0x08 (R135, R146). -/
def State.paramMismatch (s : State) (l : Nat) (w : BitVec 56) : State :=
  (s.raise l 0x09 (bits w 28 20 * 2 ^ 28)).linkDown l 0x08

/-- A LINK_PARAM word received (R135 step 3). -/
def State.paramReceive (s : State) (l : Nat) (w : BitVec 56) : State :=
  let k := s.link l
  if k.step ≠ 3 then s
  else
    let i := bits w 52 4
    let k := if i = 0 then { k with peer0 := some w } else if i = 1 then { k with peer1 := some w } else k
    let k := { k with peerSeen := k.peerSeen || bitAt w 51 }
    let s := s.setLink l k
    match k.peer0, k.peer1 with
    | some w0, some w1 =>
      (match s.agree l w0 with
      | none => s.paramMismatch l w0
      | some (v, strong, mask) =>
        if ¬ k.peerSeen then s
        else
          let s := (s.setFld F.LNK_LSTATE_NEG_VERSION v l).setFld F.LNK_LSTATE_NEG_STRONG (if strong then 1 else 0) l
          let s := (s.setFld F.LNK_PARTNER_ROUTER (bits w1 32 14) l).setFld F.LNK_PARTNER_LINK (bits w1 24 8) l
          s.setLink l { k with step := 4, tcMask := mask })
    | _, _ => s

/-- The initial limit of a pool that this end advertises (R114). -/
def State.initialLimit (s : State) (l pool : Nat) : Nat :=
  let k := s.link l
  let t := s.linkTile l
  let tc := pool % 32 / 4
  if pool = 0x20 then min (s.fld F.FWD_SHARED_CFG_LIMIT t) k.rxShared
  else if pool = 0x60 then s.fld F.LNK_CREDIT_CFG_HDR_SHARED l
  else if ¬ k.tcMask.testBit tc then 0
  else if pool < 0x20 then max 18 (s.fld F.FWD_BUF_RSV_CELLS t tc / 4)
  else max 1 (s.fld F.LNK_CREDIT_CFG_HDR_PER_VC l)

/-- The edge die of a link (R12). -/
def State.linkDie (s : State) (l : Nat) : Nat := s.linkTile l / 4

/-- Links whose ENABLE is 1 on an edge die (R127). -/
def State.dieLinks (s : State) (e : Nat) : List Nat :=
  (List.range 256).filter (fun l => s.enabled .lnk l && decide (s.linkDie l = e))

/-- Step 5: the replay grant (R127) and the spill rates (R466). -/
def State.replayGrant (s : State) (l : Nat) : State :=
  let rtt := s.fld F.LNK_RTT_NS_RTT l
  let ft := max 1 (s.flitTime10 l)
  let need := min ((10 * rtt + ft - 1) / ft + 16) 65535
  let links := s.dieLinks (s.linkDie l)
  let used := (links.map (fun m => s.fld F.LNK_REPLAY_GRANT m)).sum
  let grant := min need (min (30247 - used) (30247 / max 1 links.length))
  (((s.setFld F.LNK_REPLAY_NEED need l).setFld F.LNK_REPLAY_GRANT grant l).setFld F.LNK_LSTATE_STATE LS.creditInit l).spillRecompute

/-- Step 6: USED, LIMIT and SEQ cleared, and CREDIT_LIMIT sent for every pool (R115, R135). The shared cells of the link
are those of SHARED_CFG.LIMIT (log 12). -/
def State.creditInit (s : State) (l : Nat) : State :=
  let k := s.link l
  let k := { k with step := 6, used := [], limit := [], limGot := [], txSeq := 0, acked := 0, replay := [], rxE := 0, replayWait := false,
                    unacked := 0, rxShared := s.fld F.FWD_SHARED_CFG_LIMIT (s.linkTile l), rxItem := [], rxq := [] }
  let s := s.setLink l k
  (s.pools l).foldl (fun s p =>
    let v := s.initialLimit l p
    let k := s.link l
    (s.setLink l { k with rxLimit := mput 0 k.rxLimit p v }).queueByp l (creditMsg p v)) s

/-- The cable length of R161 in units of 0.1 m, rounded to nearest. -/
def State.cableDm (s : State) (l rtt : Nat) : Nat :=
  let ft2 := 4 * s.flitTime10 l
  let k10 := 320 + ft2 + (if s.flag F.LNK_LSTATE_NEG_STRONG l then 720 else 0)
  let ps := s.fld F.TIL_PROP_PS_PER_M (s.linkTile l)
  let ps := if ps = 0 then 5000 else ps
  if 10 * rtt < k10 then 0 else ((10 * rtt - k10) * 1000 + ps) / (2 * ps)

/-- Step 4 ends with the responses received (R160): RTT_NS and CABLE, or the link down with reason 0x08. -/
def State.echoFinish (s : State) (l : Nat) : State :=
  let k := s.link l
  if k.step ≠ 4 then s
  else match k.echoMin with
    | none => s.linkDown l 0x08
    | some m =>
      if 1000000 < m then s.linkDown l 0x08
      else
        let s := (s.setFld F.LNK_RTT_NS_RTT m l).setFld F.SRD_CABLE_DM (s.cableDm l m) (s.firstLane l)
        let s := s.setLink l { s.link l with step := 5, echoClosed := true }
        (s.replayGrant l).creditInit l

/-- An ECHO_RSP: one sample of the round trip (R160). -/
def State.echoRsp (s : State) (l : Nat) (m : BitVec 62) (stamp : Nat) : State :=
  let k := s.link l
  if k.echoClosed ∨ k.step < 3 then s
  else
    let arrived := stamp / 4 % 2 ^ 40
    let rtt := (arrived + 2 ^ 40 + 2 ^ 40 - bits m 0 40 - bits m 40 16) % 2 ^ 40
    let k := { k with echoGot := k.echoGot + 1, echoMin := some (match k.echoMin with
      | some x => min x rtt
      | none => rtt) }
    let s := s.setLink l k
    if 16 ≤ k.echoGot then s.echoFinish l else s

/-! ## Claims and the start of bring-up (R149, R150, R61) -/

/-- Reserved cells that one link contributes on its die (R61). -/
def State.linkReserve (s : State) (l : Nat) : Nat :=
  let t := s.linkTile l
  ((List.range 8).map (fun tc =>
    if (s.fld F.LNK_TC_EN_MASK l ||| 0x80).testBit tc then max (s.fld F.FWD_BUF_RSV_CELLS t tc) 72 else 0)).sum

/-- The sum of the reserved shares on a switch die, a link counted besides (R61). -/
def State.dieReserve (s : State) (die : Nat) (extra : Option Nat) : Nat :=
  (((List.range 256).filter (fun l => (s.enabled .lnk l || extra == some l) && decide (s.linkTile l / 16 = die))).map s.linkReserve).sum

/-- The shared pool of a die in cells: that of its lowest pipeline (R64). -/
def State.diePool (s : State) (die : Nat) : Nat := s.fld F.FWD_SHARED_CFG_POOL (16 * die) * 256

/-- The reserved shares of a die stay within their bound (R61). -/
def State.reserveOk (s : State) (die : Nat) (extra : Option Nat) : Bool :=
  decide (s.dieReserve die extra + s.diePool die ≤ 393216)

/-- A lane is claimed (SRD OWNER.VALID). -/
def State.claimedLane (s : State) (n : Nat) : Bool := s.flag F.SRD_OWNER_VALID n

/-- A claim of `w` lanes from `first` meets rules 1 to 5 of R149, for the Ethernet family or the fabric family. -/
def State.claimShape (s : State) (first w : Nat) (eth : Bool) : Bool :=
  let t := first / 16
  let fam := if first % 16 < 8 then s.fld F.TIL_CFG_FAMILY0 t else s.fld F.TIL_CFG_FAMILY1 t
  decide (first + w ≤ 512) && decide ((first + w - 1) / 16 = t) && decide (first % w = 0) &&
  (List.range w).all (fun i => !s.claimedLane (first + i) && s.enabled .srd (first + i)) &&
  s.enabled .til t && decide (fam = (if eth then 1 else 0))

/-- Record or remove a claim in SRD OWNER (R149, R150). -/
def State.setOwner (s : State) (first w : Nat) (valid host : Bool) (num : Nat) : State :=
  (List.range w).foldl (fun s i =>
    let n := first + i
    let s := s.setFld F.SRD_OWNER_VALID (if valid then 1 else 0) n
    if valid then (s.setFld F.SRD_OWNER_HOST (if host then 1 else 0) n).setFld F.SRD_OWNER_NUMBER num n else s) s

/-- TIL kind 0x01: a claim refused (R149, R172). -/
def State.claimRefused (s : State) (host : Bool) (num first : Nat) : State :=
  s.raise (320 + first / 16 % 32) 0x01 ((if host then 2 ^ 63 else 0) + num * 2 ^ 48 + first % 512 * 2 ^ 32)

/-- The start of bring-up clears PRBS and loopback on every claimed lane (R168) and puts the lanes in detect (R151). -/
def State.lanesStart (s : State) (first w mode : Nat) : State :=
  (List.range w).foldl (fun s i =>
    let n := first + i
    let s := ((s.setFld F.SRD_PRBS_CFG_TX_EN 0 n).setFld F.SRD_PRBS_CFG_RX_EN 0 n).setFld F.SRD_CFG_LOOP 0 n
    let s := ((s.setFld F.SRD_STATUS_MODE mode n).setFld F.SRD_STATUS_PRESENT 0 n).setLane n 1
    { s with srd := mput {} s.srd n {} }) s

/-- CLK.STATUS.LANE_ON_REF0 follows the tiles. -/
def State.showLaneRef (s : State) : State :=
  s.setFld F.CLK_STATUS_LANE_ON_REF0 (if s.til.any (fun (e : Nat × Tile) => e.2.ref0) then 1 else 0)

/-- A group PLL: its lock (R147). -/
def State.tileSt (s : State) (t : Nat) : Tile := mget {} s.til t
def State.pllLocked (s : State) (lane : Nat) : Bool :=
  let x := s.tileSt (lane / 16)
  if lane % 16 < 8 then x.pll0 else x.pll1
/-- The state of a group PLL; one that starts takes the reference that LANE_SRC and the loss of REFCLK1 leave it (R525, R526). -/
def State.setPll (s : State) (t group : Nat) (starting locked : Bool) : State :=
  let x := s.tileSt t
  let r := if starting then !s.flag F.CLK_CFG_LANE_SRC || (s.pwr.ref1Lost && s.flag F.CLK_CFG_FAILOVER) else x.ref0
  let y := if group = 0 then { x with pll0 := locked, pll0Starting := starting, ref0 := r }
    else { x with pll1 := locked, pll1Starting := starting, ref0 := r }
  ({ s with til := mput {} s.til t y }).showLaneRef

/-- Step 1 of Table 7: bring-up starts with lane bring-up step 1, or step 2 where the group PLL is locked (R135, R151). -/
def State.bringUp (s : State) (l : Nat) : State :=
  let first := s.firstLane l
  let k := s.link l
  let s := s.setLink l { claimed := true, step := 1, lanesStep := if s.pllLocked first then 2 else 1, lastPartner := k.lastPartner }
  let s := s.setFld F.LNK_LSTATE_STATE LS.training l
  let s := s.lanesStart first (2 ^ s.fld F.LNK_CFG_WIDTH l) (s.laneMode l)
  let g := if first % 16 < 8 then 0 else 1
  let s := if s.pllLocked first then s else s.setPll (first / 16) g true false
  s.wake (Dom.tile (first / 16))

/-- No link retrains in the safe state or in thermal hold (R139). -/
def State.mayTrain (s : State) : Bool := !s.safe && !s.thermalHold

end Sys2Proof.Machine
end

