-- ==== Sys2Proof/Machine/Time.lean ====
section
/-!
DEFINITION. Machine/Time.lean: fabric time (chapter 06): its advance, its transfer on links, the follower's states, the
roots and the PPS pins.
-/
namespace Sys2Proof.Machine

/-- A rate adjust limited to ±1,000 ppm, in units of 2^−32 (R173). -/
def clampRate (r : Int) : Int := if 4294967 < r then 4294967 else if r < -4294967 then -4294967 else r

/-- The rate adjust in force by the device's role (R174, R178, R180). -/
def State.rateNow (s : State) : Int :=
  let role := s.fld F.VIA_TIME_CFG_ROLE
  if role = 1 then 0 else if role = 3 then clampRate (signedOf 32 (s.fld F.VIA_TIME_RATE_ADJ)) else s.via.servo.rate

/-- What one nanosecond slews, at 100 ppm (R180). -/
def slewStep (left : Int) : Int := if 429496 < left then 429496 else if left < -429496 then -429496 else left

/-- One nanosecond of local time: fabric time advances by REFCLK0 at the rate in force and never runs backward (R173). -/
def State.tick (s : State) : State :=
  let sl := slewStep s.via.servo.slew
  let tot : Int := 2 ^ 32 + s.rateNow + sl + s.time.frac
  let s := if sl = 0 then s else s.setServo { s.via.servo with slew := s.via.servo.slew - sl }
  { s with clk := s.clk + 1,
           time := { now := BitVec.ofNat 64 (s.time.now.toNat + (tot / 2 ^ 32).toNat), frac := (tot % 2 ^ 32).toNat } }

/-- A step of fabric time by a signed number of quarter nanoseconds, with kind 0x04 (R173, R181). -/
def State.timeStep (s : State) (dq : Int) : State :=
  let q : Int := s.stampQ + dq
  let s := { s with time := { now := BitVec.ofInt 64 (q / 4), frac := (q % 4).toNat * 2 ^ 30 + s.time.frac % 2 ^ 30 } }
  s.raise 691 0x04 (ofSigned 64 (divR dq 4))

/-! ## The transfer on a link (R175–R177) -/

/-- Time transfer runs on a link: ACTIVE and of version 2 (R175). -/
def State.timeOn (s : State) (l : Nat) : Bool := decide (s.lstate l = LS.active) && !s.v1 l

/-- SYNC and SYNC_HI with one SEQ are sent; t1 is stamped as the first half's flit leaves (R175, R176). -/
def State.exchangeStart (s : State) (l : Nat) : State :=
  if ¬ s.flag F.VIA_CFG_TIME_SEND ∨ ¬ s.timeOn l then s
  else
    let k := s.link l
    let st := s.fld F.VIA_TIME_STATUS_STATE
    let s := s.setLink l { k with timeSeq := (k.timeSeq + 1) % 16 }
    (s.queueByp l (bypMsg 0x10 (k.timeSeq * 2 ^ 52 + st * 2 ^ 50))).queueByp l
      (bypMsg 0x11 (k.timeSeq * 2 ^ 52 + s.fld F.VIA_TIME_STATUS_ROOT_ID * 2 ^ 32 + s.fld F.VIA_TIME_STATUS_DEPTH * 2 ^ 28))

/-- A stamp of a message, in quarter nanoseconds modulo 2^50. -/
def stampOf (m : BitVec 62) : Nat := bits m 0 48 * 4 + bits m 48 2

/-- A time message that is ignored is counted (R175, R197). -/
def State.timeBad (s : State) : State := s.count F.VIA_CNT_TIME_BAD_COUNT 0

/-- SYNC: the arrival is stamped t2 (R176). A new SYNC abandons an exchange not complete. -/
def State.syncReceive (s : State) (l : Nat) (m : BitVec 62) (q : Nat) : State :=
  if ¬ s.timeOn l then s.timeBad
  else
    let e : Exch := { seq := bits m 52 4, sndState := bits m 50 2, t1 := stampOf m, t2 := q, since := s.clk }
    s.setLink l { s.link l with exch := some e }

/-- SYNC_HI of the same SEQ: DELAY_REQ is sent (R176). -/
def State.syncHiReceive (s : State) (l : Nat) (m : BitVec 62) : State :=
  let k := s.link l
  match k.exch with
  | none => s.timeBad
  | some e =>
    if ¬ s.timeOn l ∨ e.seq ≠ bits m 52 4 then s.timeBad
    else
      (s.setLink l { k with exch := some { e with hi := some (bits m 32 14, bits m 28 4) } }).queueByp l
        (bypMsg 0x12 (e.seq * 2 ^ 52))

/-- DELAY_REQ: its arrival is stamped t4 and answered (R176, R177). -/
def State.delayReqReceive (s : State) (l : Nat) (m : BitVec 62) (q : Nat) : State :=
  if ¬ s.timeOn l then s.timeBad
  else s.queueByp l (bypMsg 0x13 (bits m 52 4 * 2 ^ 52 + q % 4 * 2 ^ 48 + q / 4 % 2 ^ 48))

/-! ## The follower (R178, R179) -/

/-- The servo takes the rate that an exchange gives it (log 14). -/
def State.servoRun (s : State) : State :=
  let (n, s) := s.takeFree
  let r := clampRate (signedOf 32 (Config.servoRate n).toNat)
  let v := s.via.servo
  s.setServo { v with rate := r, rates := (r :: v.rates).take 16 }

/-- The follower locks; kind 0x05 where its depth is above 6 (R178, R179). -/
def State.timeLock (s : State) : State :=
  let s := s.setFld F.VIA_TIME_STATUS_STATE 1
  let d := s.fld F.VIA_TIME_STATUS_DEPTH
  if 6 < d then s.raise 691 0x05 d else s

/-- A follower falls to UNLOCKED: its next valid exchange steps fabric time (R178). -/
def State.timeUnlock (s : State) : State :=
  (s.setServo { s.via.servo with stepped := false, good := 0, rates := [] }).setFld F.VIA_TIME_STATUS_STATE 0

/-- A valid exchange on the link in use: offset and path delay in quarter nanoseconds, the sender's root and depth (R178). -/
def State.exchangeUse (s : State) (l : Nat) (off : Int) (path : Nat) (root depth : Nat) : State :=
  let s := (s.setFld F.VIA_TIME_OFFSET_QNS (ofSigned 32 off)).setFld F.VIA_TIME_PATH_QNS path
  let s := (s.setFld F.VIA_TIME_STATUS_ROOT_ID root).setFld F.VIA_TIME_STATUS_DEPTH (min 15 (depth + 1))
  let s := s.setFld F.VIA_TIME_STATUS_LINK l
  let v := s.via.servo
  let small := decide (-16 ≤ off) && decide (off ≤ 16)
  let good := if small then v.good + 1 else 0
  let st := s.fld F.VIA_TIME_STATUS_STATE
  let beyond (ns : Nat) : Bool := decide ((4 * ns : Nat) < off) || decide (off < -((4 * ns : Nat) : Int))
  if st = 0 ∧ ¬ v.stepped then (s.setServo { v with stepped := true, good := good }).timeStep (-off)
  else
    let s := (s.setServo { v with good := good }).servoRun
    if st = 1 then
      let s := if beyond (s.fld F.VIA_TIME_LIMITS_ERR_LIMIT_NS) then s.raise 691 0x03 (s.fld F.VIA_TIME_OFFSET_QNS) else s
      if beyond 1000 then s.timeUnlock else s
    else if 16 ≤ good then s.timeLock
    else s

/-- What a follower does with the two one-way differences of a complete exchange of link `l` (R177–R179). -/
def State.exchTake (s : State) (l : Nat) (d1 d2 : Int) (root depth : Nat) : State :=
  let alt := s.via.servo.useAlt
  if l = s.timeLink then
    let asym := signedOf 16 (if alt then s.fld F.VIA_ASYM_ALT else s.fld F.VIA_ASYM_PARENT)
    let err := s.armed F.VIA_INJECT_TIME_ERR 0
    let s := if err then s.setArmed F.VIA_INJECT_TIME_ERR 0 false else s
    let off := divR ((d1 - d2) * 125 - asym) 250 + (if err then 256 else 0)
    let s := if alt then s.setServo { s.via.servo with altFailed := false } else s
    s.exchangeUse l off (ofSigned 20 (divR (d1 + d2) 2)) root depth
  else if alt ∧ l = s.fld F.VIA_TIME_CFG_PARENT then
    (s.setServo { s.via.servo with parentGood := s.via.servo.parentGood + 1 }).backToParent
  else s

/-- DELAY_RSP: the exchange's offset and path delay, used by a follower on the link it takes (R176–R179). -/
def State.delayRspReceive (s : State) (l : Nat) (m : BitVec 62) : State :=
  let k := s.link l
  match k.exch with
  | some { seq, sndState, t1, t2, since, hi := some (root, depth) } =>
    if ¬ s.timeOn l ∨ seq ≠ bits m 52 4 then s.timeBad
    else
      let s := s.setLink l { k with exch := none }
      let period := max 1 (s.fld F.VIA_TIME_CFG_SYNC_PERIOD) * 100
      if sndState = 0 ∨ since + 4 * period < s.clk ∨ s.fld F.VIA_TIME_CFG_ROLE ≠ 0 then s
      else s.exchTake l (signedOf 50 (t2 + 2 ^ 50 - t1 % 2 ^ 50)) (signedOf 50 (stampOf m + 2 ^ 50 - k.t3 % 2 ^ 50)) root depth
  | _ => s.timeBad

/-- No valid exchange in four periods (R178, R179). -/
def State.exchangeTimeout (s : State) : State :=
  if s.fld F.VIA_TIME_CFG_ROLE ≠ 0 then s
  else
    let v := s.via.servo
    let s := if v.useAlt then (s.setServo { v with altFailed := true }).backToParent else s
    if s.fld F.VIA_TIME_STATUS_STATE = 1 then s.enterHoldover true else s

/-- HOLDOVER has lasted longer than HOLD_US (R179). -/
def State.holdoverExpire (s : State) : State :=
  if s.fld F.VIA_TIME_STATUS_STATE = 2 then s.timeUnlock.raise 691 0x02 (s.fld F.VIA_TIME_LIMITS_HOLD_US) else s

/-- The role that a COMMIT has made active takes effect: a root reads ROOT at depth 0, a follower starts UNLOCKED (R174, R178). -/
def State.roleApply (s : State) (old : Nat) : State :=
  let role := s.fld F.VIA_TIME_CFG_ROLE
  if role = old then s
  else if role = 0 then (s.setServo { rate := s.via.servo.rate }).setFld F.VIA_TIME_STATUS_STATE 0
  else
    let s := s.setServo { slew := 0 }
    let s := (s.setFld F.VIA_TIME_STATUS_STATE 3).setFld F.VIA_TIME_STATUS_DEPTH 0
    s.setFld F.VIA_TIME_STATUS_ROOT_ID s.routerId

/-! ## Roots and PPS (R180, R182) -/

/-- The difference of a PPS edge from the nearest second steps fabric time where it exceeds 1 µs, and runs the servo otherwise (R180). -/
def State.ppsJudge (s : State) : State :=
  let r : Nat := s.ftime % 10 ^ 9
  let d : Int := if r ≤ 5 * 10 ^ 8 then (r : Int) else (r : Int) - 10 ^ 9
  if 1000 < d ∨ d < -1000 then s.timeStep (-(4 * d) - (s.time.frac / 2 ^ 30 : Nat)) else s.servoRun

/-- A rising edge of PPS_IN at a PPS root (R180). -/
def State.ppsInEdge (s : State) : State :=
  let s := { s with pwr := { s.pwr with ppsIn := true } }
  if s.fld F.VIA_TIME_CFG_ROLE ≠ 2 ∨ ¬ s.flag F.VIA_PPS_CFG_PPS_IN_EN then s
  else (s.setFld F.VIA_PPS_CAP_TIME s.ftime).ppsJudge

/-- A high-word write of TIME_SET (R180, R586). -/
def State.timeSet (s : State) (ag : Agent) (hi : W32) : State :=
  let a := F.VIA_TIME_SET_TIME.addr 0 0
  let lo := (mfind (mget [] s.regs.staged ag.key) a).getD (mget 0#32 s.regs.act a)
  let st := merase (mget [] s.regs.staged ag.key) a
  let s := { s with regs := { s.regs with staged := mput [] s.regs.staged ag.key st } }
  if s.fld F.VIA_TIME_CFG_ROLE = 0 then s.raise 691 0x0C (a + 4)
  else
    let v : Nat := hi.toNat * 2 ^ 32 + lo.toNat
    let d : Int := (v : Int) - (s.ftime : Int)
    let s := { s with time := { now := BitVec.ofNat 64 v, frac := 0 } }
    s.raise 691 0x04 (ofSigned 64 d)

/-- A write of TIME_ADJ on an external root; a write during a slew adds to what is left (log 16). -/
def State.timeAdj (s : State) (ns : W32) : State :=
  if s.fld F.VIA_TIME_CFG_ROLE ≠ 3 then s
  else s.setServo { s.via.servo with slew := s.via.servo.slew + signedOf 32 ns.toNat * 2 ^ 32 }

/-- TIME_EXCHANGE_START (R175). -/
def execTimeExchangeStart (l : Fin 256) (s : State) : Out := .next (s.exchangeStart l.val)

/-- SYNC_RECEIVE (R176). -/
def execSyncReceive (l : Fin 256) (s : State) : Out :=
  match s.takeByp l.val [0x10] with
  | (some (m, q), s) => .next (s.syncReceive l.val m q)
  | (none, s) => .next s

/-- SYNC_HI_RECEIVE (R176). -/
def execSyncHiReceive (l : Fin 256) (s : State) : Out :=
  match s.takeByp l.val [0x11] with
  | (some (m, _), s) => .next (s.syncHiReceive l.val m)
  | (none, s) => .next s

/-- DELAY_REQ_RECEIVE (R176). The reserved time messages 0x14 to 0x17 are counted where they are taken (R175). -/
def execDelayReqReceive (l : Fin 256) (s : State) : Out :=
  match s.takeByp l.val [0x12] with
  | (some (m, q), s) => .next (s.delayReqReceive l.val m q)
  | (none, s) => .next s

/-- DELAY_RSP_RECEIVE (R178). -/
def execDelayRspReceive (l : Fin 256) (s : State) : Out :=
  match s.takeByp l.val [0x13] with
  | (some (m, _), s) => .next (s.delayRspReceive l.val m)
  | (none, s) => .next s

/-- EXCHANGE_TIMEOUT (R178). -/
def execExchangeTimeout (s : State) : Out := .next s.exchangeTimeout

/-- HOLDOVER_EXPIRE (R179). -/
def execHoldoverExpire (s : State) : Out := .next s.holdoverExpire

/-- PPS_IN_EDGE (R180). -/
def execPpsInEdge (s : State) : Out := .next s.ppsInEdge

/-- TIME_SET_WRITE (R180). -/
def execTimeSetWrite (ag : Agent) (hi : W32) (s : State) : Out := .next (s.timeSet ag hi)

/-- TIME_ADJ_WRITE (R180). -/
def execTimeAdjWrite (ns : W32) (s : State) : Out := .next (s.timeAdj ns)

/-- PPS_OUT_ASSERT (R182): driven only where an idle level was sensed. -/
def execPpsOutAssert (s : State) : Out :=
  if s.flag F.VIA_CFG_PPS_OUT_EN ∧ (s.fld F.PWR_PIN_IDLE_VALID).testBit 7 then
    .next { s with pwr := { s.pwr with ppsOut := true } }
  else .next s

/-- PPS_OUT_DEASSERT (R182). -/
def execPpsOutDeassert (s : State) : Out := .next { s with pwr := { s.pwr with ppsOut := false } }

/-- VIA_INJECT_TIME_ERR (R197). -/
def execViaInjectTimeErr (s : State) : Out := .next (s.setArmed F.VIA_INJECT_TIME_ERR 0 true)

end Sys2Proof.Machine
end

