-- ==== Sys2Proof/Machine/Gates.lean ====
section
/-!
DEFINITION. Machine/Gates.lean: viaduct entries, gate lists and windows (chapter 06, R184–R196), up to the packets that
wait at a router's gates.
-/
namespace Sys2Proof.Machine

/-- The active copy of the gate and viaduct tables is copy B (R195). -/
def State.viaB (s : State) : Bool := s.flag F.VIA_TBL_CTRL_ACTIVE

/-- Word `w` of a viaduct entry of a copy (R185, R197). -/
def State.viaWord (s : State) (b : Bool) (v w : Nat) : Nat :=
  (s.rd64 ((if b then 0x1860000 else 0x1840000) + 32 * v + 8 * w)).toNat

/-- Gate entry `i` of a link in a copy (R186, R197). -/
def State.gateWord (s : State) (b : Bool) (l i : Nat) : Nat :=
  (s.rd64 ((if b then 0x1820000 else 0x1800000) + 0x200 * l + 8 * i)).toNat

def vValid (w0 : Nat) : Bool := w0.testBit 63 && decide (w0 / 2 ^ 61 % 4 ≠ 3)
def vRole (w0 : Nat) : Nat := w0 / 2 ^ 61 % 4
def vHold (w0 : Nat) : Bool := w0.testBit 60
def vIn (w0 : Nat) : Nat := w0 / 2 ^ 40 % 256
def vOut (w0 : Nat) : Nat := w0 / 2 ^ 32 % 256
def vBytes (w0 : Nat) : Nat := w0 / 2 ^ 16 % 2 ^ 16
def vCells (w0 : Nat) : Nat := w0 % 2 ^ 16

def gValid (g : Nat) : Bool := g.testBit 63
def gVia (g : Nat) : Nat := g / 2 ^ 50 % 4096
def gStart (g : Nat) : Nat := g / 2 ^ 30 % 2 ^ 20
def gLen (g : Nat) : Nat := g / 2 ^ 17 % 2 ^ 13

/-- The viaduct id and slot sequence of a VIA_DATA packet (R184). -/
def pVia (p : List Byte) : Nat := beAt (pExt p) 0 4
def pSlot (p : List Byte) : Nat := beAt (pExt p) 4 4

/-- Gates are in force: GATE_EN, and fabric time not UNLOCKED (R196). -/
def State.gatesOn (s : State) : Bool := s.flag F.VIA_CFG_GATE_EN && decide (s.fld F.VIA_TIME_STATUS_STATE ≠ 0)

/-- The position of fabric time in the cycle (R186). -/
def State.cyclePos (s : State) : Nat :=
  let c := max 1 (s.fld F.VIA_CYCLE_NS)
  (((s.ftime : Int) - (s.fld F.VIA_CYCLE_BASE_TIME : Nat)) % (c : Nat)).toNat

/-- The valid gate entries of a link in the active copy. -/
def State.gates (s : State) (l : Nat) : List Nat :=
  ((List.range 64).map (s.gateWord s.viaB l)).filter gValid

/-- Nanoseconds until the next closed interval of a link begins: 0 inside one, none where no entry is valid (R186, R188). -/
def State.openFor (s : State) (l : Nat) : Option Nat :=
  let c := max 1 (s.fld F.VIA_CYCLE_NS)
  let g := s.fld F.VIA_GATE_PARAM_GUARD_NS
  let p := s.cyclePos
  (s.gates l).foldl (fun m e =>
    let into := (p + 2 * c - (gStart e + c - g % c)) % c
    let d := if into < gLen e + g then 0 else c - into
    some (match m with
      | some x => min x d
      | none => d)) none

/-- A packet of a length fits into a number of nanoseconds at a link's payload rate. -/
def State.fitsIn (s : State) (l len ns : Nat) : Bool := decide (wireLen len * 10 ≤ s.linkUnits l * ns)

/-- A gate queue (R189). -/
def State.gq (s : State) (l v : Nat) : List GateEnt := mget [] s.via.gq (l * 4096 + v)
def State.setGq (s : State) (l v : Nat) (q : List GateEnt) : State :=
  { s with via := { s.via with gq := mput [] s.via.gq (l * 4096 + v) q } }

/-- A viaduct packet missed: counted, with kind 0x07 (R190). -/
def State.viaMissed (s : State) (v slot : Nat) : State :=
  (s.count F.VIA_CNT_MISSED_COUNT 0).raise 691 0x07 (v % 4096 * 2 ^ 32 + slot)

/-- A packet that its window closed on waits one more cycle with HOLD set, once; else it is discarded (R190). The answer is
the entry kept. -/
def State.missWindow (s : State) (l v : Nat) (e : GateEnt) : Option GateEnt × State :=
  if vHold (s.viaWord s.viaB v 0) ∧ e.missed = 0 ∧ gValid (s.viaWord s.viaB v 0) then
    (some { e with missed := 1 }, s.count F.VIA_CNT_HELD_COUNT 0)
  else
    let s := s.viaMissed v e.slot
    let _ := l
    (none, s.copyDone e.pkt)

/-- The packet's window on a link has already closed in this cycle. -/
def State.windowPast (s : State) (l v : Nat) : Bool :=
  (s.gates l).any (fun g => decide (gVia g = v) && decide (gStart g + gLen g ≤ s.cyclePos))

/-- A viaduct packet joins the gate queue of its output link, or is discarded as missed (R189, R190). -/
def State.gateJoin (s : State) (l v : Nat) (e : GateEnt) (len : Nat) : State :=
  let w0 := s.viaWord s.viaB v 0
  let used := ((s.gq l v).map (fun x => match s.pkt x.pkt with
    | some p => cellsOf p.len
    | none => 0)).sum
  if vCells w0 < used + cellsOf len then (s.viaMissed v e.slot).copyDone e.pkt
  else if s.windowPast l v then
    match s.missWindow l v e with
    | (some e', s) => s.setGq l v (s.gq l v ++ [e'])
    | (none, s) => s
  else s.setGq l v (s.gq l v ++ [e])

/-- The oldest stored viaduct packet becomes eligible at its gate (R189, R196). A packet with DETOURED set, or whose hop
field names a dead link, goes as ordinary packet traffic. -/
def State.viaEligible (s : State) : State :=
  match s.fwd.viaStored with
  | [] => s
  | id :: rest =>
    let s := { s with fwd := { s.fwd with viaStored := rest } }
    match s.pkt id with
    | none => s
    | some p =>
      let hdr := slice p.bytes 0 32
      let v := pVia p.bytes
      let w := pPath hdr
      let l := wHop w (wNext w)
      let w0 := s.viaWord s.viaB (v % 4096) 0
      if wDetoured w ∨ ¬ s.linkUsable l then s.forwardPkt id p.pipe p.inLink hdr none
      else if ¬ s.gatesOn then (s.viaMissed (v % 4096) (pSlot p.bytes)).freePkt id
      else if v < 4096 ∧ vValid w0 ∧ mget false s.via.armed v ∧ vRole w0 = 0 ∧ some (vIn w0) = p.inLink ∧ vOut w0 = l then
        let inc := s.boundary l || pBump hdr
        if inc ∧ pVc hdr = 3 then s.failHop id p.pipe 0x04 0x05 p.inLink hdr F.FWD_CNT_CLASS_COUNT
        else
          let h := setFlag (setPath (if inc then setVc hdr (pVc hdr + 1) else hdr) (w + 2 ^ 10)) 2 false
          let s := if pTrace hdr then s.raise (448 + p.pipe) 0x08 (fwdDetail p.inLink (l * 2 ^ 48 + pTag hdr)) else s
          s.gateJoin l v { pkt := id, hdr := sealHdr h, slot := pSlot p.bytes } p.len
      else
        ((s.count F.VIA_CNT_NOENTRY_COUNT 0).raise 691 0x09
          (v % 4096 * 2 ^ 32 + (p.inLink.getD 0xFF) * 2 ^ 8)).freePkt id

/-- A window opens (R188); one that WINDOW_SKIP names passes nothing (R197). -/
def State.windowOpen (s : State) (l e : Nat) : State :=
  let g := s.gateWord s.viaB l e
  if ¬ s.gatesOn ∨ ¬ gValid g then s
  else if mget false s.via.skip l then
    { s with via := { s.via with skip := mput false s.via.skip l false } }
  else { s with via := { s.via with open? := minsert s.via.open? l (e, gVia g) } }

/-- A window closes: an overrun where its packet is still in transmission, and its queued packets held or discarded (R188, R190). -/
def State.windowClose (s : State) (l e : Nat) : State :=
  let g := s.gateWord s.viaB l e
  let v := gVia g
  let s := { s with via := { s.via with open? := merase s.via.open? l } }
  if ¬ s.gatesOn ∨ ¬ gValid g then s
  else
    let late := match (s.link l).txPkt with
      | some t => decide (t.via = some v)
      | none => false
    let s := if late then (s.count F.VIA_CNT_OVERRUN_COUNT 0).raise 691 0x08 (l * 2 ^ 8 + v * 2 ^ 32) else s
    let q := s.gq l v
    q.foldl (fun s e => match s.missWindow l v e with
      | (some e', s) => s.setGq l v (s.gq l v ++ [e'])
      | (none, s) => s) (s.setGq l v [])

/-- Every gate queue, with its link and viaduct. -/
def State.gateQueues (s : State) : List (Nat × Nat × List GateEnt) := s.via.gq.map (fun e => (e.1 / 4096, e.1 % 4096, e.2))

/-- The swap of R195 at a cycle start: gate lists, viaduct table and cycle parameters together. Armed state carries over for
identical entries; held packets without an entry for their link in the new copy are discarded. -/
def State.viaSwap (s : State) : State :=
  match s.via.swapFrom with
  | none => s
  | some _ =>
    let oldB := s.viaB
    let role := s.fld F.VIA_TIME_CFG_ROLE
    let same (v : Nat) : Bool := (List.range 4).all (fun w => decide (s.viaWord oldB v w = s.viaWord (!oldB) v w))
    let armed := s.via.armed.filter (fun a => same a.1)
    let s := ((s.applyPend 0x540).setFld F.VIA_TBL_CTRL_ACTIVE (if oldB then 0 else 1)).noteSwap 2
    let s := { s with via := { s.via with armed := armed, swapFrom := none, open? := [] } }
    let s := s.roleApply role
    s.gateQueues.foldl (fun s q =>
      let (l, v, es) := q
      let w0 := s.viaWord s.viaB v 0
      if vValid w0 ∧ vOut w0 = l then s
      else (es.foldl (fun s e => (s.viaMissed v e.slot).copyDone e.pkt) s).setGq l v []) s

/-! ## The checks of a COMMIT that makes a copy active (R187) -/

/-- The wire time of a length in whole nanoseconds, rounded up, at a link's configured rate in low-latency coding. -/
def State.wireNs (s : State) (l len : Nat) : Nat :=
  let u := 2 ^ s.fld F.LNK_CFG_WIDTH l * 500 / (if s.flag F.LNK_CFG_RATE l then 2 else 1)
  (wireLen len * 10 + u - 1) / u

/-- Successive pairs of a list, the last with the first. -/
def cyclicPairs (l : List Nat) : List (Nat × Nat) :=
  match l with
  | [] => []
  | a :: t => l.zip (t ++ [a])

/-- The first entry of a link's list that fails R187, for the cycle, guard and gap that the COMMIT would set. -/
def State.gateFault (s : State) (b : Bool) (cyc guard gap l : Nat) : Option Nat :=
  let es := ((List.range 64).map (fun i => (i, s.gateWord b l i))).filter (fun e => gValid e.2)
  let pairs := cyclicPairs (es.map (·.2))
  let bad (k : Nat) (e : Nat × Nat) : Bool :=
    let g := e.2
    let w0 := s.viaWord b (gVia g) 0
    let asc := match es[k + 1]? with
      | some n => decide (gStart g < gStart n.2)
      | none => true
    let gapOk := match pairs[k]? with
      | some (x, y) => decide (gap ≤ (gStart y + 2 * cyc - (gStart x + gLen x)) % cyc) || decide (es.length = 1 ∧ gLen x + gap ≤ cyc)
      | none => true
    let sep := match pairs[k]? with
      | some (x, y) => decide (es.length = 1) || decide (guard ≤ (gStart y + 2 * cyc - (gStart x + gLen x)) % cyc)
      | none => true
    !(asc && decide (gStart g + gLen g ≤ cyc) && decide (1000 ≤ cyc) && sep && gapOk &&
      decide (guard + s.wireNs l 4388 ≤ gap) && decide (s.wireNs l (32 + 8 + vBytes w0 + 4) ≤ gLen g) &&
      vValid w0 && decide (vOut w0 = l) && decide (1 ≤ gLen g))
  (((List.range es.length).zip es).find? (fun x => bad x.1 x.2)).map (fun x => x.2.1)

/-- The first link and entry that make a VIA COMMIT be refused (R187). -/
def State.gateFaults (s : State) (b : Bool) : Option (Nat × Nat) :=
  let cyc := s.pendFld F.VIA_CYCLE_NS
  let guard := s.pendFld F.VIA_GATE_PARAM_GUARD_NS
  let gap := s.pendFld F.VIA_GATE_PARAM_MIN_GAP_NS
  (List.range 256).findSome? (fun l => (s.gateFault b cyc guard gap l).map (fun e => (l, e)))

/-! ## The commands of the gates -/

/-- WINDOW_OPEN (R188). -/
def execWindowOpen (l : Fin 256) (e : Fin 64) (s : State) : Out := .next (s.windowOpen l.val e.val)

/-- VIADUCT_ELIGIBLE (R189). -/
def execViaductEligible (s : State) : Out := .next s.viaEligible

/-- VIA_INJECT_WINDOW_SKIP (R197): the next window of every list. -/
def execViaInjectWindowSkip (s : State) : Out :=
  .next { s with via := { s.via with skip := (List.range 256).map (fun l => (l, true)) } }

end Sys2Proof.Machine
end

