-- ==== Sys2Proof/Machine/Transmit.lean ====
section
/-!
DEFINITION. Machine/Transmit.lean: what an output link sends next: credits (R116), cut-through (R47, R48), the output
service order (R483–R485), the start of a packet, its end and its abort (R50, R60, R112, R113).
-/
namespace Sys2Proof.Machine

/-! ## Credits (R115, R116) -/

/-- Credits available in a pool (R115). -/
def State.avail (s : State) (l pool : Nat) : Nat := seqDist 24 (mget 0 (s.link l).limit pool) (mget 0 (s.link l).used pool)

/-- The pools from which a packet can take its credits: its own, else the shared ones, which TC7 and version 1 links do not
use; none where it waits (R116, R143). The answer says whether they are shared. -/
def State.creditsFor (s : State) (l tc vc len : Nat) : Option Bool :=
  let n := cellsOf len
  let suffice (sh : Bool) : Bool :=
    let (d, h) := poolsOf tc vc sh
    decide (n ≤ s.avail l d) && decide (1 ≤ s.avail l h)
  if suffice false then some false
  else if tc ≠ 7 ∧ ¬ s.v1 l ∧ suffice true then some true
  else none

/-- Credits are consumed when START is first sent (R116). -/
def State.spend (s : State) (l tc vc len : Nat) (shared : Bool) : State :=
  let k := s.link l
  let (d, h) := poolsOf tc vc shared
  let u := mput 0 k.used d ((mget 0 k.used d + cellsOf len) % 2 ^ 24)
  s.setLink l { k with used := mput 0 u h ((mget 0 u h + 1) % 2 ^ 24) }

/-! ## Cut-through (R47, R48) -/

/-- The bytes that must have been received before a packet not yet whole may start (R48). -/
def ctThreshold (len ri ro : Nat) : Nat :=
  if ro ≤ ri then 0 else roundUp 64 ((wireLen len * (ro - ri) + ro - 1) / ro)

/-- A queued packet may start now: it is stored whole, or the cut-through conditions hold (R47). -/
def State.mayStart (s : State) (l id : Nat) : Bool :=
  match s.pkt id with
  | none => false
  | some p =>
    p.whole ||
    (s.flag F.FWD_CFG_CT_ENABLE p.pipe &&
      match p.inLink with
      | none => false
      | some m => decide (ctThreshold p.len (s.linkUnits m) (s.linkUnits l) ≤ (s.storedBytes id).length + 4))

/-! ## The service order (R483–R485) -/

/-- A head competes: it has credits, it fits before the next closed interval, and it may start (R483, R47). -/
def State.competes (s : State) (l : Nat) (room : Option Nat) (e : QEnt) : Bool :=
  match s.pkt e.pkt with
  | none => false
  | some p =>
    s.mayStart l e.pkt && (s.creditsFor l (pTc e.hdr) (pVc e.hdr) p.len).isSome &&
    (match room with
      | none => true
      | some ns => s.fitsIn l p.len ns)

/-- The highest VC of a class with a competing head (R483). -/
def State.bestVc (s : State) (l : Nat) (room : Option Nat) (tc : Nat) : Option Nat :=
  firstNat [3, 2, 1, 0] (fun vc => match s.outQ l tc vc with
    | [] => false
    | e :: _ => s.competes l room e)

/-- A class has packets queued. -/
def State.classQueued (s : State) (l tc : Nat) : Bool := (List.range 4).any (fun vc => !(s.outQ l tc vc).isEmpty)

/-- The wire length of the head that a class would send. -/
def State.headWire (s : State) (l tc vc : Nat) : Nat :=
  match s.outQ l tc vc with
  | [] => 0
  | e :: _ => match s.pkt e.pkt with
    | some p => wireLen p.len
    | none => 0

/-- Deficit round robin (R484). The pointer is a class and whether its quantum has been added on this visit. Answers the
class and channel that send, the deficits and the pointer after. -/
def drr (best : Nat → Option Nat) (wire : Nat → Nat → Nat) (quantum : Nat → Nat) :
    (fuel c : Nat) → (visited : Bool) → (def_ : SMap Nat) → Option (Nat × Nat) × SMap Nat × Nat
  | 0, c, v, d => (none, d, 2 * c + (if v then 1 else 0))
  | fuel + 1, c, v, d =>
    match best c with
    | none => drr best wire quantum fuel ((c + 1) % 7) false d
    | some vc =>
      let x := mget 0 d c + (if v then 0 else quantum c)
      let w := wire c vc
      if w ≤ x then (some (c, vc), mput 0 d c (x - w), 2 * c + 1)
      else drr best wire quantum fuel ((c + 1) % 7) false (mput 0 d c x)

/-- The deficits of a link by class. -/
def State.deficits (s : State) (l : Nat) : SMap Nat :=
  (List.range 7).foldl (fun m tc => if s.classQueued l tc then mput 0 m tc (mget 0 s.fwd.deficit (l * 8 + tc)) else m) []

/-- The queue that sends next outside a window (R483 step 2), and the state with its deficits moved. -/
def State.chooseOut (s : State) (l : Nat) (room : Option Nat) : Option (Nat × Nat) × State :=
  let k := s.linkTile l / 2
  let strict := s.fld F.SCH_OUT_MODE_STRICT k ||| 0x80
  match firstNat ([7, 6, 5, 4, 3, 2, 1, 0].filter (fun tc => strict.testBit tc)) (fun tc => (s.bestVc l room tc).isSome) with
  | some tc => ((s.bestVc l room tc).map (fun vc => (tc, vc)), s)
  | none =>
    let best (tc : Nat) : Option Nat := if strict.testBit tc then none else s.bestVc l room tc
    if (List.range 7).all (fun tc => (best tc).isNone) then (none, s)
    else
      let q (tc : Nat) : Nat := let b := s.fld F.SCH_OUT_QUANTUM_BYTES k tc; if b = 0 then 64 else b
      let p := mget 0 s.fwd.rrPtr l
      let (c, d, p') := drr best (s.headWire l) q 1024 (p / 2) (decide (p % 2 = 1)) (s.deficits l)
      let ds := (List.range 7).foldl (fun m tc => mput 0 m (l * 8 + tc) (mget 0 d tc)) s.fwd.deficit
      (c, { s with fwd := { s.fwd with deficit := ds, rrPtr := mput 0 s.fwd.rrPtr l p' } })

/-! ## The start of a packet -/

/-- START of an outgoing copy (R111). -/
def startWord (tc vc : Nat) (shared : Bool) (len : Nat) : Nat :=
  0xFB * 2 ^ 24 + tc * 2 ^ 21 + vc * 2 ^ 19 + (if shared then 2 ^ 18 else 0) + len

/-- A stream item whose first byte is marked as the item's beginning. -/
def streamItem (b : List Byte) : List (Byte × Bool) :=
  match b with
  | [] => []
  | x :: t => (x, true) :: t.map (fun y => (y, false))

/-- A copy starts: its credits are spent, START and the header it leaves with enter the stream, and the injections of its
pipeline act on it (R47, R64, R116). An uncorrectable buffer error ends it with the abort marker (R50, R53). -/
def State.startCopy (s : State) (l id : Nat) (hdr : List Byte) (crc : Option W32) (via : Option Nat) : State :=
  match s.pkt id with
  | none => s
  | some p =>
    let tc := pTc hdr
    let vc := pVc hdr
    let sh := (s.creditsFor l tc vc p.len).getD false
    let s := s.spend l tc vc p.len sh
    let inj (f : Fld) : Bool := decide (tc ≠ 7) && s.armed f p.pipe
    let iH := inj F.FWD_INJECT_HCHK
    let iE := inj F.FWD_INJECT_E2E
    let iB := inj F.FWD_INJECT_BUF_ECC || p.eccBad
    let s := if iH then s.setArmed F.FWD_INJECT_HCHK p.pipe false else s
    let s := if iE then s.setArmed F.FWD_INJECT_E2E p.pipe false else s
    let s := if inj F.FWD_INJECT_BUF_ECC then s.setArmed F.FWD_INJECT_BUF_ECC p.pipe false else s
    let s := if iB then (s.raise (448 + p.pipe) 0x07 (id % 2 ^ 24 * 2 ^ 40 + pTag hdr)).count F.FWD_CNT_ABORT_COUNT p.pipe else s
    let h := if iH then hdr.take 30 ++ (hdr.drop 30).map (fun x => ~~~x) else hdr
    let k := s.link l
    let t : TxPkt := { pkt := id, sent := 32, crc := if iE then crc.map (fun c => ~~~c) else crc, badE2e := iE, bad := iB,
                       via := via, since := s.clk }
    let k := { k with txStream := k.txStream ++ streamItem (beBytes 4 (startWord tc vc sh p.len)) ++
                        h.map (fun x => (x, false)), txPkt := some t, idleLeft := 0 }
    (s.setLink l k).supply l

/-- PACKET_TRANSMIT_START on a free link (R483): a viaduct's head inside its window (R188), else the service order. -/
def State.transmitStart (s : State) (l : Nat) : State :=
  let k := s.link l
  if s.lstate l ≠ LS.active ∨ k.txPkt.isSome ∨ ¬ s.awake (Dom.pipe (s.linkTile l)) then s
  else
    let win := if s.gatesOn then mfind s.via.open? l else none
    match win with
    | some (e, v) =>
      let g := s.gateWord s.viaB l e
      let pos := s.cyclePos
      (match s.gq l v with
      | [] => s
      | x :: rest =>
        match s.pkt x.pkt with
        | none => s.setGq l v rest
        | some p =>
          if gStart g ≤ pos ∧ pos < gStart g + gLen g ∧ s.fitsIn l p.len (gStart g + gLen g - pos) ∧
              (s.creditsFor l (pTc x.hdr) (pVc x.hdr) p.len).isSome then
            ((s.setGq l v rest).startCopy l x.pkt x.hdr none (some v)).count F.VIA_CNT_SENT_COUNT 0
          else s)
    | none =>
      let room := if s.gatesOn then s.openFor l else none
      match s.chooseOut l room with
      | (none, s) => s
      | (some (tc, vc), s) =>
        match s.outQ l tc vc with
        | [] => s
        | e :: rest => (s.setOutQ l tc vc rest).startCopy l e.pkt e.hdr e.crc none

/-- The transmitter ends its packet with zero bytes up to its length and the abort END (R112). -/
def State.abortTx (s : State) (l : Nat) (t : TxPkt) (len : Nat) : State :=
  let k := s.link l
  let fill := (List.replicate (len - t.sent) (0#8, false))
  (s.setLink l { k with txStream := k.txStream ++ fill ++ streamItem (beBytes 4 (0xFE * 2 ^ 24)), txPkt := none }).copyDone t.pkt

/-- A packet's last byte leaves: END, good or abort; its cells are freed once its last copy has left (R60, R111, R112). -/
def State.transmitEnd (s : State) (l : Nat) : State :=
  let s := s.supply l
  let k := s.link l
  match k.txPkt with
  | none => s
  | some t =>
    match s.pkt t.pkt with
    | none => s.setLink l { k with txPkt := none }
    | some p =>
      if t.bad ∨ p.bad then s.abortTx l t p.len
      else if t.sent < p.len ∨ ¬ p.whole then s
      else (s.setLink l { k with txStream := k.txStream ++ streamItem (beBytes 4 (0xFD * 2 ^ 24)), txPkt := none }).copyDone t.pkt

/-- PACKET_TRANSMIT_START (R483). -/
def execPacketTransmitStart (l : Fin 256) (s : State) : Out := .next (s.transmitStart l.val)

/-- CT_STALL_EXPIRE (R113): the packet's wait for its bytes has exceeded CT_STALL. -/
def execCtStallExpire (l : Fin 256) (s : State) : Out :=
  let s := s.supply l.val
  match (s.link l.val).txPkt with
  | none => .next s
  | some t =>
    match s.pkt t.pkt with
    | none => .next s
    | some p =>
      if p.whole ∨ p.len ≤ t.sent then .next s
      else .next ((s.count F.FWD_CNT_ABORT_COUNT p.pipe).abortTx l.val t p.len)

end Sys2Proof.Machine
end

