-- ==== Sys2Proof/Machine/LinkCmds.lean ====
section
/-!
DEFINITION. Machine/LinkCmds.lean: the meanings of the fabric link commands (chapter 04).
-/
namespace Sys2Proof.Machine

/-! ## Timers of a link -/

/-- The link carries flits and is awake. -/
def State.linkUp (s : State) (l : Nat) : Bool := s.lstate l == LS.active

/-- The oldest unacknowledged data flit is old enough for a replay on the link's own account (R125): the timer expired. -/
def State.replayTimeout (s : State) (l : Nat) : State :=
  let k := s.link l
  if ¬ s.linkUp l ∨ s.outstanding l = 0 ∨ k.replayPos.isSome then s else s.startReplay l k.acked

/-- The oldest spilled flit of the replay that is not yet on the die becomes available (R129). -/
def State.spillReadDone (s : State) (l : Nat) : State :=
  let k := s.link l
  match k.replayPos with
  | none => s
  | some q =>
    let w := s.seqBits l
    match firstIdx k.replay (fun r => r.spilled && !r.readBack && decide (seqDist w q k.acked ≤ seqDist w r.seq k.acked)) with
    | none => s
    | some (i, r) => s.setLink l { k with replay := k.replay.set i { r with readBack := true } }

/-- Every pool's LIMIT is sent again (R118). -/
def State.creditRefresh (s : State) (l : Nat) : State :=
  if ¬ s.linkUp l then s
  else (s.pools l).foldl (fun s p => s.queueByp l (creditMsg p (mget 0 (s.link l).rxLimit p))) s

/-- A head has waited on a pool for CREDIT_STALL without a rise of its LIMIT (R120, R146). It is reported once for each wait. -/
def State.creditStall (s : State) (l pool : Nat) : State :=
  let k := s.link l
  if ¬ s.linkUp l ∨ pool ∉ s.pools l ∨ mget false k.stallSeen pool then s
  else (s.setLink l { k with stallSeen := mput false k.stallSeen pool true }).raise l 0x04 (pool * 2 ^ 49 + mget 0 k.limit pool)

/-! ## Quiet sleep (R137, R162) -/

/-- A link's output queues, replay store and partial-packet state are empty (R137). -/
def State.linkIdle (s : State) (l : Nat) : Bool :=
  let k := s.link l
  (List.range 32).all (fun i => (s.outQ l (i / 4) (i % 4)).isEmpty) && decide (s.outstanding l = 0) && k.txPkt.isNone &&
    k.inPacket.isNone && k.rxq.all (fun r => decide (r.ended ≠ 0)) && decide (k.txStream.length ≤ k.idleLeft) &&
    s.via.gq.all (fun (e : Nat × List GateEnt) => decide (e.1 / 4096 ≠ l))

/-- Some output queue of a link holds a packet. -/
def State.linkQueued (s : State) (l : Nat) : Bool := (List.range 32).any (fun i => !(s.outQ l (i / 4) (i % 4)).isEmpty)

/-- Both ends stop sending, and the lanes enter quiet sleep: credits, sequences, grant and RTT_NS are kept (R137, R162). -/
def State.quiet (s : State) (l : Nat) : State :=
  let k := s.link l
  let s := s.setLink l { k with sleepReq := false, idle := k.byp.isEmpty && k.bypHalf.isNone, waking := false, lockCount := 0 }
  let s := s.setFld F.LNK_LSTATE_STATE LS.quiet l
  (s.linkLanes l).foldl (fun s n => s.setLane n 6) s

/-- The link leaves quiet sleep: its transmitter leaves electrical idle and it relocks (R137, R162). -/
def State.linkWake (s : State) (l : Nat) : State :=
  let k := s.link l
  if s.lstate l ≠ LS.quiet ∨ k.waking then s
  else (s.setLink l { k with waking := true, idle := false, lockCount := 0 }).wake (Dom.tile (s.linkTile l))

/-- The wake is done: ACTIVE again without steps 3 to 6 (R137, R162). -/
def State.linkWakeDone (s : State) (l : Nat) : State :=
  let k := s.link l
  if s.lstate l ≠ LS.quiet ∨ ¬ k.waking then s
  else
    let s := s.setLink l { k with waking := false, idle := false }
    (s.linkLanes l).foldl (fun s n => s.setLane n 5) (s.setFld F.LNK_LSTATE_STATE LS.active l)

/-! ## Enable, disable and the down hold (R135, R138, R142, R149) -/

/-- The RWS copies of a link and of its lanes that wait for a bring-up are applied (R144, R170). -/
def State.applyLinkCommits (s : State) (l : Nat) : State :=
  let s := s.applyPend (0x100 + l)
  (s.linkLanes l).foldl (fun s n => if n < 512 then s.applyPend (0x200 + n) else s) s

/-- The claim of a fabric link meets every rule of R149 (rules 1 to 6). -/
def State.claimOk (s : State) (l : Nat) : Bool :=
  s.claimShape (s.firstLane l) (2 ^ s.fld F.LNK_CFG_WIDTH l) false && s.reserveOk (s.linkTile l / 16) (some l)

 /-- The claim ends: its lanes read VALID 0 in SRD OWNER (R149). -/
def State.releaseClaim (s : State) (l : Nat) : State :=
  let k := s.link l
  if ¬ k.claimed then s
  else (s.setOwner (s.firstLane l) (2 ^ s.fld F.LNK_CFG_WIDTH l) false false l).setLink l { k with claimed := false }

/-- Bring-up starts where the claim is valid by the configuration then in force; else the claim is refused (R135, R142, R149). -/
def State.linkStart (s : State) (l : Nat) : State :=
  let s := (s.releaseClaim l).applyLinkCommits l
  if s.claimOk l then (s.setOwner (s.firstLane l) (2 ^ s.fld F.LNK_CFG_WIDTH l) true false l).bringUp l
  else (s.setFld F.LNK_LSTATE_STATE LS.disabled l).claimRefused false l (s.firstLane l)

/-- A write of ENABLE 1: bring-up starts, unless the link is up, its down hold runs or no link may train (R135, R139, R142). -/
def State.linkEnable (s : State) (l : Nat) : State :=
  if s.enabled .lnk l then s
  else
    let s := s.setHdr .lnk l F.HDR_CTRL_ENABLE 1
    let k := s.link l
    if k.downHold then s.setLink l { k with reEnabled := true }
    else if s.lstate l ≠ LS.disabled ∧ s.lstate l ≠ LS.down then s
    else if ¬ s.mayTrain then s
    else s.linkStart l

/-- A write of ENABLE 0: graceful tear-down of an ACTIVE link, an immediate stop of a bring-up or of quiet sleep (R135, R138). -/
def State.linkDisable (s : State) (l : Nat) : State :=
  if s.enabled .lnk l = false then s
  else
    let s := s.setHdr .lnk l F.HDR_CTRL_ENABLE 0
    let st := s.lstate l
    let k := s.link l
    if st = LS.active then s.setLink l { k with teardown := true }
    else if st = LS.disabled then s
    else if st = LS.down then
      if k.downHold then s.setLink l { k with reEnabled := false } else (s.releaseClaim l).setFld F.LNK_LSTATE_STATE LS.down l
    else (s.linkDown l 0x07 (some 0)).releaseClaim l

/-- The end of a tear-down: LINK_STATE DOWN with reason 0x07 in eight successive messages, then electrical idle (R138). -/
def State.teardownEnd (s : State) (l : Nat) : State :=
  if ¬ (s.link l).teardown then s
  else (s.linkDown l 0x07 (some 0) (some (List.replicate 8 (linkStateMsg 0 0x07)))).releaseClaim l

/-- The drain of a tear-down has ended: the queues are empty and every data flit is acknowledged (R138). -/
def State.drained (s : State) (l : Nat) : Bool :=
  !s.linkQueued l && decide (s.outstanding l = 0) && (s.link l).txPkt.isNone

/-- The 10 µs down hold ends (R142). -/
def State.downHoldExpire (s : State) (l : Nat) : State :=
  let k := s.link l
  if ¬ k.downHold then s
  else
    let s := s.setLink l { k with downHold := false, reEnabled := false }
    if s.enabled .lnk l = false then (s.releaseClaim l).setFld F.LNK_LSTATE_STATE LS.disabled l
    else if ¬ s.mayTrain ∨ k.clockHeld then s
    else if k.reEnabled then s.linkStart l
    else if s.flag F.LNK_CFG_AUTO_RETRAIN l ∧ k.claimed ∧ ¬ k.claimLapsed ∧ ¬ k.paramRetry then s.linkStart l
    else s

/-- A bring-up step misses its limit (R135); step 3 without a LINK_PARAM is retried after 1 ms where CFG allows. -/
def State.bringupTimeout (s : State) (l : Nat) : State :=
  let k := s.link l
  if k.step = 0 ∨ k.step = 7 then s
  else
    let retry := decide (k.step = 3) && k.peer0.isNone && k.peer1.isNone && s.flag F.LNK_CFG_AUTO_RETRAIN l
    let s := s.linkDown l 0x08
    s.setLink l { s.link l with paramRetry := retry }

/-- The retry of step 3, 1 ms after it timed out: bring-up starts again (R135). -/
def State.paramRetry (s : State) (l : Nat) : State :=
  let k := s.link l
  if ¬ k.paramRetry then s
  else
    let s := s.setLink l { k with paramRetry := false }
    if k.downHold ∨ s.enabled .lnk l = false ∨ ¬ s.mayTrain ∨ k.claimLapsed then s else s.linkStart l

/-! ## The commands -/

/-- FLIT_SEND (R104, R105, R113, R121, R124, R128, R131). -/
def execFlitSend (l : Fin 256) (s : State) : Out := .next (s.flitSend l.val)

/-- FLIT_RECEIVE (R106, R107, R111, R122, R123, R131, R135): the content bytes as decoded, the codewords corrected, and
whether one was uncorrectable. -/
def execFlitReceive (l : Fin 256) (content : List Byte) (corrected : Fin 9) (uncorrectable : Bool) (s : State) : Out :=
  .next (s.flitReceive l.val content corrected.val uncorrectable)

/-- LINK_ACK_TIMER (R123). -/
def execLinkAckTimer (l : Fin 256) (s : State) : Out :=
  .next (if (s.link l.val).unacked = 0 then s else s.sendAck l.val)

/-- LINK_ACK_RECEIVE (R123). -/
def execLinkAckReceive (l : Fin 256) (s : State) : Out :=
  match s.takeByp l.val [0x02] with
  | (some (m, _), s) => .next (s.linkAck l.val (bits m 0 (s.seqBits l.val)))
  | (none, s) => .next s

/-- REPLAY_REQ_RECEIVE (R124, R126). -/
def execReplayReqReceive (l : Fin 256) (s : State) : Out :=
  match s.takeByp l.val [0x03] with
  | (some (m, _), s) => .next (s.replayReq l.val (bits m 0 (s.seqBits l.val)))
  | (none, s) => .next s

/-- REPLAY_WAIT_TIMEOUT (R122). -/
def execReplayWaitTimeout (l : Fin 256) (s : State) : Out :=
  .next (if (s.link l.val).replayWait then s.sendReplayReq l.val else s)

/-- REPLAY_TIMEOUT (R125). -/
def execReplayTimeout (l : Fin 256) (s : State) : Out := .next (s.replayTimeout l.val)

/-- SPILL_READ_DONE (R129). -/
def execSpillReadDone (l : Fin 256) (s : State) : Out := .next (s.spillReadDone l.val)

/-- CREDIT_LIMIT_RECEIVE (R119, R135). -/
def execCreditLimitReceive (l : Fin 256) (s : State) : Out :=
  match s.takeByp l.val [0x01] with
  | (some (m, _), s) => .next (s.creditLimit l.val (bits m 49 7) (bits m 0 24))
  | (none, s) => .next s

/-- CREDIT_REFRESH (R118). -/
def execCreditRefresh (l : Fin 256) (s : State) : Out := .next (s.creditRefresh l.val)

/-- CREDIT_STALL (R120). -/
def execCreditStall (l : Fin 256) (pool : Fin 128) (s : State) : Out := .next (s.creditStall l.val pool.val)

/-- LINK_PARAM_SEND (R135). -/
def execLinkParamSend (l : Fin 256) (s : State) : Out := .next (s.paramSend l.val)

/-- LINK_PARAM_RECEIVE (R135). -/
def execLinkParamReceive (l : Fin 256) (s : State) : Out :=
  match s.takeByp l.val [0x04] with
  | (some (m, _), s) => .next (s.paramReceive l.val (m.setWidth 56))
  | (none, s) => .next s

/-- LINK_STATE_RECEIVE (R138, R139, R140). DOWN after a graceful tear-down is recorded at log severity (R146). -/
def execLinkStateReceive (l : Fin 256) (s : State) : Out :=
  match s.takeByp l.val [0x05] with
  | (some (m, _), s) =>
    let st := s.lstate l.val
    if st = LS.disabled ∨ st = LS.down then .next s
    else if bits m 52 4 = 1 then .next (s.linkDown l.val 0x0A)
    else if bits m 52 4 = 0 then .next (s.linkDown l.val 0x04 (if bits m 44 8 = 0x07 then some 0 else none))
    else .next s
  | (none, s) => .next s

/-- ECHO_REQ_SEND (R160). -/
def execEchoReqSend (l : Fin 256) (s : State) : Out :=
  let k := s.link l.val
  if k.step < 3 ∨ 4 < k.step ∨ 16 ≤ k.echoSent then .next s
  else .next ((s.setLink l.val { k with echoSent := k.echoSent + 1 }).queueByp l.val (bypMsg 0x06 0))

/-- ECHO_REQ_RECEIVE (R160): the hold time runs from the arrival of the request to the start of the response. -/
def execEchoReqReceive (l : Fin 256) (s : State) : Out :=
  match s.takeByp l.val [0x06] with
  | (some (m, q), s) => .next (s.queueByp l.val (bypMsg 0x07 (q / 4 % 2 ^ 16 * 2 ^ 40 + bits m 0 40)))
  | (none, s) => .next s

/-- ECHO_RSP_RECEIVE (R160, R161, R127). -/
def execEchoRspReceive (l : Fin 256) (s : State) : Out :=
  match s.takeByp l.val [0x07] with
  | (some (m, q), s) => .next (s.echoRsp l.val m q)
  | (none, s) => .next s

/-- ECHO_WAIT_EXPIRE (R160). -/
def execEchoWaitExpire (l : Fin 256) (s : State) : Out :=
  let k := s.link l.val
  if k.step = 4 ∧ k.echoSent = 16 ∧ ¬ k.echoClosed then .next (s.echoFinish l.val) else .next s

/-- SLEEP_IDLE_EXPIRE (R137). Quiet sleep needs version 2 and SLEEP_EN on both ends (R143). -/
def execSleepIdleExpire (l : Fin 256) (s : State) : Out :=
  let k := s.link l.val
  let peer : Bool := match k.peer0 with
    | some w => bitAt w 36
    | none => false
  if s.linkUp l.val ∧ s.flag F.LNK_CFG_SLEEP_EN l.val ∧ peer ∧ ¬ s.v1 l.val ∧ ¬ k.teardown ∧ ¬ k.sleepReq ∧ s.linkIdle l.val then
    .next ((s.setLink l.val { k with sleepReq := true }).queueByp l.val (bypMsg 0x08 0))
  else .next s

/-- SLEEP_REQ_RECEIVE (R137): accepted where this end is idle too, else refused. -/
def execSleepReqReceive (l : Fin 256) (s : State) : Out :=
  match s.takeByp l.val [0x08] with
  | (some _, s) =>
    if ¬ s.linkUp l.val then .next s
    else if s.flag F.LNK_CFG_SLEEP_EN l.val ∧ s.linkIdle l.val ∧ ¬ (s.link l.val).teardown then
      .next ((s.queueByp l.val (bypMsg 0x09 1)).quiet l.val)
    else .next (s.queueByp l.val (bypMsg 0x09 0))
  | (none, s) => .next s

/-- SLEEP_ACK_RECEIVE (R137): an accepting answer puts the lanes to sleep; a packet queued meanwhile wakes them at once. -/
def execSleepAckReceive (l : Fin 256) (s : State) : Out :=
  match s.takeByp l.val [0x09] with
  | (some (m, _), s) =>
    let k := s.link l.val
    if ¬ k.sleepReq then .next s
    else if bitAt m 0 then
      let s := s.quiet l.val
      .next (if s.linkQueued l.val then s.linkWake l.val else s)
    else .next (s.setLink l.val { k with sleepReq := false })
  | (none, s) => .next s

/-- LINK_ENABLE (R135, R149). -/
def execLinkEnable (l : Fin 256) (s : State) : Out := .next (s.linkEnable l.val)

/-- LINK_DISABLE (R138). -/
def execLinkDisable (l : Fin 256) (s : State) : Out := .next (s.linkDisable l.val)

/-- TEARDOWN_DRAIN_END (R138). -/
def execTeardownDrainEnd (l : Fin 256) (s : State) : Out := .next (if s.drained l.val then s.teardownEnd l.val else s)

/-- TEARDOWN_TIMEOUT (R138). -/
def execTeardownTimeout (l : Fin 256) (s : State) : Out := .next (s.teardownEnd l.val)

/-- BRINGUP_STEP_TIMEOUT (R135). -/
def execBringupStepTimeout (l : Fin 256) (s : State) : Out := .next (s.bringupTimeout l.val)

/-- LANE_SIGNAL_LOSS (R163, R172): loss of signal or lock on a lane of an ACTIVE link. -/
def execLaneSignalLoss (lane : Fin 512) (s : State) : Out :=
  if s.claimedLane lane.val ∧ ¬ s.flag F.SRD_OWNER_HOST lane.val then
    let l := s.fld F.SRD_OWNER_NUMBER lane.val
    if s.linkUp l then .next ((s.raise (320 + lane.val / 16) 0x03 (lane.val * 2 ^ 32)).linkDown l 0x01) else .next s
  else .next s

/-- DEAD_TIME_EXPIRE (R140). -/
def execDeadTimeExpire (l : Fin 256) (s : State) : Out :=
  let k := s.link l.val
  if 2 ≤ k.step ∧ s.lstate l.val ≠ LS.quiet then .next (s.linkDown l.val 0x02) else .next s

/-- DOWN_HOLD_EXPIRE (R142). -/
def execDownHoldExpire (l : Fin 256) (s : State) : Out := .next (s.downHoldExpire l.val)

/-- LINK_WAKE_DONE (R162). -/
def execLinkWakeDone (l : Fin 256) (s : State) : Out := .next (s.linkWakeDone l.val)

/-- WAKE_RELOCK_TIMEOUT (R162, R172). -/
def execWakeRelockTimeout (l : Fin 256) (s : State) : Out :=
  if s.lstate l.val = LS.quiet ∧ (s.link l.val).waking then
    .next ((s.raise (320 + s.linkTile l.val) 0x04 (s.firstLane l.val * 2 ^ 32)).linkDown l.val 0x01)
  else .next s

/-- LANE_WAKE_DETECT (R162): the partner has left electrical idle. -/
def execLaneWakeDetect (lane : Fin 512) (s : State) : Out :=
  if s.claimedLane lane.val ∧ ¬ s.flag F.SRD_OWNER_HOST lane.val then .next (s.linkWake (s.fld F.SRD_OWNER_NUMBER lane.val))
  else .next s

/-- LNK_INJECT_FORCE_DOWN (R144, R145). -/
def execLnkInjectForceDown (l : Fin 256) (s : State) : Out :=
  if s.lstate l.val = LS.disabled ∨ s.lstate l.val = LS.down then .next s else .next (s.linkDown l.val 0x01)

/-- LNK_INJECT_BAD_FLIT (R145). -/
def execLnkInjectBadFlit (l : Fin 256) (s : State) : Out := .next (s.setArmed F.LNK_INJECT_BAD_FLIT l.val true)

/-- LNK_INJECT_SYMBOL (R145). -/
def execLnkInjectSymbol (l : Fin 256) (s : State) : Out := .next (s.setArmed F.LNK_INJECT_SYMBOL l.val true)

/-- LINK_PARAM_RETRY (R135). -/
def execLinkParamRetry (l : Fin 256) (s : State) : Out := .next (s.paramRetry l.val)

end Sys2Proof.Machine
end

