-- ==== Sys2Proof/Machine/Lanes.lean ====
section
/-!
DEFINITION. Machine/Lanes.lean: lane bring-up, training frames, equalisation, the measurements of bring-up, and the PRBS
generators and checkers (chapter 05).
-/
namespace Sys2Proof.Machine

def State.laneSt (s : State) (n : Nat) : Lane := mget {} s.srd n
def State.setLaneSt (s : State) (n : Nat) (x : Lane) : State := { s with srd := mput {} s.srd n x }

/-- The fabric link that claims a lane, while its lanes are being brought up. -/
def State.trainingLink (s : State) (n : Nat) : Option Nat :=
  if s.claimedLane n ∧ ¬ s.flag F.SRD_OWNER_HOST n then
    let l := s.fld F.SRD_OWNER_NUMBER n
    if (s.link l).lanesStep ≠ 0 then some l else none
  else none

/-- A tile and a lane are powered (R150). -/
def State.lanePowered (s : State) (n : Nat) : Bool := s.enabled .til (n / 16) && s.enabled .srd n

/-- A lane bring-up fails: TIL kind 0x02, and the link down with reason 0x08 (R151, R172). -/
def State.laneFail (s : State) (l n : Nat) : State :=
  let k := s.link l
  (s.raise (320 + n / 16) 0x02 (n * 2 ^ 32 + s.fld F.SRD_STATUS_LSTATE n * 2 ^ 28 + k.lanesStep * 2 ^ 24)).linkDown l 0x08

/-- Move a link's lanes to a step of Table 2, with the LSTATE that its lanes then read (R151, R170). -/
def State.lanesTo (s : State) (l step code : Nat) : State :=
  let s := s.setLink l { s.link l with lanesStep := step }
  (s.linkLanes l).foldl (fun s n => s.setLane n code) s

/-- Every lane of a link satisfies a test on its state. -/
def State.allLanes (s : State) (l : Nat) (p : Nat → Lane → Bool) : Bool := (s.linkLanes l).all (fun n => p n (s.laneSt n))

/-! ## Steps 1 and 2 (R151, R152) -/

/-- A group PLL locks; links whose lanes waited for it go on to receiver detect (R147, R151). -/
def State.pllLock (s : State) (t g : Nat) : State :=
  if ¬ s.enabled .til t ∨ s.thermalHold ∨ (¬ (s.tileSt t).ref0 ∧ s.pwr.ref1Lost) then s
  else
    let s := s.setPll t g false true
    (List.range 256).foldl (fun s l =>
      let first := s.firstLane l
      if (s.link l).lanesStep = 1 ∧ first / 16 = t ∧ first % 16 / 8 = g then s.lanesTo l 2 1 else s) s

/-- One receiver-detect attempt (R152). A lane detects while it is powered and holds electrical idle. -/
def State.receiverDetect (s : State) (n : Nat) (present : Bool) : State :=
  if ¬ s.lanePowered n then s
  else match s.trainingLink n with
    | some l =>
      if (s.link l).lanesStep ≠ 2 then s
      else
        let s := s.setFld F.SRD_STATUS_PRESENT (if present then 1 else 0) n
        if (s.linkLanes l).all (fun m => s.flag F.SRD_STATUS_PRESENT m) then s.lanesTo l 3 2 else s
    | none =>
      if s.claimedLane n ∧ ¬ s.flag F.SRD_OWNER_HOST n then s
      else s.setFld F.SRD_STATUS_PRESENT (if present then 1 else 0) n

/-! ## Training frames (R153–R156) -/

/-- The capability word of this device (R155). -/
def capWord : Nat := 0x11F2C47A51200100

/-- FCRC over bits [255:32] of a frame (R153). -/
def frameCrc (f : BitVec 256) : Nat := (lcrc (beBytes 28 (f.toNat / 2 ^ 32))).toNat

/-- A training frame sent on a lane: the request it carries, and whether the receiver's adaptation is complete (R153, R156). -/
def State.trainingFrame (s : State) (l n : Nat) (req : BitVec 8) (adapted : Bool) : BitVec 256 :=
  let k := s.link l
  let x := s.laneSt n
  let type := if k.lanesStep ≤ 4 then 1 else if k.lanesStep = 5 then 2 else 3
  let f := 0xB4C32D1E * 2 ^ 224 + (n - s.firstLane l) * 2 ^ 221 + type * 2 ^ 212 + (if x.frameLock then 2 ^ 211 else 0) +
    (if adapted then 2 ^ 210 else 0) + capWord * 2 ^ 144 + req.toNat * 2 ^ 136 + x.stsTap * 2 ^ 125 + x.stsRes * 2 ^ 123 +
    (Config.launchMv n).toNat * 2 ^ 96
  BitVec.ofNat 256 (f + frameCrc (BitVec.ofNat 256 f))

/-- READY frames with SEEN have been received on every lane of a link (R159). -/
def State.readyAll (s : State) (l : Nat) : Bool := s.allLanes l (fun _ x => decide (x.peerType = 3) && x.peerSeen)

/-- Flits start on every lane at once (R159): step 2 of link bring-up begins. -/
def State.flitStart (s : State) (l : Nat) : State :=
  if s.allLanes l (fun _ x => decide (16 ≤ x.readySent)) then
    s.setLink l { s.link l with step := 2, lanesStep := 0, idle := false, lockCount := 0 }
  else s

/-- Step 5 ends once both ends have sent and received EQ_DONE for 64 consecutive frames on every lane (R156). -/
def State.eqEnd (s : State) (l : Nat) : State :=
  if (s.link l).lanesStep = 5 ∧ s.allLanes l (fun _ x => decide (64 ≤ x.eqSent) && decide (64 ≤ x.eqGot)) then s.lanesTo l 6 3 else s

/-- TRAINING_FRAME_SEND (R153): nothing is driven on a lane whose PRESENT is 0 (R152), nor during the PRBS interval. A new
equaliser request waits for the answer to the last (R156). -/
def State.frameSend (s : State) (n : Nat) (req : BitVec 8) (adapted : Bool) : State :=
  match s.trainingLink n with
  | none => s
  | some l =>
    let k := s.link l
    if ¬ s.flag F.SRD_STATUS_PRESENT n ∨ k.lanesStep < 3 ∨ k.lanesStep = 6 then s
    else
      let x := s.laneSt n
      let done := adapted && decide (k.lanesStep = 5)
      let tap := bits req 5 3
      let ask := decide (k.lanesStep = 5) && decide (x.reqTap = 0) && decide (tap ≠ 0)
      let f := s.trainingFrame l n (if ask then req else 0#8) (done || decide (5 < k.lanesStep))
      let x := { x with framesSent := x.framesSent + 1, adapted := done || x.adapted,
                        eqSent := if k.lanesStep = 5 then (if done then x.eqSent + 1 else 0) else x.eqSent,
                        reqTap := if ask then tap else x.reqTap,
                        readySent := if k.lanesStep = 7 ∧ s.readyAll l then x.readySent + 1 else x.readySent }
      let f := if s.flag F.SRD_CFG_TX_POL n then ~~~f else f
      let s := (s.setLaneSt n x).emit (.training n f)
      if k.lanesStep = 7 then s.flitStart l else s.eqEnd l

/-- The limits of a tap in 1/64 steps: PRE2, PRE1, MAIN, POST1, POST2 (R169, Table 6). -/
def tapLimits (tap : Nat) : Int × Int :=
  if tap = 1 then (-7, 0) else if tap = 2 then (-22, 0) else if tap = 3 then (0, 63) else if tap = 4 then (-16, 0) else (-6, 6)

/-- The TXEQ field of a tap. -/
def tapFld (tap : Nat) : Fld :=
  if tap = 1 then F.SRD_TXEQ_PRE2 else if tap = 2 then F.SRD_TXEQ_PRE1 else if tap = 3 then F.SRD_TXEQ_MAIN
  else if tap = 4 then F.SRD_TXEQ_POST1 else F.SRD_TXEQ_POST2

/-- A tap's value: MAIN is unsigned, the others are signed (R170). -/
def tapVal (tap v : Nat) : Int := if tap = 3 then (v : Int) else signedOf 6 v

/-- Serve a request for the transmit equaliser: the answer's STS_RES, and the state with the tap moved (R156). -/
def State.eqServe (s : State) (n tap act preset : Nat) : Nat × State :=
  if s.flag F.SRD_CFG_EQ_MANUAL n then (2, s)
  else if act = 3 then
    let w := Config.txPreset preset
    let put (s : State) (t : Nat) : State := s.setFld (tapFld t) (bits w (tapFld t).lo 6) n
    if tap = 6 then (0, [1, 2, 3, 4, 5].foldl put s) else if 1 ≤ tap ∧ tap ≤ 5 then (0, put s tap) else (2, s)
  else if tap < 1 ∨ 5 < tap then (2, s)
  else if act = 0 then (0, s)
  else
    let v := tapVal tap (s.fld (tapFld tap) n) + (if act = 1 then 1 else -1)
    let (lo, hi) := tapLimits tap
    if v < lo ∨ hi < v then (1, s) else (0, s.setFld (tapFld tap) (ofSigned 6 v) n)

/-- The search for frame alignment and polarity: four intervals in a row at one offset and polarity lock (R154). -/
def State.frameSearch (s : State) (n : Nat) (raw : BitVec 256) (slip : Nat) : State :=
  let x := s.laneSt n
  let okN := decide (raw.toNat / 2 ^ 224 = 0xB4C32D1E) && decide (raw.toNat % 2 ^ 32 = frameCrc raw)
  let okI := decide ((~~~raw).toNat / 2 ^ 224 = 0xB4C32D1E) && decide ((~~~raw).toNat % 2 ^ 32 = frameCrc (~~~raw))
  let auto := s.flag F.SRD_CFG_POL_AUTO n
  let want := s.flag F.SRD_CFG_RX_POL n
  let hitN := okN && (auto || !want)
  let hitI := okI && (auto || want)
  if hitN ∨ hitI then
    let run := if x.runLen ≠ 0 ∧ x.runPol = hitI ∧ x.runSlip = slip then x.runLen + 1 else 1
    let s := s.setLaneSt n { x with runLen := run, runPol := hitI, runSlip := slip, frameLock := decide (4 ≤ run), badFrames := 0 }
    if 4 ≤ run then (s.setFld F.SRD_STATUS_RX_INVERTED (if hitI then 1 else 0) n).setFld F.SRD_STATUS_SLIP slip n else s
  else s.setLaneSt n { x with runLen := 0 }

/-- The partner's capabilities fail: RATES lacks the mode asked for, or CAP_VERSION is 0 (R155). -/
def State.capBad (s : State) (l n : Nat) : Bool :=
  let c := s.fld F.SRD_PARTNER_CAP_CAP n
  decide (c / 2 ^ 60 % 16 = 0) || !(c.testBit (52 + (s.laneMode l - 1)))

/-- The steps of Table 2 that a received frame may end (R151). -/
def State.lanesAdvance (s : State) (l : Nat) : State :=
  let k := s.link l
  if k.lanesStep = 3 then (if s.allLanes l (fun _ x => x.frameLock) then s.lanesTo l 4 2 else s)
  else if k.lanesStep = 4 then
    (if s.allLanes l (fun _ x => x.frameLock && x.peerSeen) then
      match (s.linkLanes l).find? (s.capBad l) with
      | some n => s.laneFail l n
      | none => s.lanesTo l 5 3
     else s)
  else s.eqEnd l

/-- Lane order and skew in step 7 (R158). -/
def State.laneOrder (s : State) (l n : Nat) (skew : Bool) : State :=
  let ls := s.linkLanes l
  let w := ls.length
  if s.allLanes l (fun _ x => decide (x.peerType = 3)) then
    let lg := ls.map (fun m => s.fld F.SRD_STATUS_LOGICAL m)
    if skew ∨ lg.any (fun i => decide (w ≤ i)) ∨ ¬ lg.Nodup then s.laneFail l n else s
  else s

/-- A training frame received: 256 bits at a bit offset, the loss of the burst that followed it where there was one, and
whether the link's lanes were found more than 2.5 ns apart (R154–R158). -/
def State.frameReceive (s : State) (n : Nat) (raw : BitVec 256) (slip : Nat) (loss : Option Nat) (skew : Bool) : State :=
  match s.trainingLink n with
  | none => s
  | some l =>
    if (s.link l).lanesStep < 3 then s
    else
      let x := s.laneSt n
      let s := if x.frameLock then s else s.frameSearch n raw slip
      let x := s.laneSt n
      if ¬ x.frameLock then s
      else
        let f := if x.runPol then ~~~raw else raw
        let good := decide (f.toNat / 2 ^ 224 = 0xB4C32D1E) && decide (f.toNat % 2 ^ 32 = frameCrc f)
        if ¬ good then
          if 4 ≤ x.badFrames + 1 then s.setLaneSt n { x with frameLock := false, badFrames := 0, runLen := 0, peerSeen := false, eqGot := 0 }
          else s.setLaneSt n { x with badFrames := x.badFrames + 1, eqGot := 0 }
        else
          let step := (s.link l).lanesStep
          let tap := bits f 141 3
          let served := decide (step = 5) && decide (bits f 212 4 = 2) && decide (tap ≠ 0)
          let (res, s) := if served then s.eqServe n tap (bits f 139 2) (bits f 136 3) else (x.stsRes, s)
          let ls := match loss with
            | some q => if step = 5 then (q :: x.losses).take 8 else x.losses
            | none => x.losses
          let answered := decide (x.reqTap ≠ 0) && decide (bits f 125 3 = x.reqTap) && decide (bits f 123 2 ≠ 3)
          let x := { x with badFrames := 0, peerSeen := bitAt f 211, peerType := bits f 212 4,
                            eqGot := if step = 5 then (if bitAt f 210 then x.eqGot + 1 else 0) else x.eqGot,
                            stsTap := if served then tap else x.stsTap, stsRes := res, losses := ls,
                            reqTap := if answered then 0 else x.reqTap }
          let s := s.setLaneSt n x
          let s := if ls = [] then s else s.setFld F.SRD_LOSS_QDB ((2 * ls.sum + ls.length) / (2 * ls.length)) n
          let s := (s.setFld F.SRD_STATUS_LOGICAL (bits f 221 3) n).setFld F.SRD_PARTNER_CAP_CAP (bits f 144 64) n
          if step = 7 then s.laneOrder l n skew else s.lanesAdvance l

/-! ## The error ratio (R157) -/

/-- ⌊−log10(errors ÷ bits)⌋, capped at 15, and 15 with no error. -/
def errExp (errors bits_ : Nat) : Nat :=
  if errors = 0 then 15
  else ((List.range 16).filter (fun k => decide (errors * 10 ^ k ≤ bits_))).foldl max 0

/-- The PRBS interval of a lane ends (R157). A ratio of 10^−4 or worse ends bring-up. -/
def State.prbsEnd (s : State) (n errors bits_ : Nat) : State :=
  match s.trainingLink n with
  | none => s
  | some l =>
    if (s.link l).lanesStep ≠ 6 then s
    else
      let s := s.setFld F.SRD_ERR_ERR_EXP (errExp errors bits_) n
      if errors ≠ 0 ∧ bits_ ≤ errors * 10000 then s.laneFail l n
      else
        let s := s.setLaneSt n { s.laneSt n with prbsDone := true }
        if s.allLanes l (fun _ x => x.prbsDone) then s.lanesTo l 7 4 else s

/-- TRAIN_MS expires before the lanes are up (R151). -/
def State.laneTrainTimeout (s : State) (l : Nat) : State :=
  if (s.link l).lanesStep = 0 then s
  else
    let n := ((s.linkLanes l).find? (fun n => !s.flag F.SRD_STATUS_PRESENT n)).getD (s.firstLane l)
    s.laneFail l n

/-! ## Tests (R165–R168) -/

/-- PRBS, loopback and manual equalisation may act on a lane: powered, and unclaimed or its owner DISABLED or DOWN (R150, R168). -/
def State.testAllowed (s : State) (n : Nat) : Bool :=
  s.lanePowered n &&
  (!s.claimedLane n ||
    (let o := s.fld F.SRD_OWNER_NUMBER n
     if s.flag F.SRD_OWNER_HOST n then
       (let p := s.fld F.HPT_PSTATE_STATE o
        decide (p = 0) || decide (p = 3))
     else decide (s.lstate o = LS.disabled) || decide (s.lstate o = LS.down)))

/-- The checker's lock of a lane (R166). -/
def State.setPrbsLock (s : State) (n : Nat) (on : Bool) : State :=
  let s := s.setFld F.SRD_PRBS_STAT_LOCK (if on then 1 else 0) n
  { s with prbs := mput false s.prbs n on }

/-- A write to CFG, TXEQ, PRBS_CFG or PRBS_USER of a lane: the RW fields take effect, or TIL raises kind 0x06 (R168). The
shadows of CFG take their value in either case (R583). -/
def State.testWrite (s : State) (n off : Nat) (v : W32) : State :=
  let a := Blk.srd.addr n off
  match regWordAt a with
  | none => s
  | some w =>
    let s := if w.rws = 0 then s
      else
        let m := BitVec.ofNat 32 w.rws
        s.wrShadow a ((s.rdShadow a &&& ~~~m) ||| (v &&& m))
    let m := BitVec.ofNat 32 w.rw
    if (v &&& m) = (s.rd a &&& m) then s
    else if ¬ s.testAllowed n then s.raise (320 + n / 16) 0x06 (n * 2 ^ 32 + a)
    else
      let s := s.wr a ((s.rd a &&& ~~~m) ||| (v &&& m))
      if off = 0x120 ∧ ¬ s.flag F.SRD_PRBS_CFG_RX_EN n then s.setPrbsLock n false else s

/-- Bits that the generator inverts: with near-end loopback and a locked checker they are counted (R167). -/
def State.invertBits (s : State) (n k : Nat) : State :=
  if ¬ s.flag F.SRD_PRBS_CFG_TX_EN n then s
  else
    let s := s.setLaneSt n { s.laneSt n with inverted := (s.laneSt n).inverted + k }
    if s.fld F.SRD_CFG_LOOP n = 1 ∧ s.flag F.SRD_PRBS_CFG_RX_EN n ∧ s.flag F.SRD_PRBS_STAT_LOCK n then
      s.setFld F.SRD_PRBS_ERR_COUNT (s.fld F.SRD_PRBS_ERR_COUNT n + k) n
    else s

/-- Eighths of a bit that a mode carries in one nanosecond (R148). -/
def bitEighths (mode : Nat) : Nat :=
  if mode = 1 then 3584 else if mode = 2 then 1792 else if mode = 3 then 1700 else if mode = 4 then 850 else if mode = 5 then 425 else 0

/-- The mode of a lane: in use by its owner, or TEST_MODE (R148, R150). -/
def State.modeOf (s : State) (n : Nat) : Nat :=
  if s.claimedLane n then s.fld F.SRD_STATUS_MODE n
  else let m := s.fld F.SRD_CFG_TEST_MODE n; if 6 ≤ m then 0 else m

/-- One nanosecond of a locked checker: bits checked, and with near-end loopback the errors of periodic injection (R166, R167). -/
def State.prbsTick (s : State) (n : Nat) : State :=
  let x := s.laneSt n
  let t := x.prbsFrac + bitEighths (s.modeOf n)
  let old := s.fld F.SRD_PRBS_BITS_COUNT n
  let new := old + t / 8
  let s := (s.setLaneSt n { x with prbsFrac := t % 8 }).setFld F.SRD_PRBS_BITS_COUNT new n
  let k := s.fld F.SRD_PRBS_CFG_INJ_EXP n
  let k := if 3 ≤ k ∧ k ≤ 12 then k else 12
  if s.fld F.SRD_PRBS_CFG_INJ_EXP n = 0 ∨ s.fld F.SRD_CFG_LOOP n ≠ 1 ∨ ¬ s.flag F.SRD_PRBS_CFG_TX_EN n then s
  else s.setFld F.SRD_PRBS_ERR_COUNT (s.fld F.SRD_PRBS_ERR_COUNT n + (new / 10 ^ k - old / 10 ^ k)) n

/-! ## The commands -/

/-- RECEIVER_DETECT (R152). -/
def execReceiverDetect (lane : Fin 512) (present : Bool) (s : State) : Out := .next (s.receiverDetect lane.val present)

/-- PLL_LOCK (R151). -/
def execPllLock (tile : Fin 32) (group : Fin 2) (s : State) : Out := .next (s.pllLock tile.val group.val)

/-- TRAINING_FRAME_SEND (R153, R159). -/
def execTrainingFrameSend (lane : Fin 512) (req : BitVec 8) (adapted : Bool) (s : State) : Out :=
  .next (s.frameSend lane.val req adapted)

/-- TRAINING_FRAME_RECEIVE (R154–R158). -/
def execTrainingFrameReceive (lane : Fin 512) (raw : BitVec 256) (slip : Fin 256) (loss : Option (Fin 65536)) (skew : Bool)
    (s : State) : Out := .next (s.frameReceive lane.val raw slip.val (loss.map (·.val)) skew)

/-- PRBS_INTERVAL_END (R157, R613). -/
def execPrbsIntervalEnd (lane : Fin 512) (errors checked : W64) (s : State) : Out :=
  .next (s.prbsEnd lane.val errors.toNat checked.toNat)

/-- LANE_TRAIN_TIMEOUT (R151). -/
def execLaneTrainTimeout (l : Fin 256) (s : State) : Out := .next (s.laneTrainTimeout l.val)

/-- SRD_TEST_WRITE (R168): a write to CFG, TXEQ, PRBS_CFG or PRBS_USER of a lane. -/
def execSrdTestWrite (lane : Fin 512) (off : Fin 4096) (v : W32) (s : State) : Out :=
  .next (if off.val ∈ [0x100, 0x108, 0x120, 0x138, 0x13C] then s.testWrite lane.val off.val v else s)

/-- SRD_INJECT_BIT (R167). -/
def execSrdInjectBit (lane : Fin 512) (s : State) : Out := .next (s.invertBits lane.val 1)

/-- SRD_INJECT_BURST (R167). -/
def execSrdInjectBurst (lane : Fin 512) (s : State) : Out :=
  .next (s.invertBits lane.val (s.fld F.SRD_INJECT_BURST_LEN lane.val + 1))

/-- PRBS_CHECKER_LOCK (R166): the checker locks, or drops lock and reseeds. -/
def execPrbsCheckerLock (lane : Fin 512) (locks : Bool) (s : State) : Out :=
  let n := lane.val
  if ¬ s.flag F.SRD_PRBS_CFG_RX_EN n then .next s
  else if locks then .next (s.setPrbsLock n true)
  else if s.flag F.SRD_PRBS_STAT_LOCK n then
    .next ((s.setPrbsLock n false).setFld F.SRD_PRBS_STAT_LOCK_LOSS (satAdd 16 (s.fld F.SRD_PRBS_STAT_LOCK_LOSS n) 1) n)
  else .next s

end Sys2Proof.Machine
end

