-- ==== Sys2Proof/Machine/Ports.lean ====
section
/-!
DEFINITION. Machine/Ports.lean: host Ethernet ports (chapter 09): frames out with flow control and MACsec, frames in, and
the link state of a port. Port 64 is the management port (R264).
-/
namespace Sys2Proof.Machine

def State.port (s : State) (n : Nat) : Port := mget {} s.hpt n
def State.setPort (s : State) (n : Nat) (p : Port) : State := { s with hpt := mput {} s.hpt n p }
def State.pier (s : State) (n : Nat) : Pier := mget {} s.spn n
def State.setPier (s : State) (n : Nat) (p : Pier) : State := { s with spn := mput {} s.spn n p }

/-- PSTATE.STATE codes (R266). -/
abbrev PS.disabled : Nat := 0
abbrev PS.an : Nat := 1
abbrev PS.training : Nat := 2
abbrev PS.align : Nat := 3
abbrev PS.active : Nat := 4
abbrev PS.down : Nat := 5

def State.pstate (s : State) (n : Nat) : Nat := s.fld F.HPT_PSTATE_STATE n
def State.portUp (s : State) (n : Nat) : Bool := s.pstate n == PS.active

/-- The source of a port and its pier (R267, R295). -/
def portSrc (n : Nat) : Nat := if n = 64 then 709 else 256 + n

/-- The largest frame of a port (R257, R266). -/
def State.maxFrame (s : State) (n : Nat) : Nat := max 1518 (min 9216 (s.fld F.HPT_MAX_FRAME_BYTES n))

/-! ## The FCS and the padding of a frame -/

/-- A frame's FCS, least significant byte first. -/
def fcsOf (l : List Byte) : List Byte := leBytes 4 (lcrc l).toNat

/-- A frame body padded to the 60 bytes that precede the FCS of the smallest frame. -/
def padFrame (l : List Byte) : List Byte := l ++ List.replicate (60 - l.length) 0#8

/-! ## MACsec (R261, R262) -/

def Sa.keyBytes (a : Sa) : List Byte := beBytes 32 a.key.toNat

/-- The IV of GCM-AES-XPN: SSCI and PN combined with the salt. -/
def Sa.iv (a : Sa) (pn : Nat) : List Byte := xorB (beBytes 4 a.ssci.toNat ++ beBytes 8 pn) (beBytes 12 a.salt.toNat)

/-- MACsec is in force on a port: the active value of EN. -/
def State.macsecOn (s : State) (n : Nat) : Bool := s.flag F.HPT_MACSEC_CFG_EN n

/-- A frame body protected on the transmit SA that TX_AN selects, or none where that SA may send nothing (R262). -/
def State.protect (s : State) (n : Nat) (body : List Byte) : Option (List Byte × State) :=
  let p := s.port n
  let an := s.fld F.HPT_MACSEC_CFG_TX_AN n
  match mfind p.txSa an with
  | none => none
  | some a =>
    if 2 ^ 64 - 1 ≤ a.pn then none
    else
      let conf := s.flag F.HPT_MACSEC_CFG_CONF n
      let user := body.drop 12
      let tci := 0x20 + (if conf then 0x0C else 0) + an
      let sl := if user.length < 48 then user.length else 0
      let hdr := body.take 12 ++ [0x88#8, 0xE5#8] ++ beBytes 1 tci ++ beBytes 1 sl ++ beBytes 4 (a.pn % 2 ^ 32) ++
        beBytes 8 (s.fld F.HPT_MACSEC_SCI_SCI n)
      let c := if conf then gcmCtr a.keyBytes (a.iv a.pn) user else user
      let tag := if conf then gcmTag a.keyBytes (a.iv a.pn) hdr c else gcmTag a.keyBytes (a.iv a.pn) (hdr ++ user) []
      let pn := a.pn + 1
      let warn := decide (2 ^ 64 - 2 ^ 32 ≤ pn) && !p.pnWarned
      let s := s.setPort n { p with txSa := minsert p.txSa an { a with pn := pn }, pnWarned := p.pnWarned || warn }
      let s := s.setFld F.HPT_TX_PN_PN pn n
      let s := if warn then s.raise (portSrc n) 0x05 (an * 2 ^ 62) else s
      some (hdr ++ c ++ tag, s)

/-- The PN of a received frame, its upper half recovered from the highest PN verified. -/
def recoverPn (next low : Nat) : Nat :=
  let hi := next / 2 ^ 32
  let c := hi * 2 ^ 32 + low
  if c + 2 ^ 31 < next then c + 2 ^ 32 else c

/-- The number of the AN of a SecTAG. -/
def secAn (f : List Byte) : Nat := beAt f 14 1 % 4

/-- A protected frame body verified: its plain form and the state with replay state moved, or none where lookup, replay or
ICV fails (R262). -/
def State.verify (s : State) (n : Nat) (f : List Byte) : Option (List Byte × State) :=
  let p := s.port n
  let tci := beAt f 14 1
  let sc := tci.testBit 5
  let an := secAn f
  let hlen := if sc then 28 else 20
  match mfind p.rxSa an with
  | none => none
  | some a =>
    if f.length < hlen + 16 then none
    else if sc ∧ beAt f 20 8 ≠ s.fld F.HPT_MACSEC_SCI_SCI n then none
    else
      let pn := recoverPn a.pn (beAt f 16 4)
      let win := s.fld F.HPT_MACSEC_CFG_REPLAY_WIN n
      if pn = 0 ∨ pn + win < a.pn ∨ pn ∈ a.seen then none
      else
        let sl := beAt f 15 1 % 64
        let body := f.drop hlen
        let clen := if sl = 0 then body.length - 16 else sl
        let c := body.take clen
        let icv := slice body clen 16
        let enc := tci.testBit 3
        let hdr := f.take hlen
        let want := if enc then gcmTag a.keyBytes (a.iv pn) hdr c else gcmTag a.keyBytes (a.iv pn) (hdr ++ c) []
        if icv ≠ want then none
        else
          let nxt := max a.pn (pn + 1)
          let seen := (pn :: a.seen).filter (fun q => decide (nxt ≤ q + win + 1))
          let plain := if enc then gcmCtr a.keyBytes (a.iv pn) c else c
          some (f.take 12 ++ plain, s.setPort n { p with rxSa := minsert p.rxSa an { a with pn := nxt, seen := seen } })

/-! ## Frames out (R257–R260) -/

/-- A frame body put on the wire: protected where MACsec is in force and it is not exempt, padded, with its FCS. -/
def State.wireFrame (s : State) (n : Nat) (body : List Byte) (exempt : Bool) : State :=
  if ¬ s.portUp n then s
  else
    let out (s : State) (b : List Byte) : State :=
      let b := padFrame b
      let bad := s.armed F.HPT_INJECT_FCS n
      let fcs := if bad then (fcsOf b).map (fun x => ~~~x) else fcsOf b
      let s := if bad then s.setArmed F.HPT_INJECT_FCS n false else s
      (s.emit (.frame n (b ++ fcs))).count F.HPT_CNT_TX_COUNT n
    if s.macsecOn n ∧ ¬ exempt then
      match s.protect n body with
      | some (b, s) => out s b
      | none => s
    else out s body

/-- A frame of a priority waits while its PFC timer or the pause timer runs (R259). -/
def State.isPaused (s : State) (n prio : Nat) : Bool :=
  mget false (s.port n).paused prio || mget false (s.port n).paused 8

/-- A frame body of a priority is sent, or waits for its pause timer behind earlier frames of its priority (R259). -/
def State.sendFrame (s : State) (n prio : Nat) (body : List Byte) : State :=
  let p := s.port n
  if s.isPaused n prio ∨ p.txq.any (fun e => decide (e.1 = prio)) then s.setPort n { p with txq := p.txq ++ [(prio, body)] }
  else s.wireFrame n body false

/-- The frames that wait and whose timers do not run are sent, in order (R259). -/
def State.drainPaused (s : State) (n : Nat) : State :=
  let p := s.port n
  let go := p.txq.filter (fun e => !s.isPaused n e.1)
  let s := s.setPort n { p with txq := p.txq.filter (fun e => s.isPaused n e.1) }
  go.foldl (fun s e => s.wireFrame n e.2 false) s

/-- A PFC frame for SPAN_PCP with the quanta given (R260). Its source is LOCAL_MAC. -/
def State.sendPfc (s : State) (n quanta : Nat) : State :=
  let pcp := s.fld F.HPT_FC_CFG_SPAN_PCP n
  let times := (List.range 8).flatMap (fun i => beBytes 2 (if i = pcp then quanta else 0))
  let b := beBytes 6 0x0180C2000001 ++ beBytes 6 (s.fld F.SPN_LOCAL_MAC_MAC n) ++ beBytes 2 0x8808 ++ beBytes 2 0x0101 ++
    beBytes 2 (2 ^ pcp) ++ times
  (s.wireFrame n b true).count F.HPT_CNT_PFC_TX_COUNT n

/-- The receive buffer that a pier holds in use, in bytes (R275): frames arrived, held, and delivered but not carried out. -/
def Pier.bufBytes (p : Pier) : Nat :=
  ((p.rx ++ p.held ++ p.delivered).map (fun f => 16 + f.payload.length)).sum

/-- RX_BUF follows the buffer, and XOFF or XON is sent as it crosses its thresholds (R260). Port 64 sends no PFC (R264). -/
def State.bufUpdate (s : State) (n : Nat) : State :=
  let b := (s.pier n).bufBytes
  let s := s.setFld F.SPN_RX_BUF_BYTES b n
  let p := s.port n
  if n = 64 ∨ ¬ (s.fld F.HPT_FC_CFG_PFC_TX_EN n).testBit (s.fld F.HPT_FC_CFG_SPAN_PCP n) then s
  else if ¬ p.xoff ∧ s.fld F.HPT_PFC_THRESH_XOFF n * 1024 < b then (s.setPort n { p with xoff := true }).sendPfc n 0xFFFF
  else if p.xoff ∧ b ≤ s.fld F.HPT_PFC_THRESH_XON n * 1024 then (s.setPort n { p with xoff := false }).sendPfc n 0
  else s

/-! ## Encapsulation of Span (R268, R269) -/

/-- The overhead O and the largest payload Pmax of a port (R269). -/
def State.pmax (s : State) (n : Nat) : Nat :=
  let o := 34 + (if s.flag F.HPT_FC_CFG_TAG_EN n then 4 else 0) + (if s.flag F.SPN_CFG_UDP_EN n then 48 else 0) +
    (if s.macsecOn n then 32 else 0)
  min 8192 (64 * ((s.maxFrame n - o) / 64))

/-- A Span frame's bytes: header and payload (R270). -/
def SFrame.bytes (f : SFrame) : List Byte :=
  beBytes 1 (0x10 + f.flags % 16) ++ beBytes 1 f.op ++ beBytes 2 f.payload.length ++ beBytes 2 f.tseq ++ beBytes 2 f.aseq ++
    beBytes 4 f.target ++ beBytes 4 f.opspec ++ f.payload

/-- The one's complement sum of 16-bit words. -/
def sum16 (l : List Byte) : Nat :=
  let t := ((List.range ((l.length + 1) / 2)).map (fun i => beAt l (2 * i) 2)).sum
  let t := t / 2 ^ 16 + t % 2 ^ 16
  let t := t / 2 ^ 16 + t % 2 ^ 16
  t / 2 ^ 16 + t % 2 ^ 16

/-- An IPv6 address held in four register words. -/
def State.ip6 (s : State) (f : Fld) (n : Nat) : List Byte := (List.range 4).flatMap (fun i => beBytes 4 (s.fld f n i))

/-- The UDP checksum over the IPv6 pseudo header (R268). -/
def udpSum (src dst udp : List Byte) : Nat :=
  sum16 (src ++ dst ++ beBytes 4 udp.length ++ beBytes 4 17 ++ udp)

/-- The Ethernet body of a Span frame in the form that the active registers select (R258, R268). -/
def State.encap (s : State) (n : Nat) (b : List Byte) : List Byte :=
  let macs := beBytes 6 (s.fld F.SPN_PEER_MAC_MAC n) ++ beBytes 6 (s.fld F.SPN_LOCAL_MAC_MAC n)
  let tag := if s.flag F.HPT_FC_CFG_TAG_EN n then beBytes 2 0x8100 ++ beBytes 2 (s.fld F.HPT_FC_CFG_SPAN_PCP n * 2 ^ 13) else []
  if s.flag F.SPN_CFG_UDP_EN n then
    let port := s.fld F.SPN_UDP_PORT n
    let src := s.ip6 F.SPN_LOCAL_IP6_ADDR n
    let dst := s.ip6 F.SPN_PEER_IP6_ADDR n
    let len := 8 + b.length
    let udp0 := beBytes 2 port ++ beBytes 2 port ++ beBytes 2 len ++ beBytes 2 0 ++ b
    let c := 0xFFFF - udpSum src dst udp0
    let udp := beBytes 2 port ++ beBytes 2 port ++ beBytes 2 len ++ beBytes 2 (if c = 0 then 0xFFFF else c) ++ b
    macs ++ tag ++ beBytes 2 0x86DD ++ beBytes 4 (6 * 2 ^ 28 + s.fld F.SPN_IP_CFG_TCLASS n * 2 ^ 20) ++ beBytes 2 len ++ beBytes 1 17 ++
      beBytes 1 (s.fld F.SPN_IP_CFG_HOP_LIMIT n) ++ src ++ dst ++ udp
  else macs ++ tag ++ beBytes 2 (s.fld F.SPN_CFG_ETHERTYPE n) ++ b

/-- A Span frame leaves its port at priority SPAN_PCP (R258, R259). -/
def State.spanOut (s : State) (n : Nat) (f : SFrame) : State :=
  s.sendFrame n (s.fld F.HPT_FC_CFG_SPAN_PCP n) (s.encap n f.bytes)

/-! ## The link state of a port (R256, R265) -/

/-- The lanes of a host port's active configuration. -/
def State.portLanes (s : State) (n : Nat) : List Nat :=
  (List.range (2 ^ s.fld F.HPT_CFG_WIDTH n)).map (fun i => s.fld F.HPT_CFG_FIRST_LANE n + i)

/-- The lane mode of a port: 212.5, 112 or 56 (R148, R266). -/
def State.portMode (s : State) (n : Nat) : Nat :=
  let m := s.fld F.HPT_CFG_LANE_MODE n
  if m = 1 then 4 else if m = 2 then 5 else 3

/-- A port's claim meets every rule of R149, with Table 1 of the host ports (R254). -/
def State.portClaimOk (s : State) (n : Nat) : Bool :=
  s.claimShape (s.fld F.HPT_CFG_FIRST_LANE n) (2 ^ s.fld F.HPT_CFG_WIDTH n) true &&
    !(decide (s.portMode n = 5) && decide (s.fld F.HPT_CFG_WIDTH n = 3))

/-- The RWS copies of a port and of its lanes that wait for a bring-up are applied (R170, R266). -/
def State.applyPortCommits (s : State) (n : Nat) : State :=
  let s := s.applyPend (if n = 64 then 0x44 else 0x440 + n)
  if n = 64 then s else (s.portLanes n).foldl (fun s m => if m < 512 then s.applyPend (0x200 + m) else s) s

/-- A port's claim ends. -/
def State.releasePort (s : State) (n : Nat) : State :=
  let p := s.port n
  if ¬ p.claimed then s
  else (s.setOwner (s.fld F.HPT_CFG_FIRST_LANE n) (2 ^ s.fld F.HPT_CFG_WIDTH n) false true n).setPort n { p with claimed := false }

/-- Bring-up of a port: the claim, then auto-negotiation or forced training (R254, R256). -/
def State.portStart (s : State) (n : Nat) : State :=
  let s := (s.releasePort n).applyPortCommits n
  if ¬ s.portClaimOk n then
    (s.setFld F.HPT_PSTATE_STATE PS.disabled n).claimRefused true n (s.fld F.HPT_CFG_FIRST_LANE n)
  else
    let first := s.fld F.HPT_CFG_FIRST_LANE n
    let w := 2 ^ s.fld F.HPT_CFG_WIDTH n
    let s := (s.setOwner first w true true n).lanesStart first w (s.portMode n)
    let s := (s.portLanes n).foldl (fun s m => (s.setFld F.SRD_LOSS_QDB 0xFFFF m).setFld F.SRD_CABLE_DM 0 m) s
    let s := s.setPort n { s.port n with claimed := true, restart := false }
    let g := first % 16 / 8
    let s := if s.pllLocked first then s else s.setPll (first / 16) g true false
    let s := s.setFld F.HPT_PSTATE_STATE (if s.flag F.HPT_CFG_AN_EN n then PS.an else PS.training) n
    s.wake (Dom.tile (first / 16))

/-- The pier's side of its port going down: an OPEN session is held, one still SYNCING returns to DOWN (R272, R291). -/
def State.pierPortDown (s : State) (n : Nat) : State :=
  let st := s.fld F.SPN_SESSION_STATE n
  if st = 2 then s.setFld F.SPN_SESSION_STATE 3 n
  else if st = 1 then s.setFld F.SPN_SESSION_STATE 0 n
  else s

/-- A port goes down (R265): kind 0x01 from ACTIVE, at severity 0 for reason 0x07 (R267). -/
def State.portDown (s : State) (n reason : Nat) : State :=
  let st := s.pstate n
  if st = PS.disabled ∨ st = PS.down then s
  else
    let s := (s.setFld F.HPT_PSTATE_STATE PS.down n).setFld F.HPT_PSTATE_DOWN_REASON reason n
    let p := s.port n
    let s := s.setPort n { p with restart := true, txq := [], paused := [], xoff := false, control := [], ptp := [] }
    let s := if n = 64 then s else (s.portLanes n).foldl (fun s m => s.setLane m (if s.enabled .srd m && s.enabled .til (m / 16) then 1 else 0)) s
    let s := if st = PS.active then
        s.raiseSev (portSrc n) 0x01 (if reason = 0x07 then 0 else s.severity (portSrc n) 0x01) (BitVec.ofNat 64 (reason * 2 ^ 56))
      else s
    s.pierPortDown n

/-- A write of ENABLE 1 of a host port (R256). -/
def State.portEnable (s : State) (n : Nat) : State :=
  if s.enabled .hpt n then s
  else (s.setHdr .hpt n F.HDR_CTRL_ENABLE 1).portStart n

/-- A write of ENABLE 0 of a host port: down with reason 0x07 (R265). -/
def State.portDisable (s : State) (n : Nat) : State :=
  if s.enabled .hpt n = false then s
  else
    let s := ((s.setHdr .hpt n F.HDR_CTRL_ENABLE 0).portDown n 0x07).releasePort n
    s.setPort n { s.port n with restart := false }

/-- A group PLL unlocks: every link and host port of the group goes down, with kind 0x07 (R172). -/
def State.pllUnlock (s : State) (t g : Nat) : State :=
  let s := (s.setPll t g false false).raise (320 + t) 0x07 g
  let inGroup (n : Nat) : Bool := decide (n / 16 = t) && decide (n % 16 / 8 = g)
  let s := (List.range 256).foldl (fun s l =>
    if inGroup (s.firstLane l) ∧ s.lstate l ≠ LS.disabled ∧ s.lstate l ≠ LS.down ∧ (s.link l).claimed then s.linkDown l 0x01 else s) s
  (List.range 64).foldl (fun s n =>
    if inGroup (s.fld F.HPT_CFG_FIRST_LANE n) ∧ (s.port n).claimed then s.portDown n 0x01 else s) s

/-! ## The commands of a port's link state -/

/-- HOST_PORT_ENABLE (R254, R256). -/
def execHostPortEnable (n : Fin 64) (s : State) : Out := .next (s.portEnable n.val)

/-- HOST_PORT_TRAIN_TIMEOUT (R256): `negotiated` says whether auto-negotiation had completed. -/
def execHostPortTrainTimeout (n : Fin 64) (negotiated : Bool) (s : State) : Out :=
  let st := s.pstate n.val
  if st = PS.an ∨ st = PS.training ∨ st = PS.align then
    let reason := if st = PS.an ∧ ¬ negotiated then 0x02 else 0x03
    .next ((s.portDown n.val reason).raise (portSrc n.val) 0x02 (reason * 2 ^ 56 + st))
  else .next s

/-- HOST_PORT_RESTART (R256): a port that is down restarts while its ENABLE stays 1. -/
def execHostPortRestart (n : Fin 64) (s : State) : Out :=
  if s.pstate n.val = PS.down ∧ (s.port n.val).restart ∧ s.enabled .hpt n.val ∧ (s.port n.val).claimed ∧
      ¬ s.thermalHold then
    .next (s.portStart n.val)
  else .next s

/-- HOST_PORT_FAULT (R265): reason 0x01 or 0x04. The management port is port 64. -/
def execHostPortFault (n : Fin 65) (remote : Bool) (s : State) : Out :=
  if s.portUp n.val then .next (s.portDown n.val (if remote then 0x04 else 0x01)) else .next s

/-- GROUP_PLL_UNLOCK (R172). -/
def execGroupPllUnlock (tile : Fin 32) (group : Fin 2) (s : State) : Out := .next (s.pllUnlock tile.val group.val)

/-- PFC_FRAME_RECEIVE (R259): the oldest PFC frame sets the timers of its priorities; quanta of 0 end a timer. -/
def execPfcFrameReceive (n : Fin 65) (s : State) : Out :=
  let p := s.port n.val
  match firstIdx p.control (fun f => decide (beAt f 14 2 = 0x0101)) with
  | none => .next s
  | some (i, f) =>
    let p := { p with control := p.control.eraseIdx i }
    let en := s.fld F.HPT_FC_CFG_PFC_RX_EN n.val
    let vec := beAt f 16 2
    let hit := (List.range 8).filter (fun k => vec.testBit k && en.testBit k)
    if n.val = 64 ∨ hit = [] then .next (s.setPort n.val p)
    else
      let paused := hit.foldl (fun m k => mput false m k (decide (beAt f (18 + 2 * k) 2 ≠ 0))) p.paused
      .next (((s.setPort n.val { p with paused := paused }).count F.HPT_CNT_PFC_RX_COUNT n.val).drainPaused n.val)

/-- PAUSE_FRAME_RECEIVE (R259). -/
def execPauseFrameReceive (n : Fin 65) (s : State) : Out :=
  let p := s.port n.val
  match firstIdx p.control (fun f => decide (beAt f 14 2 = 0x0001)) with
  | none => .next s
  | some (i, f) =>
    let p := { p with control := p.control.eraseIdx i }
    if ¬ s.flag F.HPT_FC_CFG_PAUSE_RX_EN n.val then .next (s.setPort n.val p)
    else
      let paused := mput false p.paused 8 (decide (beAt f 16 2 ≠ 0))
      .next (((s.setPort n.val { p with paused := paused }).count F.HPT_CNT_PFC_RX_COUNT n.val).drainPaused n.val)

/-- PAUSE_TIMER_EXPIRE (R259): the PFC timer of a priority, or the pause timer as 8. -/
def execPauseTimerExpire (n : Fin 65) (timer : Fin 9) (s : State) : Out :=
  let p := s.port n.val
  .next ((s.setPort n.val { p with paused := mput false p.paused timer.val false }).drainPaused n.val)

/-- PFC_XOFF_REPEAT (R260). -/
def execPfcXoffRepeat (n : Fin 64) (s : State) : Out :=
  if (s.port n.val).xoff ∧ s.fld F.HPT_PFC_THRESH_XON n.val * 1024 < (s.pier n.val).bufBytes then .next (s.sendPfc n.val 0xFFFF)
  else .next s

/-- The staged key becomes the SA named by AN and DIR, and the staged registers clear (R261). -/
def State.saInstall (s : State) (n : Nat) : State :=
  let p := s.port n
  let a : Sa := { key := p.sak, salt := p.salt, ssci := p.ssci }
  let an := s.fld F.HPT_SA_CTRL_AN n
  let p := { p with sak := 0, salt := 0, ssci := 0 }
  if s.flag F.HPT_SA_CTRL_DIR n then s.setPort n { p with rxSa := minsert p.rxSa an a }
  else
    let s := s.setPort n { p with txSa := minsert p.txSa an a, pnWarned := false }
    if an = s.fld F.HPT_MACSEC_CFG_TX_AN n then s.setFld F.HPT_TX_PN_PN 1 n else s

/-- SA_INSTALL (R261). -/
def execSaInstall (n : Fin 65) (s : State) : Out := .next (s.saInstall n.val)

/-- The head of the transmit stamp FIFO shown in TS_STAT and TS_TIME (R263, R266). -/
def State.tsShow (s : State) (n : Nat) : State :=
  match (s.port n).stamps with
  | [] => ((s.setFld F.HPT_TS_STAT_VALID 0 n).setFld F.HPT_TS_STAT_SEQUENCE_ID 0 n).setFld F.HPT_TS_TIME_TIME 0 n
  | (q, t) :: _ => ((s.setFld F.HPT_TS_STAT_VALID 1 n).setFld F.HPT_TS_STAT_SEQUENCE_ID q n).setFld F.HPT_TS_TIME_TIME t n

/-- TS_TIME_POP (R263). -/
def execTsTimePop (n : Fin 65) (s : State) : Out :=
  let p := s.port n.val
  .next ((s.setPort n.val { p with stamps := p.stamps.drop 1 }).tsShow n.val)

/-- HPT_INJECT_FEC_SYMBOL (R266): the partner corrects the inverted symbol, so the frame is unchanged. -/
def execHptInjectFecSymbol (n : Fin 65) (s : State) : Out := .next (s.setArmed F.HPT_INJECT_FEC_SYMBOL n.val true)

/-- HPT_INJECT_FCS (R266). -/
def execHptInjectFcs (n : Fin 65) (s : State) : Out := .next (s.setArmed F.HPT_INJECT_FCS n.val true)

end Sys2Proof.Machine
end

