-- ==== Sys2Proof/Machine/Span.lean ====
section
/-!
DEFINITION. Machine/Span.lean: the pier's sessions, sequences, acknowledgement, retransmission and memory accesses toward
the host (chapter 10). Pier 64 is the management pier.
-/
namespace Sys2Proof.Machine

/-! ## Registers of a pier -/

/-- SESSION.STATE codes (R293). -/
abbrev SS.down : Nat := 0
abbrev SS.syncing : Nat := 1
abbrev SS.open_ : Nat := 2
abbrev SS.held : Nat := 3

def State.session (s : State) (n : Nat) : Nat := s.fld F.SPN_SESSION_STATE n
/-- The pier's ENABLE; the management pier has none of its own (R273). -/
def State.pierOn (s : State) (n : Nat) : Bool := decide (n = 64) || s.enabled .spn n
def State.txWin (s : State) (n : Nat) : Nat := max 1 (min 8192 (s.fld F.SPN_WINDOW_TX_WIN n))
def State.spnRto (s : State) (n : Nat) : Nat := 100 * max 1 (s.fld F.SPN_TIMERS_RTO n)
def State.rdMax (s : State) (n : Nat) : Nat := max 1 (min 1024 (s.fld F.SPN_RD_CFG_RD_MAX n))

/-- TX_STATE.OLDEST: the oldest unacknowledged sequence, or the next one where none is (R293). -/
def State.showTx (s : State) (n : Nat) : State :=
  let p := s.pier n
  s.setFld F.SPN_TX_STATE_OLDEST (match p.tx with
    | t :: _ => t.f.tseq
    | [] => s.fld F.SPN_TX_STATE_NEXT n) n

/-- ASEQ: the last sequence received in order (R275). -/
def State.aseq (s : State) (n : Nat) : Nat := (s.fld F.SPN_RX_STATE_EXPECTED n + 65535) % 65536

/-! ## Sending (R275–R278) -/

/-- A frame leaves with the current ASEQ; a sequenced frame resets the acknowledgement counts (R277, R278). -/
def State.emitSpan (s : State) (n : Nat) (f : SFrame) : State :=
  let p := s.pier n
  (s.setPier n { p with sinceAck := 0 }).spanOut n { f with aseq := s.aseq n }

/-- The bitmap of the held frames: the shortest that covers the highest of them (R276). -/
def State.heldMap (s : State) (n : Nat) : List Byte :=
  let e := s.fld F.SPN_RX_STATE_EXPECTED n
  let ds := (s.pier n).held.map (fun f => seqDist 16 f.tseq e)
  if ds = [] then []
  else
    let top := ds.foldl max 0
    (List.range (4 * (top / 32 + 1))).map (fun b => BitVec.ofNat 8 (((List.range 8).map (fun i =>
      if 8 * b + i ∈ ds then 2 ^ (7 - i) else 0)).sum))

/-- A standalone ACK, with flags (R272, R277); DROP_ACK keeps the next one back (R294). -/
def State.sendSpanAck (s : State) (n flags aseq : Nat) : State :=
  if s.armed F.SPN_INJECT_DROP_ACK n then s.setArmed F.SPN_INJECT_DROP_ACK n false
  else
    let p := s.pier n
    (s.setPier n { p with sinceAck := 0 }).spanOut n
      { flags := flags, op := 0x3F, tseq := s.fld F.SPN_TX_STATE_NEXT n, aseq := aseq, payload := s.heldMap n }

def State.ackNow (s : State) (n : Nat) : State := s.sendSpanAck n 0 (s.aseq n)

/-- A NAK that names a sequence (R276, R282). -/
def State.sendNak (s : State) (n seq reason : Nat) (map : Bool) : State :=
  (s.spanOut n { op := 0x3E, tseq := s.fld F.SPN_TX_STATE_NEXT n, aseq := s.aseq n, target := seq, opspec := reason,
                 payload := if map then s.heldMap n else [] }).count F.SPN_CNT_NAK_TX_COUNT n

/-- New sequenced frames are sent while the window is open (R275); DROP_TX keeps one off the wire (R294). The fuel is the
number of frames waiting. -/
def State.pumpN (s : State) (n : Nat) : Nat → State
  | 0 => s
  | k + 1 =>
    let p := s.pier n
    if s.session n ≠ SS.open_ ∨ s.txWin n ≤ p.tx.length then s
    else match p.wait with
      | [] => s
      | t :: rest =>
        let seq := s.fld F.SPN_TX_STATE_NEXT n
        let f := { t.f with tseq := seq }
        let writes := if f.op = 0x12 then p.writes ++ [({ seq := seq, waiter := t.waiter, tag := t.tag } : HostWr)] else p.writes
        let reads := if f.op = 0x10 then p.reads.map (fun r => if r.id = beAt f.payload 0 4 then { r with seq := some seq } else r) else p.reads
        let s := s.setPier n { p with wait := rest, tx := p.tx ++ [{ t with f := f, sentAt := s.clk }], writes := writes, reads := reads }
        let s := (s.setFld F.SPN_TX_STATE_NEXT (seq + 1) n).count F.SPN_CNT_TX_COUNT n
        let s := if s.armed F.SPN_INJECT_DROP_TX n then s.setArmed F.SPN_INJECT_DROP_TX n false else s.emitSpan n f
        (s.showTx n).pumpN n k

def State.pump (s : State) (n : Nat) : State := s.pumpN n (s.pier n).wait.length

/-- A sequenced frame is queued at a pier and sent when the window allows. -/
def State.queueSpan (s : State) (n : Nat) (t : TxFrame) : State :=
  let p := s.pier n
  (s.setPier n { p with wait := p.wait ++ [t] }).pump n

/-- One frame is retransmitted unchanged but for ASEQ (R278). -/
def State.resend (s : State) (n seq : Nat) (counts : Bool) : State :=
  let p := s.pier n
  match firstIdx p.tx (fun t => decide (t.f.tseq = seq)) with
  | none => s
  | some (i, t) =>
    let t := { t with sentAt := s.clk, resentAt := some s.clk, retries := if counts then t.retries + 1 else t.retries }
    ((s.setPier n { p with tx := p.tx.set i t }).count F.SPN_CNT_RETX_COUNT n).emitSpan n t.f

/-! ## Memory toward the host (R280, R281) -/

/-- A memory access has ended: what waited for it is told when the command's other effects are done. -/
def State.memEnd (s : State) (w : Waiter) (status : Nat) (data : List Byte) : State :=
  if w = .none then s else { s with ended := s.ended ++ [(w, status, data)] }

/-- Waiting reads are issued up to RD_MAX (R280). -/
def State.issueReadsN (s : State) (n : Nat) : Nat → State
  | 0 => s
  | k + 1 =>
    let p := s.pier n
    match p.readWait with
    | [] => s
    | (addr, r) :: rest =>
      if s.rdMax n ≤ p.reads.length then s
      else
        let f : SFrame := { op := 0x10, target := addr / 2 ^ 32, opspec := addr % 2 ^ 32, payload := beBytes 4 r.id ++ beBytes 4 r.len }
        ((s.setPier n { p with readWait := rest, reads := p.reads ++ [r] }).queueSpan n { f := f, tag := r.tag }).issueReadsN n k

def State.issueReads (s : State) (n : Nat) : State := s.issueReadsN n (s.pier n).readWait.length

/-- A read of host memory at a port, with a fresh read id (R280). In the safe state no new frame is built (R516). -/
def State.hostRead (s : State) (n addr len : Nat) (w : Waiter) (tag : Option Nat) : State :=
  let p := s.pier n
  let r : HostRd := { id := p.nextId, len := len, waiter := w, tag := tag }
  if s.safe then s
  else (s.setPier n { p with nextId := (p.nextId + 1) % 2 ^ 32, readWait := p.readWait ++ [(addr, r)] }).issueReads n

/-- Data cut into parts of at most `m` bytes, each with its offset. -/
def cutParts (m : Nat) (d : List Byte) : List (Nat × List Byte) :=
  if m = 0 then [] else (List.range ((d.length + m - 1) / m)).map (fun i => (m * i, (d.drop (m * i)).take m))

/-- A write to host memory at a port, in frames of at most Pmax bytes; the waiter is told of the last one's landing, and of
any refusal (R281). In the safe state no host write is issued (R516, R517). -/
def State.hostWrite (s : State) (n addr : Nat) (d : List Byte) (w : Waiter) (tag : Option Nat) : State :=
  if s.safe then s
  else
  let parts := cutParts (s.pmax n) d
  (parts.zip (List.range parts.length)).foldl (fun s x =>
    let ((o, b), i) := x
    s.queueSpan n { f := { op := 0x12, target := (addr + o) / 2 ^ 32 % 2 ^ 32, opspec := (addr + o) % 2 ^ 32, payload := b },
                    tag := tag, waiter := if i + 1 = parts.length then w else .none }) s

/-- TAGGED and the tag of a detail (R295). -/
def tagDetail (t : Option Nat) : Nat := match t with
  | some t => 2 ^ 16 + t % 2 ^ 16
  | none => 0

/-! ## Sessions (R272–R274) -/

/-- Every unacknowledged frame and outstanding request is abandoned: reads fail and writes count as not landed, with status
0x22 (R274); a tally dump being sent is not sent again (R571). -/
def State.abandon (s : State) (n : Nat) : State :=
  let p := s.pier n
  let s := s.setPier n { p with rx := [], held := [], delivered := [], wait := [], tx := [], reads := [], readWait := [], writes := [],
                                nakAt := none, sinceAck := 0, reg := none, answered := false, peerSync := false }
  let s := (p.reads ++ p.readWait.map (·.2)).foldl (fun s r => s.memEnd r.waiter 0x22 []) s
  let s := p.writes.foldl (fun s w => s.memEnd w.waiter 0x22 []) s
  let s := (p.wait.filter (fun t => decide (t.f.op = 0x12))).foldl (fun s t => s.memEnd t.waiter 0x22 []) s
  let s := match s.tal.dump with
    | some d => if d.dest ≠ 0 ∧ d.port = n then { s with tal := { s.tal with dump := none } } else s
    | none => s
  let r := if n = 64 then 0 else 2 + n
  let q := mget [] s.rfa.req r
  let mine := q.filter (fun x => decide (x.agent ≠ Agent.boot))
  let s := if mine = [] then s
    else { s with rfa := { s.rfa with req := mput [] s.rfa.req r (q.filter (fun x => decide (x.agent = Agent.boot))), backoff := merase s.rfa.backoff r,
                                      sitOut := merase s.rfa.sitOut r } }.count F.RFA_CNT_MASKED_COUNT 0 mine.length
  s.bufUpdate n

/-- Entry to SYNCING (R272): frames abandoned, the pending copy applied (R293), T chosen, SYNC sent. -/
def State.enterSync (s : State) (n : Nat) : State :=
  let s := s.abandon n
  let s := s.applyPend (if n = 64 then 0x44 else 0x480 + n)
  let p := s.pier n
  let t := if p.began then (s.fld F.SPN_TX_STATE_NEXT n + 32768) % 65536 else 0
  let s := (s.setFld F.SPN_TX_STATE_NEXT t n).setFld F.SPN_SESSION_STATE SS.syncing n
  let s := (s.setPier n { p with began := true, t := t, answered := false, peerSync := false }).showTx n
  s.spanOut n { flags := 8, op := 0x3F, tseq := t, aseq := s.aseq n }

/-- A session loss: kind 0x10 with its cause (R274, R295), and the frames abandoned. -/
def State.sessionLoss (s : State) (n cause : Nat) : State :=
  let s := s.raise (portSrc n) 0x10 (cause * 2 ^ 56 + s.fld F.SPN_TX_STATE_OLDEST n)
  (s.count F.SPN_CNT_LOST_COUNT n).abandon n

/-- The pier becomes OPEN when its SYNC has been answered and it has the peer's (R272). -/
def State.tryOpen (s : State) (n : Nat) : State :=
  let p := s.pier n
  if s.session n = SS.syncing ∧ p.answered ∧ p.peerSync then
    let s := s.setFld F.SPN_SESSION_STATE SS.open_ n
    ((s.setFld F.SPN_SESSION_COUNT (s.fld F.SPN_SESSION_COUNT n + 1) n).issueReads n).pump n
  else s

/-- The peer's SYNC is taken and answered (R272). -/
def State.takeSync (s : State) (n : Nat) (f : SFrame) (withOwn : Bool) : State :=
  let s := s.setFld F.SPN_RX_STATE_EXPECTED f.tseq n
  let s := s.setPier n { s.pier n with peerSync := true, held := [] }
  let fl := if withOwn then 12 else 4
  let p := s.pier n
  s.spanOut n { flags := fl, op := 0x3F, tseq := if withOwn then p.t else s.fld F.SPN_TX_STATE_NEXT n, aseq := (f.tseq + 65535) % 65536 }

/-! ## Acknowledgements received (R276, R279, R281) -/

/-- Frames up to ASEQ are retired, and the bitmap marks held ones (R276). -/
def State.takeAseq (s : State) (n : Nat) (a : Nat) (map : Option (List Byte)) : State :=
  let p := s.pier n
  match p.tx with
  | [] => s
  | t0 :: _ =>
    let d := seqDist 16 a t0.f.tseq
    let done (t : TxFrame) : Bool := decide (d < 8192) && decide (seqDist 16 t.f.tseq t0.f.tseq ≤ d)
    let inMap (q : Nat) : Bool := match map with
      | none => false
      | some m => let i := seqDist 16 q ((a + 1) % 65536); decide (i < 8 * m.length) && (m.getD (i / 8) 0).getLsbD (7 - i % 8)
    let tx := (p.tx.filter (fun t => !done t)).map (fun t => if map.isSome then { t with held := inMap t.f.tseq } else t)
    let writes := p.writes.map (fun w => if decide (d < 8192) && decide (seqDist 16 w.seq t0.f.tseq ≤ d) then { w with acked := true } else w)
    ((s.setPier n { p with tx := tx, writes := writes }).showTx n).pump n

/-- The session ends for a cause that starts a new one at once (R272, R279, R281). -/
def State.lossAndSync (s : State) (n cause : Nat) : State := (s.sessionLoss n cause).enterSync n

/-- A frame ACK arrives (R272, R276). -/
def State.spanAck (s : State) (n : Nat) (f : SFrame) : State :=
  let sync := f.flags.testBit 3
  let sack := f.flags.testBit 2
  let st := s.session n
  let map := if f.payload = [] then some [] else some f.payload
  if st = SS.syncing then
    let p := s.pier n
    let mine := sack && decide (f.aseq = (p.t + 65535) % 65536)
    let s := if mine then s.setPier n { p with answered := true } else s
    let s := if sync then s.takeSync n f (!(s.pier n).answered) else s
    s.tryOpen n
  else if st = SS.open_ then
    if sync ∧ sack then s.sendSpanAck n 4 ((f.tseq + 65535) % 65536)
    else if sync then
      let s := s.lossAndSync n 2
      s.takeSync n f true
    else s.takeAseq n f.aseq map
  else s

/-- A write is refused, or reads and writes end with their frame (R281, R614). -/
def State.refuseWr (s : State) (n seq status : Nat) : State :=
  let p := s.pier n
  match firstIdx p.writes (fun w => decide (w.seq = seq)) with
  | none => s
  | some (i, w) => (s.setPier n { p with writes := p.writes.eraseIdx i }).memEnd w.waiter status []

/-- A NAK with a refusing reason retires the frame it names (R614). -/
def State.nakRefuse (s : State) (n seq reason : Nat) : State :=
  let p := s.pier n
  match firstIdx p.tx (fun t => decide (t.f.tseq = seq)) with
  | none => s
  | some (i, t) =>
    let s := (s.setPier n { p with tx := p.tx.eraseIdx i }).showTx n
    let s := s.raise (portSrc n) 0x16 (t.f.op * 2 ^ 56 + reason * 2 ^ 48 + seq)
    let s := if t.f.op = 0x10 then
        let id := beAt t.f.payload 0 4
        let p := s.pier n
        (match firstIdx p.reads (fun r => decide (r.id = id)) with
        | none => s
        | some (j, r) => ((s.setPier n { p with reads := p.reads.eraseIdx j }).memEnd r.waiter 0x03 []).issueReads n)
      else if t.f.op = 0x12 then s.refuseWr n seq 0x03
      else s
    s.pump n

/-- A NAK arrives (R278, R614). -/
def State.spanNak (s : State) (n : Nat) (f : SFrame) : State :=
  if s.session n ≠ SS.open_ then s
  else
    let s := (s.count F.SPN_CNT_NAK_RX_COUNT n).takeAseq n f.aseq (some f.payload)
    let seq := f.target % 65536
    let reason := f.opspec % 256
    if reason = 0x01 then
      match (s.pier n).tx.find? (fun t => decide (t.f.tseq = seq)) with
      | none => s
      | some t =>
        let recent := match t.resentAt with
          | some x => decide (s.clk < x + s.spnRto n)
          | none => false
        if recent then s else s.resend n seq true
    else if 0x10 ≤ reason ∧ reason ≤ 0x13 then s.nakRefuse n seq reason
    else s

/-- RTO passes for a frame (R278, R279). -/
def State.rtoExpire (s : State) (n seq : Nat) : State :=
  if s.session n ≠ SS.open_ ∨ ¬ s.portUp n then s
  else match (s.pier n).tx.find? (fun t => decide (t.f.tseq = seq)) with
    | none => s
    | some t =>
      if t.held then s
      else if max 1 (s.fld F.SPN_TIMERS_RETRY_LIMIT n) ≤ t.retries then
        (s.raise (portSrc n) 0x11 seq).lossAndSync n 3
      else s.resend n seq true

/-! ## Sequenced frames received (R275, R277, R282) -/

/-- The operation of a frame that a host may send (R271). -/
def hostOp (op : Nat) : Bool := decide (op ∈ [0x01, 0x02, 0x11, 0x13, 0x20, 0x22])
/-- An operation of Table 2 that only the device sends. -/
def deviceOp (op : Nat) : Bool := decide (op ∈ [0x10, 0x12, 0x21, 0x23, 0x30, 0x31])

/-- The form of a frame breaks Table 2 (R282, reason 0x13). -/
def formBad (f : SFrame) (pmax : Nat) : Bool :=
  let n := f.payload.length
  !f.plenOk || decide (pmax < n) ||
  (if f.op = 0x01 then decide (n ≠ 0) || decide (2 ^ 18 ≤ f.target)
   else if f.op = 0x02 then decide (n < 16) || decide (1024 < n) || decide (n % 16 ≠ 0) || decide (2 ^ 18 ≤ f.target)
   else if f.op = 0x13 then decide (n ≠ 0) || decide (2 ^ 16 ≤ f.target) || decide (f.opspec % 2 ^ 24 ≠ 0)
   else if f.op = 0x20 then decide (n ≠ 0) || decide (2 ^ 26 ≤ f.target) || decide (f.opspec = 0) || decide (256 < f.opspec)
   else if f.op = 0x22 then decide (n < 4) || decide (1024 < n) || decide (n % 4 ≠ 0) || decide (2 ^ 26 ≤ f.target) || decide (f.opspec ≠ 0)
   else false)

/-- A delivered frame is refused (R282). -/
def State.refuseFrame (s : State) (n seq reason : Nat) (kind : Option Nat) (detail : Nat) : State :=
  let s := (s.sendNak n seq reason false).count F.SPN_CNT_REFUSED_COUNT n
  match kind with
  | some k => s.raise (portSrc n) k detail
  | none => s

/-- A frame is delivered: refused where it cannot be carried out, else left for its command (R277, R282). A doorbell wakes the
endpoint core (R524). -/
def State.deliverSpan (s : State) (n : Nat) (f : SFrame) : State :=
  let s := (s.count F.SPN_CNT_RX_COUNT n).setFld F.SPN_RX_STATE_EXPECTED (f.tseq + 1) n
  let p := s.pier n
  let s := s.setPier n { p with sinceAck := p.sinceAck + 1 }
  let detail := f.op * 2 ^ 56
  if ¬ hostOp f.op then s.refuseFrame n f.tseq 0x10 (some 0x16) (detail + 0x10 * 2 ^ 48 + f.tseq)
  else if formBad f (s.pmax n) then s.refuseFrame n f.tseq 0x13 (some 0x16) (detail + 0x13 * 2 ^ 48 + f.tseq)
  else
    let s := s.setPier n { s.pier n with delivered := (s.pier n).delivered ++ [f] }
    if f.op = 0x01 ∨ f.op = 0x02 then s.wake Dom.endpoint else s

/-- The held frames that now follow in order are delivered (R275). The fuel is the number held. -/
def State.releaseHeld (s : State) (n : Nat) : Nat → State
  | 0 => s
  | k + 1 =>
    let e := s.fld F.SPN_RX_STATE_EXPECTED n
    let p := s.pier n
    match firstIdx p.held (fun f => decide (f.tseq = e)) with
    | none => s
    | some (i, f) => ((s.setPier n { p with held := p.held.eraseIdx i }).deliverSpan n f).releaseHeld n k

/-- The pier's receive buffer (R275). -/
abbrev rxBufBytes : Nat := 524288

/-- The device acknowledges at once after COALESCE frames, and where ACKREQ asks (R277). -/
def State.ackPolicy (s : State) (n : Nat) (req : Bool) : State :=
  let c := max 1 (s.fld F.SPN_ACK_CFG_COALESCE n)
  if req ∨ c ≤ (s.pier n).sinceAck then s.ackNow n else s

/-- A NAK for the first missing sequence, unless one was sent for this gap within RTO (R277). -/
def State.gapNak (s : State) (n : Nat) : State :=
  let e := s.fld F.SPN_RX_STATE_EXPECTED n
  let p := s.pier n
  let again := match p.nakAt with
    | some (q, t) => decide (q = e) && decide (s.clk < t + s.spnRto n)
    | none => false
  if again then s else (s.setPier n { p with nakAt := some (e, s.clk) }).sendNak n e 0x01 true

/-- A sequenced frame arrives in OPEN (R275). -/
def State.seqReceive (s : State) (n : Nat) (f : SFrame) : State :=
  let req := f.flags.testBit 1
  let e := s.fld F.SPN_RX_STATE_EXPECTED n
  let d := seqDist 16 f.tseq e
  let s := s.takeAseq n f.aseq none
  if d = 0 then
    let s := s.deliverSpan n f
    let s := s.releaseHeld n (s.pier n).held.length
    let s := if (s.pier n).held = [] then s.setPier n { s.pier n with nakAt := none } else s
    (s.ackPolicy n req).bufUpdate n
  else if d ≤ 8191 then
    let p := s.pier n
    if p.held.any (fun h => decide (h.tseq = f.tseq)) then (s.count F.SPN_CNT_DUP_COUNT n).ackNow n
    else if rxBufBytes < p.bufBytes + 16 + f.payload.length then
      (s.count F.SPN_CNT_NOBUF_COUNT n).sendNak n f.tseq 0x02 false
    else ((s.setPier n { p with held := p.held ++ [f] }).gapNak n).bufUpdate n
  else if 65536 - 8192 ≤ d then (s.count F.SPN_CNT_DUP_COUNT n).ackNow n
  else s.count F.SPN_CNT_STALE_COUNT n

/-- Take the oldest Span frame at a pier that satisfies a test. -/
def State.takeRx (s : State) (n : Nat) (t : SFrame → Bool) : Option SFrame × State :=
  let p := s.pier n
  match firstIdx p.rx t with
  | none => (none, s)
  | some (i, f) => (some f, (s.setPier n { p with rx := p.rx.eraseIdx i }).bufUpdate n)

/-- Take the frame at the front of those delivered, where its operation is one of those named (R289). -/
def State.takeDelivered (s : State) (n : Nat) (ops : List Nat) : Option SFrame × State :=
  let p := s.pier n
  match p.delivered with
  | [] => (none, s)
  | f :: rest => if f.op ∈ ops then (some f, (s.setPier n { p with delivered := rest }).bufUpdate n) else (none, s)

/-! ## Frames in (R257, R262, R268, R270) -/

/-- A Span frame from its bytes. -/
def parseSpan (b : List Byte) (secure : Bool) : SFrame :=
  { flags := beAt b 0 1 % 16, op := beAt b 1 1, tseq := beAt b 4 2, aseq := beAt b 6 2, target := beAt b 8 4, opspec := beAt b 12 4,
    payload := (b.drop 16).take (beAt b 2 2), secure := secure,
    plenOk := decide (beAt b 2 2 + 16 ≤ b.length) && (decide (beAt b 2 2 + 16 = b.length) || decide (b.length ≤ 46)) }

/-- A Span frame that has passed classification reaches the pier (R257, R268, R270, R273, R260). -/
def State.pierTake (s : State) (n : Nat) (b : List Byte) (secure : Bool) (addrOk : Bool) : State :=
  if ¬ s.pierOn n ∨ ¬ addrOk then s.count F.SPN_CNT_BADENCAP_COUNT n
  else if beAt b 0 1 / 16 ≠ 1 then
    let s := s.count F.SPN_CNT_MALFORMED_COUNT n
    let p := s.pier n
    let due := match p.verAt with
      | some t => decide (t + 1000000 ≤ s.clk)
      | none => true
    if due then (s.setPier n { p with verAt := some s.clk }).raise (portSrc n) 0x16 (beAt b 1 1 * 2 ^ 56 + beAt b 4 2) else s
  else
    let f := parseSpan b secure
    let p := s.pier n
    if rxBufBytes < p.bufBytes + 16 + f.payload.length then s.count F.HPT_CNT_FULL_COUNT n
    else (s.setPier n { p with rx := p.rx ++ [f] }).bufUpdate n

/-- A plain frame body classified: flow control, Span, PTP or other (R257, R263, R268). -/
def State.classify (s : State) (n : Nat) (b : List Byte) (secure : Bool) : State :=
  let tagged := decide (beAt b 12 2 = 0x8100)
  let o := if tagged then 16 else 12
  let et := beAt b o 2
  let dstOk := decide (beAt b 0 6 = s.fld F.SPN_LOCAL_MAC_MAC n)
  let lock := s.flag F.SPN_CFG_PEER_LOCK n
  let udp := decide (et = 0x86DD) && decide (beAt b (o + 2) 1 / 16 = 6) && decide (beAt b (o + 8) 1 = 17)
  let dport := beAt b (o + 44) 2
  let q := s.stampQ
  let ptp (s : State) : State :=
    let p := s.port n
    s.setPort n { p with ptp := p.ptp ++ [(q, b)] }
  if et = s.fld F.SPN_CFG_ETHERTYPE n then
    s.pierTake n (b.drop (o + 2)) secure (dstOk && !s.flag F.SPN_CFG_UDP_EN n && (!lock || decide (beAt b 6 6 = s.fld F.SPN_PEER_MAC_MAC n)))
  else if udp ∧ dport = s.fld F.SPN_UDP_PORT n then
    let src := slice b (o + 10) 16
    let len := beAt b (o + 46) 2
    let u := slice b (o + 42) len
    let sumOk := decide (beAt b (o + 48) 2 ≠ 0) && decide (udpSum src (slice b (o + 26) 16) u = 0xFFFF)
    s.pierTake n (u.drop 8) secure (dstOk && sumOk && s.flag F.SPN_CFG_UDP_EN n && (!lock || decide (src = s.ip6 F.SPN_PEER_IP6_ADDR n)))
  else if s.flag F.HPT_PTP_CFG_TS_EN n ∧ (et = 0x88F7 ∨ (udp ∧ s.flag F.HPT_PTP_CFG_UDP_EN n ∧ (dport = 319 ∨ dport = 320))) then ptp s
  else s.count F.HPT_CNT_OTHER_COUNT n

/-- A frame received on an ACTIVE port (R257, R262). -/
def State.frameIn (s : State) (n : Nat) (fr : List Byte) : State :=
  if ¬ s.portUp n then s
  else
    let len := fr.length
    let b := fr.take (len - 4)
    if len < 64 ∨ s.maxFrame n < len ∨ fr.drop (len - 4) ≠ fcsOf b then s.count F.HPT_CNT_BAD_COUNT n
    else
      let s := s.count F.HPT_CNT_RX_COUNT n
      if beAt b 12 2 = 0x8808 then
        let p := s.port n
        s.setPort n { p with control := p.control ++ [b] }
      else if s.macsecOn n then
        let fail (s : State) : State :=
          (s.count F.HPT_CNT_MACSEC_COUNT n).raise (portSrc n) 0x04 (secAn b * 2 ^ 62 + beAt b 6 6)
        if beAt b 12 2 = 0x88E5 then
          match s.verify n b with
          | some (plain, s) => s.classify n plain true
          | none => fail s
        else if s.flag F.HPT_MACSEC_CFG_REQUIRE n then fail s
        else s.classify n b false
      else s.classify n b false

/-! ## The commands of the pier's sequence logic -/

/-- SPAN_FRAME_RECEIVE (R275): the oldest sequenced frame that has arrived; outside OPEN it is discarded (R272). -/
def execSpanFrameReceive (n : Fin 65) (s : State) : Out :=
  match s.takeRx n.val (fun f => decide (f.op ≠ 0x3E) && decide (f.op ≠ 0x3F)) with
  | (none, s) => .next s
  | (some f, s) =>
    if s.session n.val ≠ SS.open_ then .next s
    else if s.armed F.SPN_INJECT_DROP_RX n.val then .next (s.setArmed F.SPN_INJECT_DROP_RX n.val false)
    else .next (s.seqReceive n.val f)

/-- SYNC_RESEND (R272). -/
def execSyncResend (n : Fin 65) (s : State) : Out :=
  let p := s.pier n.val
  if s.session n.val = SS.syncing ∧ ¬ p.answered then
    .next (s.spanOut n.val { flags := 8, op := 0x3F, tseq := p.t, aseq := s.aseq n.val })
  else .next s

/-- SPAN_ACK_DELAY (R277). -/
def execSpanAckDelay (n : Fin 65) (s : State) : Out :=
  if (s.pier n.val).sinceAck ≠ 0 ∧ s.session n.val = SS.open_ then .next (s.ackNow n.val) else .next s

/-- SPN_INJECT_DROP_ACK (R294). -/
def execSpnInjectDropAck (n : Fin 65) (s : State) : Out := .next (s.setArmed F.SPN_INJECT_DROP_ACK n.val true)

/-- SPN_INJECT_DROP_RX (R294). -/
def execSpnInjectDropRx (n : Fin 65) (s : State) : Out := .next (s.setArmed F.SPN_INJECT_DROP_RX n.val true)

/-- SPN_INJECT_DROP_TX (R294). -/
def execSpnInjectDropTx (n : Fin 65) (s : State) : Out := .next (s.setArmed F.SPN_INJECT_DROP_TX n.val true)

end Sys2Proof.Machine
end

