-- ==== Sys2Proof/Machine/Translate.lean ====
section
/-!
DEFINITION. Machine/Translate.lean: endpoint memory jobs and their address translation (chapter 14): the caches, the walk,
faults, invalidation and the table aperture.
-/
namespace Sys2Proof.Machine

/-! ## Context records (R287) -/

/-- An EVENT frame with one context record to a host port's pier (R287). -/
def State.ctxEvent (s : State) (port type ctx tag det16 det : Nat) : State :=
  let f : SFrame := { op := 0x30, target := 0, opspec := 1, payload := [] }
  s.queueSpan port { f := { f with payload := beBytes 1 type ++ beBytes 3 (ctx % 2 ^ 18) ++ beBytes 2 tag ++ beBytes 2 det16 ++ beBytes 8 det } }

/-! ## Jobs -/

def State.job (s : State) (id : Nat) : Option Job := mfind s.ep.job id
def State.setJob (s : State) (id : Nat) (j : Job) : State := s.setEp { s.ep with job := minsert s.ep.job id j }
def State.dropJob (s : State) (id : Nat) : State := s.setEp { s.ep with job := merase s.ep.job id }
/-- Something has happened to a job: its owner is told when the command's other effects are done. -/
def State.tellJob (s : State) (id : Nat) (e : JobEv) : State := s.setEp { s.ep with jev := s.ep.jev ++ [(id, e)] }

/-- The operation tag that a job's details carry: its own operation's, 0 for remote work (R398). -/
def Who.tag : Who → Option Nat
  | .payload t _ => some t
  | .reply t _ => some t
  | .coll t _ => some t
  | .viaRead t _ => some t
  | _ => none

/-- A local access of the context itself (R388), as against remote work that is parked (R368). -/
def Who.local_ : Who → Bool
  | .payload _ _ | .reply _ _ | .coll _ _ | .viaRead _ _ | .viaDep _ _ _ => true
  | _ => false

/-! ## Address spaces and translation caches (R375, R391) -/

def State.xlt (s : State) (n : Nat) : Xlt := mget {} s.ep.xlt n

/-- The state of a unit, with OCCUPANCY (R397). -/
def State.setXlt (s : State) (n : Nat) (x : Xlt) : State :=
  let s := s.setEp { s.ep with xlt := mput {} s.ep.xlt n x }
  (s.setFld F.XLT_OCCUPANCY_WALKS (min 32 x.walks.length) n).setFld F.XLT_OCCUPANCY_ENTRIES x.tc.length n

def State.space (s : State) (a : Nat) : Space := mget {} s.ep.space a

/-- A memory key is valid (R351, R376). -/
def State.keyValid (s : State) (key : Nat) : Bool :=
  decide (key ≠ 0xFFFFFFFF) && decide ((s.space (key / 2 ^ 16)).okKey = some key)

/-- A kind of XLT[n], which shares its source with its neighbour (R398, R501). -/
def State.xltRaise (s : State) (n kind detail : Nat) : State := s.raise (488 + n / 2) (kind + 128 * (n % 2)) detail

def pteBit (p : W64) (i : Nat) : Bool := bitAt p i
def ptePort (p : W64) : Nat := bits p 54 6
def ptePpn (p : W64) : Nat := bits p 10 44
def pteLeaf (p : W64) : Bool := pteBit p 1 || pteBit p 2 || pteBit p 3

/-- A valid entry is malformed at a level (R379). -/
def pteMalformed (p : W64) (level : Nat) : Bool :=
  (pteBit p 2 && !pteBit p 1) || decide (bits p 60 4 ≠ 0) ||
  (if pteLeaf p then decide (0 < level) && decide (ptePpn p % 2 ^ (9 * level) ≠ 0)
   else decide (ptePort p ≠ 0) || pteBit p 7 || pteBit p 6 || pteBit p 4 || decide (level = 0))

/-- The leaf's checks of R385, in order. -/
def State.checkLeaf (s : State) (space : Nat) (j : Job) (p : W64) : Option Nat :=
  let w := j.write || j.atomic
  if ¬ pteBit p 4 ∧ ¬ (s.space space).root.testBit 1 then some 0x06
  else if (w ∧ ¬ pteBit p 2) ∨ ((!j.write || j.atomic) ∧ ¬ pteBit p 1) then some 0x05
  else if ¬ pteBit p 6 then some 0x03
  else if w ∧ ¬ pteBit p 7 then some 0x04
  else if ¬ s.enabled .hpt (ptePort p) then some 0x09
  else none

/-- The bytes of a page at a level (R380). -/
def pageSize (level : Nat) : Nat := 2 ^ (12 + 9 * level)
/-- The host physical address of a virtual address under a leaf (R380). -/
def leafAddr (p : W64) (level va : Nat) : Nat := ptePpn p * 4096 + va % pageSize level

/-- A fault found by a unit: the counters and FAULT_INFO, FAULT_VA (R397). `at_` is the step address for code 0x08. -/
def State.showFault (s : State) (n code level space at_ : Nat) : State :=
  let s := (s.setFld F.XLT_FAULT_INFO_CODE code n).setFld F.XLT_FAULT_INFO_LEVEL level n
  let s := (s.setFld F.XLT_FAULT_INFO_SPACE space n).setFld F.XLT_FAULT_VA_ADDR at_ n
  let s := if code = 0x03 ∨ code = 0x04 then s.count F.XLT_CNT_MARK_COUNT n else s.count F.XLT_CNT_FAULT_COUNT n
  if code = 0x08 then s.count F.XLT_CNT_WAF_COUNT n else s

/-- A job meets a fault. -/
def State.faultJob (s : State) (id code level : Nat) : State :=
  match s.job id with
  | none => s
  | some j => (s.setJob id { j with fault := some (code, level) }).tellJob id (.fault code level)

/-! ## Lookups and walks (R381, R383, R387) -/

/-- The cached leaf for a page. -/
def Xlt.find (x : Xlt) (space va : Nat) : Option (Nat × TEnt) :=
  match x.tc.findIdx? (fun e => decide (e.space = space) && decide (e.vpn = va / pageSize e.level)) with
  | some i => (x.tc[i]?).map (fun e => (i, e))
  | none => none

/-- The walk-cache entry that starts a walk lowest (R381, R391). -/
def Xlt.walkFrom (x : Xlt) (space va : Nat) : Option WEnt :=
  let fits (l : Nat) : Option WEnt := x.wc.find? (fun e => decide (e.space = space) && decide (e.level = l) && decide (e.pre = va / 2 ^ (21 + 9 * l)))
  match fits 0 with
  | some e => some e
  | none => match fits 1 with
    | some e => some e
    | none => fits 2

/-- A job waits for a walk of its page: one that runs already, or a new one, from the walk cache unless it confirms (R383, R387). -/
def State.joinWalk (s : State) (id : Nat) (j : Job) (va : Nat) (confirm : Bool) : State :=
  let n := j.space % 32
  let x := s.xlt n
  match x.walks.findIdx? (fun w => decide (w.space = j.space) && decide (w.va / 4096 = va / 4096) && (!confirm || !w.cached)) with
  | some i =>
    (match x.walks[i]? with
    | some w => s.setXlt n { x with walks := x.walks.set i { w with jobs := w.jobs ++ [id] } }
    | none => s)
  | none =>
    let root := (s.space j.space).root / 4096 * 4096
    let s := s.count F.XLT_CNT_WALK_COUNT n
    match (if confirm ∨ ¬ s.flag F.XLT_CFG_WCACHE_EN n then none else x.walkFrom j.space va) with
    | some e => (s.count F.XLT_CNT_WCACHE_HIT_COUNT n).setXlt n { x with walks := x.walks ++ [{ space := j.space, va := va, level := e.level, table := e.table, cached := true, jobs := [id] }] }
    | none => s.setXlt n { x with walks := x.walks ++ [{ space := j.space, va := va, table := root, jobs := [id] }] }

/-- The bytes of a job from its next one to the end of a leaf's page are passed to the leaf's pier (R280, R281, R380). An
ATOMIC waits for another on the same 64-byte granule of the host port (R349). -/
def State.issueFrag (s : State) (id : Nat) (j : Job) (p : W64) (level : Nat) : State :=
  let va := j.va + j.next
  let n := min (j.len - j.next) (pageSize level - va % pageSize level)
  let port := ptePort p
  let hpa := leafAddr p level va
  let tag := j.who.tag
  if j.atomic then
    let busy := s.ep.job.any (fun (e : Nat × Job) => decide (e.1 ≠ id) && !e.2.atomWait && (match e.2.atomAt with
      | some (q, a) => decide (q = port) && decide (a / 64 = hpa / 64)
      | none => false))
    let j := { j with next := j.len, atomAt := some (port, hpa), atomWait := busy }
    if busy then s.setJob id j
    else (s.setJob id { j with outst := 1 }).hostRead port hpa j.len (.job id 0) tag
  else if j.write then
    let parts := cutParts (s.pmax port) (slice j.data j.next n)
    let s := s.setJob id { j with next := j.next + n, outst := j.outst + parts.length }
    parts.foldl (fun s x => s.hostWrite port (hpa + x.1) x.2 (.job id (j.next + x.1)) tag) s
  else (s.setJob id { j with next := j.next + n, outst := j.outst + 1 }).hostRead port hpa n (.job id j.next) tag

/-- A job's next page is looked up, and issued on a hit (R381, R387). The fuel is the number of pages it can touch. -/
def State.jobStepN (s : State) (id : Nat) : Nat → State
  | 0 => s
  | k + 1 =>
    match s.job id with
    | none => s
    | some j =>
      let n := j.space % 32
      if j.len ≤ j.next then
        if j.issued then s
        else
          let s := (s.setJob id { j with issued := true }).tellJob id .issued
          if j.outst = 0 ∧ ¬ j.atomWait then s.tellJob id .done else s
      else
        let va := j.va + j.next
        let s := s.count F.XLT_CNT_LOOKUP_COUNT n
        if 2 ^ 48 ≤ va then (s.showFault n 0x07 3 j.space (va % 2 ^ 64)).faultJob id 0x07 3
        else
          let x := s.xlt n
          match (if s.flag F.XLT_CFG_TCACHE_EN n then x.find j.space va else none) with
          | none => s.joinWalk id j va false
          | some (i, e) =>
            if s.armed F.XLT_INJECT_TCACHE_ECC n then
              let s := (s.setArmed F.XLT_INJECT_TCACHE_ECC n false).setXlt n { x with tc := x.tc.eraseIdx i }
              (s.xltRaise n 0x02 0).joinWalk id j va false
            else
              let s := s.count F.XLT_CNT_HIT_COUNT n
              match s.checkLeaf j.space j e.pte with
              | some _ => s.joinWalk id j va true
              | none => (s.issueFrag id j e.pte e.level).jobStepN id k

def jobFuel (j : Job) : Nat := j.len / 4096 + 3

/-- A job goes on from where it stands. -/
def State.jobGo (s : State) (id : Nat) : State :=
  match s.job id with
  | some j => s.jobStepN id (jobFuel j)
  | none => s

/-- A new job starts. -/
def State.startJob (s : State) (j : Job) : State :=
  let id := s.ep.nextJob
  ((s.setEp { s.ep with nextJob := id + 1 }).setJob id j).jobGo id

/-- A context's own access (R308, R377): with a key that is not valid it fails with code 0x05 and no walk is made. -/
def State.localJob (s : State) (j : Job) : State :=
  if s.keyValid (s.ctx j.ctx).key then s.startJob { j with space := (s.ctx j.ctx).key / 2 ^ 16 }
  else
    let id := s.ep.nextJob
    ((s.setEp { s.ep with nextJob := id + 1 }).setJob id j).faultJob id 0x05 3

/-- A leaf joins the translation cache, an entry being replaced at random when 256 are held (R391). -/
def State.fillLeaf (s : State) (n : Nat) (e : TEnt) : State :=
  let x := s.xlt n
  let tc := x.tc.filter (fun y => !(decide (y.space = e.space) && decide (y.level = e.level) && decide (y.vpn = e.vpn)))
  if tc.length < 256 then s.setXlt n { x with tc := tc ++ [e] }
  else
    let (k, s) := s.takeFree
    s.setXlt n { x with tc := tc.eraseIdx (Config.choice k % tc.length) ++ [e] }

/-- A non-leaf joins the walk cache (R391). -/
def State.fillWalk (s : State) (n : Nat) (e : WEnt) : State :=
  let x := s.xlt n
  let wc := x.wc.filter (fun y => !(decide (y.space = e.space) && decide (y.level = e.level) && decide (y.pre = e.pre)))
  if wc.length < 64 then s.setXlt n { x with wc := wc ++ [e] }
  else
    let (k, s) := s.takeFree
    s.setXlt n { x with wc := wc.eraseIdx (Config.choice k % wc.length) ++ [e] }

/-- The jobs of a walk meet its leaf. -/
def State.walkLeaf (s : State) (n : Nat) (w : Walk) (p : W64) : State :=
  w.jobs.foldl (fun s id => match s.job id with
    | none => s
    | some j =>
      match s.checkLeaf w.space j p with
      | some code => (s.showFault n code w.level w.space (j.va + j.next)).faultJob id code w.level
      | none => (s.issueFrag id j p w.level).jobGo id) s

/-- The jobs of a walk meet its fault, once it has used no cache (R387). -/
def State.walkFault (s : State) (n : Nat) (w : Walk) (code step : Nat) : State :=
  let s := s.showFault n code w.level w.space (if code = 0x08 then step else w.va)
  w.jobs.foldl (fun s id => s.faultJob id code w.level) s

/-- One step of a walk (R381, R384): the entry is read, and the walk descends, ends at a leaf or faults. -/
def State.walkStep (s : State) (n i : Nat) : State :=
  let x := s.xlt n
  match x.walks[i]? with
  | none => s
  | some w =>
    let step := w.table + 8 * (w.va / 2 ^ (12 + 9 * w.level) % 512)
    let tag := ((w.jobs.head?.bind s.job).bind (fun j => j.who.tag)).getD 0
    let remove (s : State) : State := s.setXlt n { (s.xlt n) with walks := (s.xlt n).walks.eraseIdx i }
    let again (s : State) : State :=
      (s.count F.XLT_CNT_WALK_COUNT n).setXlt n { (s.xlt n) with walks := (s.xlt n).walks.set i { w with level := 3, cached := false, table := (s.space w.space).root / 4096 * 4096 } }
    let fail (s : State) (code : Nat) : State := if w.cached then again s else (remove s).walkFault n w code step
    let access (s : State) (cause : Nat) : State :=
      let s := s.xltRaise n 0x01 (w.level * 2 ^ 62 + cause * 2 ^ 60 + step % 2 ^ 44 * 2 ^ 16 + tag)
      (remove s).walkFault n w 0x08 step
    if hbmBytes ≤ step then access s (if 0xF000000000 ≤ step ∧ step < 0xF004000000 then 2 else 3)
    else if s.armed F.XLT_INJECT_WALK_ERR n then access (s.setArmed F.XLT_INJECT_WALK_ERR n false) 0
    else
      match s.memRead step 8 with
      | (none, s) => access s 0
      | (some b, s) =>
        let p : W64 := BitVec.ofNat 64 (leNat b)
        if ¬ pteBit p 0 then fail s 0x01
        else if pteMalformed p w.level then fail s 0x02
        else if pteLeaf p then
          ((remove s).fillLeaf n { space := w.space, level := w.level, vpn := w.va / pageSize w.level, pte := p }).walkLeaf n w p
        else
          let s := s.setXlt n { (s.xlt n) with walks := (s.xlt n).walks.set i { w with level := w.level - 1, table := ptePpn p * 4096 } }
          s.fillWalk n { space := w.space, level := w.level - 1, pre := w.va / 2 ^ (12 + 9 * w.level), table := ptePpn p * 4096 }

/-! ## Invalidation (R389, R392–R394) -/

/-- The units that a scope acts on (R393). -/
def Inval.units (v : Inval) : List Nat := if v.scope = 2 then List.range 32 else [v.space % 32]
/-- A virtual address of a space lies in the scope. -/
def Inval.covers (v : Inval) (space va size : Nat) : Bool :=
  if v.scope = 2 then true
  else decide (space = v.space) && (decide (v.scope = 1) || (decide (va < v.va + 4096 * v.pages) && decide (v.va < va + size)))

/-- An invalidation begins: entries removed and counted, walks of the scope restarted from ROOT (R393). -/
def State.invBegin (s : State) (n : Nat) (v : Inval) : State :=
  let s := v.units.foldl (fun s u =>
    let x := s.xlt u
    let tc := x.tc.filter (fun e => !v.covers e.space (e.vpn * pageSize e.level) (pageSize e.level))
    let wc := x.wc.filter (fun e => !(decide (v.scope = 2) || decide (e.space = v.space)))
    let ws := x.walks.map (fun w => if v.scope = 2 ∨ w.space = v.space then { w with level := 3, cached := false, table := (s.space w.space).root / 4096 * 4096 } else w)
    let k : Nat := (x.tc.length - tc.length) + (x.wc.length - wc.length)
    let s := if k = 0 then s else s.count F.XLT_CNT_INVAL_COUNT u k
    s.setXlt u { x with tc := tc, wc := wc, walks := ws }) s
  let waits := (s.ep.job.filter (fun (e : Nat × Job) => decide (e.2.outst ≠ 0) && v.covers e.2.space e.2.va (max 1 e.2.len))).map (·.1)
  (s.setXlt n { (s.xlt n) with inv := some { v with waits := waits } }).setFld F.XLT_INV_CTRL_BUSY 1 n

/-- An invalidation is issued at a unit: it waits while another runs there (R394). -/
def State.invIssue (s : State) (n : Nat) (v : Inval) : State :=
  let x := s.xlt n
  match x.inv with
  | none => s.invBegin n v
  | some _ => s.setXlt n { x with invQ := x.invQ ++ [v] }

/-- Parked and held work of a scope is retried or abandoned (R389). -/
def State.invRetry (s : State) (v : Inval) : State :=
  if ¬ v.resume ∧ ¬ v.abandon then s
  else
    (s.ep.job.filter (fun (e : Nat × Job) => e.2.fault.isSome && v.covers e.2.space (e.2.va + e.2.next) 1)).foldl (fun s e =>
      let cleared := v.spaceSet && decide ((s.space v.space).okKey = none) && !e.2.who.local_
      let s := s.count F.XLT_CNT_RETRY_COUNT (e.2.space % 32)
      if v.abandon ∨ cleared then s.tellJob e.1 .unresolved
      else (s.setJob e.1 { e.2 with fault := none }).jobGo e.1) s

/-- The conditions of R393 for completion. -/
def State.invReady (s : State) (v : Inval) : Bool :=
  v.waits.all (fun id => match s.job id with
    | some j => decide (j.outst = 0)
    | none => true)

/-! ## The commands of translation -/

/-- XLT_INV_START (R392, R394): a write of INV_CTRL.START; while BUSY it is ignored and raises kind 0x06. -/
def execXltInvStart (n : Fin 32) (s : State) : Out :=
  let sp := s.fld F.XLT_INV_CTRL_SPACE n.val
  if s.flag F.XLT_INV_CTRL_BUSY n.val then .next (s.xltRaise n.val 0x06 sp)
  else
    let cnt := s.fld F.XLT_INV_PAGES_COUNT n.val
    let sc := min 2 (s.fld F.XLT_INV_CTRL_SCOPE n.val)
    let v : Inval :=
      { scope := if sc = 0 ∧ 2 ^ 20 < cnt then 1 else sc, space := sp, va := s.fld F.XLT_INV_ADDR_ADDR n.val / 4096 * 4096,
        pages := max 1 cnt, resume := s.flag F.XLT_INV_CTRL_RESUME n.val, abandon := s.flag F.XLT_INV_CTRL_ABANDON n.val }
    .next (s.invIssue n.val v)

/-- The staged low word of an agent at a pair, taken. -/
def State.takeStaged (s : State) (ag : Agent) (a : Nat) : W32 × State :=
  let m := mget [] s.regs.staged ag.key
  ((mfind m a).getD (s.rd a), { s with regs := { s.regs with staged := mput [] s.regs.staged ag.key (merase m a) } })

/-- The aperture address is an aligned HBM address (R396). -/
def apertureOk (a : Nat) : Bool := decide (a % 8 = 0) && decide (a < hbmBytes)

/-- PTE_STORE (R396): a write of the PTE_DATA high word stores both words as one coherent write. -/
def execPteStore (ag : Agent) (n : Fin 32) (hi : W32) (s : State) : Out :=
  let a := s.fld F.XLT_PTE_ADDR_ADDR n.val
  let (lo, s) := s.takeStaged ag (F.XLT_PTE_DATA_DATA.addr n.val 0)
  if apertureOk a then .next (s.memWrite a (leBytes 4 lo.toNat ++ leBytes 4 hi.toNat)) else .next (s.xltRaise n.val 0x05 a)

/-- PTE_DATA_READ (R396, R10): a read of the low word reads the entry and latches its high word. A poisoned entry reads as 0. -/
def execPteDataRead (ag : Agent) (n : Fin 32) (s : State) : Out :=
  let a := s.fld F.XLT_PTE_ADDR_ADDR n.val
  let d := F.XLT_PTE_DATA_DATA.addr n.val 0
  let put (s : State) (v : Nat) : State :=
    let s := s.wr64 d (BitVec.ofNat 64 v)
    { s with regs := { s.regs with latch := minsert s.regs.latch ag.key (d + 4, BitVec.ofNat 32 (v / 2 ^ 32)) } }
  if apertureOk a then
    match s.memRead a 8 with
    | (some b, s) => .next (put s (leNat b))
    | (none, s) => .next (put s 0)
  else .next ((put s 0).xltRaise n.val 0x05 a)

/-- XLT_INJECT_TCACHE_ECC (R397). -/
def execXltInjectTcacheEcc (n : Fin 32) (s : State) : Out := .next (s.setArmed F.XLT_INJECT_TCACHE_ECC n.val true)

/-- XLT_INJECT_WALK_ERR (R397). -/
def execXltInjectWalkErr (n : Fin 32) (s : State) : Out := .next (s.setArmed F.XLT_INJECT_WALK_ERR n.val true)

end Sys2Proof.Machine
end

