-- ==== Sys2Proof/Machine/Contexts.lean ====
section
/-!
DEFINITION. Machine/Contexts.lean: the context record and image, the completion ring, operation tags and their release,
halts and the descriptor checks (chapter 11).
-/
namespace Sys2Proof.Machine

/-! ## Context records (R296, R298) -/

/-- The group of a context (R16). -/
def ctxGroup (c : Nat) : Nat := c / 2048
/-- The matching unit of a context (R16). -/
def matOf (c : Nat) : Nat := c / 2048 % 16

/-- The port to which a context is bound: the management context's comes from CTG[0] (R298). -/
def State.ctxPort (s : State) (c : Nat) : Nat :=
  if c = 0 then (if s.flag F.CTG_MRING_CFG_ON_MGT 0 then 64 else s.fld F.CTG_MRING_CFG_PORT 0) else (s.ctx c).port

/-- A use of a context's record by a doorbell, a fetch or a packet: the cache of 16,384 records is least recently used (R296). -/
def State.touchCtx (s : State) (c : Nat) : State :=
  let s := if s.ep.lru.contains c then s else s.count F.CTG_CNT_CACHE_MISS_COUNT (ctxGroup c)
  s.setEp { s.ep with lru := (c :: s.ep.lru.filter (fun x => decide (x ≠ c))).take 16384 }

/-- STATE of a context, with COUNTS of its group (R319). -/
def State.setCtxState (s : State) (c st : Nat) : State :=
  let x := s.ctx c
  let g := ctxGroup c
  let n (code : Nat) : Nat := (if st = code then 1 else 0)
  let o (code : Nat) : Nat := (if x.state = code then 1 else 0)
  let s := s.setFld F.CTG_COUNTS_ENABLED (s.fld F.CTG_COUNTS_ENABLED g + n CS.enabled - o CS.enabled) g
  let s := s.setFld F.CTG_COUNTS_HALTED (s.fld F.CTG_COUNTS_HALTED g + n CS.halted - o CS.halted) g
  s.setCtx c { x with state := st }

/-- A context takes inbound traffic: ENABLED, or HALTED for another cause than 0x0F, and not being closed (R314, R316, R353). -/
def State.ctxInbound (s : State) (c : Nat) : Bool :=
  let x := s.ctx c
  decide (c ≠ 0) && x.closing.isNone && (decide (x.state = CS.enabled) || (decide (x.state = CS.halted) && decide (x.haltCause ≠ 0x0F)))

/-- The context image of Table 1, bytes 0–95 (R296). -/
def State.ctxImage (s : State) (c : Nat) : List Byte :=
  let x := s.ctx c
  leBytes 1 x.state ++ leBytes 1 x.haltCause ++ leBytes 1 (x.port % 64) ++ leBytes 1 x.flags ++ leBytes 2 x.pd ++ leBytes 2 x.space ++
    leBytes 4 x.key ++ leBytes 1 x.tcMask ++ leBytes 1 x.cmdLog2 ++ leBytes 1 x.cqLog2 ++ leBytes 1 x.maxOps ++ leBytes 8 x.cmdBase ++
    leBytes 8 x.cqBase ++ leBytes 8 x.cqTailAddr ++ leBytes 8 x.cqHeadAddr ++ leBytes 4 x.cmdTail ++ leBytes 4 x.cmdHead ++
    leBytes 4 x.cqWritten ++ leBytes 4 x.cqHeadSeen ++ leBytes 4 x.cqReserved ++ leBytes 2 x.tagsHeld ++ leBytes 2 x.parked ++
    leBytes 4 x.haltSlot ++ leBytes 4 x.overflow ++ leBytes 1 x.cluster ++ leBytes 3 x.epoch ++ List.replicate 12 0#8

/-! ## Rings (R297, R299, R300) -/

/-- A read at an untranslated address of a context: HBM, or the host at its port. -/
def State.ringRead (s : State) (c : Nat) (inHbm : Bool) (addr len : Nat) (w : Waiter) : State :=
  if inHbm then
    match s.memRead addr len with
    | (some d, s) => s.memEnd w 0 d
    | (none, s) => s.memEnd w 0x21 []
  else s.hostRead (s.ctxPort c) addr len w none

/-- A write at an untranslated address of a context. -/
def State.ringWrite (s : State) (c : Nat) (inHbm : Bool) (addr : Nat) (d : List Byte) (after : Option (Nat × Nat)) : State :=
  if inHbm then (s.memWrite addr d).memEnd (.cqWrite c addr d after) 0 []
  else s.hostWrite (s.ctxPort c) addr d (.cqWrite c addr d after) none

def Ctx.cmdHbm (x : Ctx) : Bool := x.flags.testBit 7
def Ctx.cqHbm (x : Ctx) : Bool := x.flags.testBit 6
def Ctx.notifyIn (x : Ctx) : Bool := x.flags.testBit 5

/-- Free entries of the completion ring (R301). -/
def Ctx.free (x : Ctx) : Nat := 2 ^ x.cqLog2 - (x.cqWritten + x.cqReserved + 2 ^ 32 - x.cqHeadSeen % 2 ^ 32) % 2 ^ 32

/-- A completion entry (Table 5). -/
structure CqEnt where
  cookie : Nat := 0
  tag : Nat := 0
  opc : Nat
  status : Nat := 0
  len : Nat := 0
  peer : Nat := 0
  detail : Nat := 0
deriving DecidableEq, Repr

/-- An entry is written, the tail word after it, and the event record where one is asked for (R300, R310). -/
def State.cqEntry (s : State) (c : Nat) (e : CqEnt) (event : Bool) (after : Option (Nat × Nat)) : State :=
  let x := s.ctx c
  let d := leBytes 8 e.cookie ++ leBytes 4 x.cmdHead ++ leBytes 2 e.tag ++ leBytes 1 e.opc ++ leBytes 1 e.status ++ leBytes 4 e.len ++
    leBytes 4 e.peer ++ leBytes 8 e.detail
  let n := x.sinceEvent + 1
  let s := s.setCtx c { x with cqWritten := x.cqWritten + 1, sinceEvent := if event then 0 else n }
  let s := s.ringWrite c x.cqHbm (x.cqBase + 32 * (x.cqWritten % 2 ^ x.cqLog2)) d after
  let s := s.ringWrite c x.cqHbm x.cqTailAddr (leBytes 8 (x.cqWritten + 1)) none
  if event then s.ctxEvent (s.ctxPort c) 0x01 c 0 (min n 0xFFFF) ((x.cqWritten + 1) % 2 ^ 32) else s

/-- An inbound completion that is refused or merged (R310). -/
def State.inRefused (s : State) (c opc : Nat) : State :=
  let x := s.ctx c
  let s := (s.setCtx c { x with overflow := (x.overflow + 1) % 2 ^ 32 }).count F.CTG_CNT_IN_REFUSED_COUNT (ctxGroup c)
  s.raise (512 + ctxGroup c) 0x06 (opc * 2 ^ 56 + c)

/-- Held viaduct completions are written while entries are free (R310). -/
def State.viaFlush (s : State) (c : Nat) : State :=
  (s.ctx c).viaHeld.foldl (fun s e =>
    let x := s.ctx c
    if x.free = 0 ∨ x.mute then s
    else (s.setCtx c { x with viaHeld := merase x.viaHeld e.1 }).cqEntry c { opc := 0xE1, len := e.2.1, peer := e.2.2 } x.notifyIn none) s

/-- A viaduct completion at a member context: written, or held and merged where no entry is free (R193, R310). -/
def State.viaEntry (s : State) (c via high missing : Nat) : State :=
  let x := s.ctx c
  let held := mfind x.viaHeld via
  let m := missing + (match held with
    | some (_, k) => k
    | none => 0)
  if x.free = 0 then
    let s := s.setCtx c { x with viaHeld := minsert x.viaHeld via (high, m) }
    if held.isSome then s.inRefused c 0xE1 else s
  else
    let s := if held.isSome then (s.setCtx c { x with viaHeld := merase x.viaHeld via }).inRefused c 0xE1 else s
    s.cqEntry c { opc := 0xE1, len := high, peer := m } x.notifyIn none

/-! ## Operations (R19–R21) -/

def Op.dByte (o : Op) (i n : Nat) : Nat := leAt o.desc i n
def Op.inl (o : Op) : Bool := o.flags.testBit 4
def Op.fence (o : Op) : Bool := o.flags.testBit 6
/-- LENGTH of a data descriptor (Table 4). -/
def Op.len (o : Op) : Nat := if o.opc = 0x24 then o.dByte 41 1 else o.dByte 32 4
/-- The local address: LOCAL_ADDR, BUFFER_ADDR or RESULT_ADDR. -/
def Op.laddr (o : Op) : Nat := o.dByte 16 8
/-- The segments of a length (R323, R347). -/
def segsOf (len : Nat) : Nat := max 1 ((len + 4095) / 4096)
/-- The length of segment `k`. -/
def segLen (len k : Nat) : Nat := min 4096 (len - 4096 * k)

/-- The fabric address of a context of this router (R5). -/
def State.ownAddr (s : State) (c : Nat) : Nat := fabAddr s.routerId c

/-- The staged cells of an operation are freed (R463). -/
def State.freeStage (s : State) (o : Op) : State :=
  if o.staged = 1 then
    let die := s.portDie (s.ctx o.ctx).port
    s.setEp { s.ep with stagedCells := mput 0 s.ep.stagedCells die (mget 0 s.ep.stagedCells die - (o.len + 255) / 256) }
  else s

/-- An operation stands in no queue any more. -/
def State.unqueue (s : State) (tag : Nat) : State :=
  let q := s.sch.q.map (fun (e : Nat × InjQ) => (e.1, { e.2 with ops := e.2.ops.filter (fun t => decide (t ≠ tag)), head := (match e.2.head with
    | some h => if h.tag = tag ∧ h.retx.isNone then none else some h
    | none => none) }))
  ({ s with sch := { s.sch with q := q.filter (fun (e : Nat × InjQ) => decide (e.2 ≠ ({} : InjQ))) } }).setEp
    { s.ep with chanWait := s.ep.chanWait.filter (fun t => decide (t ≠ tag)) }

/-- The jobs of an operation are given up: what they still answer is discarded. -/
def State.dropOpJobs (s : State) (tag : Nat) : State :=
  s.setEp { s.ep with job := s.ep.job.filter (fun (e : Nat × Job) => decide (e.2.who.tag ≠ some tag)) }

/-- The channel packets of an operation no longer serve it: a request is given up, so that its response is discarded, and
another packet only waits for its acknowledgement (R316, R337, R358). -/
def State.untieTx (s : State) (tag : Nat) : State :=
  s.setEp { s.ep with chan := s.ep.chan.map (fun (e : Nat × Chan) => (e.1, { e.2 with
    unret := (e.2.unret.filter (fun t => !(decide (t.tag = some tag) && (decide (t.opc = 0x22) || decide (t.opc = 0x24))))).map (fun t =>
      if t.tag = some tag then { t with tag := none } else t) })) }

/-- A tag is released without any entry: reservation, quota and staging are returned (R19, R301, R461). -/
def State.releaseTag (s : State) (tag : Nat) : State :=
  match s.op tag with
  | none => s
  | some o =>
    let s := (((s.freeStage o).unqueue tag).dropOpJobs tag).untieTx tag
    let s := s.setEp { s.ep with op := merase s.ep.op tag }
    let s := { s with rou := { s.rou with pinned := merase s.rou.pinned tag } }
    let x := s.ctx o.ctx
    let x := { x with cqReserved := x.cqReserved - 1, tagsHeld := x.tagsHeld - 1, mgmt := if x.mgmt = some tag then none else x.mgmt }
    let s := s.setCtx o.ctx x
    if s.oldEpoch o.ctx then s else s.setCtx o.ctx { x with oldCluster := none }

/-- An operation ends: its completion entry is written where one is due, and its tag is released (R19, R24, R307, R310). LENGTH of
a failing entry is a free value (log 22). -/
def State.finishOp (s : State) (tag status len peer detail : Nat) : State :=
  match s.op tag with
  | none => s
  | some o =>
    let x := s.ctx o.ctx
    let s := s.releaseTag tag
    if o.dead ∨ x.mute ∨ (¬ o.flags.testBit 7 ∧ status = 0) then s
    else
      let (len, s) : Nat × State := if status = 0 ∨ status = 4 ∨ status = 0x12 then (len, s)
        else let (k, s) := s.takeFree; ((Config.failLength k).toNat, s)
      s.cqEntry o.ctx { cookie := o.cookie, tag := tag, opc := o.opc, status := status, len := len, peer := peer, detail := detail }
           (o.flags.testBit 5) none

/-! ## Halts (R314, R315) -/

/-- A check of Table 8 fails: a tenant context halts, a malformed management entry enters the safe state. -/
def State.haltCtx (s : State) (c cause slot opc : Nat) : State :=
  let g := ctxGroup c
  let detail := cause * 2 ^ 56 + opc * 2 ^ 48 + slot % 2 ^ 30 * 2 ^ 18 + c
  let s := s.setCtxState c CS.halted
  let x := s.ctx c
  let s := s.setCtx c { x with haltCause := cause, haltSlot := slot, fetched := [], inline_ := [] }
  let s := (s.count F.CTG_CNT_MALFORMED_COUNT g).setFld F.CTG_LAST_HALT_CAUSE cause g
  let s := s.setFld F.CTG_LAST_HALT_CONTEXT c g
  if c = 0 then (s.keyEvent 512 0x02 3 (BitVec.ofNat 64 detail) false).enterSafe 4 (BitVec.ofNat 64 detail) 0
  else (s.raise (512 + g) 0x01 detail).ctxEvent (s.ctxPort c) 0x02 c 0 cause (slot * 2 ^ 32 + opc * 2 ^ 24)

/-! ## The checks of Table 8 (R307, R312, R616) -/

/-- The management opcodes of Table 6. -/
def isMgmt (o : Nat) : Bool := decide (o ∈ [0xC0, 0xC1, 0xC2, 0xC3, 0xC4, 0xC8, 0xC9, 0xCA, 0xCB])
def isData (o : Nat) : Bool := decide (o ∈ [0x10, 0x11, 0x20, 0x21, 0x22, 0x24, 0x40, 0x41, 0x42, 0x43, 0x70])
/-- Opcodes that may carry their payload inline. -/
def mayInline (o : Nat) : Bool := decide (o = 0x10) || decide (o = 0x20) || decide (o = 0x21)
/-- Opcodes whose DEST names a peer. -/
def hasPeer (o : Nat) : Bool := decide (o ∈ [0x10, 0x20, 0x21, 0x22, 0x24])

/-- The slots of an opcode without INLINE (Tables 3 and 6). -/
def opSlots (o : Nat) : Nat :=
  if o = 0x01 ∨ o = 0xC2 ∨ o = 0xC3 then 1
  else if o = 0x43 ∨ o = 0xC1 ∨ o = 0xC4 ∨ o = 0xCA then 2
  else if o = 0x24 then 5
  else 4

/-- Check 0x02 on the SIZE of a descriptor's first slot. -/
def sizeOk (o flags n : Nat) : Bool :=
  if o = 0x00 then true
  else if mayInline o ∧ flags.testBit 4 then decide (4 ≤ n)
  else decide (n = opSlots o)

/-- The byte ranges of a descriptor that must be 0 (Tables 4 and 6, R392, R616): first byte and count. -/
def zeroRanges (o : Nat) : List (Nat × Nat) :=
  match o with
  | 0x01 => []
  | 0x10 => [(38, 26)]
  | 0x11 => [(50, 14)]
  | 0x20 => [(44, 20)]
  | 0x21 => [(48, 16)]
  | 0x22 => [(44, 20)]
  | 0x24 => [(42, 6)]
  | 0x40 => [(48, 16)]
  | 0x41 => [(24, 8), (44, 20)]
  | 0x42 => [(48, 16)]
  | 0x43 => [(22, 10)]
  | 0x70 => [(26, 6), (36, 28)]
  | 0xC0 => [(16, 2)]
  | 0xC1 => [(20, 12)]
  | 0xC4 => [(24, 8)]
  | 0xC8 => [(32, 32)]
  | 0xC9 => [(44, 20)]
  | 0xCA => [(20, 12)]
  | 0xCB => [(20, 4), (36, 28)]
  | _ => []

/-- The per-opcode FLAGS bits that an opcode has. -/
def flagBits (o : Nat) : Nat :=
  (if o = 0x11 ∨ o = 0x40 ∨ o = 0x41 ∨ o = 0x70 then 1 else 0) + (if mayInline o then 16 else 0) + 0xE0

/-- Check 0x04: reserved bytes and bits, and DEST where Table 3 gives 0. -/
def reservedOk (d : List Byte) : Bool :=
  let o := leAt d 0 1
  let fl := leAt d 2 1
  decide (leAt d 1 1 < 16) && decide (fl &&& flagBits o = fl) && decide (leAt d 3 1 < 8) &&
    (hasPeer o || isMgmt o || decide (leAt d 4 4 = 0)) &&
    (zeroRanges o).all (fun r => (slice d r.1 r.2).all (fun b => decide (b = 0#8))) &&
    (if o = 0xC0 then decide (leAt d 18 1 < 64) && decide (leAt d 19 1 % 32 = 0) && decide (leAt d 20 2 < 2 ^ 14)
     else if o = 0x43 then decide (leAt d 20 2 < 4096)
     else if o = 0x70 then decide (leAt d 24 2 < 4096)
     else if o = 0xCB then decide (leAt d 16 1 ≤ 2) && decide (leAt d 17 1 < 4)
     else true)

/-- Check 0x06: lengths, inline space, width and alignment. `pkt` is PKT_BYTES of a viaduct, or 0 where it is not known. -/
def rangeOk (d : List Byte) (pkt : Nat) : Bool :=
  let o := leAt d 0 1
  let n := leAt d 1 1 % 16 + 1
  let len := leAt d 32 4
  match o with
  | 0x10 | 0x20 | 0x21 => decide (len ≤ 2 ^ 28) && (!(leAt d 2 1).testBit 4 || decide (len ≤ 16 * n - 64))
  | 0x11 | 0x22 => decide (len ≤ 2 ^ 28)
  | 0x24 =>
    let w := leAt d 41 1
    decide (w = 4 ∨ w = 8 ∨ w = 16) && decide (leAt d 16 8 % w = 0) && decide (leAt d 24 8 % w = 0)
  | 0x41 => decide (1 ≤ len) && decide (len ≤ 2 ^ 28)
  | 0x42 => decide (len % 4096 = 0)
  | 0x70 => decide (pkt = 0 ∨ len % max 1 pkt = 0)
  | 0xC0 =>
    let lg (i : Nat) : Bool := decide (6 ≤ leAt d i 1) && decide (leAt d i 1 ≤ 20)
    lg 29 && lg 30 && decide (leAt d 32 8 % 4096 = 0) && decide (leAt d 40 8 % 4096 = 0) && decide (leAt d 48 8 % 8 = 0) && decide (leAt d 56 8 % 8 = 0)
  | _ => true

/-- Check 0x09: tree id, chunk range, chunk and rank counts, rank. -/
def treeOk (d : List Byte) : Bool :=
  let o := leAt d 0 1
  match o with
  | 0x40 => decide (leAt d 40 4 < 4096) && decide (leAt d 44 2 ≤ leAt d 46 2)
  | 0x41 => decide (leAt d 40 4 < 4096)
  | 0x42 =>
    let rank := leAt d 44 2
    let ranks := leAt d 46 2
    decide (leAt d 40 4 < 4096) && decide (rank < ranks) && decide (ranks * (leAt d 32 4 / 4096) ≤ 65536)
  | _ => true

end Sys2Proof.Machine
end

