-- ==== Sys2Proof/Machine/Channels.lean ====
section
/-!
DEFINITION. Machine/Channels.lean: peer channels (R354–R362): their halves, acknowledgements, responses and refusals, the
retirement of packets and the end of the operations that sent them.
-/
namespace Sys2Proof.Machine

/-! ## Packets that leave without a scheduler (R68, R72, R470, R611) -/

/-- CNT_MIN or CNT_VAL for a packet sent on a candidate (R101). -/
def State.countPath (s : State) (i : Nat) : State :=
  if i ≤ 3 then s.count F.ROU_CNT_MIN_COUNT 0 else s.count F.ROU_CNT_VAL_COUNT 0

/-- A packet built here is sent on a path chosen when it is built: whether it was sent, and the candidate used as
destination router, index and path word. -/
def State.sendVia (s : State) (b : List Byte) (pipe tag : Nat) : Bool × Option (Nat × Nat × Nat) × State :=
  let dest := routerOf (pDst b)
  if dest = s.routerId then (true, none, s.sendBuilt b 0 pipe)
  else match s.choose dest (pTc b) pipe tag with
    | (some (i, w), s) => (true, some (dest, i, w), (s.countPath i).sendBuilt b w pipe)
    | (none, s) => (false, none, s.raise 689 0x01 (dest * 2 ^ 48 + tag))

def State.sendRouted (s : State) (b : List Byte) (pipe tag : Nat) : State := (s.sendVia b pipe tag).2.2

/-! ## Channels (R354) -/

def State.chan (s : State) (p : Nat) : Option Chan := mfind s.ep.chan p
def State.setChan (s : State) (p : Nat) (c : Chan) : State := s.setEp { s.ep with chan := minsert s.ep.chan p c }

/-- CHANNELS.OPEN of a unit. -/
def State.showOpen (s : State) (n : Nat) : State :=
  s.setFld F.REL_CHANNELS_OPEN ((s.ep.chan.filter (fun (e : Nat × Chan) => decide (e.1 % 16 = n))).length) n

/-- The channel of a local context and a remote fabric address. -/
def State.chanOf (s : State) (ctx remote : Nat) : Option Nat :=
  (s.ep.chan.find? (fun (e : Nat × Chan) => decide (e.2.ctx = ctx) && decide (e.2.remote = remote))).map (·.1)

/-- The channel of a context and a peer, opened where there is none; kind 0x09 where the table is full. The number of a new
channel is a free choice, and with every unit full, which of them reports is too (log 8). -/
def State.openChan (s : State) (ctx remote : Nat) : Option Nat × State :=
  match s.chanOf ctx remote with
  | some p => (some p, s)
  | none =>
    match s.freshId 65536 (fun i => (mfind s.ep.chan i).isSome) with
    | (some p, s) => (some p, (s.setChan p { ctx := ctx, remote := remote }).showOpen (p % 16))
    | (none, s) =>
      let (k, s) := s.takeFree
      (none, s.raise (656 + Config.choice k % 16) 0x09 remote)

/-- An operation or a message of this router still refers to a channel. -/
def State.chanUsed (s : State) (p : Nat) : Bool :=
  s.ep.op.any (fun (e : Nat × Op) => decide (e.2.chan = some p)) || s.ep.msg.any (fun (e : Nat × Msg) => decide (e.2.chan = p) && decide (e.2.st ≠ .unexpected))

/-- An entry whose halves are both reset, and which nothing references, is freed (R361). -/
def State.freeChan (s : State) (p : Nat) : State :=
  match s.chan p with
  | none => s
  | some c =>
    if c.txFresh ∧ c.rxFresh ∧ c.unret = [] ∧ ¬ s.chanUsed p then
      (s.setEp { s.ep with chan := merase s.ep.chan p }).showOpen (p % 16)
    else s

/-! ## The receive half (R356, R357) -/

/-- A sequence has been received: marked, or behind E. -/
def Chan.seen (c : Chan) (q : Nat) : Bool :=
  let d := seqDist 32 c.e q
  (decide (0 < d) && decide (d ≤ 2 ^ 31)) || c.marks.contains q

/-- E advances over marked sequences. -/
def Chan.advance (c : Chan) : Nat → Chan
  | 0 => c
  | k + 1 =>
    if c.marks.contains c.e then
      ({ c with marks := c.marks.filter (fun q => decide (q ≠ c.e)), e := (c.e + 1) % 2 ^ 32 }).advance k
    else c

def Chan.mark (c : Chan) (q : Nat) : Chan := ({ c with marks := c.marks ++ [q] }).advance (c.marks.length + 1)

def Chan.holdOf (c : Chan) (q : Nat) : Option RxEnt := c.rx.find? (fun r => decide (r.seq = q))

/-- A sequence is acknowledgeable (R356). -/
def Chan.ackable (c : Chan) (q : Nat) : Bool := c.seen q && (c.holdOf q).isNone

/-- The lowest sequence that is not acknowledgeable: one more than the cumulative sequence of R357. -/
def Chan.firstOpen (c : Chan) : Nat :=
  let base := (c.e + 2 ^ 31) % 2 ^ 32
  c.rx.foldl (fun m r => if seqDist 32 r.seq base < seqDist 32 m base then r.seq else m) c.e

/-- The acknowledgement extension (R41, R357). -/
def Chan.ackExt (c : Chan) (p : Nat) : List Byte :=
  let f := c.firstOpen
  beBytes 4 (f + 2 ^ 32 - 1) ++
    (List.range 32).map (fun j => BitVec.ofNat 8 (((List.range 8).map (fun i => if c.ackable ((f + 8 * j + i) % 2 ^ 32) then 2 ^ (7 - i) else 0)).sum)) ++
    beBytes 2 p ++ beBytes 1 (if c.ce then 1 else 0) ++ beBytes 1 0

/-- An ACK is built and sent (R357). -/
def State.sendRelAck (s : State) (p : Nat) : State :=
  match s.chan p with
  | none => s
  | some c =>
    let b := mkPacket { dst := c.remote, src := s.ownAddr c.ctx, opc := 0x60, tc := 7 } (c.ackExt p) []
    let s := s.setChan p { c with sinceAck := 0, ce := false }
    if s.armed F.REL_INJECT_DROP_ACK (p % 16) then s.setArmed F.REL_INJECT_DROP_ACK (p % 16) false
    else (s.count F.REL_CNT_ACK_TX_COUNT (p % 16)).sendRouted b c.pipe 0

/-- A packet has become acknowledgeable (R357). -/
def State.nowAckable (s : State) (p : Nat) (b : List Byte) (pipe : Nat) : State :=
  match s.chan p with
  | none => s
  | some c =>
    let n := c.sinceAck + 1
    let s := s.setChan p { c with sinceAck := n, ce := c.ce || pCe b, pipe := pipe }
    if pAckReq b ∨ max 1 (s.fld F.REL_ACK_CFG_COALESCE (p % 16)) ≤ n then s.sendRelAck p else s

/-- A received packet is held from acknowledgement, or held for another reason. -/
def State.holdRx (s : State) (p q : Nat) (h : Hold) (b : List Byte) (pipe : Nat) : State :=
  match s.chan p with
  | none => s
  | some c => s.setChan p { c with rx := c.rx.filter (fun r => decide (r.seq ≠ q)) ++ [{ seq := q, hold := h, bytes := b, pipe := pipe }] }

/-- A packet's hold ends, and it becomes acknowledgeable. -/
def State.unholdRx (s : State) (p q : Nat) : State :=
  match s.chan p with
  | none => s
  | some c =>
    match c.holdOf q with
    | none => s
    | some r => (s.setChan p { c with rx := c.rx.filter (fun r => decide (r.seq ≠ q)) }).nowAckable p r.bytes r.pipe

/-! ## Responses and refusals (R348, R365–R367) -/

/-- The offset of a request in its operation (R348). -/
def reqOffset (b : List Byte) : Nat :=
  if pOpc b = 0x22 then beAt (pPayload b) 0 4
  else if pOpc b ≤ 0x03 then beAt (pExt b) 16 4
  else 4096 * pChunk b

/-- A response to a request. -/
def respPacket (req : List Byte) (opc status : Nat) (payload : List Byte) : List Byte :=
  mkPacket { dst := pSrc req, src := pDst req, seq := pSeq req, opc := opc, tc := pTc req, tag := pTag req, chunk := pChunk req }
    (beBytes 4 (reqOffset req) ++ beBytes 1 status ++ beBytes 3 0) payload

/-- The status of a refusal reason (Table 4). -/
def reasonStatus (r : Nat) : Nat :=
  if r = 0x04 then 0x0C else if r = 0x0C ∨ r = 0x0D ∨ r = 0x0E then 0x03 else if r = 0x0F then 0x0E else 0x02

/-- The region word that a request carries. -/
def regionWord (b : List Byte) : Nat := if 0x20 ≤ pOpc b then beAt (pExt b) 4 4 else 0

/-- An ACCESS_NAK for a request. -/
def nakPacket (req : List Byte) (status reason addr : Nat) : List Byte :=
  respPacket req 0x26 status (beBytes 8 addr ++ beBytes 1 reason ++ beBytes 3 0 ++ beBytes 4 (regionWord req))

/-- A request is refused: ACCESS_NAK, its hold, kind 0x01 and the count (R366, R367); refusals with reason 0x04 count for the
revocation (R371). -/
def State.refuse (s : State) (p : Nat) (req : List Byte) (pipe reason addr : Nat) : State :=
  let nak := nakPacket req (reasonStatus reason) reason addr
  let s := (s.sendRouted nak pipe (pTag req)).holdRx p (pSeq req) (.refused nak) req pipe
  let s := match s.ep.revoke with
    | some r => if reason = 0x04 ∧ regionWord req % 2 ^ 20 = r.region then s.setEp { s.ep with revoke := some { r with refused := min (r.refused + 1) (2 ^ 32 - 1) } } else s
    | none => s
  (s.count F.REL_CNT_REFUSED_COUNT (p % 16)).raise (656 + p % 16) 0x01 (reason * 2 ^ 56 + pOpc req * 2 ^ 48 + p * 2 ^ 32 + pSrc req)

/-! ## The end of an operation (R22, R350, R364, R366) -/

/-- Unretired packets of an operation. -/
def State.opUnret (s : State) (o : Op) (tag : Nat) : Nat :=
  match o.chan.bind s.chan with
  | none => 0
  | some c => (c.unret.filter (fun t => decide (t.tag = some tag))).length

/-- The operation completes, where everything it waits for has come about. Receives, collectives, viaducts and management
operations end by their own events. -/
def State.opCheck (s : State) (tag : Nat) : State :=
  match s.op tag with
  | none => s
  | some o =>
    if 0 < s.opUnret o tag then s
    else
      let fin (s : State) (st det : Nat) : State :=
        let s := s.finishOp tag st (if st = 0 then o.len else 0) 0 det
        match o.chan with
        | some p => s.freeChan p
        | none => s
      match o.fail with
      | some (_, st, det) => if o.stop then fin s st det else s
      | none =>
        if ¬ o.started ∨ o.built < o.segs then s
        else if o.opc = 0x20 ∨ o.opc = 0x21 then fin s 0 0
        else if o.opc = 0x10 then (if o.rdv then s else fin s 0 0)
        else if (o.opc = 0x22 ∨ o.opc = 0x24) ∧ o.segs ≤ o.done.length then fin s 0 0
        else s

/-- An operation fails with a status once its sent packets are retired: the failure of the lowest sequence counts; 2^32 stands
for a failure that concerns no packet sent (R366). It sends nothing further. -/
def State.failOp (s : State) (tag q status detail : Nat) : State :=
  match s.op tag with
  | none => s
  | some o =>
    let earlier := match o.fail with
      | none => true
      | some (r, _, _) => decide (q ≠ 2 ^ 32) && (decide (r = 2 ^ 32) || (decide (q ≠ r) && decide (seqDist 32 r q < 2 ^ 31)))
    let o := { o with stop := true, fail := if earlier then some (q, status, detail) else o.fail, ready := [] }
    ((s.unqueue tag).setOp tag o).opCheck tag

/-- An unretired packet is retired (R358). -/
def State.dropTx (s : State) (p q : Nat) : State :=
  match s.chan p with
  | none => s
  | some c =>
    let s := s.setChan p { c with unret := c.unret.filter (fun t => decide (t.seq ≠ q)) }
    { s with sch := { s.sch with q := (s.sch.q.map (fun (e : Nat × InjQ) => (e.1, { e.2 with
        retx := e.2.retx.filter (fun r => decide (r ≠ (p, q))),
        head := (match e.2.head with
          | some h => if h.retx = some (p, q) then none else some h
          | none => none) }))).filter (fun (e : Nat × InjQ) => decide (e.2 ≠ ({} : InjQ))) } }

/-- A send half may send its next new packet: the window is open (R355), and it does not wait for its reset (R361). -/
def State.chanOpenTx (s : State) (p : Nat) (c : Chan) : Bool :=
  let n := p % 16
  let idle := s.clk - c.sentAt
  match c.unret with
  | [] => c.txFresh || decide (idle + 2000 * s.fld F.REL_IDLE_LIFE_US n < 1000 * s.fld F.REL_IDLE_TX_IDLE_US n)
  | t :: _ => decide (seqDist 32 c.next t.seq < 4096)

/-- The unretired packet of a sequence. -/
def Chan.tx (c : Chan) (q : Nat) : Option TxPk := c.unret.find? (fun t => decide (t.seq = q))

/-- A packet is retired as done, and its operation is looked at. -/
def State.retire (s : State) (p q : Nat) : State :=
  match (s.chan p).bind (fun c => c.tx q) with
  | none => s
  | some t =>
    let s := s.dropTx p q
    match t.tag with
    | none => s
    | some g =>
      match s.op g with
      | none => s
      | some o => (s.setOp g { o with retired := o.retired + 1 }).opCheck g

/-- A channel fails: every operation with an unretired packet on it completes with status 0x0B, and so does a receive whose
pull it carried (R360). -/
def State.chanFail (s : State) (p : Nat) : State :=
  match s.chan p with
  | none => s
  | some c =>
    let tags := c.unret.filterMap (fun t => t.tag)
    let msgs := c.unret.filterMap (fun t => t.msg.map (·.1))
    let s := s.setChan p { c with unret := [], sentAt := s.clk }
    let s := c.unret.foldl (fun s t => s.dropTx p t.seq) s
    let s := (s.count F.REL_CNT_UNREACH_COUNT (p % 16)).raise (656 + p % 16) 0x02 (p * 2 ^ 32 + c.remote)
    let s := tags.foldl (fun s g => match s.op g with
      | some o => (s.unqueue g).setOp g { o with stop := true, fail := some (0, 0x0B, 0) }
      | none => s) s
    let s := tags.foldl (fun s g => s.opCheck g) s
    msgs.foldl (fun s m => match mfind s.ep.msg m with
      | some x => s.setEp { s.ep with msg := minsert s.ep.msg m { x with bad := x.bad.or (some (0x0B, x.tag)) } }
      | none => s) s

end Sys2Proof.Machine
end

