-- ==== Sys2Proof/Machine/Sched.lean ====
section
/-!
DEFINITION. Machine/Sched.lean: the packets of an operation, and the injection schedulers with their shapers (chapter 18).
-/
namespace Sys2Proof.Machine

/-! ## The packets of an operation (R323, R335, R346, R347, R349) -/

/-- The remote-memory extension (R41). -/
def remExt (key region addr len w : Nat) : List Byte :=
  beBytes 4 key ++ beBytes 4 region ++ beBytes 8 addr ++ beBytes 4 len ++ beBytes 4 w

/-- The match extension (R41). -/
def matchExt (tag mseq len off comm : Nat) : List Byte :=
  beBytes 8 tag ++ beBytes 4 mseq ++ beBytes 4 len ++ beBytes 4 off ++ beBytes 2 comm ++ beBytes 2 0

/-- The next packet of an operation, with SEQ 0, where its payload has been read. A collective's packets stand built in `ready`. -/
def State.opPacket (s : State) (tag : Nat) (o : Op) : Option (List Byte) :=
  let k := o.built
  let len := o.len
  let h : PktHead := { dst := o.dest, src := s.ownAddr o.ctx, opc := o.opc, tc := o.tc, fence := o.fence, tag := tag, chunk := k, first := decide (k = 0), last := decide (k + 1 = o.segs) }
  match o.opc with
  | 0x10 =>
    let ext (off : Nat) := matchExt (o.dByte 24 8) (o.mseq.getD 0) len off (o.dByte 36 2)
    if o.rdv then some (mkPacket { h with opc := 0x01 } (ext 0) (beBytes 8 o.laddr))
    else (mfind o.ready k).map (fun d => mkPacket { h with opc := 0x00 } (ext (4096 * k)) d)
  | 0x20 => (mfind o.ready k).map (mkPacket h (remExt (o.dByte 36 4) (o.dByte 40 4) (o.dByte 24 8 + 4096 * k) len 0))
  | 0x21 => (mfind o.ready k).map (mkPacket h (remExt (o.dByte 36 4) (o.dByte 40 4) (o.dByte 24 8 + 4096 * k) len (o.dByte 44 4)))
  | 0x22 => some (mkPacket h (remExt (o.dByte 36 4) (o.dByte 40 4) (o.dByte 24 8 + 4096 * k) len 0) (beBytes 4 (4096 * k) ++ beBytes 4 (segLen len k)))
  | 0x24 =>
    some (mkPacket h (remExt (o.dByte 32 4) (o.dByte 36 4) (o.dByte 24 8) len (o.dByte 40 1 * 2 ^ 24 + len * 2 ^ 16))
      (slice o.desc 48 len ++ slice o.desc 64 len))
  | _ => mfind o.ready k

/-- A packet with header fields changed: its checks computed again. -/
def reseal (b : List Byte) : List Byte :=
  let body := sealHdr (slice b 0 32) ++ slice b 32 (b.length - 36)
  body ++ beBytes 4 (e2eCrc (body ++ beBytes 4 0)).toNat

def withSeq (b : List Byte) (q : Nat) : List Byte := reseal (overwrite b 16 (beBytes 4 q))
def withRetx (b : List Byte) : List Byte := reseal (setFlag b 4 true)

/-- A packet that travels on a peer channel (R355). -/
def isChannelPkt (o : Nat) : Bool := decide (o ≤ 0x03) || decide (o = 0x20) || decide (o = 0x21) || decide (o = 0x22) || decide (o = 0x24)

/-! ## Queues (R471–R474) -/

def State.injQ (s : State) (key : Nat) : InjQ := mget {} s.sch.q key
def State.setInjQ (s : State) (key : Nat) (x : InjQ) : State := { s with sch := { s.sch with q := mput {} s.sch.q key x } }

/-- The queue of an operation: SCH × 256 + 32 × TC + FLOW (R470, R471). -/
def State.opKey (s : State) (o : Op) : Nat := s.portTile (s.ctx o.ctx).port / 2 * 256 + 32 * o.tc + o.flow

/-- The source pipeline of an operation (R610). -/
def State.opPipe (s : State) (o : Op) : Nat := s.portTile (s.ctx o.ctx).port

/-- The later of two tags modulo 2^48 (R474). -/
def laterTag (a b : Nat) : Nat := if (b + 2 ^ 48 - a % 2 ^ 48) % 2 ^ 48 < 2 ^ 47 then b else a

/-- Something joins a queue: a queue that was empty forgets its last finish tag (R474). -/
def InjQ.fresh (x : InjQ) : InjQ := if x.retx = [] ∧ x.ops = [] ∧ x.head.isNone then { x with lastF := none } else x

/-- A packet becomes head of a queue with its tags (R474). -/
def State.putHead (s : State) (key : Nat) (h : InjHead) : State :=
  let k := key / 256
  let x := s.injQ key
  let v := s.fld F.SCH_VTIME_V k
  let st := match x.lastF with
    | none => v
    | some f => laterTag v f
  let w := max 1 (s.fld F.SCH_QCFG_WEIGHT k (key % 256))
  let f := (st + (wireLen h.bytes.length * 65536 + w - 1) / w) % 2 ^ 48
  s.setInjQ key { x with head := some { h with fin := f }, lastF := some f }

/-- No candidate is valid for a packet: kind 0x01 and the count (R72). -/
def State.noRoute (s : State) (dest tag : Nat) : State :=
  (s.count F.ROU_CNT_NOROUTE_COUNT 0).raise 689 0x01 (dest * 2 ^ 48 + tag)

/-- The next packet of a queue becomes its head, its path chosen (R472, R611): a retransmission before any new packet. A packet
without a route ends its operation (R72), and the next is taken. The fuel bounds the packets passed over. -/
def State.makeHeadN (s : State) (key : Nat) : Nat → State
  | 0 => s
  | n + 1 =>
    let x := s.injQ key
    let isNew : Bool := match x.head with
      | some h => h.retx.isNone
      | none => true
    match x.retx with
    | (p, q) :: rest =>
      if !isNew then s
      else match (s.chan p).bind (fun c => c.tx q) with
        | none => (s.setInjQ key { x with retx := rest }).makeHeadN key n
        | some t =>
          let b := withRetx t.bytes
          let dest := routerOf (pDst b)
          let tag := t.tag.getD 0
          let pipe := match s.op tag with
            | some o => s.opPipe o
            | none => 0
          if dest = s.routerId then s.putHead key { tag := tag, retx := some (p, q), bytes := b, dest := dest, pipe := pipe, fin := 0 }
          else match s.chooseFor dest (pTc b) pipe tag with
            | (some c, s) => s.putHead key { tag := tag, retx := some (p, q), bytes := b, dest := dest, pipe := pipe, cand := some c, fin := 0 }
            | (none, s) => (((s.noRoute dest tag).dropTx p q).failOp tag q 0x01 0).makeHeadN key n
    | [] =>
      if x.head.isSome then s
      else match x.ops with
        | [] => s
        | tag :: rest =>
          match s.op tag with
          | none => (s.setInjQ key { x with ops := rest }).makeHeadN key n
          | some o =>
            match s.opPacket tag o with
            | none => s
            | some b =>
              let dest := routerOf (pDst b)
              let pipe := s.opPipe o
              if dest = s.routerId then s.putHead key { tag := tag, bytes := b, dest := dest, pipe := pipe, fin := 0 }
              else match s.chooseFor dest o.tc pipe tag with
                | (some c, s) => s.putHead key { tag := tag, bytes := b, dest := dest, pipe := pipe, cand := some c, fin := 0 }
                | (none, s) => ((s.noRoute dest tag).failOp tag (2 ^ 32) 0x01 0).makeHeadN key n

def State.makeHead (s : State) (key : Nat) : State := s.makeHeadN key ((s.injQ key).retx.length + (s.injQ key).ops.length + 1)

/-- An operation with packets to send joins its queue (R472). -/
def State.injectOp (s : State) (tag : Nat) : State :=
  match s.op tag with
  | none => s
  | some o =>
    let key := s.opKey o
    let x := (s.injQ key).fresh
    if hasPeer o.opc ∧ o.chan.isNone then s else
    if x.ops.contains tag then s.makeHead key
    else (s.setInjQ key { x with ops := x.ops ++ [tag] }).makeHead key

/-- A retransmission joins its operation's queue, ahead of every new packet (R472). -/
def State.injectRetx (s : State) (key p q : Nat) : State :=
  let x := (s.injQ key).fresh
  (s.setInjQ key { x with retx := x.retx ++ [(p, q)] }).makeHead key

/-! ## Eligibility and selection (R473, R475, R478) -/

/-- A shaper's token count, signed (R477). -/
def State.tokens (s : State) (k i : Nat) : Int := signedOf 32 (s.fld F.SCH_SHAPER_TOKENS k i)
def State.setTokens (s : State) (k i : Nat) (v : Int) : State := s.setFld F.SCH_SHAPER_TOKENS (ofSigned 32 v) k i

/-- The shaper of a queue conforms, or it has none (R478, R493). -/
def State.conforms (s : State) (k q : Nat) : Bool :=
  !s.flag F.SCH_QCFG_SHAPED k q || !s.flag F.SCH_CFG_SHAPE_EN k || decide (0 < s.tokens k (s.fld F.SCH_QCFG_SHAPER k q))

/-- The channel of a head may send a new packet (R355, R361). -/
def State.chanWindowOpen (s : State) (h : InjHead) : Bool :=
  match (s.op h.tag).bind (fun o => o.chan) with
  | none => true
  | some p => match s.chan p with
    | none => true
    | some c => s.chanOpenTx p c

/-- Why a head is not eligible: 1 shaper, 2 window, 3 output queue (R473). -/
def State.blocked (s : State) (k q : Nat) (h : InjHead) : Option Nat :=
  if ¬ s.conforms k q then some 1
  else if h.retx.isNone ∧ isChannelPkt (pOpc h.bytes) ∧ ¬ s.chanWindowOpen h then some 2
  else match h.cand with
    | some (_, w) => if max 1 (s.fld F.SCH_CFG_OUTQ_CELLS k) * 64 ≤ s.qCells (s.outQ (wHop w 0) (pTc h.bytes) 0) then some 3 else none
    | none => none

/-- A head is chosen again where its first link has reached level 255 (R611). -/
def State.rechoose (s : State) (key : Nat) : State :=
  match (s.injQ key).head with
  | none => s
  | some h =>
    match h.cand with
    | none => s
    | some (_, w) =>
      if s.level (wHop w 0) ≠ 255 then s
      else match s.chooseFor h.dest (pTc h.bytes) h.pipe h.tag with
        | (some c, s) => s.setInjQ key { s.injQ key with head := some { h with cand := some c } }
        | (none, s) =>
          let s := s.noRoute h.dest h.tag
          (match h.retx with
          | some (p, q) => (s.dropTx p q).failOp h.tag q 0x01 0
          | none => s.failOp h.tag (2 ^ 32) 0x01 0).makeHead key

/-- The packet of a head leaves: a new channel packet takes its sequence and waits for retirement; its copy goes to its output
queue, or to the endpoint blocks of this router (R68, R355, R359). -/
def State.letIn (s : State) (key : Nat) : State :=
  let k := key / 256
  let x := s.injQ key
  match x.head with
  | none => s
  | some h =>
    let s := (s.setFld F.SCH_VTIME_V h.fin k).count F.SCH_CNT_ADMIT_COUNT k
    let i := s.fld F.SCH_QCFG_SHAPER k (key % 256)
    let s := if s.flag F.SCH_QCFG_SHAPED k (key % 256) then s.setTokens k i (s.tokens k i - wireLen h.bytes.length) else s
    let cand := h.cand.map (fun c => (h.dest, c.1, c.2))
    let (b, s) : List Byte × State := match h.retx with
      | some (p, q) =>
        let s := s.setInjQ key { x with head := none, retx := x.retx.drop 1 }
        (h.bytes, match s.chan p with
        | none => s
        | some c => s.setChan p { c with sentAt := s.clk, unret := c.unret.map (fun t => if t.seq = q then { t with queued := false, cand := cand } else t) })
      | none =>
        match s.op h.tag with
        | none => (h.bytes, s.setInjQ key { x with head := none })
        | some o =>
          let o' := { o with built := o.built + 1, sent := true, ready := merase o.ready o.built }
          let s := s.setInjQ key { x with head := none, ops := if o'.built < o.segs then x.ops else x.ops.filter (fun t => decide (t ≠ h.tag)) }
          let s := s.setOp h.tag o'
          match (if isChannelPkt (pOpc h.bytes) then o.chan else none) with
          | none => (h.bytes, s)
          | some p =>
            match s.chan p with
            | none => (h.bytes, s)
            | some c =>
              let b := withSeq h.bytes c.next
              let t : TxPk := { seq := c.next, opc := pOpc b, tag := some h.tag, bytes := b, cand := cand }
              (b, (s.setChan p { c with next := (c.next + 1) % 2 ^ 32, unret := c.unret ++ [t], sentAt := s.clk, txFresh := false }).count F.REL_CNT_SENT_COUNT (p % 16))
    let s := match h.cand with
      | some (i, w) => (s.countPath i).sendBuilt b w h.pipe
      | none => s.sendBuilt b 0 h.pipe
    s.makeHead key

/-- An uncorrectable queue state: V is kept and every queue becomes newly active at its next head (R495). -/
def State.queueStateLost (s : State) (k : Nat) : State :=
  match s.sch.q.find? (fun (e : Nat × InjQ) => decide (e.1 / 256 = k) && e.2.head.isSome) with
  | none => s
  | some (key, _) =>
    let s := (s.setArmed F.SCH_INJECT_QSTATE_ECC k false).raise (672 + k) 0x01 (key % 256)
    { s with sch := { s.sch with q := (s.sch.q.map (fun (e : Nat × InjQ) => if e.1 / 256 = k then (e.1, { e.2 with lastF := none }) else e)) } }

/-- The heads of a scheduler: (F − V as a signed distance plus 2^47, key), lowest first. -/
def State.headOrder (s : State) (k : Nat) : List (Nat × Nat) :=
  let v := s.fld F.SCH_VTIME_V k
  let hs := s.sch.q.filterMap (fun (e : Nat × InjQ) => if e.1 / 256 = k then e.2.head.map (fun h => ((h.fin + 2 ^ 48 + 2 ^ 47 - v) % 2 ^ 48, e.1)) else none)
  hs.mergeSort (fun a b => decide (a.1 < b.1) || (decide (a.1 = b.1) && decide (a.2 ≤ b.2)))

/-- SCH_SELECT (R475): up to four eligible heads of those standing, in ascending finish tag, the lower queue among equals.
A head passed over counts under its reason (R493). -/
def execSchSelect (k : Fin 16) (s : State) : Out :=
  if s.safe then .next s
  else
    let s := if s.armed F.SCH_INJECT_QSTATE_ECC k.val then s.queueStateLost k.val else s
    let keys := (s.headOrder k.val).map (·.2)
    let s := keys.foldl (fun s key => s.rechoose key) s
    let (_, s) := ((s.headOrder k.val).map (·.2)).foldl (fun (acc : Nat × State) key =>
      let (n, s) := acc
      if 4 ≤ n then (n, s)
      else match (s.injQ key).head with
        | none => (n, s)
        | some h => match s.blocked k.val (key % 256) h with
          | some 1 => (n, s.count F.SCH_CNT_SHAPED_COUNT k.val)
          | some 2 => (n, s.count F.SCH_CNT_WINDOW_COUNT k.val)
          | some _ => (n, s.count F.SCH_CNT_OUTQ_COUNT k.val)
          | none => (n + 1, s.letIn key)) (0, s)
    .next s

/-! ## Refills (R477–R481) -/

/-- One shaper's refill, with the RATE and BURST that stand now (R479). -/
def State.refillShaper (s : State) (k i : Nat) : State :=
  let v := min (s.tokens k i + s.fld F.SCH_SHAPER_RATE k i) (max 4396 (s.fld F.SCH_SHAPER_BURST k i) : Nat)
  if v = s.tokens k i then s else s.setTokens k i v

/-- SHAPER_REFILL (R477–R479). -/
def execShaperRefill (k : Fin 16) (s : State) : Out :=
  .next ((List.range 32).foldl (fun s i => s.refillShaper k.val i) s)

/-- One policer's refill (R480, R481). -/
def State.refillPolicer (s : State) (k i : Nat) : State :=
  let cir := s.fld F.SCH_POLICER_CIR k i
  let pir := max cir (s.fld F.SCH_POLICER_PIR k i)
  let p := mget {} s.sch.pol (k * 32 + i)
  let p := { p with tc := min (p.tc + cir) (max 4396 (s.fld F.SCH_POLICER_CBS k i)), tp := min (p.tp + pir) (max 4396 (s.fld F.SCH_POLICER_PBS k i)) }
  { s with sch := { s.sch with pol := mput {} s.sch.pol (k * 32 + i) p } }

/-- POLICER_REFILL (R480, R481). -/
def execPolicerRefill (k : Fin 16) (s : State) : Out :=
  .next ((List.range 32).foldl (fun s i => s.refillPolicer k.val i) s)

/-- SCH_INJECT_QSTATE_ECC (R493). -/
def execSchInjectQstateEcc (k : Fin 16) (s : State) : Out := .next (s.setArmed F.SCH_INJECT_QSTATE_ECC k.val true)

end Sys2Proof.Machine
end

