-- ==== Sys2Proof/Machine/Match.lean ====
section
/-!
DEFINITION. Machine/Match.lean: message matching (chapter 12): posted receives, messages held, unexpected and bound, their
deposits, rendezvous pulls and closings, and the hook records.
-/
namespace Sys2Proof.Machine

def State.mat (s : State) (n : Nat) : Mat := mget {} s.ep.mat n
def State.msg (s : State) (i : Nat) : Option Msg := mfind s.ep.msg i

/-- POSTED, UNEXP and MSG_ACTIVE of a unit (R344). -/
def State.showMat (s : State) (n : Nat) : State :=
  let ms := s.ep.msg.filter (fun (e : Nat × Msg) => decide (matOf e.2.ctx = n))
  let un := (ms.filter (fun (e : Nat × Msg) => decide (e.2.st = .held) || decide (e.2.st = .unexpected))).length
  ((s.setFld F.MAT_POSTED_COUNT (s.mat n).posts.length n).setFld F.MAT_UNEXP_RECORDS un n).setFld F.MAT_MSG_ACTIVE_COUNT ms.length n

def State.setMat (s : State) (n : Nat) (m : Mat) : State := (s.setEp { s.ep with mat := mput {} s.ep.mat n m }).showMat n
def State.setMsg (s : State) (i : Nat) (m : Msg) : State := (s.setEp { s.ep with msg := minsert s.ep.msg i m }).showMat (matOf m.ctx)
def State.dropMsg (s : State) (i : Nat) : State :=
  match s.msg i with
  | none => s
  | some m => (s.setEp { s.ep with msg := merase s.ep.msg i }).showMat (matOf m.ctx)

/-- The number of a new message entry: entries stand in the order in which they were made. -/
def State.newMsg (s : State) : Nat := match s.ep.msg.getLast? with
  | some (i, _) => i + 1
  | none => 0

/-! ## The match rule (R327, R328, R342) -/

/-- A message fits a posted receive (R327). -/
def Post.fits (p : Post) (m : Msg) : Bool :=
  decide (m.comm = p.comm) && (p.anySrc || decide (m.src = p.src)) && decide ((m.tag ^^^ p.tag) ||| p.ignore = p.ignore)

/-- A receive that sits in its context's wildcard list (R342). -/
def Post.wild (p : Post) : Bool := p.anySrc || decide (p.ignore ≠ 0)

/-- The bytes of a message that its receive takes. -/
def Msg.cap (m : Msg) : Nat := match m.st with
  | .bound p => min m.len p.len
  | _ => 0

/-- The segments that must land (R333): those of the message, or of what is pulled (R335). -/
def Msg.total (m : Msg) : Nat := ((if m.rdv.isSome then m.cap else m.len) + 4095) / 4096

/-! ## Hook records (R343) -/

/-- A hook record (Table 4). -/
def hookRec (type ctx mseq detail status len : Nat) : List Byte :=
  leBytes 1 type ++ leBytes 3 ctx ++ leBytes 4 mseq ++ leBytes 4 detail ++ leBytes 1 status ++ leBytes 3 (min len 0xFFFFFF)

/-- A hook record is pushed where HOOK_CFG asks for it; behind a waiting record, or at a full queue, it waits (R343). A queue
that is not valid takes nothing (log 23). -/
def State.hook (s : State) (c type mseq detail status len : Nat) : State :=
  let n := matOf c
  if s.flag F.MAT_HOOK_CFG_EN n ∧ (type = 4 ∨ (s.fld F.MAT_HOOK_CFG_MASK n).testBit (type - 1)) then
    let q := s.fld F.MAT_HOOK_CFG_QUEUE n
    let r := hookRec type c mseq detail status len
    if ¬ s.qValid q then s
    else if (s.mat n).hooks ≠ [] ∨ s.qFull q then s.setMat n { s.mat n with hooks := (s.mat n).hooks ++ [(c, r)] }
    else s.qAppend q r
  else s

/-- The decisions of a context wait behind a hook record (R343). -/
def State.hookBlocked (s : State) (c : Nat) : Bool := (s.mat (matOf c)).hooks.any (fun h => decide (h.1 = c))

/-! ## Packets outside the schedulers -/

/-- A packet that the device builds for a channel: it takes the next sequence and is sent; a packet without a route is not
(R72, R355). -/
def State.sendChan (s : State) (p : Nat) (c : Chan) (h : PktHead) (ext payload : List Byte) (msg : Option (Nat × Nat)) : Bool × State :=
  let b := mkPacket { h with seq := c.next } ext payload
  let pipe := s.portTile (s.ctxPort c.ctx)
  let (ok, cand, s) := s.sendVia b pipe h.tag
  if ok then
    let t : TxPk := { seq := c.next, opc := h.opc, tag := none, bytes := b, msg := msg, cand := cand }
    (true, (s.setChan p { c with next := (c.next + 1) % 2 ^ 32, unret := c.unret ++ [t], sentAt := s.clk, txFresh := false }).count F.REL_CNT_SENT_COUNT (p % 16))
  else (false, s)

/-! ## Rendezvous (R335, R337) -/

/-- The channel over which a message's source is reached, opened again where it has been freed (R354). -/
def State.msgChan (s : State) (i : Nat) (m : Msg) : Option (Nat × Chan) × State :=
  match (s.chan m.chan).filter (fun c => decide (c.ctx = m.ctx) && decide (c.remote = m.src)) with
  | some c => (some (m.chan, c), s)
  | none =>
    match s.openChan m.ctx m.src with
    | (none, s) => (none, s)
    | (some p, s) => ((s.chan p).map (fun c => (p, c)), s.setMsg i { m with chan := p })

/-- Segments of a rendezvous are pulled while PULL_WINDOW and the channel allow (R335). The fuel bounds the packets sent. -/
def State.pullN (s : State) (i : Nat) : Nat → State
  | 0 => s
  | k + 1 =>
    match s.msg i with
    | none => s
    | some m =>
      match m.st, m.rdv with
      | .bound _, some (laddr, rtag) =>
        let win := max 1 (s.fld F.MAT_RDV_PULL_WINDOW (matOf m.ctx))
        if m.bad.isSome ∨ m.closing.isSome ∨ m.total ≤ m.pulled ∨ win + m.seen.length ≤ m.pulled then s
        else match s.msgChan i m with
        | (none, s) => s
        | (some (p, c), s) =>
          if ¬ s.chanOpenTx p c then s
          else
          let m := { m with chan := p }
          let j := m.pulled
          let h : PktHead := { dst := m.src, src := s.ownAddr m.ctx, opc := 0x22, tc := m.tc, tag := m.pullTag, chunk := j, first := decide (j = 0), last := decide (j + 1 = m.total) }
          match s.sendChan m.chan c h (remExt 0xFFFFFFFF (rtag * 65536 + m.mseq % 65536) (laddr + 4096 * j) m.cap 0)
              (beBytes 4 (4096 * j) ++ beBytes 4 (segLen m.cap j)) (some (i, j)) with
          | (true, s) => (s.setMsg i { m with pulled := j + 1 }).pullN i k
          | (false, s) => s.setMsg i { m with bad := some (0x01, m.tag) }
      | _, _ => s

def State.pull (s : State) (i : Nat) : State := s.pullN i 256

/-- A closing packet of a rendezvous is sent once the channel allows, and its entry is given up (R337). -/
def State.sendClosing (s : State) (i : Nat) : State :=
  match s.msg i with
  | none => s
  | some m =>
    match m.closing with
    | none => s
    | some (opc, pay) =>
      match s.msgChan i m with
      | (none, s) => s
      | (some (p, c), s) =>
        if ¬ s.chanOpenTx p c then s
        else
          let h : PktHead := { dst := m.src, src := s.ownAddr m.ctx, opc := opc, tc := m.tc, tag := m.pullTag, first := true, last := true }
          let s := (s.sendChan p c h (matchExt m.tag m.mseq m.len 0 m.comm) pay none).2
          (if opc = 0x03 then s.count F.MAT_CNT_CANCEL_COUNT (matOf m.ctx) else s).dropMsg i

/-! ## The end of a message (R333) -/

/-- A message leaves its receive: the receive completes, and a rendezvous is closed (R333, R337). -/
def State.endMsg (s : State) (i : Nat) (m : Msg) (p : Post) (status len detail : Nat) : State :=
  let close : Option (Nat × List Byte) :=
    if m.rdv.isNone then none
    else if status = 0 ∨ status = 4 then some (0x02, beBytes 4 m.cap)
    else if status = 2 then some (0x03, [0x02#8, 0#8, 0#8, 0#8])
    else none
  let s := match close with
    | some c => (s.setMsg i { m with closing := some c }).sendClosing i
    | none => s.dropMsg i
  if p.handler then s.hook m.ctx 4 m.mseq p.id status len
  else s.finishOp p.id status len m.src detail

/-- A message is looked at: it ends when every segment has landed, or, having failed, when its accesses have ended. -/
def State.msgCheck (s : State) (i : Nat) : State :=
  match s.msg i with
  | none => s
  | some m =>
    match m.st with
    | .bound p =>
      let jobs : Bool := s.ep.job.any (fun (e : Nat × Job) => match e.2.who with
        | .recv k _ => decide (k = i)
        | _ => false)
      let pulls : Bool := match s.chan m.chan with
        | some c => c.unret.any (fun t => match t.msg with
          | some (k, _) => decide (k = i)
          | none => false)
        | none => false
      if m.closing.isSome then s.sendClosing i
      else match m.bad with
        | some (st, det) => if jobs ∨ pulls then s else s.endMsg i m p st 0 det
        | none => if m.landed.length = m.total then s.endMsg i m p (if p.len < m.len then 4 else 0) m.cap m.tag else s.pull i
    | _ => s

/-! ## Deposits (R332, R333) -/

/-- A segment's bytes are deposited in the receive's buffer; bytes above it are discarded. `b` is the packet that carried them, or
nothing for a staged or pulled segment. -/
def State.deposit (s : State) (i k : Nat) (d : List Byte) (b : List Byte) (pipe : Nat) : State :=
  match s.msg i with
  | none => s
  | some m =>
    match m.st with
    | .bound p =>
      let o := 4096 * k
      if p.len ≤ o ∨ d = [] ∨ m.bad.isSome then s.setMsg i { m with landed := m.landed ++ [k] }
      else
        let n := min d.length (p.len - o)
        s.localJob { who := .recv i k, ctx := m.ctx, space := 0, va := p.buf + o, len := n, write := true, data := d.take n, pkt := b, pipe := pipe }
    | _ => s

/-- The SRAM units of staged payload at a unit (R464). -/
def State.unexpUnits (s : State) (n : Nat) : Nat :=
  ((s.ep.msg.filter (fun (e : Nat × Msg) => decide (matOf e.2.ctx = n) && decide (e.2.inHbm = some false))).map (fun e =>
    (e.2.staged.map (fun x => (x.2.length + 255) / 256)).sum)).sum

/-- A segment's payload is staged with its message; the first decides the place (R338, R464). -/
def State.stage (s : State) (i k : Nat) (d : List Byte) : State :=
  match s.msg i with
  | none => s
  | some m =>
    let place := m.inHbm.getD (s.unexpDecide m.ctx m.len (s.unexpUnits (matOf m.ctx)))
    s.setMsg i { m with staged := minsert m.staged k d, inHbm := if d = [] then m.inHbm else some place }

/-! ## Matching (R329–R331) -/

/-- A message is bound to a receive (R330): staged payload is copied, a rendezvous is pulled. -/
def State.bind (s : State) (i : Nat) (p : Post) : State :=
  match s.msg i with
  | none => s
  | some m =>
    let n := matOf m.ctx
    let s := s.count F.MAT_CNT_MATCH_COUNT n
    let s := if p.len < m.len then (s.count F.MAT_CNT_TRUNC_COUNT n).hook m.ctx 2 m.mseq m.len 0 0 else s
    let s := s.setMsg i { m with st := .bound p, staged := [], pullTag := if p.handler then 0 else p.id }
    let s := if m.rdv.isSome then s.count F.MAT_CNT_RDV_COUNT n else s
    (m.staged.foldl (fun s x => s.deposit i x.1 x.2 [] 0) s).msgCheck i

/-- A message is matched: the oldest fitting receive takes it, or it becomes unexpected (R330). -/
def State.matchMsg (s : State) (i : Nat) : State :=
  match s.msg i with
  | none => s
  | some m =>
    let n := matOf m.ctx
    let u := s.mat n
    let mine := u.posts.filter (fun p => decide (p.ctx = m.ctx))
    let wild := mine.filter Post.wild
    let scanned := match wild.findIdx? (fun p => p.fits m) with
      | some j => j + 1
      | none => wild.length
    let s := if scanned = 0 then s else s.count F.MAT_CNT_WILD_SCAN_COUNT n scanned
    match mine.find? (fun p => p.fits m) with
    | some p => (s.setMat n { s.mat n with posts := u.posts.filter (fun x => decide (x.stamp ≠ p.stamp)) }).bind i p
    | none =>
      let s := s.setMat n { s.mat n with order := u.order + 1 }
      let s := (s.setMsg i { m with st := .unexpected, order := u.order }).count F.MAT_CNT_UNEXP_COUNT n
      s.hook m.ctx 1 m.mseq m.src 0 0

/-- NEXT_MATCH advances, and held messages that are now next are matched in turn (R329). The fuel bounds them. -/
def State.matchHeld (s : State) (p : Nat) : Nat → State
  | 0 => s
  | k + 1 =>
    match s.chan p with
    | none => s
    | some c =>
      match s.ep.msg.find? (fun (e : Nat × Msg) => decide (e.2.chan = p) && decide (e.2.st = .held) && decide (e.2.mseq = c.nextMatch)) with
      | none => s
      | some (i, _) => ((s.setChan p { c with nextMatch := (c.nextMatch + 1) % 2 ^ 32 }).matchMsg i).matchHeld p k

/-- A receive is posted (R331): whether it was taken. It binds the oldest fitting unexpected message, or enters the store. -/
def State.post (s : State) (p : Post) : Bool × State :=
  let n := matOf p.ctx
  let un := s.ep.msg.filter (fun (e : Nat × Msg) => decide (e.2.ctx = p.ctx) && decide (e.2.st = .unexpected) && p.fits e.2)
  let first := un.foldl (fun (b : Option (Nat × Msg)) e => match b with
    | some x => if e.2.order < x.2.order then some e else b
    | none => some e) none
  match first with
  | some (i, _) => (true, s.bind i p)
  | none =>
    let u := s.mat n
    if 65536 ≤ u.posts.length then (false, s)
    else (true, s.setMat n { u with posts := u.posts ++ [{ p with stamp := u.stamp }], stamp := u.stamp + 1 })

/-- The entry of Table 1 that a ring RECV becomes (R325). -/
def recvPost (tag : Nat) (o : Op) : Post :=
  { ctx := o.ctx, tag := o.dByte 24 8, ignore := o.dByte 36 8, src := o.dByte 44 4, comm := o.dByte 48 2, anySrc := o.flags.testBit 0,
    handler := false, buf := o.laddr, len := o.dByte 32 4, id := tag, stamp := 0 }

/-- A handler post from the 48 bytes of its entry (R325, R326). -/
def handlerPost (d : List Byte) : Post :=
  { ctx := leAt d 36 4 % 2 ^ 18, tag := leAt d 0 8, ignore := leAt d 8 8, src := leAt d 16 4, comm := leAt d 20 2, anySrc := (leAt d 22 1).testBit 0,
    handler := true, buf := leAt d 24 8, len := leAt d 32 4, id := leAt d 40 4, stamp := 0 }

/-- The posted receives of a context are cancelled (R316): ring receives with status 0x05. -/
def State.cancelPosts (s : State) (c : Nat) : State :=
  let n := matOf c
  let u := s.mat n
  let mine := u.posts.filter (fun p => decide (p.ctx = c))
  let waits := u.waiting.filter (fun t => match s.op t with
    | some o => decide (o.ctx = c)
    | none => true)
  let s := s.setMat n { u with posts := u.posts.filter (fun p => decide (p.ctx ≠ c)), waiting := u.waiting.filter (fun t => decide (t ∉ waits)) }
  let s := mine.foldl (fun s p => if p.handler then s.hook c 4 0 p.id 0x05 0 else s.finishOp p.id 0x05 0 0 0) s
  waits.foldl (fun s t => s.finishOp t 0x05 0 0 0) s

/-- The unexpected and held messages of a context are discarded; a rendezvous is cancelled (R316, R337). -/
def State.discardMsgs (s : State) (c : Nat) : State :=
  (s.ep.msg.filter (fun (e : Nat × Msg) => decide (e.2.ctx = c) && (decide (e.2.st = .held) || decide (e.2.st = .unexpected)))).foldl (fun s e =>
    if e.2.rdv.isSome then (s.setMsg e.1 { e.2 with closing := some (0x03, [0x05#8, 0#8, 0#8, 0#8]) }).sendClosing e.1 else s.dropMsg e.1) s

/-! ## A message packet arrives (R324, R329, R338) -/

/-- The fields of a match extension. -/
structure MExt where
  tag : Nat
  mseq : Nat
  len : Nat
  off : Nat
  comm : Nat
deriving DecidableEq, Repr

def mExt (b : List Byte) : MExt :=
  let e := pExt b
  { tag := beAt e 0 8, mseq := beAt e 8 4, len := beAt e 12 4, off := beAt e 16 4, comm := beAt e 20 2 }

/-- The rules of R324 that need no entry. -/
def extOk (b : List Byte) (x : MExt) : Bool :=
  decide (x.len ≤ 2 ^ 28) && (if x.len = 0 then decide (x.off = 0) else decide (x.off % 4096 = 0) && decide (x.off < x.len)) &&
  (match pOpc b with
  | 0x00 => decide (pPlen b = min 4096 (x.len - x.off))
  | 0x01 => decide (pPlen b = 8)
  | _ => decide (pPlen b = 4))

/-- A packet breaks R324: kind 0x07. -/
def State.protoBad (s : State) (b : List Byte) (x : MExt) (c : Nat) : State :=
  (s.count F.MAT_CNT_PROTO_COUNT (matOf c)).raise (640 + matOf c) 0x07 (pOpc b * 2 ^ 56 + x.off % 2 ^ 24 * 2 ^ 32 + c)

/-- Why the store of a unit has no room for a packet (R338): 1 its own limits, 2 the context's. -/
def State.noRoom (s : State) (c : Nat) (entry rec_ : Bool) (d : List Byte) : Option Nat :=
  let n := matOf c
  let ms := s.ep.msg.filter (fun (e : Nat × Msg) => decide (matOf e.2.ctx = n))
  let un (e : Nat × Msg) : Bool := decide (e.2.st = .held) || decide (e.2.st = .unexpected)
  let mine := ms.filter (fun e => decide (e.2.ctx = c) && un e)
  let units (e : Nat × Msg) : Nat := (e.2.staged.map (fun x => (x.2.length + 255) / 256)).sum
  let lim := s.fld F.MAT_UNEXP_CTX_RECORDS n
  let kib := s.fld F.MAT_UNEXP_CTX_KIB n
  if (entry ∧ 65536 ≤ ms.length) ∨ (rec_ ∧ 131072 ≤ (ms.filter un).length) then some 1
  else if (rec_ ∧ lim ≠ 0 ∧ lim ≤ mine.length) ∨ (d ≠ [] ∧ kib ≠ 0 ∧ 4 * kib < (mine.map units).sum + (d.length + 255) / 256) then some 2
  else none

/-- A packet is discarded for want of room (R338). -/
def State.matFull (s : State) (c mseq why : Nat) : State :=
  let n := matOf c
  (s.count F.MAT_CNT_FULL_COUNT n).raise (640 + n) why (if why = 1 then mseq * 2 ^ 32 + c else c)

/-- A segment or a packet is seen twice, or its message has finished: kind 0x06 (R329, R333). -/
def State.seenTwice (s : State) (c : Nat) (x : MExt) : State :=
  s.raise (640 + matOf c) 0x06 (x.mseq * 2 ^ 32 + x.off / 4096 % 2 ^ 14 * 2 ^ 18 + c)

/-- Records in use rise above HOOK_THRESH (R343). -/
def State.recHook (s : State) (c before : Nat) : State :=
  let n := matOf c
  let t := s.fld F.MAT_HOOK_THRESH_RECORDS n
  let now := s.fld F.MAT_UNEXP_RECORDS n
  if before ≤ t ∧ t < now then s.hook c 3 0 now 0 0 else s

/-- What became of a message packet. -/
inductive Took where
  /-- Discarded unacknowledged. -/
  | no
  /-- Taken, and acknowledged unless a hold stands. -/
  | yes
  /-- Refused as to a disabled context. -/
  | off
deriving DecidableEq, Repr

/-- A packet's hold is dropped where no deposit came of it: it is acknowledged with its mark. -/
def State.settleHold (s : State) (p i k q : Nat) : State :=
  let job := s.ep.job.any (fun (e : Nat × Job) => decide (e.2.who = .recv i k))
  match s.chan p with
  | some c => if job then s else s.setChan p { c with rx := c.rx.filter (fun r => decide (r.seq ≠ q)) }
  | none => s

/-- A SEND_EAGER or SEND_RTS of a channel (R329, R330, R335, R338). -/
def State.takeMsg (s : State) (p : Nat) (b : List Byte) (pipe : Nat) : Took × State :=
  let c := ctxOf (pDst b)
  let n := matOf c
  let x := mExt b
  let k := x.off / 4096
  let rts := decide (pOpc b = 0x01)
  let d := if rts then [] else pPayload b
  if ¬ extOk b x then (.no, s.protoBad b x c)
  else match s.ep.msg.find? (fun (e : Nat × Msg) => decide (e.2.chan = p) && decide (e.2.mseq = x.mseq)) with
    | some (i, m) =>
      if s.armed F.MAT_INJECT_STATE_ECC n then
        let s := (s.setArmed F.MAT_INJECT_STATE_ECC n false).raise (640 + n) 0x03 (x.mseq * 2 ^ 32 + c)
        (.off, s.haltCtx c 0x0F (s.ctx c).cmdHead 0)
      else if m.opc ≠ pOpc b ∨ m.tag ≠ x.tag ∨ m.len ≠ x.len ∨ m.comm ≠ x.comm then (.no, s.protoBad b x c)
      else if rts ∨ m.seen.contains k then (.yes, s.seenTwice c x)
      else match m.st with
        | .bound _ => 
          let s := ((s.setMsg i { m with seen := m.seen ++ [k] }).holdRx p (pSeq b) .work b pipe).deposit i k d b pipe
          (.yes, (s.settleHold p i k (pSeq b)).msgCheck i)
        | _ => match s.noRoom c false false d with
          | some w => (.no, s.matFull c x.mseq w)
          | none => (.yes, (s.setMsg i { m with seen := m.seen ++ [k] }).stage i k d)
    | none =>
      match s.chan p with
      | none => (.no, s)
      | some ch =>
        let dist := seqDist 32 x.mseq ch.nextMatch
        let m : Msg := { ctx := c, chan := p, mseq := x.mseq, tag := x.tag, len := x.len, comm := x.comm, src := pSrc b, st := .held, opc := pOpc b,
                         seen := if rts then [] else [k], rdv := if rts then some (beAt (pPayload b) 0 8, pTag b) else none, tc := pTc b }
        if 2 ^ 31 ≤ dist then (.yes, s.seenTwice c x)
        else
          let fit := decide (dist = 0) && (s.mat n).posts.any (fun q => decide (q.ctx = c) && q.fits m)
          match s.noRoom c true (!fit) (if fit then [] else d) with
          | some w => (.no, s.matFull c x.mseq w)
          | none =>
            let before := s.fld F.MAT_UNEXP_RECORDS n
            let i := s.newMsg
            let s := s.setMsg i m
            if fit then
              let s := s.setChan p { ch with nextMatch := (ch.nextMatch + 1) % 2 ^ 32 }
              let s := (s.holdRx p (pSeq b) .work b pipe).matchMsg i
              let s := if rts then s else s.deposit i k d b pipe
              let s := (s.settleHold p i k (pSeq b)).msgCheck i
              (.yes, s.matchHeld p s.ep.msg.length)
            else
              let s := if rts then s else s.stage i k d
              let s := if dist = 0 then
                  let s := (s.setChan p { ch with nextMatch := (ch.nextMatch + 1) % 2 ^ 32 }).matchMsg i
                  s.matchHeld p s.ep.msg.length
                else s.count F.MAT_CNT_HELD_COUNT n
              (.yes, s.recHook c before)

/-- A SEND_FIN or SEND_CANCEL of a channel ends the rendezvous SEND that it names (R337). -/
def State.takeClosing (s : State) (p : Nat) (b : List Byte) : Took × State :=
  let x := mExt b
  if ¬ extOk b x then (.no, s.protoBad b x (ctxOf (pDst b)))
  else match s.ep.op.find? (fun (e : Nat × Op) => decide (e.2.chan = some p) && e.2.rdv && decide (e.2.mseq = some x.mseq)) with
    | none => (.yes, s)
    | some (t, _) =>
      if pOpc b = 0x02 then (.yes, (s.finishOp t 0 (beAt (pPayload b) 0 4) 0 0).freeChan p)
      else (.yes, (s.finishOp t (beAt (pPayload b) 0 1) 0 0 0).freeChan p)

end Sys2Proof.Machine
end

