-- ==== Sys2Proof/Machine/Remote.lean ====
section
/-!
DEFINITION. Machine/Remote.lean: the target side of remote memory (chapter 13): the access checks, deposits, reads and
atomics with their answers, parking and refusal, and the receive half's treatment of an arriving packet.
-/
namespace Sys2Proof.Machine

/-! ## The access checks (R336, R349, R351, R353) -/

def State.region (s : State) (i : Nat) : Region := mget {} s.ep.region i

/-- The widths of an atomic op (Table 2). -/
def atomOk (op w : Nat) : Bool :=
  if op ∈ [0x02, 0x03, 0x04, 0x05, 0x06, 0x0B] then decide (w = 4 ∨ w = 8 ∨ w = 16)
  else if op ∈ [0x01, 0x07, 0x08, 0x09, 0x0A] then decide (w = 4 ∨ w = 8)
  else false

/-- The new value of an atomic (Table 2). -/
def atomNew (op w m a b : Nat) : Nat :=
  match op with
  | 0x01 => (m + a) % 2 ^ (8 * w)
  | 0x02 => m &&& a
  | 0x03 => m ||| a
  | 0x04 => m ^^^ a
  | 0x05 => a
  | 0x06 => if m = a then b else m
  | 0x07 => if signedOf (8 * w) m ≤ signedOf (8 * w) a then m else a
  | 0x08 => if signedOf (8 * w) m ≤ signedOf (8 * w) a then a else m
  | 0x09 => min m a
  | 0x0A => max m a
  | _ => m

def rKey (b : List Byte) : Nat := beAt (pExt b) 0 4
def rAddr (b : List Byte) : Nat := beAt (pExt b) 8 8
def rTotal (b : List Byte) : Nat := beAt (pExt b) 16 4
def rOp (b : List Byte) : Nat := beAt (pExt b) 20 1
def rWidth (b : List Byte) : Nat := beAt (pExt b) 21 1

/-- The bytes of memory that a request concerns (R353). -/
def rLen (b : List Byte) : Nat :=
  match pOpc b with
  | 0x22 => beAt (pPayload b) 4 4
  | 0x24 => rWidth b
  | _ => pPlen b

/-- A rendezvous pull (R335). -/
def isPull (b : List Byte) : Bool := decide (pOpc b = 0x22) && decide (rKey b = 0xFFFFFFFF)

/-- A pull is answered (R336): the tag, the source, the sequence bits and the range fit a rendezvous SEND. -/
def State.pullOk (s : State) (b : List Byte) : Bool :=
  match s.op (regionWord b / 65536) with
  | none => false
  | some o => o.rdv && decide (o.ctx = ctxOf (pDst b)) && decide (o.dest = pSrc b) && decide (o.mseq.getD 0 % 65536 = regionWord b % 65536) &&
      decide (o.laddr ≤ rAddr b) && decide (rAddr b + rLen b ≤ o.laddr + o.len)

/-- The first check of Table 4 that a request fails, of checks 1–9 (R353). -/
def State.accessFail (s : State) (b : List Byte) : Option Nat :=
  let c := ctxOf (pDst b)
  let o := pOpc b
  let r := s.region (regionWord b % 2 ^ 20)
  if ¬ s.ctxInbound c then some 0x01
  else if o = 0x24 ∧ ¬ atomOk (rOp b) (rWidth b) then some 0x02
  else if isPull b then (if s.pullOk b then none else some 0x0B)
  else if ¬ s.keyValid (rKey b) then some 0x03
  else if regionWord b / 2 ^ 20 ≠ r.gen then some 0x04
  else if ¬ r.valid then some 0x05
  else if rKey b ≠ r.key then some 0x06
  else if r.pd ≠ (s.ctx c).pd then some 0x07
  else if rAddr b < r.base ∨ r.base + r.len < rAddr b + rLen b then some 0x08
  else if ¬ r.rights.testBit (if o = 0x22 then 0 else if o = 0x24 then 2 else 1) then some 0x09
  else none

/-! ## What a job answers -/

/-- The channel that a job's packet came on. -/
def State.jobChan (s : State) (j : Job) : Option Nat :=
  match j.who with
  | .put p _ | .get p _ | .atomRead p _ | .atomWrite p _ => some p
  | .recv i _ => (s.msg i).map (fun m => m.chan)
  | _ => none

/-- The REL of a job's channel. -/
def State.jobRel (s : State) (j : Job) : Nat := ((s.jobChan j).getD 0) % 16

/-- OCCUPANCY of a unit (R373). -/
def State.showRel (s : State) (n : Nat) : State :=
  let parked := (s.ep.job.filter (fun (e : Nat × Job) => e.2.slot.isSome && decide (s.jobRel e.2 = n))).length
  let resp := (s.ep.resp.filter (fun (e : Nat × Resp) => decide (e.1 / 2 ^ 32 % 16 = n))).length
  (s.setFld F.REL_OCCUPANCY_PARKED parked n).setFld F.REL_OCCUPANCY_RESP_USED resp n

/-- A job is given up, and its park slot with it. -/
def State.endJob (s : State) (id : Nat) : State :=
  match s.job id with
  | none => s
  | some j =>
    let n := s.jobRel j
    let s := s.dropJob id
    if j.slot.isSome then
      let x := s.ctx j.ctx
      (s.setCtx j.ctx { x with parked := x.parked - 1 }).showRel n
    else s

/-- The packet that a job answers is not acknowledgeable yet (R356). -/
def State.jobHeld (s : State) (j : Job) : Bool :=
  match s.jobChan j with
  | none => false
  | some p => match (if j.pkt = [] then none else (s.chan p).bind (fun c => c.holdOf (pSeq j.pkt))) with
    | none => false
    | some r => match r.hold with
      | .refused _ => false
      | _ => true

/-- The park slots of a unit in use. -/
def State.parkSlots (s : State) (n : Nat) : List Nat :=
  s.ep.job.filterMap (fun (e : Nat × Job) => if s.jobRel e.2 = n then e.2.slot else none)

/-- A message's receive ends with a status once its accesses have ended. -/
def State.spoil (s : State) (i status detail : Nat) : State :=
  match s.msg i with
  | none => s
  | some m => s.setMsg i { m with bad := m.bad.or (some (status, detail)) }

/-- A job is refused (R366, R368, R370): its packet, where it is not acknowledged yet, and the receive of a message. -/
def State.refuseJob (s : State) (id : Nat) (j : Job) (reason status addr : Nat) : State :=
  let held := s.jobHeld j
  let s := s.endJob id
  let s := match (if held then s.jobChan j else none) with
    | some p => s.refuse p j.pkt j.pipe reason addr
    | none => s
  match j.who with
  | .recv i _ => (s.spoil i status addr).msgCheck i
  | .put p _ => if pOpc j.pkt = 0x21 then
      (match s.chan p with
      | some c => s.setChan p { c with notify := merase c.notify (pTag j.pkt) }
      | none => s)
    else s
  | _ => s

/-- A resolvable fault parks a job (R368, R389): a slot, the notice to the source, the kind and the EVENT record. -/
def State.parkJob (s : State) (id : Nat) (j : Job) : State :=
  let n := s.jobRel j
  let p := (s.jobChan j).getD 0
  let va := j.va + j.next
  let event (s : State) (k : Nat) : State := s.ctxEvent (s.ctxPort j.ctx) 0x03 j.ctx 0 (n * 4096 + k) va
  match j.slot with
  | some k => event s k
  | none =>
    let used := s.parkSlots n
    match (List.range 4096).find? (fun k => decide (k ∉ used)) with
    | none => s.refuseJob id j 0x0C 0x06 va
    | some k =>
      let held := s.jobHeld j
      let x := s.ctx j.ctx
      let s := (s.setJob id { j with slot := some k }).setCtx j.ctx { x with parked := x.parked + 1 }
      let s := (s.count F.REL_CNT_PARKED_COUNT n).showRel n
      let s := if held then
          let (f, s) := s.takeFree
          (s.holdRx p (pSeq j.pkt) .parked j.pkt j.pipe).sendRouted (nakPacket j.pkt 0x10 (Config.choice f % 256) (rAddr j.pkt)) j.pipe (pTag j.pkt)
        else s
      event (s.raise (656 + n) 0x05 (k * 2 ^ 48 + p * 2 ^ 32 + j.ctx)) k

/-- A job's fault: parked where it is resolvable, refused where it is not (R386). A message's deposit under a key that is not
valid fails check 3. -/
def State.remoteFault (s : State) (id : Nat) (j : Job) (code : Nat) : State :=
  if code ≤ 4 then s.parkJob id j
  else
    let key := match j.who with
      | .recv _ _ => !s.keyValid (s.ctx j.ctx).key
      | _ => false
    s.refuseJob id j (if key then 0x03 else 0x0A) 0x06 (j.va + j.next)

/-- A parked job's fault is reported unresolvable (R368, R389). -/
def State.unresolved (s : State) (id : Nat) (j : Job) : State :=
  let n := s.jobRel j
  let d := j.slot.getD 0 * 2 ^ 48 + (s.jobChan j).getD 0 * 2 ^ 32 + j.ctx
  (s.raise (656 + n) 0x06 d).refuseJob id j 0x0D 0x06 (j.va + j.next)

/-- Memory on the host's side has failed a job (R370). -/
def State.lostJob (s : State) (id : Nat) (j : Job) (va : Nat) : State :=
  let n := s.jobRel j
  let held := s.jobHeld j
  let s := s.refuseJob id j 0x0E 0x07 va
  if held ∨ ¬ j.write then s else s.raise (656 + n) 0x0A va

/-! ## Notify operations (R350) -/

/-- A PUT_NOTIFY operation at its target whose every segment has landed: its inbound entry is written, and its LAST packet waits for
it to land; without a free entry that packet is refused (R310, R350). -/
def State.notifyCheck (s : State) (p : Nat) (b : List Byte) : State :=
  match s.chan p with
  | none => s
  | some c =>
    let tag := pTag b
    match mfind c.notify tag with
    | none => s
    | some e =>
      match e.lastSeq with
      | none => s
      | some q =>
        if e.landed.length < segsOf e.len then s
        else
          let s := s.setChan p { c with notify := merase c.notify tag }
          let x := s.ctx c.ctx
          if x.free = 0 then
            let s := s.inRefused c.ctx 0xE0
            match c.holdOf q with
            | some r => s.refuse p r.bytes r.pipe 0x0F (rAddr r.bytes)
            | none => s
          else s.cqEntry c.ctx { opc := 0xE0, len := e.len, peer := c.remote, detail := e.value } x.notifyIn (some (p, q))

/-- A segment of a PUT_NOTIFY has arrived: its operation is tracked by source tag. A segment seen again belongs to a new use of the
tag. -/
def State.notifyArrive (s : State) (p : Nat) (b : List Byte) : State :=
  match s.chan p with
  | none => s
  | some c =>
    let fresh : Notify := { value := beAt (pExt b) 20 4, len := rTotal b }
    let e := (mfind c.notify (pTag b)).getD fresh
    let e := if e.landed.contains (pChunk b) ∨ e.len ≠ rTotal b then fresh else e
    s.setChan p { c with notify := minsert c.notify (pTag b) { e with lastSeq := if pLast b then some (pSeq b) else e.lastSeq } }

/-- A segment of a PUT_NOTIFY has landed. -/
def State.notifyLand (s : State) (p : Nat) (b : List Byte) : State :=
  match s.chan p with
  | none => s
  | some c =>
    match mfind c.notify (pTag b) with
    | none => s
    | some e => (s.setChan p { c with notify := minsert c.notify (pTag b) { e with landed := e.landed ++ [pChunk b] } }).notifyCheck p b

/-! ## Atomics (R349, R363) -/

/-- The key of a response cache entry. -/
def respKey (p q : Nat) : Nat := p * 2 ^ 32 + q

/-- Atomics that hold or will need a cache entry. -/
def State.respLoad (s : State) : Nat :=
  s.ep.resp.length + (s.ep.job.filter (fun (e : Nat × Job) => e.2.atomic)).length

/-- The oldest ATOMIC that waits for a granule of a host port starts its read (R349). -/
def State.nextAtomic (s : State) (port hpa : Nat) : State :=
  match s.ep.job.find? (fun (e : Nat × Job) => e.2.atomWait && (match e.2.atomAt with
    | some (q, a) => decide (q = port) && decide (a / 64 = hpa / 64)
    | none => false)) with
  | none => s
  | some (id, j) => match j.atomAt with
    | some (q, a) => (s.setJob id { j with atomWait := false, outst := 1 }).hostRead q a j.len (.job id 0) none
    | none => s

/-- An ATOMIC is answered: its response is cached and sent, and its packet becomes acknowledgeable. -/
def State.atomDone (s : State) (id : Nat) (j : Job) (p q : Nat) : State :=
  let v := slice (mget [] j.got 0) 0 j.len
  let s := s.endJob id
  let s := (s.setEp { s.ep with resp := minsert s.ep.resp (respKey p q) { status := 0, value := v } }).showRel (p % 16)
  let s := (s.sendRouted (respPacket j.pkt 0x25 0 v) j.pipe (pTag j.pkt)).unholdRx p q
  match j.atomAt with
  | some (port, a) => s.nextAtomic port a
  | none => s

/-- An ATOMIC's word has been read: the new value is written where it differs (R349). -/
def State.atomHave (s : State) (id : Nat) (j : Job) (p q : Nat) : State :=
  let w := j.len
  let m := leNat (slice (mget [] j.got 0) 0 w)
  let pay := pPayload j.pkt
  let new := atomNew (rOp j.pkt) w m (leAt pay 0 w) (leAt pay w w)
  match j.atomAt with
  | none => s.endJob id
  | some (port, a) =>
    if new = m then s.atomDone id j p q
    else (s.setJob id { j with who := .atomWrite p q, outst := 1 }).hostWrite port a (leBytes w new) (.job id 0) none

/-! ## Remote jobs -/

/-- Something has happened to a job that serves remote work: its packet is answered, held, parked or refused. -/
def State.remoteEvent (s : State) (id : Nat) (j : Job) (ev : JobEv) : State :=
  match ev with
  | .fault code _ => s.remoteFault id j code
  | .unresolved => s.unresolved id j
  | .issued =>
    match j.who with
    | .put p q =>
      if j.slot.isSome then s
      else if pOpc j.pkt = 0x21 ∧ pLast j.pkt then s.holdRx p q .notify j.pkt j.pipe
      else s.unholdRx p q
    | .recv _ _ => if j.pkt = [] ∨ j.slot.isSome then s else match s.jobChan j with
      | some p => s.unholdRx p (pSeq j.pkt)
      | none => s
    | _ => s
  | .done =>
    match j.failed with
    | some (_, va) =>
      let s := s.lostJob id j va
      (match j.atomAt with
      | some (port, a) => s.nextAtomic port a
      | none => s)
    | none =>
      match j.who with
      | .put p q =>
        let s := s.endJob id
        if pOpc j.pkt = 0x21 then
          let s := if pLast j.pkt then s.holdRx p q .notify j.pkt j.pipe else if j.slot.isSome then s.unholdRx p q else s
          s.notifyLand p j.pkt
        else if j.slot.isSome then s.unholdRx p q
        else s
      | .get p q =>
        let d := (List.range j.got.length).foldl (fun l i => match j.got[i]? with
          | some (o, x) => overwrite l o x
          | none => l) []
        ((s.endJob id).sendRouted (respPacket j.pkt 0x23 0 (slice d 0 j.len)) j.pipe (pTag j.pkt)).unholdRx p q
      | .atomRead p q => s.atomHave id j p q
      | .atomWrite p q => s.atomDone id j p q
      | .recv i k =>
        let p := s.jobChan j
        let s := s.endJob id
        let s := match p with
          | some p => if j.pkt ≠ [] ∧ j.slot.isSome then s.unholdRx p (pSeq j.pkt) else s
          | none => s
        if s.armed F.MAT_INJECT_STATE_ECC (matOf j.ctx) then
          let s := (s.setArmed F.MAT_INJECT_STATE_ECC (matOf j.ctx) false).raise (640 + matOf j.ctx) 0x03
            (((s.msg i).map (fun m => m.mseq)).getD 0 * 2 ^ 32 + j.ctx)
          s.haltCtx j.ctx 0x0F (s.ctx j.ctx).cmdHead 0
        else
          (match s.msg i with
          | some m => (s.setMsg i { m with landed := m.landed ++ [k] }).msgCheck i
          | none => s)
      | _ => s.endJob id

/-! ## A channel packet arrives (R353, R356, R362) -/

/-- A refusal's address where the packet carries none is a free value. -/
def State.refuseMsg (s : State) (p : Nat) (b : List Byte) (pipe reason : Nat) : State :=
  let (k, s) := s.takeFree
  s.refuse p b pipe reason (Config.choice k)

/-- A request that has passed checks 1–9 is carried out. -/
def State.carryOut (s : State) (p : Nat) (b : List Byte) (pipe : Nat) : State :=
  let q := pSeq b
  let j : Job := { who := .put p q, ctx := ctxOf (pDst b), space := rKey b / 65536, va := rAddr b, len := rLen b, write := false, pkt := b, pipe := pipe,
                   region := some (regionWord b % 2 ^ 20) }
  let s := s.holdRx p q .work b pipe
  match pOpc b with
  | 0x20 => s.startJob { j with write := true, data := pPayload b }
  | 0x21 => (s.notifyArrive p b).startJob { j with write := true, data := pPayload b }
  | 0x22 => if isPull b then s.localJob { j with who := .get p q, region := none } else s.startJob { j with who := .get p q }
  | _ => s.startJob { j with who := .atomRead p q, atomic := true }

/-- The consumer's answer to a new channel packet (R62: it is passed on once its fence allows). -/
def State.consume (s : State) (p : Nat) (b : List Byte) (pipe : Nat) : Took × State :=
  let c := ctxOf (pDst b)
  let o := pOpc b
  if o = 0x02 ∨ o = 0x03 then s.takeClosing p b
  else if o ≤ 0x01 then
    if ¬ s.ctxInbound c then (.yes, s.refuseMsg p b pipe 0x01)
    else match s.takeMsg p b pipe with
      | (.off, s) => (.yes, s.refuseMsg p b pipe 0x01)
      | r => r
  else match s.accessFail b with
    | some r =>
      let s := if r = 0x0B then s.raise (640 + matOf c) 0x05 (regionWord b / 65536 * 2 ^ 32 + pSrc b) else s
      (.yes, s.refuse p b pipe r (rAddr b))
    | none =>
      if o = 0x21 ∧ (s.ctx c).free = 0 then (.yes, (s.inRefused c 0xE0).refuse p b pipe 0x0F (rAddr b))
      else if o = 0x24 ∧ 16384 ≤ s.respLoad then
        (.no, (s.count F.REL_CNT_RESP_FULL_COUNT (p % 16)).raise (656 + p % 16) 0x03 (p * 2 ^ 32 + pSeq b))
      else (.yes, s.carryOut p b pipe)

/-- A new packet is marked, and acknowledged where nothing holds it (R356, R357); E passing frees cached responses (R363). -/
def State.markRx (s : State) (p : Nat) (b : List Byte) (pipe : Nat) : State :=
  match s.chan p with
  | none => s
  | some c =>
    let c := c.mark (pSeq b)
    let s := s.setChan p c
    let s := (s.setEp { s.ep with resp := s.ep.resp.filter (fun (e : Nat × Resp) =>
      !(decide (e.1 / 2 ^ 32 = p) && (let d := seqDist 32 c.e (e.1 % 2 ^ 32); decide (4096 < d) && decide (d < 2 ^ 31)))) }).showRel (p % 16)
    if (c.holdOf (pSeq b)).isSome then s else s.nowAckable p b pipe

/-- A packet held at the fence or new is passed to its consumer, and marked where it is taken. -/
def State.passRx (s : State) (p : Nat) (b : List Byte) (pipe : Nat) : State :=
  match s.consume p b pipe with
  | (.no, s) => s
  | (_, s) => s.markRx p b pipe

/-- Jobs of a channel's packets whose host accesses have not ended. -/
def State.chanBusy (s : State) (p : Nat) : Bool := s.ep.job.any (fun (e : Nat × Job) => decide (s.jobChan e.2 = some p))

/-- A FENCE packet's condition holds (R62): every earlier packet has been disposed of, and the writes they caused have landed. -/
def State.fenceReady (s : State) (p q : Nat) : Bool :=
  match s.chan p with
  | none => false
  | some c => decide (c.e = q) && !s.chanBusy p && c.rx.all (fun r => decide (r.seq = q) || (match r.hold with
    | .refused _ => true
    | _ => false))

/-- FENCE packets held by a unit (R63). -/
def State.fenceHeld (s : State) (n : Nat) : Nat :=
  ((s.ep.chan.filter (fun (e : Nat × Chan) => decide (e.1 % 16 = n))).map (fun e => (e.2.rx.filter (fun r => decide (r.hold = .fence))).length)).sum

/-- A duplicate (R362). A GET_REQ is carried out again and an ATOMIC answered from the cache even once the first copy is
acknowledgeable. -/
def State.duplicate (s : State) (p : Nat) (c : Chan) (b : List Byte) (pipe : Nat) : State :=
  let q := pSeq b
  let n := p % 16
  let s := s.count F.REL_CNT_DUP_COUNT n
  let again (s : State) : State :=
    if pOpc b = 0x22 then
      (match s.consume p b pipe with
      | (_, s) => s)
    else if pOpc b = 0x24 then
      if s.ep.job.any (fun (e : Nat × Job) => decide (e.2.who = .atomRead p q) || decide (e.2.who = .atomWrite p q)) then s
      else match mfind s.ep.resp (respKey p q) with
        | none => s.raise (656 + n) 0x04 (p * 2 ^ 32 + q)
        | some r =>
          if s.armed F.REL_INJECT_RESP_ECC n then
            ((s.setArmed F.REL_INJECT_RESP_ECC n false).raise (656 + n) 0x0B (p * 2 ^ 32)).chanFail p
          else (s.count F.REL_CNT_RESP_HIT_COUNT n).sendRouted (respPacket b 0x25 r.status r.value) pipe (pTag b)
    else (s.setChan p { c with pipe := pipe }).sendRelAck p
  match c.holdOf q with
  | none => again s
  | some r => match r.hold with
    | .fence | .notify => s
    | .parked =>
      let (f, s) := s.takeFree
      s.sendRouted (nakPacket b 0x10 (Config.choice f % 256) (rAddr b)) pipe (pTag b)
    | .refused nak => s.sendRouted nak pipe (pTag b)
    | .work => if pOpc b = 0x22 ∨ pOpc b = 0x24 then again s else s

/-- The pipeline that an answer to a delivery uses (R610): the tile it arrived on, or for a packet of this router that of the
context's host port. -/
def State.dlvPipe (s : State) (d : Dlv) : Nat := match d.inLink with
  | some l => s.linkTile l
  | none => s.portTile (s.ctxPort (ctxOf (pDst d.bytes)))

/-- A channel packet reaches its reliability unit (R354, R356). -/
def State.chanReceive (s : State) (d : Dlv) : State :=
  let b := d.bytes
  let pipe := s.dlvPipe d
  let ctx := ctxOf (pDst b)
  let q := pSeq b
  match (s.touchCtx ctx).openChan ctx (pSrc b) with
  | (none, s) => s
  | (some p, s) =>
    let n := p % 16
    if s.armed F.REL_INJECT_DROP_RX n then s.setArmed F.REL_INJECT_DROP_RX n false
    else match s.chan p with
      | none => s
      | some c =>
        let c := { c with rxFresh := false }
        let s := s.setChan p c
        if c.seen q ∨ (c.holdOf q).isSome then s.duplicate p c b pipe
        else if 4096 ≤ seqDist 32 q c.e then (s.count F.REL_CNT_AHEAD_COUNT n).raise (656 + n) 0x08 (p * 2 ^ 32 + q)
        else if pFence b ∧ ¬ s.fenceReady p q then
          if 64 ≤ s.fenceHeld n then s.count F.REL_CNT_FENCE_FULL_COUNT n else s.holdRx p q .fence b pipe
        else s.passRx p b pipe

/-- The oldest delivery of a channel opcode is taken, unless the safe state holds the endpoint blocks (R516), the endpoint core
is not awake (R524), or its context's decisions wait behind a hook record (R343). -/
def State.receiveOpc (s : State) (o : Nat) : State :=
  if s.safe ∨ ¬ s.awake Dom.endpoint then s
  else match s.takeDlv (fun b => decide (pOpc b = o) && !(decide (o ≤ 0x01) && s.hookBlocked (ctxOf (pDst b)))) with
    | (none, s) => s
    | (some d, s) => s.chanReceive d

/-- A FENCE packet of a channel whose condition holds is passed on (R62). -/
def State.releaseFence (s : State) (p : Nat) : State :=
  match s.chan p with
  | none => s
  | some c =>
    match c.rx.find? (fun r => decide (r.hold = .fence) && s.fenceReady p r.seq) with
    | none => s
    | some r => (s.setChan p { c with rx := c.rx.filter (fun x => decide (x.seq ≠ r.seq)) }).passRx p r.bytes r.pipe

end Sys2Proof.Machine
end

