-- ==== Sys2Proof/Machine/Reliable.lean ====
section
/-!
DEFINITION. Machine/Reliable.lean: the source side of the reliability units (R354, R358–R361, R364, R366): acknowledgements,
responses, refusals, retransmission and the halves' resets; and the local accesses of operations (R388).
-/
namespace Sys2Proof.Machine

/-! ## Channels for operations (R322, R354, R361) -/

/-- A send half is in the time before its reset (R361 rule 2). -/
def State.idleWait (s : State) (p : Nat) (c : Chan) : Bool := c.unret.isEmpty && !s.chanOpenTx p c

/-- An operation takes its peer's channel, and a SEND its message sequence (R322); without an entry, or before a reset of the send
half, it waits. -/
def State.attachChan (s : State) (tag : Nat) : State :=
  match s.op tag with
  | none => s
  | some o =>
    let wait (s : State) : State := s.setEp { s.ep with chanWait := s.ep.chanWait.filter (fun t => decide (t ≠ tag)) ++ [tag] }
    match s.openChan o.ctx o.dest with
    | (none, s) => wait s
    | (some p, s) => match s.chan p with
      | none => s
      | some c =>
        if s.idleWait p c then wait s
        else
          let send := decide (o.opc = 0x10)
          let s := s.setChan p { c with mseq := if send then (c.mseq + 1) % 2 ^ 32 else c.mseq }
          let s := s.setOp tag { o with chan := some p, mseq := if send then some c.mseq else none }
          s.setEp { s.ep with chanWait := s.ep.chanWait.filter (fun t => decide (t ≠ tag)) }

/-- The operations that wait for a channel try again, oldest first, and go on where they have one. -/
def State.retryChans (s : State) : State :=
  s.ep.chanWait.foldl (fun s t =>
    let s := s.attachChan t
    match s.op t with
    | some o => if o.chan.isSome ∧ o.started then s.injectOp t else s
    | none => s) s

/-! ## Retransmission (R359, R360) -/

/-- A packet is sent again: at its wait's end, with the old candidate marked failed, or for a ROUTE_ERROR. After RETRY_LIMIT the
final wait ends in channel failure. -/
def State.resendTx (s : State) (p q : Nat) (timeout : Bool) : State :=
  match s.chan p with
  | none => s
  | some c =>
    match c.tx q with
    | none => s
    | some t =>
      let n := p % 16
      if t.suspended ∨ t.queued then s
      else if max 1 (s.fld F.REL_RTX_RETRY_LIMIT n) ≤ t.retries then (if timeout then s.chanFail p else s)
      else
        let s := match (if timeout then t.cand else none) with
          | some (dest, i, _) => s.markFailed dest i
          | none => s
        let put (s : State) (f : TxPk → TxPk) : State := match s.chan p with
          | none => s
          | some c => s.setChan p { c with unret := c.unret.map (fun x => if x.seq = q then f x else x) }
        let s := s.count F.REL_CNT_RETX_COUNT n
        match t.tag.bind s.op with
        | some o => (put s (fun x => { x with retries := x.retries + 1, queued := true })).injectRetx (s.opKey o) p q
        | none =>
          match s.sendVia (withRetx t.bytes) (s.portTile (s.ctxPort c.ctx)) (pTag t.bytes) with
          | (true, cand, s) =>
            let s := put s (fun x => { x with retries := x.retries + 1, cand := cand })
            (match s.chan p with
            | some c => s.setChan p { c with sentAt := s.clk }
            | none => s)
          | (false, _, s) =>
            let s := s.dropTx p q
            match t.msg with
            | some (i, _) => (s.spoil i 0x01 (((s.msg i).map (fun m => m.tag)).getD 0)).msgCheck i
            | none => s

/-! ## Answers at the source -/

/-- The channel that an ACK, a response or a refusal concerns: one that is open already. -/
def State.answerChan (s : State) (b : List Byte) : Option Nat := s.chanOf (ctxOf (pDst b)) (pSrc b)

/-- An ACK (R358). -/
def State.takeAck (s : State) (b : List Byte) : State :=
  match s.answerChan b with
  | none => s
  | some p => match s.chan p with
    | none => s
    | some c =>
      let n := p % 16
      let e := pExt b
      let cum := beAt e 0 4
      let bits := slice e 4 32
      let set := (List.range 256).filter (fun i => (bits.getD (i / 8) 0).getLsbD (7 - i % 8))
      let unsent (q : Nat) : Bool := decide (seqDist 32 q c.next < 2 ^ 31)
      let bad := unsent cum || set.any (fun i => unsent ((cum + 1 + i) % 2 ^ 32))
      if bad then (s.count F.REL_CNT_ACK_BAD_COUNT n).raise (656 + n) 0x07 (p * 2 ^ 32 + cum)
      else
        let covered (q : Nat) : Bool := decide (seqDist 32 cum q < 2 ^ 31) || set.contains (seqDist 32 q ((cum + 1) % 2 ^ 32))
        let done := c.unret.filter (fun t => covered t.seq && decide (t.opc ≠ 0x22) && decide (t.opc ≠ 0x24))
        done.foldl (fun s t => s.retire p t.seq) (s.count F.REL_CNT_ACK_RX_COUNT n)

/-- A GET_RSP or ATOMIC_RSP (R335, R364). -/
def State.takeRsp (s : State) (b : List Byte) : State :=
  let want := if pOpc b = 0x23 then 0x22 else 0x24
  match s.answerChan b with
  | none => s
  | some p =>
    match (s.chan p).bind (fun c => (c.tx (pSeq b)).filter (fun t => decide (t.opc = want))) with
    | none => s.count F.REL_CNT_DUP_COUNT (p % 16)
    | some t =>
      match t.msg with
      | some (i, k) =>
        let s := s.dropTx p t.seq
        (match s.msg i with
        | none => s
        | some m =>
          if m.seen.contains k then s
          else ((s.setMsg i { m with seen := m.seen ++ [k] }).deposit i k (pPayload b) [] 0).msgCheck i)
      | none =>
        let g := t.tag.getD 0
        let off := beAt (pExt b) 0 4
        match t.tag.bind s.op with
        | none => s.dropTx p t.seq
        | some o =>
          let d := pPayload b
          let s := if o.stop then s
            else s.localJob { who := .reply g off, ctx := o.ctx, space := 0, va := if want = 0x24 then o.laddr else o.laddr + off, len := d.length, write := true, data := d }
          s.retire p t.seq

/-- An ACCESS_NAK (R366, R369): a park notice suspends its packet, a refusal retires it. -/
def State.takeNak (s : State) (b : List Byte) : State :=
  match s.answerChan b with
  | none => s
  | some p => match s.chan p with
    | none => s
    | some c =>
      match c.tx (pSeq b) with
      | none => s.count F.REL_CNT_DUP_COUNT (p % 16)
      | some t =>
        let st := beAt (pExt b) 4 1
        let addr := beAt (pPayload b) 0 8
        if st = 0x10 then s.setChan p { c with unret := c.unret.map (fun x => if x.seq = t.seq then { x with suspended := true } else x) }
        else
          let s := s.dropTx p t.seq
          match t.msg with
          | some (i, _) => (s.spoil i 0x02 addr).msgCheck i
          | none => match t.tag with
            | some g => s.failOp g t.seq st addr
            | none => s

/-- A ROUTE_ERROR at the source (R84, R359): matching candidates are marked failed, and the packet it names is sent again. -/
def State.takeRouteError (s : State) (b : List Byte) : State :=
  let w := beAt (pExt b) 0 8
  let s := s.markMatching (routerOf (pSrc b)) w
  (s.answerChan b).elim s (fun p => ((s.chan p).bind (fun c => c.tx (pSeq b))).elim s (fun t =>
    let path : Bool := match t.cand with
      | some (_, _, x) => errorMatches w x
      | none => false
    if path ∧ pTag t.bytes = pTag b ∧ pChunk t.bytes = pChunk b then s.resendTx p t.seq false else s))

/-! ## The halves' resets (R361) -/

/-- The send half starts again at sequence 0; SENDs that have sent nothing are numbered afresh. -/
def State.txReset (s : State) (p : Nat) : State :=
  match s.chan p with
  | none => s
  | some c =>
    if c.unret ≠ [] ∨ c.txFresh then s
    else
      let sends := (s.ep.op.filter (fun (e : Nat × Op) => decide (e.2.chan = some p) && decide (e.2.opc = 0x10) && !e.2.sent)).mergeSort
        (fun a b => decide (a.2.order ≤ b.2.order))
      let s := s.setChan p { c with next := 0, mseq := sends.length, txFresh := true }
      let s := (sends.zip (List.range sends.length)).foldl (fun s x => s.setOp x.1.1 { x.1.2 with mseq := some x.2 }) s
      (s.freeChan p).retryChans

/-- The receive half starts again: marks, held packets and held messages are discarded. Other messages keep their entries, and no
packet of a new run of sequences names them. -/
def State.rxReset (s : State) (p : Nat) : State :=
  match s.chan p with
  | none => s
  | some c =>
    if c.rxFresh then s
    else
      let s := s.setChan p { c with e := 0, nextMatch := 0, marks := [], rx := [], notify := [], sinceAck := 0, ce := false, rxFresh := true }
      let s := (s.setEp { s.ep with resp := s.ep.resp.filter (fun (e : Nat × Resp) => decide (e.1 / 2 ^ 32 ≠ p)) }).showRel (p % 16)
      let mine := s.ep.msg.filter (fun (e : Nat × Msg) => decide (e.2.chan = p))
      let s := mine.foldl (fun s e => if e.2.st = .held then s.dropMsg e.1
        else if e.2.mseq < 2 ^ 32 then s.setMsg e.1 { e.2 with mseq := e.2.mseq + 2 ^ 32 } else s) s
      s.freeChan p

/-! ## Local accesses (R308, R388) -/

/-- A local access is held at a resolvable fault: its EVENT record and kind 0x03 (R388). -/
def State.holdLocal (s : State) (j : Job) (tag code level : Nat) : State :=
  let va := j.va + j.next
  (s.ctxEvent (s.ctxPort j.ctx) 0x03 j.ctx tag code va).xltRaise (j.space % 32) 0x03
    (code * 2 ^ 60 + level * 2 ^ 58 + va / 4096 % 2 ^ 36 * 2 ^ 16 + tag)

/-- A held local access is given up (R388): kind 0x04. -/
def State.localTimeout (s : State) (j : Job) (tag : Nat) : State :=
  match j.fault with
  | none => s
  | some (code, level) => s.xltRaise (j.space % 32) 0x04 (code * 2 ^ 60 + level * 2 ^ 58 + (j.va + j.next) / 4096 % 2 ^ 36 * 2 ^ 16 + tag)

/-- The data that a job has read, in order. -/
def Job.bytes (j : Job) : List Byte := slice (j.got.foldl (fun l x => overwrite l x.1 x.2) []) 0 j.len

/-- What became of a local access: nothing yet, a failure with its status and address, or success. -/
inductive LocalEnd where
  | wait
  | bad (status addr : Nat)
  | good
deriving DecidableEq, Repr

/-- A local access's event: a resolvable fault holds it, and its end gives it up (R377, R386, R388). -/
def State.localEvent (s : State) (id : Nat) (j : Job) (tag : Nat) (ev : JobEv) : LocalEnd × State :=
  match ev with
  | .issued => (.wait, s)
  | .fault code level => if code ≤ 4 then (.wait, s.holdLocal j tag code level) else (.bad 0x06 (j.va + j.next), s.dropJob id)
  | .unresolved => (.bad 0x06 (j.va + j.next), s.dropJob id)
  | .done => match j.failed with
    | some (_, va) => (.bad 0x07 va, s.dropJob id)
    | none => (.good, s.dropJob id)

/-- A segment of an operation's payload has been read, or its read has failed (R463). -/
def State.payloadEnd (s : State) (j : Job) (tag k : Nat) (e : LocalEnd) : State :=
  match e with
  | .wait => s
  | .bad st a => s.failOp tag (2 ^ 32) st a
  | .good => match s.op tag with
    | none => s
    | some o => if o.stop then s else (s.setOp tag { o with ready := minsert o.ready k j.bytes }).injectOp tag

/-- A response has been deposited at the requester, or its deposit has failed (R364). -/
def State.replyEnd (s : State) (tag off : Nat) (e : LocalEnd) : State :=
  match e with
  | .wait => s
  | .bad st a => s.failOp tag (2 ^ 32) st a
  | .good => match s.op tag with
    | none => s
    | some o => (s.setOp tag { o with done := if o.done.contains off then o.done else o.done ++ [off] }).opCheck tag

/-! ## Revocation (R371) -/

/-- REVOKE reads the same in every unit (R373). -/
def State.showRevoke (s : State) : State :=
  (List.range 16).foldl (fun s n => match s.ep.revoke with
    | some r => (s.setFld F.REL_REVOKE_BUSY 1 n).setFld F.REL_REVOKE_REGION r.region n
    | none => s.setFld F.REL_REVOKE_BUSY 0 n) s

/-- Phase 1: the generation moves on, VALID is cleared, and parked packets of the region are refused with reason 0x04. -/
def State.revokeBegin (s : State) (i tag : Nat) : State :=
  let r := s.region i
  let s := s.setEp { s.ep with region := mput {} s.ep.region i { r with gen := (r.gen + 1) % 4096, valid := false },
                               revoke := some { region := i, tag := tag, at_ := s.ftime } }
  (s.ep.job.filter (fun (e : Nat × Job) => decide (e.2.region = some i) && e.2.slot.isSome)).foldl (fun s e =>
    s.refuseJob e.1 e.2 0x04 0x06 (e.2.va + e.2.next)) s.showRevoke

/-- Phase 2: once every admitted access has ended, the completion is written and kind 0x0C raised, by a unit of free choice. -/
def State.revokeEnd (s : State) : State :=
  match s.ep.revoke with
  | none => s
  | some r =>
    if s.ep.job.any (fun (e : Nat × Job) => decide (e.2.region = some r.region)) then s
    else
      let (k, s) := s.takeFree
      let s := (s.setEp { s.ep with revoke := none }).showRevoke
      (s.finishOp r.tag 0 r.refused 0 r.at_).raise (656 + Config.choice k % 16) 0x0C (r.refused * 2 ^ 32 + r.region)

end Sys2Proof.Machine
end

