-- ==== Sys2Proof/Machine/Abacus.lean ====
section
/-!
DEFINITION. Machine/Abacus.lean: the arithmetic of an Abacus slice (chapter 07): formats, accumulators, the addition of
inputs and partials, the residue, finalising, rounding and the wire form of partials.
-/
namespace Sys2Proof.Machine

/-! ## Formats (R199, R202) -/

/-- An element format: bytes, exponent bits (0 for an integer), mantissa bits and beads of its accumulator. -/
structure Fmt where
  bytes : Nat
  eb : Nat
  mb : Nat
  beads : Nat
deriving DecidableEq, Repr

/-- The formats of Table 1. -/
def fmtOf (c : Nat) : Option Fmt :=
  match c with
  | 0x01 => some ⟨2, 5, 10, 1⟩
  | 0x02 => some ⟨2, 8, 7, 5⟩
  | 0x03 => some ⟨4, 8, 23, 5⟩
  | 0x04 => some ⟨8, 11, 52, 34⟩
  | 0x11 => some ⟨4, 0, 0, 1⟩
  | 0x12 => some ⟨8, 0, 0, 2⟩
  | _ => none

/-- The wider format of ordered partials (Table 1). -/
def widerOf (c : Nat) : Option Nat :=
  match c with
  | 0x01 | 0x02 => some 0x03
  | 0x03 => some 0x04
  | 0x11 => some 0x12
  | _ => none

def Fmt.isInt (f : Fmt) : Bool := decide (f.eb = 0)
/-- The exponent of the smallest subnormal, which is L of Table 1; 0 for an integer. -/
def Fmt.lsb (f : Fmt) : Int := if f.eb = 0 then 0 else 2 - (2 ^ (f.eb - 1) : Nat) - (f.mb : Int)
/-- Elements of the largest chunk (R222, R234). -/
def Fmt.elems (f : Fmt) : Nat := 4096 / max 1 f.bytes

/-! ## Values (R204, R212) -/

/-- An input: a NaN, an infinity, or a finite value ±M × 2^x with its sign. -/
inductive Val where
  | nan (signalling : Bool)
  | inf (neg : Bool)
  | fin (neg : Bool) (m : Nat) (x : Int)
deriving DecidableEq, Repr

/-- An element's bits as a value (R204): the integers are two's complement. -/
def Fmt.val (f : Fmt) (v : Nat) : Val :=
  if f.isInt then
    let i := signedOf (8 * f.bytes) v
    .fin (decide (i < 0)) i.natAbs 0
  else
    let neg := v.testBit (f.eb + f.mb)
    let e := v / 2 ^ f.mb % 2 ^ f.eb
    let m := v % 2 ^ f.mb
    if e = 2 ^ f.eb - 1 then (if m = 0 then .inf neg else .nan (!m.testBit (f.mb - 1)))
    else if e = 0 then .fin neg m f.lsb
    else .fin neg (m + 2 ^ f.mb) (f.lsb + ((e - 1 : Nat) : Int))

/-- The bits of an infinity, the default quiet NaN and the largest finite value (R212). -/
def Fmt.infBits (f : Fmt) (neg : Bool) : Nat := (if neg then 2 ^ (f.eb + f.mb) else 0) + (2 ^ f.eb - 1) * 2 ^ f.mb
def Fmt.nanBits (f : Fmt) : Nat := (2 ^ f.eb - 1) * 2 ^ f.mb + 2 ^ (f.mb - 1)
def Fmt.maxBits (f : Fmt) (neg : Bool) : Nat := (if neg then 2 ^ (f.eb + f.mb) else 0) + (2 ^ f.eb - 1) * 2 ^ f.mb - 1

/-- A value's signed key in the order of R200: −0 below +0. -/
def Fmt.orderKey (f : Fmt) (v : Nat) : Int :=
  if f.isInt then signedOf (8 * f.bytes) v
  else
    let mag := v % 2 ^ (f.eb + f.mb)
    if v.testBit (f.eb + f.mb) then -(mag : Int) - 1 else mag

/-! ## Rounding (R211) -/

/-- Magnitude overflow in a rounding mode: infinity or the largest finite value. -/
def Fmt.excess (f : Fmt) (mode : Nat) (neg : Bool) : Nat :=
  if mode = 0 ∨ (mode = 2 ∧ ¬ neg) ∨ (mode = 3 ∧ neg) then f.infBits neg else f.maxBits neg

/-- The bit length of a number. -/
def bitLen (m : Nat) : Nat := if m = 0 then 0 else Nat.log2 m + 1

/-- A non-zero magnitude in units of the format's smallest subnormal rounded: its bits, whether it overflowed, and whether the
rounding changed it. -/
def Fmt.roundMag (f : Fmt) (mode : Nat) (neg : Bool) (m : Nat) : Nat × Bool × Bool :=
  let p := f.mb + 1
  let len := bitLen m
  let sh := len - p
  let q := m / 2 ^ sh
  let r := m % 2 ^ sh
  let half := 2 ^ sh / 2
  let up := match mode with
    | 0 => decide (0 < sh) && (decide (half < r) || (decide (r = half) && decide (q % 2 = 1)))
    | 2 => decide (r ≠ 0) && !neg
    | 3 => decide (r ≠ 0) && neg
    | _ => false
  let q1 := if up then q + 1 else q
  let (q2, sh2) := if q1 = 2 ^ p then (q1 / 2, sh + 1) else (q1, sh)
  let e := if q2 < 2 ^ f.mb then 0 else sh2 + 1
  if 2 ^ f.eb - 1 ≤ e then (f.excess mode neg, true, true)
  else ((if neg then 2 ^ (f.eb + f.mb) else 0) + e * 2 ^ f.mb + q2 % 2 ^ f.mb, false, decide (r ≠ 0))

/-! ## Accumulators (R202–R208) -/

/-- The residue's modulus (R208). -/
abbrev resP : Nat := 2 ^ 61 - 1
/-- The residue of an integer (R208). -/
def resOf (v : Int) : Nat := (v % (resP : Int)).toNat

/-- The flags of a window's status (R214). -/
abbrev stInvalid : Nat := 8
abbrev stOverflow : Nat := 4
abbrev stInexact : Nat := 2
abbrev stExcess : Nat := 1

/-- An accumulator of `n` beads at allocation. -/
def Acc.empty (n : Nat) : Acc := { beads := List.replicate n (0, 0) }

/-- `v` is added to, or taken from, bead `k`; the carry or borrow is counted in the bead's C (R205, R206). -/
def Acc.bead (a : Acc) (k v : Nat) (neg : Bool) : Acc :=
  match a.beads[k]? with
  | none => a
  | some (d, c) =>
    if neg then { a with beads := a.beads.set k ((d + 2 ^ 64 - v) % 2 ^ 64, if d < v then c - 1 else c) }
    else { a with beads := a.beads.set k ((d + v) % 2 ^ 64, if 2 ^ 64 ≤ d + v then c + 1 else c) }

/-- The sign of zero that an input leaves possible (R205). -/
def Acc.zeros (a : Acc) (v : Val) : Acc :=
  match v with
  | .fin false 0 _ => { a with zneg := false }
  | .fin true 0 _ => { a with zpos := false }
  | _ => { a with zpos := false, zneg := false }

/-- An input is added (R205): `o` is its exponent in accumulator units. -/
def Acc.addFin (a : Acc) (neg : Bool) (m o : Nat) : Acc :=
  let b := o / 64
  let w := m * 2 ^ (o % 64)
  let a := (a.bead b (w % 2 ^ 64) neg).bead (b + 1) (w / 2 ^ 64) neg
  let d := m * 2 ^ (o % 61) % resP
  { a with res := (a.res + (if neg then resP - d else d)) % resP }

/-- A value enters a SUM accumulator. -/
def Acc.addVal (a : Acc) (l : Int) (v : Val) : Acc :=
  let a := { a.zeros v with adds := a.adds + 1 }
  match v with
  | .nan sig => { a with nan := true, invalid := a.invalid || sig }
  | .inf neg => if neg then { a with ninf := true } else { a with pinf := true }
  | .fin neg m x =>
    if m = 0 then a
    else if l ≤ x then a.addFin neg m (x - l).toNat
    else a.addFin neg (m / 2 ^ (l - x).toNat) 0

/-- A value enters a MIN or MAX accumulator (R200). -/
def Acc.addMin (a : Acc) (f : Fmt) (max_ : Bool) (bits : Nat) : Acc :=
  let a := { a.zeros (f.val bits) with adds := a.adds + 1 }
  match f.val bits with
  | .nan sig => { a with nan := true, invalid := a.invalid || sig }
  | _ => match a.cur with
    | none => { a with cur := some bits }
    | some c => if (if max_ then decide (f.orderKey c < f.orderKey bits) else decide (f.orderKey bits < f.orderKey c)) then { a with cur := some bits } else a

/-- A finite value that an accumulator cannot take (R218): not a multiple of 2^L, or outside its beads. -/
def valBad (f : Fmt) (v : Val) : Bool :=
  match v with
  | .fin _ m x =>
    if m = 0 then false
    else if x < f.lsb then decide (m % 2 ^ (f.lsb - x).toNat ≠ 0)
    else decide (64 * f.beads ≤ bitLen m + (x - f.lsb).toNat)
  | _ => false

/-- One element of an exact partial (R216). -/
structure XEl where
  nan : Bool := false
  pinf : Bool := false
  ninf : Bool := false
  invalid : Bool := false
  zpos : Bool := false
  zneg : Bool := false
  res : Nat := 0
  beads : List Nat := []
deriving DecidableEq, Repr

/-- The value of a partial's beads, in units of its lowest bead: two's complement. -/
def XEl.num (e : XEl) : Int :=
  let u := (e.beads.zip (List.range e.beads.length)).foldl (fun a x => a + x.1 * 2 ^ (64 * x.2)) 0
  signedOf (64 * e.beads.length + 1) (if e.beads.getLast?.any (fun b => b.testBit 63) then u + 2 ^ (64 * e.beads.length) else u)

/-- An exact partial's element enters an accumulator, its lowest bead at `l` (R206). -/
def Acc.addPart (a : Acc) (e : XEl) (l : Nat) : Acc :=
  let a := (e.beads.zip (List.range e.beads.length)).foldl (fun (a : Acc) x => a.bead (l + x.2) x.1 false) a
  let h := l + e.beads.length - 1
  let a := if e.beads.getLast?.any (fun b => b.testBit 63) then (match a.beads[h]? with
    | some (d, c) => { a with beads := a.beads.set h (d, c - 1) }
    | none => a) else a
  { a with res := (a.res + e.res) % resP, nan := a.nan || e.nan, pinf := a.pinf || e.pinf, ninf := a.ninf || e.ninf,
           invalid := a.invalid || e.invalid, zpos := a.zpos && e.zpos, zneg := a.zneg && e.zneg, adds := a.adds + 1 }

/-! ## Finalise (R210) -/

/-- The full value V of an accumulator. -/
def Acc.v (a : Acc) : Int :=
  (a.beads.zip (List.range a.beads.length)).foldl (fun (s : Int) x => s + ((x.1.1 : Nat) : Int) * (2 ^ (64 * x.2) : Nat) + x.1.2 * (2 ^ (64 * (x.2 + 1)) : Nat)) 0

/-- V is the accumulator's two's-complement value: the condition of R210. -/
def Acc.fits (a : Acc) : Bool :=
  let n := 64 * a.beads.length - 1
  decide (-((2 ^ n : Nat) : Int) ≤ a.v) && decide (a.v < ((2 ^ n : Nat) : Int))

/-- The default results of R212 and the sign of zero of R213 before any rounding: bits and status. -/
def Acc.special (a : Acc) (f : Fmt) : Option (Nat × Nat) :=
  if f.isInt then none
  else
    let inv := if a.invalid then stInvalid else 0
    if a.pinf ∧ a.ninf then some (f.nanBits, stInvalid)
    else if a.nan then some (f.nanBits, inv)
    else if a.pinf then some (f.infBits false, inv)
    else if a.ninf then some (f.infBits true, inv)
    else none

/-- A SUM rounded into a format `g`, whose values are at least as fine as `f`'s: bits and status (R211–R214, R218). -/
def Acc.round (a : Acc) (f g : Fmt) (mode : Nat) : Nat × Nat :=
  match a.special g with
  | some r => r
  | none =>
    let v := a.v
    let neg := decide (v < 0)
    if g.isInt then
      let w := 8 * g.bytes
      let hi : Int := ((2 ^ (w - 1) : Nat) : Int) - 1
      let lo : Int := -((2 ^ (w - 1) : Nat) : Int)
      if hi < v then (ofSigned w hi, stOverflow) else if v < lo then (ofSigned w lo, stOverflow) else (ofSigned w v, 0)
    else if v = 0 then
      ((if a.zneg ∨ (¬ a.zpos ∧ mode = 3) then 2 ^ (g.eb + g.mb) else 0), 0)
    else if ¬ a.fits then (g.excess mode neg, stOverflow + stInexact)
    else
      let (b, o, i) := g.roundMag mode neg (v.natAbs * 2 ^ (f.lsb - g.lsb).toNat)
      (b, (if o then stOverflow else 0) + (if i then stInexact else 0))

/-- A MIN or MAX result: bits and status. -/
def Acc.minMax (a : Acc) (f : Fmt) : Nat × Nat :=
  let inv := if a.invalid then stInvalid else 0
  if a.nan then (f.nanBits, inv) else (a.cur.getD 0, inv)

/-! ## Partials on the wire (R215, R216) -/

/-- The partial header (R215). -/
def partHdr (first contribs : Nat) : List Byte := beBytes 2 first ++ beBytes 2 0 ++ beBytes 4 contribs

/-- An accumulator as the element of an exact partial that it is sent as (R216): its resolved beads, and OVERFLOW where it does not
fit. -/
def Acc.toX (a : Acc) : XEl × Bool :=
  let v := a.v
  let n := a.beads.length
  let e : XEl := { nan := a.nan, pinf := a.pinf, ninf := a.ninf, invalid := a.invalid, zpos := a.zpos, zneg := a.zneg, res := resOf v }
  if a.fits then
    let u := ofSigned (64 * n) v
    ({ e with beads := (List.range n).map (fun k => u / 2 ^ (64 * k) % 2 ^ 64) }, false)
  else ({ e with pinf := a.pinf || decide (0 < v), ninf := a.ninf || decide (v < 0), res := 0, beads := List.replicate n 0 }, true)

/-- The smallest window of an element: none where it is zero, else its lowest and highest bead. -/
def XEl.window (e : XEl) : Option (Nat × Nat) :=
  match e.beads.findIdx? (fun b => decide (b ≠ 0)) with
  | none => none
  | some l =>
    let n := e.beads.length
    let ok (h : Nat) : Bool := (List.range n).all (fun k => decide (k ≤ h) || decide (e.beads.getD k 0 = if (e.beads.getD h 0).testBit 63 then 2 ^ 64 - 1 else 0))
    some (l, max l (((List.range n).find? ok).getD (n - 1)))

def XEl.special (e : XEl) : Bool := e.nan || e.pinf || e.ninf

/-- The bytes of an element's record over a window (R216). A packet of special elements only carries no beads, and the residue of
the beads it carries (log 24). -/
def XEl.record (e : XEl) (l n : Nat) : List Byte :=
  let b (x : Bool) (v : Nat) : Nat := if x then v else 0
  beBytes 1 (b e.nan 128 + b e.pinf 64 + b e.ninf 32 + b e.invalid 16 + b e.zpos 8 + b e.zneg 4) ++ List.replicate 7 0#8 ++
    beBytes 8 (if n = 0 then 0 else e.res) ++ (List.range n).flatMap (fun k => beBytes 8 (e.beads.getD (l + k) 0))

/-- The window of a packet: lowest bead and count. -/
def packWindow (all : Bool) (w : Option (Nat × Nat)) : Nat × Nat :=
  if all then (0, 0) else match w with
    | none => (0, 0)
    | some (l, h) => (l, h - l + 1)

/-- Two windows joined. -/
def joinWindow (a b : Option (Nat × Nat)) : Option (Nat × Nat) :=
  match a, b with
  | none, x => x
  | x, none => x
  | some (l, h), some (k, j) => some (min l k, max h j)

/-- Elements packed in index order (R215): each packet as (first index, elements, lowest bead, bead count). -/
def packExact (first : Nat) (cur : List XEl) (all : Bool) (w : Option (Nat × Nat)) : List XEl → List (Nat × List XEl × Nat × Nat)
  | [] => if cur = [] then [] else [(first, cur.reverse, packWindow all w)]
  | e :: rest =>
    let all' := all && e.special
    let w' := joinWindow w e.window
    if cur ≠ [] ∧ 4096 < 8 + (cur.length + 1) * (16 + 8 * (packWindow all' w').2) then
      (first, cur.reverse, packWindow all w) :: packExact (first + cur.length) [e] e.special e.window rest
    else packExact first (e :: cur) all' w' rest

/-- Elements of a fixed size packed in index order (R215): each packet as (first index, count, bytes). -/
def packPlain (size first : Nat) (d : List Byte) : List (Nat × Nat × List Byte) :=
  let per := 4088 / max 1 size
  let total := d.length / max 1 size
  (List.range ((total + per - 1) / per)).map (fun i =>
    let n := min per (total - per * i)
    (first + per * i, n, slice d (size * per * i) (size * n)))

/-- The elements of an exact partial's payload (R216): bead count `n`, `c` elements. -/
def readExact (p : List Byte) (c n : Nat) : List XEl :=
  (List.range c).map (fun i =>
    let o := 8 + i * (16 + 8 * n)
    let f := beAt p o 1
    { nan := f.testBit 7, pinf := f.testBit 6, ninf := f.testBit 5, invalid := f.testBit 4, zpos := f.testBit 3, zneg := f.testBit 2,
      res := beAt p (o + 8) 8 % 2 ^ 61, beads := (List.range n).map (fun k => beAt p (o + 16 + 8 * k) 8) })

/-- The incoming check (R209): the residue carried is that of the beads at their place. -/
def XEl.resOk (e : XEl) (l : Nat) : Bool := decide (e.res % resP = resOf (e.num * ((2 ^ (64 * l % 61) : Nat) : Int)))

end Sys2Proof.Machine
end

