-- ==== Sys2Proof/Machine/Collective.lean ====
section
/-!
DEFINITION. Machine/Collective.lean: collective trees (chapter 08): members, windows and their space, contributions, results
and their replication, barriers, re-pulls, failures, and the collective operations of contexts.
-/
namespace Sys2Proof.Machine

/-! ## Tree entries (R92, R230, R231) -/

/-- Word `w` of a tree entry in the active copy (R97). -/
def State.tw (s : State) (t w : Nat) : Nat := (s.rd64 ((if s.flag F.TRE_TBL_CTRL_ACTIVE then 0x1600000 else 0x1500000) + 256 * t + 8 * w)).toNat
/-- The contexts that a member table names: (slot, context) of valid slots (R231). -/
def State.slots (s : State) (t : Nat) : List (Nat × Nat) :=
  let base := (if s.flag F.TRE_TBL_CTRL_ACTIVE then 0x1A00000 else 0x1900000) + 256 * t
  (List.range 64).filterMap (fun i => let w := (s.rd (base + 4 * i)).toNat; if w.testBit 31 then some (i, w % 2 ^ 18) else none)

def State.treeRoot (s : State) (t : Nat) : Bool := (s.tw t 0).testBit 61
def State.treeParent (s : State) (t : Nat) : Nat := s.tw t 0 / 2 ^ 32 % 2 ^ 14
/-- The child edges in use. -/
def State.treeEdges (s : State) (t : Nat) : List Nat := (List.range 16).filter (fun e => (s.tw t 0).testBit (16 + e))
def State.treeChild (s : State) (t e : Nat) : Nat := s.tw t (18 + e / 4) / 2 ^ (16 * (e % 4)) % 2 ^ 14
def State.treeOrdered (s : State) (t : Nat) : Bool := (s.tw t 23).testBit 62
def State.treeRound (s : State) (t : Nat) : Nat := s.tw t 23 / 2 ^ 60 % 4
def State.upTc (s : State) (t : Nat) : Nat := s.tw t 23 / 2 ^ 57 % 8
def State.downTc (s : State) (t : Nat) : Nat := s.tw t 23 / 2 ^ 54 % 8
def State.treeFmt (s : State) (t : Nat) : Nat := s.tw t 23 / 2 ^ 40 % 256
def State.treeOp (s : State) (t : Nat) : Nat := s.tw t 23 / 2 ^ 32 % 256
def State.upEdge (s : State) (t : Nat) : Nat := s.tw t 23 / 2 ^ 28 % 16
def State.maxWindows (s : State) (t : Nat) : Nat := let v := s.tw t 23 / 2 ^ 20 % 256; if v = 0 then 16 else v
def State.repullLimit (s : State) (t : Nat) : Nat := max 1 (s.tw t 23 / 2 ^ 16 % 16)
def State.treeRootId (s : State) (t : Nat) : Nat := s.tw t 24 / 2 ^ 50

/-- The local members of a tree (R231). -/
def State.localMembers (s : State) (t : Nat) : List (Nat × Nat) :=
  (s.slots t).filter (fun x => decide ((s.ctx x.2).state = CS.enabled) && (s.tw t 22).testBit (s.ctx x.2).port)

/-- The slot of a context in a tree. -/
def State.slotOf (s : State) (t c : Nat) : Option Nat := ((s.localMembers t).find? (fun x => decide (x.2 = c))).map (·.1)

/-- The contributors of a chunk (R232). -/
def State.contributors (s : State) (t : Nat) : List Nat := (s.localMembers t).map (·.1) ++ (s.treeEdges t).map (fun e => 64 + e)

/-- A lookup of a tree's entry for a packet: whether it is used. An entry found bad is not used until it is committed again (R103);
without a member entry that carries collectives the packet is discarded with kind 0x01 (R93, R230). -/
def State.treeLookup (s : State) (t : Nat) (b : List Byte) : Bool × State :=
  let s := if s.armed F.TRE_INJECT_TBL_ECC 0 then
      ({ s.setArmed F.TRE_INJECT_TBL_ECC 0 false with coll := { s.coll with bad := t :: s.coll.bad.filter (fun x => decide (x ≠ t)) } }).raise 690 0x02
        (t * 2 ^ 48 + t % 16 / 8 * 2 ^ 40)
    else s
  if s.coll.bad.contains t then (false, s)
  else if (s.tw t 0).testBit 63 ∧ (s.tw t 0).testBit 62 ∧ (s.tw t 23).testBit 63 then (true, s)
  else (false, (s.count F.TRE_CNT_NOTREE_COUNT 0).raise 690 0x01 (t * 2 ^ 48 + pOpc b * 2 ^ 40 + pTag b))

/-! ## Packets of a tree -/

/-- The collective extension (R41). -/
def collExt (flags t fmt op inst contrib l n e : Nat) : List Byte :=
  beBytes 2 (flags % 16 * 4096 + t % 4096) ++ beBytes 1 fmt ++ beBytes 1 op ++ beBytes 4 inst ++ beBytes 2 contrib ++ beBytes 2 l ++ beBytes 2 n ++ beBytes 2 e

def cFlags (b : List Byte) : Nat := beAt (pExt b) 0 2 / 4096
def cFmt (b : List Byte) : Nat := beAt (pExt b) 2 1
def cOp (b : List Byte) : Nat := beAt (pExt b) 3 1
def cInst (b : List Byte) : Nat := beAt (pExt b) 4 4
def cContrib (b : List Byte) : Nat := beAt (pExt b) 8 2
def cLow (b : List Byte) : Nat := beAt (pExt b) 10 2
def cBeads (b : List Byte) : Nat := beAt (pExt b) 12 2
def cCount (b : List Byte) : Nat := beAt (pExt b) 14 2
/-- The tree of a packet (R92). -/
def cTree (b : List Byte) : Nat := pDst b % 4096
/-- The first element and the contributions of a partial header (R215). -/
def cFirst (b : List Byte) : Nat := beAt (pPayload b) 0 2
def cContribs (b : List Byte) : Nat := beAt (pPayload b) 4 4

/-- The source pipeline of a tree's slice (R610). -/
def slicePipe (t : Nat) : Nat := 16 * (t % 16 / 8)

/-- A tree packet's header toward a router. -/
def State.treeHead (s : State) (t router opc tc tag chunk : Nat) : PktHead :=
  { dst := fabAddr router t, src := fabAddr s.routerId t, opc := opc, tc := tc, tag := tag, chunk := chunk }

/-- An upward packet is sent to the parent (R238); DROP_UP discards the next one (R252). -/
def State.sendUp (s : State) (t : Nat) (b : List Byte) : State :=
  if s.armed F.TRE_COLL_INJECT_DROP_UP 0 then s.setArmed F.TRE_COLL_INJECT_DROP_UP 0 false else s.sendBuilt b (s.tw t 1) (slicePipe t)

/-- A packet built here is sent to every child edge (R95). -/
def State.sendDown (s : State) (t : Nat) (mk : Nat → List Byte) : State :=
  if ¬ s.flag F.TRE_CFG_REPL_EN then s
  else (s.treeEdges t).foldl (fun s e => (s.count F.TRE_CNT_REPL_COUNT 0).sendBuilt (mk (s.treeChild t e)) (s.tw t (2 + e)) (slicePipe t)) s

/-- The header of a tree copy (R95). -/
def copyHdr (b : List Byte) (dst src path : Nat) : List Byte :=
  sealHdr (setFlag (setFlag (setVc (overwrite (setPath (slice b 0 32) path) 8 (beBytes 4 dst ++ beBytes 4 src)) 0) 7 false) 2 false)

/-- A downward packet is copied to each child edge; its cells stay until the last copy has left (R60, R95, R96). -/
def State.replicate (s : State) (d : Dlv) (t : Nat) : State :=
  let es := s.treeEdges t
  let s := if es = [] ∧ s.tw t 22 = 0 then s.raise 690 0x03 (t * 2 ^ 48) else s
  if ¬ s.flag F.TRE_CFG_REPL_EN then s
  else match s.pkt d.pkt with
    | none => s
    | some p =>
      let s := s.setPkt d.pkt { p with copies := p.copies + es.length }
      es.foldl (fun s e =>
        let h := copyHdr d.bytes (fabAddr (s.treeChild t e) t) (fabAddr s.routerId t) (s.tw t (2 + e))
        (s.count F.TRE_CNT_REPL_COUNT 0).forwardPkt d.pkt p.pipe p.inLink h (some (e2eCrc (h ++ d.bytes.drop 32)))) s

/-! ## Windows and their space (R222–R226, R250, R465) -/

def wKey (t i c : Nat) : Nat := t * 2 ^ 48 + i % 2 ^ 32 * 2 ^ 16 + c % 2 ^ 16
def State.win (s : State) (k : Nat) : Option Window := mfind s.coll.win k

/-- The window keys of a slice. -/
def State.sliceWins (s : State) (n : Nat) : List (Nat × Window) := s.coll.win.filter (fun (e : Nat × Window) => decide (e.2.tree % 16 = n))
def unitsOf (l : List (Nat × Window)) (hbm : Bool) : Nat := ((l.filter (fun e => decide (e.2.inHbm = hbm))).map (fun e => e.2.units)).sum

/-- The registers of a slice that show its windows (R227). -/
def State.showAbc (s : State) (n : Nat) : State :=
  let l := s.sliceWins n
  let held (h : Bool) : Nat := (l.filter (fun e => decide (e.2.inHbm = h) && decide (e.2.units ≠ 0))).length
  let s := (s.setFld F.ABC_CELLS_USED (512 * unitsOf l false) n).setFld F.ABC_WINDOWS_HBM (held true) n
  let s := (s.setFld F.ABC_WINDOWS_SRAM (held false) n).setFld F.ABC_HBM_USED_UNITS (unitsOf l true) n
  s.setFld F.ABC_HBM_QUOTA_UNITS (s.fld F.PLC_ABC_QUOTA) n

def State.setWin (s : State) (k : Nat) (w : Window) : State :=
  ({ s with coll := { s.coll with win := minsert s.coll.win k w } }).showAbc (w.tree % 16)

/-- A window is used: it becomes the most recently updated. -/
def State.touchWin (s : State) (k : Nat) (w : Window) : State :=
  ({ s with coll := { s.coll with used := s.coll.used + 1 } }).setWin k { w with used := s.coll.used }

/-- The units of a window (R222): N + 1 cells an element for a SUM, 2 for MIN and MAX. -/
def winUnits (f : Fmt) (red : Nat) : Nat := (f.elems * (if red = 0 then f.beads + 1 else 2) + 511) / 512

/-- SRAM units of a slice (R222). -/
abbrev sliceUnits : Nat := 768

/-- The next window to spill: SENT ones before OPEN ones, the least recently updated first (R224). -/
def spillVictim (l : List (Nat × Window)) (but : Nat) : Option (Nat × Window) :=
  let c := l.filter (fun e => !e.2.inHbm && decide (e.2.units ≠ 0) && decide (e.1 ≠ but))
  let sent := c.filter (fun e => decide (e.2.ph ≠ .open_))
  let pick (l : List (Nat × Window)) : Option (Nat × Window) := l.foldl (fun (b : Option (Nat × Window)) e => match b with
    | some x => if e.2.used < x.2.used then some e else b
    | none => some e) none
  match pick sent with
  | some e => some e
  | none => pick c

/-- Room for `u` units in a slice's SRAM, spilling whole windows where SPILL_EN and the quota allow (R224). The fuel bounds the
windows spilled. -/
def State.makeRoomN (s : State) (n u but : Nat) : Nat → Option State
  | 0 => none
  | k + 1 =>
    let l := s.sliceWins n
    if unitsOf l false + u ≤ sliceUnits then some s
    else if ¬ s.flag F.ABC_CFG_SPILL_EN n then none
    else match spillVictim l but with
      | none => none
      | some (i, w) =>
        if s.fld F.PLC_ABC_QUOTA < unitsOf l true + w.units then none
        else ((s.count F.ABC_CNT_SPILL_COUNT n).setWin i { w with inHbm := true }).makeRoomN n u but k

def State.makeRoom (s : State) (n u but : Nat) : Option State := s.makeRoomN n u but ((s.sliceWins n).length + 1)

/-- A window or copy window is allocated for a key (R222, R250, R465), or there is no key or no room for it yet. -/
def State.allocWin (s : State) (k : Nat) (w : Window) : Option State :=
  let n := w.tree % 16
  let l := s.sliceWins n
  if 4096 ≤ l.length ∨ s.maxWindows w.tree ≤ (l.filter (fun e => decide (e.2.tree = w.tree))).length then none
  else
    let used := unitsOf l false
    let done (s : State) (w : Window) : State :=
      ({ s with coll := { s.coll with stalled := s.coll.stalled.filter (fun x => decide (x ≠ k)) } }).touchWin k w
    if s.fld F.PLC_ABC_HBM_ABOVE * sliceUnits ≤ 100 * used ∧ unitsOf l true + w.units ≤ s.fld F.PLC_ABC_QUOTA then
      some (done s { w with inHbm := true })
    else (s.makeRoom n w.units k).map (fun s => done s w)

/-- A key is kept as a tombstone, or as failed, without cells (R239, R244). -/
def State.tombWin (s : State) (k : Nat) (w : Window) (ph : WPh) : State :=
  s.setWin k { ph := ph, tree := w.tree, inst := w.inst, chunk := w.chunk }

/-! ## Operations of member contexts (R233, R234, R243, R245–R247) -/

def Op.tree (o : Op) : Nat := (if o.opc = 0x43 then o.dByte 20 2 else o.dByte 40 4) % 4096
def Op.inst (o : Op) : Nat := if o.opc = 0x43 then o.dByte 16 4 else o.dByte 36 4
def Op.srcFlag (o : Op) : Bool := o.flags.testBit 0

/-- The collective operation of a context that waits on an instance. -/
def State.collOp (s : State) (c t i : Nat) (opcs : List Nat) : Option (Nat × Op) :=
  s.ep.op.find? (fun (e : Nat × Op) => decide (e.2.ctx = c) && e.2.started && !e.2.stop && decide (e.2.opc ∈ opcs) && decide (e.2.tree = t) && decide (e.2.inst = i))

/-- Bytes of each element reversed: host memory holds elements little-endian (log 25). -/
def swapElems (size : Nat) (d : List Byte) : List Byte :=
  (List.range (d.length / max 1 size)).flatMap (fun i => (slice d (size * i) size).reverse)

/-- The element size of an operation's packets. -/
def State.opElem (s : State) (o : Op) : Nat := if o.opc = 0x40 then (match fmtOf (s.treeFmt o.tree) with
  | some f => f.bytes
  | none => 1) else 1

/-- The bytes that an operation contributes: X elements, the broadcast's or the gather's block. -/
def State.opBytes (s : State) (o : Op) : Nat := if o.opc = 0x40 then o.dByte 32 4 * s.opElem o else if o.opc = 0x41 ∧ ¬ o.srcFlag then 0 else o.dByte 32 4

/-- The global chunk index of an operation's `k`-th chunk (R247). -/
def Op.chunk (o : Op) (k : Nat) : Nat := if o.opc = 0x42 then o.dByte 44 2 * (o.dByte 32 4 / 4096) + k else k

/-- The packets of a chunk's contribution, from element `first` (R235). -/
def State.chunkPackets (s : State) (o : Op) (tag slot k first : Nat) (d : List Byte) : List (List Byte) :=
  let size := s.opElem o
  let t := o.tree
  let ps := packPlain size first (if o.opc = 0x40 then swapElems size d else d)
  let opc := if o.opc = 0x40 then 0x40 else if o.opc = 0x41 then 0x44 else 0x45
  let tc := if o.opc = 0x41 then s.downTc t else s.upTc t
  let fmt := if o.opc = 0x40 then s.treeFmt t else 0
  let red := if o.opc = 0x40 then s.treeOp t else 0
  ps.map (fun p =>
    mkPacket { s.treeHead t s.routerId opc tc tag (o.chunk k) with first := decide (p.1 = 0), last := decide (p.1 + p.2.1 = first + d.length / max 1 size), fence := o.fence }
      (collExt 0 t fmt red o.inst slot 0 0 p.2.1) (partHdr p.1 (if o.opc = 0x40 then 1 else 0) ++ p.2.2))

/-- Chunks of an operation's own data. -/
def State.opChunks (s : State) (o : Op) : Nat := (s.opBytes o + 4095) / 4096

/-- A chunk of an operation is staged again from an element (R240): the job's segment number says which. -/
def restageKey (k first : Nat) : Nat := 2 ^ 40 + k * 2 ^ 16 + first

def State.restage (s : State) (tag k first : Nat) : State :=
  match s.op tag with
  | none => s
  | some o =>
    let off := 4096 * k + first * s.opElem o
    let n := min 4096 (s.opBytes o - 4096 * k) - first * s.opElem o
    if n = 0 then s
    else s.localJob { who := .payload tag (restageKey k first), ctx := o.ctx, space := 0, va := o.laddr + off, len := n, write := false }

/-- A chunk of a collective operation has been read: its packets join those to send. Two packets hold a whole chunk. -/
def State.collPayload (s : State) (tag k : Nat) (d : List Byte) : State :=
  match s.op tag with
  | none => s
  | some o =>
    match s.slotOf o.tree o.ctx with
    | none => s
    | some slot =>
      let again := decide (2 ^ 40 ≤ k)
      let c := if again then (k - 2 ^ 40) / 2 ^ 16 else k
      let ps := s.chunkPackets o tag slot c (if again then k % 2 ^ 16 else 0) d
      let base := if again then o.segs else 2 * c
      let o := { o with ready := (ps.zip (List.range ps.length)).foldl (fun m x => minsert m (base + x.2) x.1) o.ready, segs := if again then o.segs + ps.length else o.segs }
      (s.setOp tag o).injectOp tag

/-- A deposit's place and length in one number: what has landed at a member context is kept by it. -/
def landKey (off len : Nat) : Nat := off * 8192 + len

/-- Data is deposited for an operation, at most once for each place (R243). -/
def State.collDeposit (s : State) (tag : Nat) (o : Op) (base off : Nat) (d : List Byte) : State :=
  let key := landKey off d.length
  let known := o.done.any (fun x => decide (x / 8192 = off)) || s.ep.job.any (fun (e : Nat × Job) => match e.2.who with
    | .coll g k => decide (g = tag) && decide (k / 8192 = off)
    | _ => false)
  if known then s
  else s.localJob { who := .coll tag key, ctx := o.ctx, space := 0, va := base + off, len := d.length, write := true, data := d }

/-- The chunks of a reduction that an operation is due (R245). -/
def State.dueChunks (s : State) (o : Op) : Nat := min (o.dByte 46 2 + 1) (s.opChunks o) - o.dByte 44 2

/-- A collective operation completes once everything due to it has landed (Table 3 of chapter 11). -/
def State.collCheck (s : State) (tag : Nat) : State :=
  match s.op tag with
  | none => s
  | some o =>
    let got := (o.done.map (fun x => x % 8192)).sum
    let all := if o.opc = 0x40 then decide (s.dueChunks o ≤ o.done.length)
      else if o.opc = 0x41 then !o.srcFlag && decide (o.dByte 32 4 ≤ got)
      else decide (o.dByte 46 2 * o.dByte 32 4 ≤ got)
    if o.started ∧ o.opc ∈ [0x40, 0x41, 0x42] ∧ all then s.finishOp tag 0 got 0 0 else s

/-- A deposit at a member context has ended (R243). -/
def State.collEnd (s : State) (tag key : Nat) (e : LocalEnd) : State :=
  match e with
  | .wait => s
  | .bad st a => s.finishOp tag st 0 0 a
  | .good => match s.op tag with
    | none => s
    | some o => (s.setOp tag { o with done := o.done ++ [key] }).collCheck tag

/-- A result chunk reaches the local members (R243, R245). -/
def State.deliverResult (s : State) (t i chunk fmt : Nat) (d : List Byte) : State :=
  let size := ((fmtOf fmt).map (fun f => f.bytes)).getD 1
  (s.localMembers t).foldl (fun s m => match s.collOp m.2 t i [0x40] with
    | none => s
    | some (g, o) =>
      let lo := o.dByte 44 2
      if lo ≤ chunk ∧ chunk ≤ o.dByte 46 2 then s.collDeposit g o (o.dByte 24 8) (4096 * (chunk - lo)) (swapElems size d) else s) s

/-- A broadcast or gather packet reaches the local members (R246, R247). -/
def State.deliverBcast (s : State) (t i chunk first : Nat) (d : List Byte) : State :=
  (s.localMembers t).foldl (fun s m => match s.collOp m.2 t i [0x41, 0x42] with
    | none => s
    | some (g, o) =>
      let off := 4096 * chunk + first
      let total := if o.opc = 0x41 then o.dByte 32 4 else o.dByte 46 2 * o.dByte 32 4
      if (o.opc = 0x41 ∧ o.srcFlag) ∨ total < off + d.length then s
      else s.collDeposit g o (if o.opc = 0x41 then o.laddr else o.dByte 24 8) off d) s

/-- Every operation of the local members on an instance ends with a status (R242, R244). -/
def State.endInstance (s : State) (t i status : Nat) (opcs : List Nat) : State :=
  (s.localMembers t).foldl (fun s m => match s.collOp m.2 t i opcs with
    | none => s
    | some (g, _) => s.finishOp g status 0 0 0) s

/-! ## Re-pull and failure (R240–R244) -/

/-- COLL_REPULL toward a router: flags RESULT 8, GONE 4. -/
def State.repullPkt (s : State) (t router i chunk flags first : Nat) : List Byte :=
  mkPacket (s.treeHead t router 0x48 7 0 chunk) (collExt flags t 0 0 i 0 0 0 0) (beBytes 2 first ++ List.replicate 6 0#8)

/-- One contributor of a chunk is re-pulled from an element (R240). -/
def State.repullOne (s : State) (t i chunk c first : Nat) (bar : Bool) : State :=
  if 64 ≤ c then
    (s.count F.TRE_CNT_REPULL_TX_COUNT 0).sendBuilt (s.repullPkt t (s.treeChild t (c - 64)) i chunk 0 first) (s.tw t (2 + (c - 64))) (slicePipe t)
  else match (s.slots t).find? (fun x => decide (x.1 = c)) with
    | none => s
    | some (_, ctx) =>
      if bar then
        (match s.collOp ctx t i [0x43] with
        | some (g, o) =>
          let b := mkPacket { s.treeHead t s.routerId 0x46 (s.upTc t) g 0 with first := true, last := true } (collExt 0 t 0 0 i c 0 0 0) []
          (s.setOp g { o with segs := o.segs + 1, ready := minsert o.ready o.segs b }).injectOp g
        | none => s)
      else match s.collOp ctx t i [0x40, 0x41, 0x42] with
        | some (g, o) => if o.opc = 0x42 then s.restage g (chunk - o.chunk 0) first else s.restage g chunk first
        | none => s

/-- Every incomplete contributor of a window is re-pulled from its NEXT. -/
def State.repullAll (s : State) (w : Window) : State :=
  (w.contribs.filter (fun c => !w.complete.contains c)).foldl (fun s c => s.repullOne w.tree w.inst w.chunk c (mget 0 w.next c) false) s

/-- The containing action of R209: the window returns to its allocated state, and every contributor is re-pulled at once (R241). -/
def State.resetWin (s : State) (k : Nat) (w : Window) : State :=
  let w := { w with ph := .open_, next := [], complete := [], count := none, total := 0, flags := 0, acc := [], out := [], progress := true }
  (s.setWin k w).repullAll w

/-- A failure notice (R244). -/
def State.failPkt (s : State) (t router i chunk : Nat) : List Byte :=
  mkPacket (s.treeHead t router 0x64 7 0 chunk) (collExt 8 t 0 0 i 0 0 0 0) []

/-- Failure notices to the parent and every child, except the router that sent one (R244). -/
def State.sendFails (s : State) (t i chunk : Nat) (but : Option Nat) : State :=
  let s := if s.treeRoot t ∨ but = some (s.treeParent t) then s else s.sendBuilt (s.failPkt t (s.treeParent t) i chunk) (s.tw t 1) (slicePipe t)
  (s.treeEdges t).foldl (fun s e => if but = some (s.treeChild t e) then s
    else s.sendBuilt (s.failPkt t (s.treeChild t e) i chunk) (s.tw t (2 + e)) (slicePipe t)) s

/-- A chunk fails at this member, or by a notice (R244). -/
def State.failWin (s : State) (t i chunk : Nat) (but : Option Nat) : State :=
  let k := wKey t i chunk
  match s.win k with
  | some { ph := .failed, .. } => s
  | _ =>
    let s := s.tombWin k { tree := t, inst := i, chunk := chunk } .failed
    let s := if but.isNone then (s.count F.TRE_CNT_FAIL_COUNT 0).raise 690 0x05 (t * 2 ^ 48 + chunk * 2 ^ 32 + i) else s
    (s.sendFails t i chunk but).endInstance t i 0x09 [0x40, 0x41, 0x42]

/-! ## Partials and results (R238, R242) -/

/-- The accumulators of a window's elements. -/
def Window.accs (w : Window) (f : Fmt) : List Acc :=
  (List.range (w.count.getD 0)).map (fun i => (mfind w.acc i).getD (Acc.empty (if w.red = 0 then f.beads else 1)))

/-- The status flags of a window beside its elements': those received, and EXCESS (R214). -/
def Window.status (w : Window) : Nat := w.flags ||| (if 2 ^ 20 < w.total then stExcess else 0)

/-- The partial of a SENT window is sent to the parent from an element (R216, R218, R219, R238, R240). -/
def State.sendPartial (s : State) (w : Window) (first : Nat) : State :=
  match fmtOf w.fmt with
  | none => s
  | some f =>
    let t := w.tree
    let n := w.count.getD 0
    let as_ := (w.accs f).drop first
    let inv (a : Acc) : Nat := if a.invalid then stInvalid else 0
    let send (s : State) (opc l c p e fl : Nat) (pay : List Byte) : State :=
      let h := { s.treeHead t (s.treeParent t) opc (s.upTc t) w.tag w.chunk with first := decide (p = 0), last := decide (p + e = n) }
      (s.count F.ABC_CNT_PART_TX_COUNT (t % 16)).sendUp t
        (mkPacket h (collExt (w.status ||| fl) t w.fmt w.red w.inst (64 + s.upEdge t) l c e) (partHdr p w.total ++ pay))
    let wide := widerOf w.fmt
    if w.red = 0 ∧ (¬ s.treeOrdered t ∨ wide.isNone) then
      let xs := as_.map (fun a => (a.toX.1, (if a.toX.2 then stOverflow else 0) ||| inv a))
      (packExact first [] true none (xs.map (·.1))).foldl (fun s p =>
        let (p, es, l, c) := p
        let fl := ((xs.drop (p - first)).take es.length).foldl (fun a x => a ||| x.2) 0
        send s 0x41 l c p es.length fl (es.flatMap (fun e => e.record l c))) s
    else
      let g := if w.red = 0 then ((wide.bind fmtOf).getD f) else f
      let vs := as_.map (fun a => let (v, st) := if w.red = 0 then a.round f g 0 else a.minMax f; (beBytes g.bytes v, st ||| inv a))
      (packPlain g.bytes first (vs.flatMap (·.1))).foldl (fun s p =>
        let (p, e, d) := p
        let fl := ((vs.drop (p - first)).take e).foldl (fun a x => a ||| x.2) 0
        send s 0x42 0 0 p e fl d) s

/-- The COLL_RESULT of a chunk toward a router: its elements in one packet (log 26). -/
def State.resultPkt (s : State) (w : Window) (router : Nat) : List Byte :=
  match w.out with
  | (_, e, d, _) :: _ =>
    mkPacket { s.treeHead w.tree router 0x43 (s.downTc w.tree) w.tag w.chunk with first := true, last := true } (collExt w.flags w.tree w.fmt w.red w.inst 0 0 0 e) d
  | [] => []

/-- A complete window is finalised (R209, R210): a member sends its partial, the root rounds and sends the result (R238). -/
def State.finaliseWin (s : State) (k : Nat) (w : Window) : State :=
  match fmtOf w.fmt with
  | none => s
  | some f =>
    let t := w.tree
    let n := t % 16
    let accs := w.accs f
    let bad := if s.armed F.ABC_INJECT_RESIDUE n then some 0
      else if w.red = 0 then accs.findIdx? (fun a => decide (resOf a.v ≠ a.res % resP)) else none
    match bad with
    | some i =>
      let s := (s.setArmed F.ABC_INJECT_RESIDUE n false).count F.ABC_CNT_RESIDUE_COUNT n
      (s.raise (416 + n) 0x01 (t * 2 ^ 48 + w.chunk * 2 ^ 32 + i * 2 ^ 16 + w.tag)).resetWin k w
    | none =>
      if s.treeRoot t then
        let rs := accs.map (fun a => let (v, st) := if w.red = 0 then a.round f f (s.treeRound t) else a.minMax f; (v, st ||| (if a.invalid then stInvalid else 0)))
        let fl := rs.foldl (fun a x => a ||| x.2) w.status
        let d := rs.flatMap (fun x => beBytes f.bytes x.1)
        let inex := (rs.filter (fun x => (x.2).testBit 1)).length
        let s := s.count F.ABC_CNT_RESULT_COUNT n rs.length
        let s := if inex = 0 then s else s.count F.ABC_CNT_INEXACT_COUNT n inex
        let w := { w with ph := .sent, flags := fl, out := [(0, rs.length, d, true)], acc := [] }
        let s := s.setWin k w
        (s.sendDown t (fun r => s.resultPkt w r)).deliverResult t w.inst w.chunk w.fmt d
      else
        let w := { w with ph := .sent, repulls := 0, progress := true }
        (s.setWin k w).sendPartial w 0

/-! ## Contributions (R201, R206, R207, R217, R218, R236, R237) -/

/-- A malformed collective packet: kind 0x03 (R201, R217, R218). -/
def State.collMalformed (s : State) (b : List Byte) : State :=
  let t := cTree b
  (s.count F.ABC_CNT_MALFORMED_COUNT (t % 16)).raise (416 + t % 16) 0x03 (t * 2 ^ 48 + pOpc b * 2 ^ 40 + cFmt b * 2 ^ 32 + cOp b * 2 ^ 24 + pTag b)

/-- R201 as far as the packet alone shows it; an exact partial of a MIN or MAX is none that a member sends. -/
def collFormBad (b : List Byte) : Bool :=
  match fmtOf (cFmt b) with
  | none => true
  | some f =>
    decide (2 < cOp b) || (decide (pOpc b = 0x42) && decide (cOp b = 0) && (widerOf (cFmt b)).isNone) || (decide (pOpc b = 0x41) && decide (cOp b ≠ 0)) ||
    (match pOpc b with
    | 0x41 => decide (pPlen b ≠ 8 + cCount b * (16 + 8 * cBeads b)) || decide (f.beads < cLow b + cBeads b)
    | 0x42 => decide (pPlen b ≠ 8 + cCount b * (if cOp b = 0 then (((widerOf (cFmt b)).bind fmtOf).getD f).bytes else f.bytes))
    | _ => decide (pPlen b ≠ 8 + cCount b * f.bytes))

/-- The elements that an exact partial carries, and none for a contribution or an ordered partial (R206). -/
def contribParts (b : List Byte) : List XEl := if pOpc b = 0x41 then readExact (pPayload b) (cCount b) (cBeads b) else []

/-- The format of the values in a packet that carries values: the ordered partial of a sum carries the wider format (R218). -/
def Window.valFmt (w : Window) (b : List Byte) (f : Fmt) : Fmt :=
  if pOpc b = 0x42 ∧ w.red = 0 then ((widerOf w.fmt).bind fmtOf).getD f else f

/-- The values in a packet that carries values. -/
def Window.vals (w : Window) (b : List Byte) (f : Fmt) : List Nat :=
  let g := w.valFmt b f
  if pOpc b = 0x41 then [] else (List.range (cCount b)).map (fun i => beAt (pPayload b) (8 + g.bytes * i) g.bytes)

/-- The accumulator that a packet's `i`-th element meets. -/
def Window.accAt (w : Window) (b : List Byte) (f : Fmt) (i : Nat) : Acc :=
  (mfind w.acc (cFirst b + i)).getD (Acc.empty (if w.red = 0 then f.beads else 1))

/-- The accumulator with a packet's `i`-th element taken in. -/
def Window.accWith (w : Window) (b : List Byte) (f : Fmt) (i : Nat) : Acc :=
  if pOpc b = 0x41 then (w.accAt b f i).addPart ((contribParts b).getD i {}) (cLow b)
  else if w.red = 0 then (w.accAt b f i).addVal f.lsb ((w.valFmt b f).val ((w.vals b f).getD i 0))
  else (w.accAt b f i).addMin f (decide (w.red = 2)) ((w.vals b f).getD i 0)

/-- The window with a packet taken in. -/
def Window.took (w : Window) (b : List Byte) (f : Fmt) : Window :=
  let c := cContrib b
  let p := cFirst b
  let e := cCount b
  let fin := pLast b
  { w with acc := (List.range e).foldl (fun m i => minsert m (p + i) (w.accWith b f i)) w.acc, next := minsert w.next c (p + e),
           complete := if fin then w.complete ++ [c] else w.complete, count := if fin then some (p + e) else w.count,
           total := if fin then w.total + cContribs b else w.total, flags := if pOpc b = 0x40 then w.flags else w.flags ||| cFlags b,
           tag := pTag b, progress := true }

/-- A packet whose place and shape are right is added to its window (R204, R213), unless an injected error, a value that the format
does not have, an accumulator with 2^22 additions or a wrong residue stops it. -/
def State.addContrib (s : State) (k : Nat) (w : Window) (b : List Byte) (f : Fmt) : State :=
  let t := w.tree
  let n := t % 16
  let p := cFirst b
  let at_ := t * 2 ^ 48 + w.chunk * 2 ^ 32
  if s.armed F.ABC_INJECT_BEAD_ECC n then
    let r := (s.setArmed F.ABC_INJECT_BEAD_ECC n false).takeFree
    (r.2.raise (416 + n) 0x02 (at_ + Config.choice r.1 % 2 ^ 19)).resetWin k w
  else if w.red = 0 ∧ (w.vals b f).any (fun v => valBad f ((w.valFmt b f).val v)) then s.collMalformed b
  else
    let full := (List.range (cCount b)).find? (fun i => decide (2 ^ 22 ≤ (w.accAt b f i).adds))
    full.elim
      (let wrong := (contribParts b).findIdx? (fun x => !x.resOk (cLow b))
       wrong.elim
         (let w' := w.took b f
          let s' := (s.touchWin k w').count F.ABC_CNT_ELEM_COUNT n (cCount b)
          if w'.contribs.all (fun c => w'.complete.contains c) then s'.finaliseWin k w' else s')
         (fun i => (s.count F.ABC_CNT_RESIDUE_COUNT n).raise (416 + n) 0x08 (at_ + (p + i) * 2 ^ 16 + routerOf (pSrc b))))
      (fun i => (s.count F.ABC_CNT_MALFORMED_COUNT n).raise (416 + n) 0x05 (at_ + (p + i) * 2 ^ 16))

/-- A packet's elements are added into its window, which is looked at for completeness. -/
def State.takeContrib (s : State) (k : Nat) (w : Window) (b : List Byte) : State :=
  (fmtOf w.fmt).elim s (fun f =>
    let t := w.tree
    let c := cContrib b
    let p := cFirst b
    let e := cCount b
    let nxt := mget 0 w.next c
    let len08 := s.raise 690 0x08 (t * 2 ^ 48 + w.chunk * 2 ^ 32 + c * 2 ^ 16 + pTag b)
    if cFmt b ≠ w.fmt then s.collMalformed b
    else if ¬ w.contribs.contains c then s
    else if w.complete.contains c ∨ p < nxt then s.count F.TRE_CNT_DUP_COUNT 0
    else if nxt < p then s.count F.TRE_CNT_AHEAD_COUNT 0
    else if f.elems < p + e then (if pOpc b = 0x41 then s.collMalformed b else len08)
    else if pLast b ∧ w.count.isSome ∧ w.count ≠ some (p + e) then len08
    else s.addContrib k w b f)

/-- A window in HBM is to be filled before it is next used (R224). -/
def State.wantFill (s : State) (k : Nat) (w : Window) : State := s.setWin k { w with filling := true }

/-- A contribution or partial: whether it has been dealt with, or waits for space, a key or a fill (R222–R225, R239). -/
def State.tryContrib (s : State) (b : List Byte) : Bool × State :=
  let t := cTree b
  let k := wKey t (cInst b) (pChunk b)
  if collFormBad b then (true, s.collMalformed b)
  else match s.win k with
    | some w =>
      if w.ph = .open_ then (if w.inHbm then (false, s.wantFill k w) else (true, s.takeContrib k w b))
      else (true, s.count F.TRE_CNT_DUP_COUNT 0)
    | none =>
      let f := (fmtOf (cFmt b)).getD ⟨1, 0, 0, 1⟩
      match s.allocWin k { tree := t, inst := cInst b, chunk := pChunk b, fmt := cFmt b, red := cOp b, contribs := s.contributors t, units := winUnits f (cOp b) } with
      | none => (false, s)
      | some s => match s.win k with
        | none => (true, s)
        | some w => if w.inHbm then (false, s.wantFill k w) else (true, s.takeContrib k w b)

/-! ## Gathers and broadcasts at the root (R239, R246, R247) -/

/-- A stored chunk is sent down the tree as COLL_BCAST and delivered here. -/
def State.sendCopy (s : State) (w : Window) : State :=
  w.out.foldl (fun s p =>
    let (first, e, d, last) := p
    let mk (r : Nat) : List Byte := mkPacket { s.treeHead w.tree r 0x44 (s.downTc w.tree) w.tag w.chunk with first := decide (first = 0), last := last }
      (collExt 0 w.tree 0 0 w.inst 0 0 0 e) (partHdr first 0 ++ d)
    (s.sendDown w.tree mk).deliverBcast w.tree w.inst w.chunk first d) s

/-- A gather's or a broadcast source's packet joins its copy window at the root; a whole chunk is sent down, and a duplicate sends it
down again. -/
def State.takeCopy (s : State) (k : Nat) (w : Window) (b : List Byte) : State :=
  let c := cContrib b
  let p := cFirst b
  let e := cCount b
  let nxt := mget 0 w.next c
  if w.ph = .copy then (if pLast b then (s.count F.TRE_CNT_DUP_COUNT 0).sendCopy w else s.count F.TRE_CNT_DUP_COUNT 0)
  else if p < nxt then s.count F.TRE_CNT_DUP_COUNT 0
  else if nxt < p then s.count F.TRE_CNT_AHEAD_COUNT 0
  else if 4096 < p + e ∨ pPlen b ≠ 8 + e then s.raise 690 0x08 (w.tree * 2 ^ 48 + w.chunk * 2 ^ 32 + c * 2 ^ 16 + pTag b)
  else
    let w := { w with next := minsert w.next c (p + e), out := w.out ++ [(p, e, slice (pPayload b) 8 e, pLast b)], tag := pTag b, progress := true,
                      ph := if pLast b then .copy else w.ph }
    let s := s.touchWin k w
    if pLast b then s.sendCopy w else s

/-- A packet for a copy window: dealt with, or waiting. -/
def State.tryCopy (s : State) (b : List Byte) : Bool × State :=
  let t := cTree b
  let k := wKey t (cInst b) (pChunk b)
  match s.win k with
  | some w =>
    if w.ph = .tomb ∨ w.ph = .failed ∨ w.ph = WPh.sent then (true, s.count F.TRE_CNT_DUP_COUNT 0)
    else if w.inHbm then (false, s.wantFill k w)
    else (true, s.takeCopy k w b)
  | none =>
    match s.allocWin k { tree := t, inst := cInst b, chunk := pChunk b, contribs := [cContrib b], units := 1 } with
    | none => (false, s)
    | some s => match s.win k with
      | none => (true, s)
      | some w => if w.inHbm then (false, s.wantFill k w) else (true, s.takeCopy k w b)

/-- A COLL_GATHER at a member: relayed to the parent with this member's contributor index, or stored at the root (R247). -/
def State.tryGather (s : State) (b : List Byte) : Bool × State :=
  let t := cTree b
  if s.treeRoot t then s.tryCopy b
  else
    let x := overwrite (pExt b) 8 (beBytes 2 (64 + s.upEdge t))
    let h := { s.treeHead t (s.treeParent t) 0x45 (pTc b) (pTag b) (pChunk b) with first := pFirst b, last := pLast b, seq := pSeq b, fence := pFence b }
    (true, s.sendUp t (mkPacket h x (pPayload b)))

/-! ## Barriers (R248) -/

def bKey (t i : Nat) : Nat := t * 2 ^ 32 + i % 2 ^ 32
def State.bar (s : State) (k : Nat) : Option Bar := mfind s.coll.bar k
def State.setBar (s : State) (k : Nat) (x : Bar) : State := { s with coll := { s.coll with bar := minsert s.coll.bar k x } }

/-- The local members' barriers of an instance complete. -/
def State.barDone (s : State) (t i : Nat) : State := (s.count F.TRE_CNT_BARRIER_COUNT 0).endInstance t i 0 [0x43]

def State.barUpPkt (s : State) (t i : Nat) : List Byte :=
  mkPacket { s.treeHead t (s.treeParent t) 0x46 (s.upTc t) 0 0 with first := true, last := true } (collExt 0 t 0 0 i (64 + s.upEdge t) 0 0 0) []
def State.barDownPkt (s : State) (t i router : Nat) : List Byte :=
  mkPacket { s.treeHead t router 0x47 (s.downTc t) 0 0 with first := true, last := true } (collExt 0 t 0 0 i 0 0 0 0) []

/-- A contributor has arrived at a barrier; the last one sends it up, or down from the root. -/
def State.barTake (s : State) (k t i : Nat) (x : Bar) (c : Nat) : State :=
  if x.ph ≠ .open_ ∨ x.arrived.contains c then s.count F.TRE_CNT_DUP_COUNT 0
  else if ¬ x.contribs.contains c then s
  else
    let x := { x with arrived := x.arrived ++ [c], progress := true }
    if x.contribs.all (fun c => x.arrived.contains c) then
      let s := s.setBar k { x with ph := .sent, repulls := 0 }
      if s.treeRoot t then (s.sendDown t (fun r => s.barDownPkt t i r)).barDone t i else s.sendUp t (s.barUpPkt t i)
    else s.setBar k x

/-- A BARRIER_UP: dealt with, or waiting for one of the tree's four instances. -/
def State.tryBarrier (s : State) (b : List Byte) : Bool × State :=
  let t := cTree b
  let i := cInst b
  let k := bKey t i
  match s.bar k with
  | some x => (true, s.barTake k t i x (cContrib b))
  | none =>
    let live := s.coll.bar.filter (fun (e : Nat × Bar) => decide (e.1 / 2 ^ 32 = t) && (decide (e.2.ph = .open_) || decide (e.2.ph = .sent)))
    if 4 ≤ live.length then (false, s)
    else (true, s.barTake k t i { contribs := s.contributors t } (cContrib b))

/-- A barrier fails (R244, R253). -/
def State.failBar (s : State) (t i : Nat) (but : Option Nat) : State :=
  let k := bKey t i
  match s.bar k with
  | some { ph := .failed, .. } => s
  | _ =>
    let s := s.setBar k { ph := .failed }
    let s := if but.isNone then (s.count F.TRE_CNT_FAIL_COUNT 0).raise 690 0x09 (t * 2 ^ 48 + i) else s
    (s.sendFails t i 0 but).endInstance t i 0x09 [0x43]

/-! ## Re-pulls answered (R240, R242) -/

/-- A COLL_REPULL: dealt with, or waiting for a window's fill. -/
def State.tryRepull (s : State) (b : List Byte) : Bool × State :=
  let t := cTree b
  let i := cInst b
  let c := pChunk b
  let k := wKey t i c
  let from_ := routerOf (pSrc b)
  let fl := cFlags b
  let ans (s : State) : State := s.count F.TRE_CNT_REPULL_RX_COUNT 0
  let routed (s : State) (p : List Byte) : State := s.sendRouted p (slicePipe t) 0
  let gone (s : State) : State := ((ans s).count F.TRE_CNT_GONE_COUNT 0).sendRouted (s.repullPkt t from_ i c 4 0) (slicePipe t) 0
  if fl.testBit 2 then
    let s := s.count F.TRE_CNT_GONE_COUNT 0
    match s.win k, s.bar (bKey t i) with
    | some w, _ =>
      if w.ph = WPh.sent then
        (true, ((s.raise 690 0x06 (t * 2 ^ 48 + c * 2 ^ 32 + i)).tombWin k w .tomb).endInstance t i 0x0A [0x40])
      else (true, s)
    | none, some x =>
      if x.ph = WPh.sent then (true, ((s.raise 690 0x06 (t * 2 ^ 48 + i)).setBar (bKey t i) { ph := .tomb }).endInstance t i 0x0A [0x43]) else (true, s)
    | none, none => (true, s)
  else if fl.testBit 3 then
    match s.win k, s.bar (bKey t i) with
    | some w, _ =>
      if w.ph = WPh.sent ∧ w.out ≠ [] then
        (if w.inHbm then (false, s.wantFill k w) else (true, routed (ans s) (s.resultPkt w from_)))
      else if w.ph = .failed then (true, routed (ans s) (s.failPkt t from_ i c))
      else (true, gone s)
    | none, some x =>
      if x.ph = WPh.sent ∧ s.treeRoot t then (true, routed (ans s) (s.barDownPkt t i from_))
      else if x.ph = .failed then (true, routed (ans s) (s.failPkt t from_ i c))
      else (true, gone s)
    | none, none => (true, gone s)
  else
    match s.win k, s.bar (bKey t i) with
    | some w, _ =>
      if w.ph = WPh.sent then (if w.inHbm then (false, s.wantFill k w) else (true, (ans s).sendPartial w (beAt (pPayload b) 0 2)))
      else if w.ph = .failed then (true, (ans s).sendBuilt (s.failPkt t (s.treeParent t) i c) (s.tw t 1) (slicePipe t))
      else (true, s)
    | none, some x =>
      if x.ph = WPh.sent then (true, (ans s).sendUp t (s.barUpPkt t i))
      else if x.ph = .failed then (true, (ans s).sendBuilt (s.failPkt t (s.treeParent t) i c) (s.tw t 1) (slicePipe t))
      else (true, s)
    | none, none => (true, s)

/-! ## Arrival at the tree (R23, R93, R94) -/

/-- An upward packet, a broadcast of this root's source or a re-pull is dealt with, or waits. -/
def State.tryTree (s : State) (b : List Byte) : Bool × State :=
  match pOpc b with
  | 0x45 => s.tryGather b
  | 0x46 => s.tryBarrier b
  | 0x48 => s.tryRepull b
  | 0x44 => s.tryCopy b
  | _ => s.tryContrib b

/-- Waiting packets of a slice are tried again, oldest first; one that still waits keeps those behind it on its input link waiting
too (R23, R224). -/
def State.retryWaiting (s : State) (n : Nat) : State :=
  let mine := s.coll.waiting.filter (fun x => decide (cTree x.2.bytes % 16 = n))
  let others := s.coll.waiting.filter (fun x => decide (cTree x.2.bytes % 16 ≠ n))
  let (left, s) := mine.foldl (fun (acc : List (Nat × Dlv) × State) x =>
    let (left, s) := acc
    if left.any (fun y => decide (y.2.inLink = x.2.inLink)) then (left ++ [x], s)
    else match s.tryTree x.2.bytes with
      | (true, s) => (left, s.copyDone x.2.pkt)
      | (false, s) => (left ++ [x], s)) ([], { s with coll := { s.coll with waiting := others } })
  { s with coll := { s.coll with waiting := s.coll.waiting ++ left } }

/-- The oldest delivery of a collective opcode whose slice is awake is taken, its cells kept. -/
def State.takeColl (s : State) (o : Nat) : Option Dlv × State :=
  match firstIdx s.fwd.dlv (fun d => decide (pOpc d.bytes = o) && s.awake (Dom.slice (cTree d.bytes % 16))) with
  | none => (none, s)
  | some (i, d) => (some d, { s with fwd := { s.fwd with dlv := s.fwd.dlv.eraseIdx i } })

/-- An upward packet or re-pull reaches the tree: it keeps its place behind packets of its input link that wait (R23). -/
def State.treeReceive (s : State) (o : Nat) : State :=
  if s.safe then s
  else match s.takeColl o with
    | (none, s) => s
    | (some d, s) =>
      let t := cTree d.bytes
      match s.treeLookup t d.bytes with
      | (false, s) => s.copyDone d.pkt
      | (true, s) =>
        let key := wKey t (cInst d.bytes) (pChunk d.bytes)
        let wait (s : State) : State := { s with coll := { s.coll with waiting := s.coll.waiting ++ [(key, d)] } }
        if s.coll.waiting.any (fun x => decide (x.2.inLink = d.inLink) && decide (cTree x.2.bytes % 16 = t % 16)) then wait s
        else match s.tryTree d.bytes with
          | (true, s) => s.copyDone d.pkt
          | (false, s) => wait s

/-- A downward packet at a member: it is copied to each child, and what it says is done here. -/
def State.downReceive (s : State) (o : Nat) (act : State → List Byte → State) : State :=
  if s.safe then s
  else match s.takeColl o with
    | (none, s) => s
    | (some d, s) =>
      match s.treeLookup (cTree d.bytes) d.bytes with
      | (false, s) => s.copyDone d.pkt
      | (true, s) => (act (s.replicate d (cTree d.bytes)) d.bytes).copyDone d.pkt

/-- A COLL_RESULT at a member frees its SENT window and is delivered (R239, R243). -/
def State.takeResult (s : State) (b : List Byte) : State :=
  let t := cTree b
  let k := wKey t (cInst b) (pChunk b)
  let s := match s.win k with
    | some w => if w.ph = WPh.sent ∧ ¬ s.treeRoot t then s.tombWin k w .tomb else s
    | none => s
  s.deliverResult t (cInst b) (pChunk b) (cFmt b) (pPayload b)

/-- A COLL_BCAST that came down the tree is delivered (R246). -/
def State.takeBcast (s : State) (b : List Byte) : State :=
  s.deliverBcast (cTree b) (cInst b) (pChunk b) (cFirst b) ((pPayload b).drop 8)

/-- A BARRIER_DOWN at a member (R248). -/
def State.takeBarDown (s : State) (b : List Byte) : State :=
  let t := cTree b
  let k := bKey t (cInst b)
  let s := match s.bar k with
    | some x => if x.ph = WPh.sent then s.setBar k { ph := .tomb } else s
    | none => s
  s.barDone t (cInst b)

/-- A failure notice (R244). -/
def State.takeFail (s : State) (b : List Byte) : State :=
  let t := cTree b
  let from_ := some (routerOf (pSrc b))
  if ¬ (cFlags b).testBit 3 then s
  else if (s.win (wKey t (cInst b) (pChunk b))).isNone ∧ pChunk b = 0 ∧ (s.bar (bKey t (cInst b))).isSome then s.failBar t (cInst b) from_
  else s.failWin t (cInst b) (pChunk b) from_

end Sys2Proof.Machine
end

