-- ==== Sys2Proof/Machine/Viaduct.lean ====
section
/-!
DEFINITION. Machine/Viaduct.lean: viaducts at their source, hops and destination (R191–R196): staging, setup and tear-down,
deposits and the destination's account.
-/
namespace Sys2Proof.Machine

def State.setVia (s : State) (v : Via) : State := { s with via := v }
def State.viaSrc (s : State) (v : Nat) : ViaSrc := mget {} s.via.src v
def State.setViaSrc (s : State) (v : Nat) (x : ViaSrc) : State := s.setVia { s.via with src := mput {} s.via.src v x }
def State.viaDst (s : State) (v : Nat) : ViaDst := mget {} s.via.dst v
def State.setViaDst (s : State) (v : Nat) (x : ViaDst) : State := s.setVia { s.via with dst := mput {} s.via.dst v x }
def State.viaArmed (s : State) (v : Nat) : Bool := mget false s.via.armed v
def State.setArmedVia (s : State) (v : Nat) (on : Bool) : State := s.setVia { s.via with armed := mput false s.via.armed v on }

/-- Word `w` of the active viaduct entry. -/
def State.vw (s : State) (v w : Nat) : Nat := s.viaWord s.viaB v w
/-- The viaduct is armed at this router as source (R309). -/
def State.viaSource (s : State) (v : Nat) : Bool :=
  vValid (s.vw v 0) && decide (vRole (s.vw v 0) = 1) && s.viaArmed v && decide ((s.viaSrc v).phase = 2)

/-! ## Control packets (R194, Table 6) -/

/-- The viaduct control extension, without the part that only VIA_SETUP has. -/
def viaCtl (v flags reason router final gaps : Nat) : List Byte :=
  beBytes 4 v ++ beBytes 1 flags ++ beBytes 1 reason ++ beBytes 2 (router % 2 ^ 14) ++ beBytes 4 final ++ beBytes 4 gaps

/-- A reply to a VIA_SETUP or VIA_TEARDOWN, sent to the router that built it. -/
def State.viaReply (s : State) (b : List Byte) (refused : Bool) (reason gaps : Nat) : State :=
  let x := viaCtl (pVia b) (if refused then 0xC0 else 0x80) reason s.routerId (beAt (pExt b) 8 4) gaps ++ slice (pExt b) 16 (8 * pXlen b - 16)
  s.sendRouted (mkPacket { dst := pSrc b, src := fabAddr s.routerId 0, opc := pOpc b, tc := 7 } x []) 0 0

/-- VIA_SETUP of a source is sent along its path word. -/
def State.sendSetup (s : State) (v : Nat) : State :=
  let x := viaCtl v 0 0 0 0 0 ++ beBytes 8 (s.ftime - s.cyclePos) ++ beBytes 8 0
  s.sendBuilt (mkPacket { dst := (Config.viaDest v).toNat, src := fabAddr s.routerId 0, opc := 0x71, tc := 7 } x []) (s.vw v 1) 0

/-! ## The source (R191) -/

/-- Staged packets of a viaduct's operation that have not left the router. -/
def State.viaLeft (s : State) (tag : Nat) : Bool :=
  s.fwd.pkts.any (fun (e : Nat × Pkt) => e.2.inLink.isNone && decide (pOpc e.2.bytes = 0x70) && decide (pTag e.2.bytes = tag))

/-- The tear-down after the last descriptor: the source disarms, and VIA_TEARDOWN carries the final sequence. -/
def State.sendTeardown (s : State) (v : Nat) : State :=
  let x := s.viaSrc v
  let b := mkPacket { dst := (Config.viaDest v).toNat, src := fabAddr s.routerId 0, opc := 0x72, tc := 7 } (viaCtl v 0 0 0 (x.slot + 2 ^ 32 - 1) 0) []
  ((s.setViaSrc v { x with phase := 3 }).setArmedVia v false).sendBuilt b (s.vw v 1) 0

/-- The next packet of an operation joins the gate queue while QUEUE_CELLS allows. -/
def State.viaStageOne (s : State) (v tag : Nat) (o : Op) (d : List Byte) : Option State :=
  let w0 := s.vw v 0
  let l := vOut w0
  let x := s.viaSrc v
  let k := o.built
  let b := mkPacket { dst := (Config.viaDest v).toNat, src := s.ownAddr o.ctx, opc := 0x70, tc := o.tc, viaduct := true, tag := tag, chunk := k,
                      first := decide (k = 0), last := decide (k + 1 = o.segs), fence := o.fence } (beBytes 4 v ++ beBytes 4 x.slot) d
  let used := ((s.gq l v).map (fun g => ((s.pkt g.pkt).map (fun p => cellsOf p.len)).getD 0)).sum
  if vCells w0 < used + cellsOf b.length then none
  else
    let h := setPath (if s.boundary l then setVc b 1 else b) (s.vw v 1 + 2 ^ 10)
    let (id, s) := s.addPkt { bytes := b, len := b.length, pipe := s.opPipe o, fate := .viaduct }
    let s := s.setGq l v (s.gq l v ++ [{ pkt := id, hdr := sealHdr h, slot := x.slot }])
    some ((s.setViaSrc v { x with slot := (x.slot + 1) % 2 ^ 32 }).setOp tag { o with built := k + 1, sent := true, ready := merase o.ready k })

/-- One turn of a viaduct's source (R191): its front descriptor leaves the list or one of its packets is staged, and whether another turn
may follow. -/
def State.viaTurn (s : State) (v : Nat) : Bool × State :=
  let x := s.viaSrc v
  if ¬ s.viaSource v then (false, s)
  else
    let front := x.ops.find? (fun t => match s.op t with
      | some o => decide (o.built < o.segs) || !s.viaLeft t
      | none => true)
    front.elim (false, s) (fun tag =>
      let rest := s.setViaSrc v { x with ops := x.ops.filter (fun t => decide (t ≠ tag)) }
      match s.op tag with
      | none => (true, rest)
      | some o =>
        if o.segs ≤ o.built then
          if o.flags.testBit 0 then (false, (rest.finishOp tag 0 o.len 0 0).sendTeardown v) else (true, rest.finishOp tag 0 o.len 0 0)
        else if ¬ s.gatesOn then (false, s)
        else ((mfind o.ready o.built).bind (fun d => s.viaStageOne v tag o d)).elim (false, s) (fun t => (true, t)))

/-- Packets are staged in order, and an operation whose last packet has left completes; FINAL is followed by the tear-down. The
fuel bounds the packets. -/
def State.viaGo (s : State) (v : Nat) : Nat → State
  | 0 => s
  | n + 1 =>
    let r := s.viaTurn v
    if r.1 then r.2.viaGo v n else r.2

/-- Every source is looked at. -/
def State.viaSources (s : State) : State := s.via.src.foldl (fun s e => if e.2.ops = [] then s else s.viaGo e.1 65536) s

/-- A packet of an operation has been read, or its read has failed. -/
def State.viaReadEnd (s : State) (j : Job) (tag k : Nat) (e : LocalEnd) : State :=
  match e with
  | .wait => s
  | .bad st a => s.finishOp tag st 0 0 a
  | .good => match s.op tag with
    | none => s
    | some o => s.setOp tag { o with ready := minsert o.ready k j.bytes }

/-- The viaduct's descriptors fail: its setup has had no reply, or was refused (R194). -/
def State.viaFail (s : State) (v : Nat) : State :=
  let x := s.viaSrc v
  x.ops.foldl (fun s t => s.finishOp t 0x0D 0 0 0) (s.setViaSrc v {})

/-! ## The destination (R192, R193) -/

/-- A member context's account is written once every deposit up to it has been passed on; the tear-down is answered after it. -/
def State.viaDstCheck (s : State) (v : Nat) : State :=
  let x := s.viaDst v
  let waits := s.ep.job.any (fun (e : Nat × Job) => !e.2.issued && (match e.2.who with
    | .viaDep _ u _ => decide (u = v)
    | _ => false))
  match x.due with
  | none => s
  | some high =>
    if waits then s
    else
      let c := s.vw v 1 / 2 ^ 46
      let s := if 0 < x.missing then s.raise 691 0x0A (v * 2 ^ 32 + min x.missing (2 ^ 32 - 1)) else s
      let s := (s.setViaDst v { x with due := none, missing := 0 }).viaEntry c v high x.missing
      match x.fin with
      | none => s
      | some b => (((s.setViaDst v {}).setArmedVia v false)).viaReply b false 0 x.gaps

def State.viaDests (s : State) : State := s.via.dst.foldl (fun s e => s.viaDstCheck e.1) s

/-- Sequences found missing. -/
def State.viaGap (s : State) (v n : Nat) : State :=
  if n = 0 then s
  else
    let x := s.viaDst v
    (s.setViaDst v { x with missing := x.missing + n, gaps := x.gaps + n }).count F.VIA_CNT_GAP_COUNT 0 n

/-- A deposit fails: the packet counts as missing, and the fault is reported to the context (R192, R287). -/
def State.viaFault (s : State) (v c why va : Nat) : State :=
  (s.viaGap v 1).ctxEvent (s.ctxPort c) 0x03 c 0 why va

/-- Sequences up to `q` have been passed: a completion is due at each multiple of NOTIFY_EVERY. -/
def State.viaPass (s : State) (v q : Nat) : State :=
  let x := s.viaDst v
  let every := s.vw v 3 % 2 ^ 16
  let hit := decide (every ≠ 0) && decide (x.expect / every < (q + 1) / every)
  s.setViaDst v { x with expect := (q + 1) % 2 ^ 32, due := if hit then some q else x.due }

/-- The checks that a put's access passes (R192, R353), with the first that fails. -/
def State.viaAccess (s : State) (v c va len : Nat) : Option Nat :=
  let key := s.vw v 1 % 2 ^ 32
  let rw := s.vw v 3 / 2 ^ 32
  let r := s.region (rw % 2 ^ 20)
  if ¬ s.ctxInbound c then some 0x01
  else if ¬ s.keyValid key then some 0x03
  else if rw / 2 ^ 20 ≠ r.gen then some 0x04
  else if ¬ r.valid then some 0x05
  else if key ≠ r.key then some 0x06
  else if r.pd ≠ (s.ctx c).pd then some 0x07
  else if va < r.base ∨ r.base + r.len < va + len then some 0x08
  else if ¬ r.rights.testBit 1 then some 0x09
  else none

/-- A VIA_DATA at its destination (R192, R193, R196). -/
def State.viaData (s : State) (d : Dlv) : State :=
  let b := d.bytes
  let v := pVia b
  let q := pSlot b
  let w0 := s.vw (v % 4096) 0
  if ¬ s.gatesOn then s.viaMissed v q
  else if 4096 ≤ v ∨ ¬ vValid w0 ∨ vRole w0 ≠ 2 ∨ ¬ s.viaArmed v ∨ d.inLink ≠ some (vIn w0) then
    (s.count F.VIA_CNT_NOENTRY_COUNT 0).raise 691 0x09 (v % 4096 * 2 ^ 32 + d.inLink.getD 0xFF * 2 ^ 8)
  else
    let x := s.viaDst v
    let ahead := seqDist 32 q x.expect
    if 2 ^ 31 ≤ ahead then s
    else
      let c := s.vw v 1 / 2 ^ 46
      let s := (s.viaGap v ahead).viaPass v q
      let va := s.vw v 2 + q * vBytes w0 % 2 ^ (s.vw v 3 / 2 ^ 26 % 64)
      let pay := pPayload b
      match s.viaAccess v c va pay.length with
      | some r => (s.viaFault v c r va).viaDstCheck v
      | none =>
        (s.startJob { who := .viaDep c v q, ctx := c, space := s.vw v 1 % 2 ^ 32 / 2 ^ 16, va := va, len := pay.length, write := true, data := pay,
                      region := some (s.vw v 3 / 2 ^ 32 % 2 ^ 20) }).viaDstCheck v

/-- A deposit's event. -/
def State.viaDepEvent (s : State) (id : Nat) (j : Job) (v c : Nat) (ev : JobEv) : State :=
  match ev with
  | .issued => s
  | .fault code _ => (s.dropJob id).viaFault v c code (j.va + j.next)
  | .unresolved => s.dropJob id
  | .done => match j.failed with
    | some (st, va) => (s.dropJob id).viaFault v c st va
    | none => s.dropJob id

/-! ## Setup and tear-down at a hop (R194, R196) -/

/-- Why a hop refuses a VIA_SETUP (Table 6). -/
def State.setupRefusal (s : State) (d : Dlv) : Option Nat :=
  let b := d.bytes
  let v := pVia b
  let w0 := s.vw (v % 4096) 0
  let w := pPath b
  let last := decide (wNext w = wCount w)
  if ¬ s.gatesOn then some 4
  else if 4096 ≤ v ∨ ¬ vValid w0 then some 1
  else if vRole w0 ≠ (if last then 2 else 0) then some 2
  else if d.inLink ≠ some (vIn w0) ∨ (!last && decide (vOut w0 ≠ wHop w (wNext w))) then some 3
  else if ¬ last ∧ s.freeShared (s.linkTile (vOut w0) / 16) < vCells w0 then some 5
  else none

/-- A VIA_SETUP, or its reply at the source. -/
def State.viaSetup (s : State) (d : Dlv) : State :=
  let b := d.bytes
  let v := pVia b
  if (beAt (pExt b) 4 1).testBit 7 then
    let s := s.copyDone d.pkt
    let x := s.viaSrc v
    if x.phase ≠ 1 then s
    else if (beAt (pExt b) 4 1).testBit 6 then s.viaFail v
    else (s.setViaSrc v { phase := 2, ops := x.ops }).setArmedVia v true
  else match s.setupRefusal d with
    | some r => (s.copyDone d.pkt).viaReply b true r 0
    | none =>
      let s := s.setArmedVia v true
      if wNext (pPath b) = wCount (pPath b) then (((s.copyDone d.pkt).setViaDst v {})).viaReply b false 0 0
      else match s.pkt d.pkt with
        | some p => s.forwardPkt d.pkt p.pipe p.inLink (slice b 0 32) none
        | none => s

/-- A VIA_TEARDOWN: kept at a hop until its gate queue is empty, counted and answered at the destination, or its reply at the source. -/
def State.viaTeardown (s : State) (d : Dlv) : State :=
  let b := d.bytes
  let v := pVia b
  if (beAt (pExt b) 4 1).testBit 7 then
    let s := s.copyDone d.pkt
    if (s.viaSrc v).phase = 3 then s.setViaSrc v {} else s
  else if wNext (pPath b) = wCount (pPath b) then
    let s := s.copyDone d.pkt
    let final := beAt (pExt b) 8 4
    let x := s.viaDst v
    let n := seqDist 32 ((final + 1) % 2 ^ 32) x.expect
    let s := if n < 2 ^ 31 then s.viaGap v n else s
    let x := s.viaDst v
    (s.setViaDst v { x with expect := (final + 1) % 2 ^ 32, due := some final, fin := some b }).viaDstCheck v
  else s.setVia { s.via with tear := minsert s.via.tear v d.pkt }

/-- A tear-down that waits at a hop: the hop disarms and passes it on. -/
def State.teardownForward (s : State) (v : Nat) : State :=
  match mfind s.via.tear v with
  | none => s
  | some id =>
    let s := (s.setVia { s.via with tear := merase s.via.tear v }).setArmedVia v false
    match s.pkt id with
    | some p => s.forwardPkt id p.pipe p.inLink (slice p.bytes 0 32) none
    | none => s

/-- The oldest delivery of an opcode, its cells kept. -/
def State.takeKept (s : State) (o : Nat) : Option Dlv × State :=
  match firstIdx s.fwd.dlv (fun d => decide (pOpc d.bytes = o)) with
  | none => (none, s)
  | some (i, d) => (some d, { s with fwd := { s.fwd with dlv := s.fwd.dlv.eraseIdx i } })

end Sys2Proof.Machine
end

