-- ==== Sys2Proof/Machine/Cpu.lean ====
section
/-!
DEFINITION. Machine/Cpu.lean: what a hart does beside computing (chapters 15 and 16): CSRs, traps, PMP, translation, and its
accesses to Normal, Device and Host memory. The privileged architecture of R400 is that of RISC-V (log 30).
-/
namespace Sys2Proof.Machine

/-- The cluster of a hart (R5, Table 2 of the glossary). -/
def clusterOf (h : Nat) : Nat := h / 128

/-! ## CSRs (R400, R422) -/

abbrev CSR.mstatus : Nat := 0x300
abbrev CSR.medeleg : Nat := 0x302
abbrev CSR.mideleg : Nat := 0x303
abbrev CSR.mie : Nat := 0x304
abbrev CSR.mip : Nat := 0x344
abbrev CSR.mcycle : Nat := 0xB00
abbrev CSR.minstret : Nat := 0xB02
abbrev CSR.satp : Nat := 0x180

/-- The bits of mstatus that can be written, and those of sstatus. -/
abbrev mstatusMask : W64 := 0x00000000007E19AA#64
abbrev sstatusMask : W64 := 0x00000000000C0122#64
/-- The interrupts of S mode; no rule names a source of any other. -/
abbrev sIrqMask : W64 := 0x222#64

/-- A word with the bits of a mask replaced. -/
def maskIn (old v m : W64) : W64 := (old &&& ~~~m) ||| (v &&& m)

def Hart.mstatus (x : Hart) : W64 := x.c CSR.mstatus ||| 0xA00000000#64

/-- The 2 GHz clocks for which a hart's cluster has been awake (R559). -/
def State.hartClk (s : State) (h : Nat) : W64 := BitVec.ofNat 64 (2 * mget 0 s.pwr.awakeNs (clusterOf h))

/-- Programmable counter `i`, 3 to 10 (R559, R561). -/
def State.hpmVal (s : State) (h i : Nat) : W64 :=
  if microEvent ((s.hart h).c (0x320 + i)) then Config.microCount (h * 16 + i) s.clk else (s.hart h).c (0xB00 + i)

/-- The machine's counter `i`: mcycle, minstret or a programmable one; 11 to 31 read 0 (R559). -/
def State.counterVal (s : State) (h i : Nat) : W64 :=
  let x := s.hart h
  if i = 0 then x.c CSR.mcycle + (if bitAt (x.c 0x320) 0 then 0 else s.hartClk h)
  else if i = 2 then x.c CSR.minstret
  else if 3 ≤ i ∧ i ≤ 10 then s.hpmVal h i
  else 0#64

/-- The standard CSRs and those of Table 7 that exist, as values; none where there is no such CSR. The time CSR is not one (R559). -/
def State.csrVal (s : State) (h a : Nat) : Option W64 :=
  let x := s.hart h
  let plain := [0x302, 0x303, 0x304, 0x305, 0x30A, 0x320, 0x323, 0x324, 0x325, 0x326, 0x327, 0x328, 0x329, 0x32A,
                0x340, 0x341, 0x342, 0x343, 0x344, 0x105, 0x10A, 0x140, 0x141, 0x142, 0x143, 0x180,
                0x3A0, 0x3A2, 0x106, 0x306, 0x5C0, 0x5C1, 0x5C3, 0x5C4, 0x5C7, 0x7C0]
  if a ∈ plain then some (x.c a)
  else if a = 0x300 then some x.mstatus
  else if a = 0x100 then some (x.mstatus &&& (sstatusMask ||| 0x300000000#64))
  else if a = 0x104 then some (x.c CSR.mie &&& x.c CSR.mideleg)
  else if a = 0x144 then some (x.c CSR.mip &&& x.c CSR.mideleg)
  else if a = 0x301 then some 0x8000000000941105#64
  else if (0xF11 ≤ a ∧ a ≤ 0xF13) ∨ a = 0xF15 then some 0#64
  else if a = 0xF14 then some (BitVec.ofNat 64 h)
  else if (0xB00 ≤ a ∧ a ≤ 0xB1F ∧ a ≠ 0xB01) ∨ (0xC00 ≤ a ∧ a ≤ 0xC1F ∧ a ≠ 0xC01) then some (s.counterVal h (a % 32))
  else if 0x32B ≤ a ∧ a ≤ 0x33F then some 0#64
  else if 0x3B0 ≤ a ∧ a ≤ 0x3BF then some (x.c a)
  else if a = 0xCC0 then some s.time.now
  else if a = 0x5C2 then some (mget 0#64 s.evt h)
  else if a = 0x5C5 then
    let d := if 8 ≤ x.frames.length then Config.fullDepth.toNat else x.frames.length
    let top := ((x.frames.head?).map (fun f => f.priv)).getD 0
    some (BitVec.ofNat 64 ((if bitAt (x.c CSR.hstat) 0 then 1 else 0) + d * 16 + x.running * 256 + top * 65536))
  else if a = 0x5C6 then some (((x.frames.head?).map (fun f => f.pc)).getD 0)
  else none

/-- The mode that a CSR needs, and whether it is read-only; satp is guarded by TVM, ftime opened by UFT, and the counters seen
from lower modes by mcounteren and scounteren (R422, R563). -/
def State.csrAllowed (s : State) (h a : Nat) (write : Bool) : Bool :=
  let x := s.hart h
  let need := if a = 0xCC0 ∧ ¬ bitAt (x.c CSR.xgkcfg) 0 then 1 else a / 256 % 4
  let ro := decide (a / 1024 = 3) || decide (a = 0x5C4) || decide (a = 0x5C6)
  let gate := !(decide (0xC00 ≤ a) && decide (a ≤ 0xC1F)) || decide (x.priv = 3) ||
    (bitAt (x.c 0x306) (a % 32) && (decide (x.priv = 1) || bitAt (x.c 0x106) (a % 32)))
  (s.csrVal h a).isSome && gate && decide (need ≤ x.priv) && !(write && ro) && !(decide (a = CSR.satp) && decide (x.priv = 1) && bitAt x.mstatus 20)

/-- PMP configuration byte `i`. -/
def Hart.pmpCfg (x : Hart) (i : Nat) : Nat := bits (x.c (0x3A0 + 2 * (i / 8))) (8 * (i % 8)) 8

/-- A pmpcfg register with its unlocked bytes replaced; W without R is taken as neither (WARL). -/
def Hart.setPmpCfg (x : Hart) (a : Nat) (v : W64) : Hart :=
  x.setC a ((List.range 8).foldl (fun w i =>
    let old := bits w (8 * i) 8
    let new := bits v (8 * i) 8
    let new := new % 32 + new / 128 * 128
    let new := if new % 4 = 2 then new - 2 else new
    if old.testBit 7 then w else setBits w (8 * i) 8 new) (x.c a))

/-- pmpaddr `i` can be written: neither it nor a TOR entry above it is locked. -/
def Hart.pmpOpen (x : Hart) (i : Nat) : Bool :=
  !(x.pmpCfg i).testBit 7 && !(decide (i < 15) && (x.pmpCfg (i + 1)).testBit 7 && decide (x.pmpCfg (i + 1) / 8 % 4 = 1))

/-- The hart events of Table 2 of the performance counters. -/
def hartEvent (e : Nat) : Bool := (decide (1 ≤ e) && decide (e ≤ 0xD)) || (decide (0x10 ≤ e) && decide (e ≤ 0x15))

/-- What a write of mhpmevent stores: an EVENT not listed is stored as 0 (R560). -/
def hpmSel (v : W64) : W64 :=
  let v := v &&& 0xF00000000001FFFF#64
  if hartEvent (bits v 0 16) then v else setBits v 0 16 0

/-- A CSR is written; fields that cannot hold a value keep the old one (WARL). -/
def State.csrWrite (s : State) (h a : Nat) (v : W64) : State :=
  let x := s.hart h
  let put (m : W64) : State := s.setHart h (x.setC a (maskIn (x.c a) v m))
  let status (m : W64) : State :=
    let m := if bits v 11 2 = 2 then m &&& ~~~0x1800#64 else m
    s.setHart h (x.setC CSR.mstatus (maskIn (x.c CSR.mstatus) v m))
  match a with
  | 0x300 => status mstatusMask
  | 0x100 => status sstatusMask
  | 0x302 => put 0xB3FF#64
  | 0x303 => put sIrqMask
  | 0x304 => put 0xAAA#64
  | 0x344 => put sIrqMask
  | 0x104 => s.setHart h (x.setC CSR.mie (maskIn (x.c CSR.mie) v (x.c CSR.mideleg)))
  | 0x144 => s.setHart h (x.setC CSR.mip (maskIn (x.c CSR.mip) v (x.c CSR.mideleg &&& 2)))
  | 0x305 | 0x105 => put (~~~2#64)
  | 0x341 | 0x141 => put (~~~1#64)
  | 0x30A | 0x10A => put 1#64
  | 0x320 =>
    let cyc : W64 := s.hartClk h
    let off := bitAt (x.c 0x320) 0
    let x := if off = bitAt v 0 then x else x.setC CSR.mcycle (if off then x.c CSR.mcycle - cyc else x.c CSR.mcycle + cyc)
    s.setHart h (x.setC 0x320 (v &&& 0x7FD#64))
  | 0xB00 => s.setHart h (x.setC CSR.mcycle (if bitAt (x.c 0x320) 0 then v else v - s.hartClk h))
  | 0x180 => if bits v 60 4 = 0 ∨ bits v 60 4 = 8 ∨ bits v 60 4 = 9 then s.setHart h (x.setC a v) else s
  | 0x3A0 | 0x3A2 => s.setHart h (x.setPmpCfg a v)
  | 0x340 | 0x342 | 0x343 | 0x140 | 0x142 | 0x143 | 0xB02 | 0x5C1 => put (~~~0#64)
  | 0x106 | 0x306 => put 0x7FD#64
  | 0x5C0 => put 7#64
  | 0x5C2 => { s with evt := mput 0#64 s.evt h (mget 0#64 s.evt h &&& ~~~v) }
  | 0x5C3 => put (~~~3#64)
  | 0x5C5 => put 1#64
  | 0x5C7 => s.setHart h { x.setC a v with ftDone := false }
  | 0x7C0 => put 3#64
  | a =>
    if 0x3B0 ≤ a ∧ a ≤ 0x3BF then (if x.pmpOpen (a - 0x3B0) then s.setHart h (x.setC a (v &&& 0x3FFFFFFFFFFFFF#64)) else s)
    else if 0xB03 ≤ a ∧ a ≤ 0xB0A then s.setHart h (x.setC a v)
    else if 0x323 ≤ a ∧ a ≤ 0x32A then s.setHart h (((x.setC (0xB00 + (a - 0x320)) (s.hpmVal h (a - 0x320)))).setC a (hpmSel v))
    else s

/-! ## Traps -/

/-- An exception or interrupt is taken (R419): the older stores stay in the buffer and drain; the reservation is lost (R437). -/
def State.trap (s : State) (h cause : Nat) (tval : W64) (irq : Bool) : State :=
  let x := s.hart h
  let m := x.c CSR.mstatus
  let code : W64 := BitVec.ofNat 64 (cause + (if irq then 2 ^ 63 else 0))
  let vec (base : W64) : W64 := (base &&& ~~~3#64) + (if irq ∧ bitAt base 0 then BitVec.ofNat 64 (4 * cause) else 0)
  let x := { x with resv := none, wait := none }
  if x.priv ≤ 1 ∧ bitAt (x.c (if irq then CSR.mideleg else CSR.medeleg)) cause then
    let m := setBits (setBits (setBits m 5 1 (bits m 1 1)) 1 1 0) 8 1 x.priv
    s.setHart h { ((((x.setC CSR.mstatus m).setC 0x141 x.pc).setC 0x142 code).setC 0x143 tval) with priv := 1, pc := vec (x.c 0x105) }
  else
    let m := setBits (setBits (setBits m 7 1 (bits m 3 1)) 3 1 0) 11 2 x.priv
    s.setHart h { ((((x.setC CSR.mstatus m).setC 0x341 x.pc).setC 0x342 code).setC 0x343 tval) with priv := 3, pc := vec (x.c 0x305) }

/-- The interrupt that a hart takes next. -/
def State.irqOf (s : State) (h : Nat) : Option Nat :=
  let x := s.hart h
  let p := x.c CSR.mip &&& x.c CSR.mie
  let d := x.c CSR.mideleg
  let on (i : Nat) : Bool := bitAt p i && (if bitAt d i then decide (x.priv = 0) || (decide (x.priv = 1) && bitAt x.mstatus 1)
    else decide (x.priv < 3) || bitAt x.mstatus 3)
  [9, 1, 5].find? on

/-- The kinds of access. -/
inductive MAcc where
  | fetch | load | store
deriving DecidableEq, Repr

/-- Misaligned, access-fault and page-fault exception codes of an access. -/
def MAcc.mis : MAcc → Nat
  | .fetch => 0 | .load => 4 | .store => 6
def MAcc.fault : MAcc → Nat
  | .fetch => 1 | .load => 5 | .store => 7
def MAcc.page : MAcc → Nat
  | .fetch => 12 | .load => 13 | .store => 15

/-! ## The physical map and PMP (R400, R401) -/

/-- What a physical address is (Table 1). -/
inductive PMem where
  | normal
  | device (a : Nat)
  | host (port a : Nat)
  | none
deriving DecidableEq, Repr

def pmem (a : Nat) : PMem :=
  if a < hbmBytes then .normal
  else if 0xF000000000 ≤ a ∧ a < 0xF004000000 then .device (a - 0xF000000000)
  else if 0x40000000000000 ≤ a ∧ a < 0x80000000000000 then .host (a / 2 ^ 48 % 64) (a % 2 ^ 48)
  else .none

/-- The addresses [lo, hi) that a PMP entry covers. -/
def Hart.pmpRange (x : Hart) (i : Nat) : Nat × Nat :=
  let a := (x.c (0x3B0 + i)).toNat
  match x.pmpCfg i / 8 % 4 with
  | 0 => (0, 0)
  | 1 => (if i = 0 then 0 else 4 * (x.c (0x3B0 + i - 1)).toNat, 4 * a)
  | 2 => (4 * a, 4 * a + 4)
  | _ =>
    let k := ((List.range 54).takeWhile (fun j => a.testBit j)).length
    let size := 2 ^ (k + 3)
    (4 * a / size * size, 4 * a / size * size + size)

/-- PMP admits an access by a privilege. -/
def Hart.pmpOk (x : Hart) (priv a len : Nat) (k : MAcc) : Bool :=
  match (List.range 16).find? (fun i => let (lo, hi) := x.pmpRange i; decide (lo < a + len) && decide (a < hi)) with
  | none => decide (priv = 3)
  | some i =>
    let (lo, hi) := x.pmpRange i
    let c := x.pmpCfg i
    decide (lo ≤ a) && decide (a + len ≤ hi) && ((decide (priv = 3) && !c.testBit 7) || c.testBit (match k with
      | .load => 0
      | .store => 1
      | .fetch => 2))

/-! ## Translation (R395, R400) -/

/-- The privilege that an access is made with: MPRV. -/
def Hart.accPriv (x : Hart) (k : MAcc) : Nat := if k ≠ .fetch ∧ x.priv = 3 ∧ bitAt x.mstatus 17 then bits x.mstatus 11 2 else x.priv

/-- A leaf entry admits an access of a privilege. Missing marks raise a page fault. -/
def Hart.leafOk (x : Hart) (priv : Nat) (k : MAcc) (p : W64) : Bool :=
  let u := bitAt p 4
  let st := x.mstatus
  (if priv = 0 then u else !u || (decide (k ≠ .fetch) && bitAt st 18)) && bitAt p 6 &&
  (match k with
  | .fetch => bitAt p 3
  | .load => bitAt p 1 || (bitAt st 19 && bitAt p 3)
  | .store => bitAt p 2 && bitAt p 7)

/-- A walk of an engine's page table from a level down: the leaf with its level, or the exception's code. -/
def State.engWalk (s : State) (h va : Nat) (k : MAcc) (table : Nat) : Nat → Except Nat (W64 × Nat) × State
  | 0 => (.error k.page, s)
  | n + 1 =>
    let a := table + 8 * (va / 2 ^ (12 + 9 * n) % 512)
    if hbmBytes ≤ a ∨ ¬ (s.hart h).pmpOk 1 a 8 .load then (.error k.fault, s)
    else
      let ((d, bad), s) := s.l2Read (clusterOf h) a 8
      let p : W64 := BitVec.ofNat 64 (leNat d)
      if bad then (.error k.fault, s)
      else if ¬ bitAt p 0 ∨ (bitAt p 2 ∧ ¬ bitAt p 1) ∨ bits p 54 10 ≠ 0 then (.error k.page, s)
      else if bitAt p 1 ∨ bitAt p 3 then
        (if bits p 10 44 % 2 ^ (9 * n) ≠ 0 then (.error k.page, s) else (.ok (p, n), s))
      else s.engWalk h va k (bits p 10 44 * 4096) n

/-- The TLB entries of an engine's four harts, which share 64 (R399). -/
def State.tlbLoad (s : State) (h : Nat) : Nat := ((List.range 4).map (fun i => (s.hart (h / 4 * 4 + i)).tlb.length)).sum

/-- A leaf joins the TLB; a full one loses an entry at random. -/
def State.tlbFill (s : State) (h : Nat) (e : TlbEnt) : State :=
  let s := if s.tlbLoad h < 64 then s
    else
      let (k, s) := s.takeFree
      let i := h / 4 * 4 + Config.choice k % 4
      let v := if (s.hart i).tlb = [] then h else i
      let x := s.hart v
      s.setHart v { x with tlb := x.tlb.eraseIdx (Config.choice k / 4 % max 1 x.tlb.length) }
  if s.tlbLoad h < 64 then s.setHart h { s.hart h with tlb := (s.hart h).tlb ++ [e] } else s

/-- A virtual address translated for an access: the physical address, or the exception's code. -/
def State.engXlate (s : State) (h : Nat) (va : W64) (k : MAcc) : Except Nat Nat × State :=
  let x := s.hart h
  let priv := x.accPriv k
  let satp := x.c CSR.satp
  let mode := bits satp 60 4
  let v := va.toNat
  if priv = 3 ∨ mode = 0 then (.ok v, s)
  else
    let w := if mode = 8 then 39 else 48
    if va.toInt < -(2 ^ (w - 1) : Int) ∨ (2 ^ (w - 1) : Int) ≤ va.toInt then (.error k.page, s)
    else
      let asid := bits satp 44 16
      let v := v % 2 ^ w
      let fin (x : Hart) (p : W64) (n : Nat) : Except Nat Nat :=
        if x.leafOk priv k p then .ok (bits p 10 44 * 4096 + v % pageSize n) else .error k.page
      match x.tlb.find? (fun e => decide (e.vpn = v / pageSize e.level) && (decide (e.asid = asid) || bitAt e.pte 5)) with
      | some e => (fin x e.pte e.level, s)
      | none =>
        let s := s.setHart h (x.countEv 0x0006 1)
        match s.engWalk h v k (bits satp 0 44 * 4096) (if mode = 8 then 3 else 4) with
        | (.error c, s) => (.error c, s)
        | (.ok (p, n), s) =>
          (fin x p n, if bitAt p 6 then s.tlbFill h { vpn := v / pageSize n, level := n, asid := asid, pte := p } else s)

/-- An access's physical address and kind of memory, PMP and the map admitting it; or the exception's code. -/
def State.engAccess (s : State) (h : Nat) (va : W64) (len : Nat) (k : MAcc) : Except Nat (Nat × PMem) × State :=
  match s.engXlate h va k with
  | (.error c, s) => (.error c, s)
  | (.ok a, s) =>
    let x := s.hart h
    match pmem a with
    | .none => (.error k.fault, s)
    | m => if x.pmpOk (x.accPriv k) a len k then (.ok (a, m), s) else (.error k.fault, s)

/-! ## Normal memory (R426, R434, R437) -/

/-- The cluster does not hold a line that a hart's access names: an L2 miss of the hart (R561). -/
def State.missEv (s : State) (h a : Nat) : State :=
  if (s.l2 (clusterOf h) (a / 64)).live = .i then s.setHart h ((s.hart h).countEv 0x0005 1) else s

/-- Bytes are stored with their line held in M; reservations of other harts of the cluster on the line are lost, as RVWMO asks (log 31). -/
def State.storeNormal (s : State) (h a : Nat) (d : List Byte) : State :=
  let c := clusterOf h
  let s := (s.missEv h a).l2Write c a d
  let keep := (s.hart h).resv
  let s := s.dropResv c (a / 64)
  s.setHart h { s.hart h with resv := keep }

/-- The oldest store of a hart's buffer is performed, or passed to its pier. -/
def State.drainOne (s : State) (h : Nat) : State :=
  let x := s.hart h
  match x.sb with
  | [] => s
  | .normal a d :: rest => (s.setHart h { x with sb := rest }).storeNormal h a d
  | .host p a d :: rest => (s.setHart h { x with sb := rest, hostOut := x.hostOut + 1 }).hostWrite p a d (.hartWrite h) none

/-- Every store of the buffer is performed or passed on. -/
def State.drainSb (s : State) (h : Nat) : State := ((List.range (s.hart h).sb.length)).foldl (fun s _ => s.drainOne h) s

/-- A store joins the buffer of 16 entries (R426). -/
def State.pushSb (s : State) (h : Nat) (e : SbEnt) : State :=
  let s := if 16 ≤ (s.hart h).sb.length then s.drainOne h else s
  let x := s.hart h
  s.setHart h { x with sb := x.sb ++ [e] }

/-- Bytes of one line as the hart reads them: its own buffered stores over the cluster's copy. -/
def State.loadNormal (s : State) (h a n : Nat) : (List Byte × Bool) × State :=
  let s := s.missEv h a
  let ((d, bad), s) := s.l2Read (clusterOf h) a n
  let laid := (s.hart h).sb.foldl (fun (d : List Byte) e => match e with
    | .normal b y => (List.range n).map (fun i => if b ≤ a + i ∧ a + i < b + y.length then y.getD (a + i - b) 0 else d.getD i 0)
    | .host _ _ _ => d) d
  ((laid, bad), s)

/-! ## Instruction fetch (R426) -/

/-- A line read into an engine's L1I: 128 sets of 4 lines, a full set giving up a line chosen at random (R426). -/
def State.l1iPut (s : State) (e line : Nat) (d : List Byte) : State :=
  let set := s.eng.l1i.filter (fun (x : Nat × List Byte) => decide (x.1 / 2 ^ 31 = e) && decide (x.1 % 2 ^ 31 % 128 = line % 128))
  let s := if set.length < 4 then s
    else
      let r := s.takeFree
      (set[Config.choice r.1 % 4]?).elim r.2 (fun v => r.2.setEng { r.2.eng with l1i := merase r.2.eng.l1i v.1 })
  s.setEng { s.eng with l1i := minsert s.eng.l1i (lineKey e line) d }

/-- Two bytes at a physical address, through the engine's L1I. -/
def State.fetchHalf (s : State) (h a : Nat) : (List Byte × Bool) × State :=
  let e := h / 4
  let line := a / 64
  match mfind s.eng.l1i (lineKey e line) with
  | some d => ((slice d (a % 64) 2, false), s)
  | none =>
    let s := (s.setHart h ((s.hart h).countEv 0x0004 1)).missEv h a
    let ((d, bad), s) := s.l2Read (clusterOf h) (64 * line) 64
    if bad then (([], true), s)
    else ((slice d (a % 64) 2, false), s.l1iPut e line d)

/-! ## Device and Host memory (R432, R433) -/

/-- A register access is presented to the arbiter (R486), and wakes what it is addressed to (R524). -/
def State.rfaPresent (s : State) (r : RegReq) : State :=
  let k := r.agent.requestor
  let s := s.wakePage (r.addr / 0x1000)
  { s with rfa := { s.rfa with req := mput [] s.rfa.req k (mget [] s.rfa.req k ++ [{ r with since := s.clk }]) } }

def hartAgent (h : Nat) : Agent := .hart (Fin.ofNat 4096 h)

/-- Sign or zero extension of loaded bytes. -/
def extLoad (width : Nat) (signed : Bool) (v : Nat) : W64 := if signed then BitVec.ofInt 64 (signedOf (8 * width) v) else BitVec.ofNat 64 (v % 2 ^ (8 * width))

/-- The arbiter has performed a hart's register access: the next word is presented, or the instruction completes. -/
def State.deviceDone (s : State) (h : Nat) (v : W32) : State :=
  let x := s.hart h
  match x.wait with
  | some (.device rd write signed addr left data npc) =>
    if 2 ≤ left then
      let (nxt, data) := if write then (data.getD 0 0, data.drop 1) else (0, data ++ [v])
      (s.setHart h { x with wait := some (.device rd write signed (addr + 4) (left - 1) data npc) }).rfaPresent
        { agent := hartAgent h, write := write, addr := addr + 4, data := nxt }
    else if write then s.setHart h (x.retire npc)
    else
      let ws := data ++ [v]
      let n := leNat (ws.flatMap (fun w => leBytes 4 w.toNat))
      s.setHart h ((x.wx rd (extLoad (4 * ws.length) signed n)).retire npc)
  | _ => s

/-- A Host load's data has returned, or the load has failed (R433). -/
def State.hartReadEnd (s : State) (h st : Nat) (d : List Byte) : State :=
  let x := s.hart h
  match x.wait with
  | some (.hostLoad rd w signed va npc) =>
    if st = 0 then s.setHart h ((x.wx rd (extLoad w signed (leNat d))).retire npc) else (s.trap h 5 va false).invoke h
  | _ => s

/-- A FENCE.EP whose Host stores have all landed or failed completes (R405). -/
def State.fenceEpCheck (s : State) (h : Nat) : State :=
  let x := s.hart h
  match x.wait with
  | some (.fenceEp rd) => if x.hostOut = 0 then s.setHart h ({ (x.wx rd (if x.hostFail then 1 else 0)) with hostFail := false }.retire (x.pc + 4)) else s
  | _ => s

/-- A Host store has landed or failed (R405). -/
def State.hartWriteEnd (s : State) (h st : Nat) : State :=
  let x := s.hart h
  (s.setHart h { x with hostOut := x.hostOut - 1, hostFail := x.hostFail || decide (st ≠ 0) }).fenceEpCheck h

end Sys2Proof.Machine
end

