-- ==== Sys2Proof/Machine/Endpoint.lean ====
section
/-!
DEFINITION. Machine/Endpoint.lean: the context manager (chapter 11): doorbells, descriptor fetch and validation, handler
entries (R457); and the drain, by which what a command has brought to its end is handed to what waited for it.
-/
namespace Sys2Proof.Machine

/-! ## Doorbells (R302–R304) -/

/-- A context takes doorbells. -/
def State.takesDoorbells (s : State) (c : Nat) : Bool := decide ((s.ctx c).state = CS.enabled) && (s.ctx c).closing.isNone

/-- A doorbell is valid (R302). -/
def Ctx.bellOk (x : Ctx) (t : Nat) : Bool :=
  decide (seqDist 32 t x.cmdHead ≤ 2 ^ x.cmdLog2) && decide (seqDist 32 t x.cmdTail ≤ seqDist 32 t x.cmdHead)

/-- Fetching is stopped for completion space (R301). -/
def State.cqStopped (s : State) (c : Nat) : Bool := decide ((s.ctx c).free ≤ s.fld F.CTG_CFG_CQ_RESERVE (ctxGroup c))

/-- A completion head word is read (R301). -/
def State.pollHead (s : State) (c : Nat) : State :=
  let x := s.ctx c
  if x.polling then s else (s.setCtx c { x with polling := true }).ringRead c x.cqHbm x.cqHeadAddr 8 (.cqHead c)

/-- A doorbell of a context that takes doorbells, with an inline copy of its new slots or without (R302, R303). -/
def State.doorbell (s : State) (c t : Nat) (inl : List Byte) : State :=
  let s := (s.touchCtx c).count F.CTG_CNT_DB_COUNT (ctxGroup c)
  let x := s.ctx c
  if ¬ x.bellOk t then s.haltCtx c 0x08 x.cmdHead 0
  else if t = x.cmdTail then (if s.cqStopped c then s.pollHead c else s)
  else
    let n := inl.length / 16
    let slots := (List.range n).map (fun i => ((x.cmdTail + i) % 2 ^ 32, slice inl (16 * i) 16))
    let s := s.setCtx c { x with cmdTail := t, inline_ := x.inline_ ++ slots }
    if x.cmdHbm then slots.foldl (fun s e => s.memWrite (x.cmdBase + 16 * (e.1 % 2 ^ x.cmdLog2)) e.2) s else s

/-! ## Descriptor fetch (R20, R305, R306) -/

/-- The slot that follows those fetched and those being fetched. -/
def Ctx.nextFetch (x : Ctx) : Nat := (x.cmdHead + x.fetched.length + (match x.fetching with
  | some (_, n) => n
  | none => 0)) % 2 ^ 32

/-- Inline copies are used in place of a fetch. The fuel bounds the slots. -/
def State.pullInline (s : State) (c : Nat) : Nat → State
  | 0 => s
  | k + 1 =>
    let x := s.ctx c
    if x.fetching.isSome then s
    else match x.inline_.find? (fun e => decide (e.1 = x.nextFetch)) with
      | none => s
      | some e => (s.setCtx c { x with fetched := x.fetched ++ [e], inline_ := x.inline_.filter (fun y => decide (y.1 ≠ e.1)) }).pullInline c k

/-- The conditions under which the context manager takes descriptors of a context. -/
def State.mayTake (s : State) (c : Nat) : Bool :=
  let x := s.ctx c
  s.takesDoorbells c && !s.safe && !s.cqStopped c && (decide (x.maxOps = 0) || decide (x.tagsHeld < 64 * x.maxOps)) && decide (s.ep.op.length < 65536)

/-- Slots are fetched with one read (R305): from the next slot toward the tail, never across the ring's end, up to a slot held
inline. -/
def State.fetch (s : State) (c : Nat) : State :=
  let x := s.ctx c
  let from_ := x.nextFetch
  let left := seqDist 32 x.cmdTail from_
  let s := if left ≠ 0 ∧ s.takesDoorbells c ∧ s.cqStopped c ∧ ¬ s.safe then s.count F.CTG_CNT_CQ_STALL_COUNT (ctxGroup c) else s
  if x.fetching.isSome ∨ left = 0 ∨ 2 ^ 31 ≤ left ∨ ¬ s.mayTake c then s
  else
    let size := 2 ^ x.cmdLog2
    let n := min (max 1 (s.fld F.CTG_CFG_FETCH_MAX (ctxGroup c))) (min left (size - from_ % size))
    let n := ((List.range n).find? (fun i => x.inline_.any (fun e => decide (e.1 = (from_ + i) % 2 ^ 32)))).getD n
    if n = 0 then s
    else
      let s := (s.touchCtx c).count F.CTG_CNT_FETCH_COUNT (ctxGroup c)
      let s := s.setCtx c { s.ctx c with fetching := some (from_, n) }
      if s.armed F.CTG_INJECT_FETCH_ERR (ctxGroup c) then
        (s.setArmed F.CTG_INJECT_FETCH_ERR (ctxGroup c) false).memEnd (.fetch c from_ n) 0x21 []
      else s.ringRead c x.cmdHbm (x.cmdBase + 16 * (from_ % size)) (16 * n) (.fetch c from_ n)

/-- A fetch has ended (R306). -/
def State.fetchEnd (s : State) (c slot n st : Nat) (d : List Byte) : State :=
  let x := s.ctx c
  if x.fetching ≠ some (slot, n) then s
  else
    let s := s.setCtx c { x with fetching := none }
    let x := s.ctx c
    if st = 0 then
      if x.state ≠ CS.enabled then s
      else s.setCtx c { x with fetched := x.fetched ++ (List.range n).map (fun i => ((slot + i) % 2 ^ 32, slice d (16 * i) 16)) }
    else if st = 0x22 then
      let s := s.raise (512 + ctxGroup c) 0x03 c
      if x.state ≠ CS.enabled then s
      else
        (s.setCtx c { x with fetching := some (slot, n) }).ringRead c x.cmdHbm (x.cmdBase + 16 * (slot % 2 ^ x.cmdLog2)) (16 * n) (.fetch c slot n)
    else if x.state = CS.enabled then s.haltCtx c 0x0A x.cmdHead 0
    else s

/-! ## Handler entries (R457, R458) -/

/-- The bit of HANDLER that concerns an opcode. -/
def handlerClass (o : Nat) : Option Nat :=
  if o = 0x10 ∨ o = 0x11 then some 0
  else if o = 0x20 ∨ o = 0x21 ∨ o = 0x22 ∨ o = 0x24 then some 1
  else if 0x40 ≤ o ∧ o ≤ 0x43 then some 2
  else if o = 0x70 then some 3
  else none

/-- The handler entry of an operation (Table 2). -/
def handlerEntry (tag : Nat) (o : Op) (again : Bool) : List Byte :=
  leBytes 2 tag ++ leBytes 1 o.opc ++ leBytes 1 (if again then 1 else 0) ++ leBytes 4 o.ctx ++ leBytes 4 o.epoch ++ leBytes 4 o.slot

/-- A handler entry is pushed, or waits for room. A queue that is not valid takes nothing (log 23). -/
def State.pushHandler (s : State) (tag : Nat) (again : Bool) : State :=
  match s.op tag with
  | none => s
  | some o =>
    let q := s.fld F.PLC_HQUEUE_QUEUE 0 o.cluster
    let wait := if again then 4 else 3
    if s.qValid q ∧ s.qFull q then s.setOp tag { o with handler := wait }
    else
      let s := s.setOp tag { o with handler := 1 }
      if s.qValid q then s.qAppend q (handlerEntry tag o again) else s

/-- The entries that wait for room are pushed, redelivered ones first, each group in tag-assignment order. -/
def State.retryHandlers (s : State) : State :=
  let w := s.ep.op.filter (fun (e : Nat × Op) => decide (e.2.handler = 3) || decide (e.2.handler = 4))
  let w := w.mergeSort (fun a b => decide (b.2.handler < a.2.handler) || (decide (a.2.handler = b.2.handler) && decide (a.2.order ≤ b.2.order)))
  w.foldl (fun s e => s.pushHandler e.1 (decide (e.2.handler = 4))) s

/-! ## Validation (R307, R312, R616) -/

/-- Opcodes of a ring: those of Table 3, and of Table 6 on the management ring. -/
def ringAllows (c o : Nat) : Bool := decide (o = 0x00) || decide (o = 0x01) || (if c = 0 then isMgmt o else isData o)

/-- What stands at the front of a context's fetched slots: nothing whole, a failing descriptor with its cause, or a valid one with
its slots. -/
inductive Front where
  | none
  | bad (cause opc : Nat)
  | ok (opc n : Nat) (d : List Byte)
deriving DecidableEq, Repr

/-- The checks of Table 8 on the descriptor at the front, in their order (R312). -/
def State.front (s : State) (c : Nat) : Front :=
  let x := s.ctx c
  match x.fetched with
  | [] => .none
  | (_, b) :: _ =>
    let o := leAt b 0 1
    let n := leAt b 1 1 % 16 + 1
    let mask := if c = 0 then 0x7F else x.tcMask
    if ¬ ringAllows c o then .bad 0x01 o
    else if ¬ sizeOk o (leAt b 2 1) n then .bad 0x02 o
    else if 2 ^ x.cmdLog2 < x.cmdHead % 2 ^ x.cmdLog2 + n ∨ seqDist 32 x.cmdTail x.cmdHead < n then .bad 0x03 o
    else if x.fetched.length < n then .none
    else
      let d := (x.fetched.take n).flatMap (·.2)
      let v := leAt d 24 2 % 4096
      let pkt := if o = 0x70 ∧ s.viaSource v then vBytes (s.vw v 0) else 0
      if ¬ reservedOk d ∨ s.armed F.CTG_INJECT_MALFORMED (ctxGroup c) then .bad 0x04 o
      else if leAt d 3 1 = 7 ∨ ¬ mask.testBit (leAt d 3 1) then .bad 0x05 o
      else if ¬ rangeOk d pkt then .bad 0x06 o
      else if hasPeer o ∧ leAt d 4 4 % 2 ^ 18 = 0 then .bad 0x07 o
      else if ¬ treeOk d then .bad 0x09 o
      else .ok o n d

/-- The front descriptor fails: the context halts; an injected failure is used up. -/
def State.frontBad (s : State) (c cause o : Nat) : State :=
  (s.setArmed F.CTG_INJECT_MALFORMED (ctxGroup c) false).haltCtx c cause (s.ctx c).cmdHead o

/-- The slots of the front descriptor are passed. -/
def State.dropFront (s : State) (c n : Nat) : State :=
  let x := s.ctx c
  s.setCtx c { x with cmdHead := (x.cmdHead + n) % 2 ^ 32, fetched := x.fetched.drop n }

/-- Whether a SEND uses rendezvous (R334). -/
def State.sendRdv (s : State) (o : Op) : Bool := decide (o.opc = 0x10) && !o.inl && decide (s.fld F.MAT_EAGER_MAX_BYTES (matOf o.ctx) < o.len)

/-- Bytes of payload that an operation stages: none for a rendezvous SEND and for what is inline. -/
def State.stagedBytes (s : State) (o : Op) : Nat :=
  if o.opc = 0x20 ∨ o.opc = 0x21 ∨ o.opc = 0x10 then (if o.inl ∨ s.sendRdv o then 0 else o.len)
  else if o.opc = 0x40 ∨ o.opc = 0x41 ∨ o.opc = 0x42 then s.opBytes o
  else if o.opc = 0x70 then o.len
  else 0

/-- The operation that a context's descriptor at the front of its ring asks for. -/
def State.opOf (s : State) (c o : Nat) (d : List Byte) : Op :=
  let x := s.ctx c
  let op : Op := { ctx := c, opc := o, flags := leAt d 2 1, tc := leAt d 3 1, dest := leAt d 4 4, cookie := leAt d 8 8, slot := x.cmdHead, desc := d,
                   cluster := x.cluster, epoch := x.epoch, order := s.ep.assigned,
                   flow := bits (s.rd (0x3200000 + c / 4 * 4)) (8 * (c % 4)) 8 % 32 }
  { op with rdv := s.sendRdv op }

/-- Where an operation's bytes are staged: 0 where it stages none, 1 in the engine's buffer, 2 in HBM. -/
def State.stageFor (s : State) (c bytes : Nat) : Nat × State :=
  if bytes = 0 then (0, s) else (if (s.stageDecide c bytes).1 then 2 else 1, (s.stageDecide c bytes).2)

/-- A new operation enters the engine's table under its tag, with its channel, and its command handler where the context has one. -/
def State.startOp (s : State) (tag : Nat) (op : Op) : State :=
  let s := (s.setEp { s.ep with assigned := s.ep.assigned + 1 }).setOp tag op
  let s := if hasPeer op.opc then s.attachChan tag else s
  (handlerClass op.opc).elim s (fun k =>
    if (hHandler (s.hint op.ctx)).testBit k ∧ s.fld F.PLC_HQUEUE_QUEUE 0 op.cluster ≠ 0 then s.pushHandler tag false else s)

/-- An operation with a tag leaves the ring, holds a tag and a completion of its context, and is started. -/
def State.openOp (s : State) (tag c n : Nat) (op : Op) : State :=
  let s := s.dropFront c n
  let x := s.ctx c
  let s := s.setCtx c { x with tagsHeld := x.tagsHeld + 1, cqReserved := x.cqReserved + 1 }
  let r := s.stageFor c (s.stagedBytes op)
  r.2.startOp tag { op with staged := r.1 }

/-- A valid descriptor becomes an operation with a tag (R19, R301, R451, R452, R457, R463). -/
def State.newOp (s : State) (c o n : Nat) (d : List Byte) : State :=
  let r := s.freshId 65536 (fun t => (s.op t).isSome)
  r.1.elim r.2 (fun tag =>
    let s := if c = 0 then r.2 else r.2.steer c
    s.openOp tag c n (s.opOf c o d))

/-- Some receive of the context waits for room in its MAT's store (R326). -/
def State.recvWaits (s : State) (c : Nat) : Bool :=
  (s.mat (matOf c)).waiting.any (fun t => match s.op t with
    | some o => decide (o.ctx = c)
    | none => false)

/-- Descriptors of a context are validated in ring order (R305); a PAD is left to its own command. The fuel bounds them. -/
def State.validateN (s : State) (c : Nat) : Nat → State
  | 0 => s
  | k + 1 =>
    if ¬ s.mayTake c ∨ s.recvWaits c ∨ (c = 0 ∧ 0 < (s.ctx c).tagsHeld) then s
    else match s.front c with
      | .none => s
      | .bad cause o => s.frontBad c cause o
      | .ok o n d => if o = 0x00 then s else (s.newOp c o n d).validateN c k

/-- A context takes its inline copies and validates what it holds. -/
def State.validate (s : State) (c : Nat) : State :=
  let s := s.pullInline c ((s.ctx c).inline_.length)
  s.validateN c (s.ctx c).fetched.length

/-! ## Completion writes and the head word (R301, R310, R311, R350) -/

/-- A completion head word has been read. -/
def State.cqHeadEnd (s : State) (c st : Nat) (d : List Byte) : State :=
  let x := s.ctx c
  let v := leNat d % 2 ^ 32
  let bad := decide (2 ^ 31 ≤ (x.cqWritten + x.cqReserved + 2 ^ 32 - v) % 2 ^ 32)
  let x := { x with polling := false, cqHeadSeen := if st = 0 ∧ ¬ bad then v else x.cqHeadSeen }
  (s.setCtx c x).viaFlush c

/-- A completion write has ended: after a session loss it is written again (R311); the packet of a PUT_NOTIFY that waited for the
entry becomes acknowledgeable, or is refused (R350, R370). -/
def State.cqWriteEnd (s : State) (c addr : Nat) (d : List Byte) (after : Option (Nat × Nat)) (st : Nat) : State :=
  if st = 0x22 then s.ringWrite c (s.ctx c).cqHbm addr d after
  else match after with
    | none => s
    | some (p, q) =>
      if st = 0 then s.unholdRx p q
      else match (s.chan p).bind (fun ch => ch.holdOf q) with
        | some r => s.refuse p r.bytes r.pipe 0x0E (rAddr r.bytes)
        | none => s

/-- A fragment of a job has been answered. -/
def State.fragEnd (s : State) (id off st : Nat) (d : List Byte) : State :=
  match s.job id with
  | none => s
  | some j =>
    let j := { j with outst := j.outst - 1, got := if st = 0 ∧ d ≠ [] then minsert j.got off d else j.got,
                      failed := if st = 0 then j.failed else j.failed.or (some (st, j.va + off)) }
    let s := s.setJob id j
    if j.outst = 0 ∧ (j.len ≤ j.next ∨ j.failed.isSome) ∧ ¬ j.atomWait then s.tellJob id .done else s

/-- A memory access has ended. -/
def State.accessEnd (s : State) (w : Waiter) (st : Nat) (d : List Byte) : State :=
  match w with
  | .none => s
  | .fetch c slot n => s.fetchEnd c slot n st d
  | .cqHead c => s.cqHeadEnd c st d
  | .cqWrite c a b after => s.cqWriteEnd c a b after st
  | .job id off => s.fragEnd id off st d
  | .hartRead h => s.hartReadEnd h st d
  | .hartWrite h => s.hartWriteEnd h st

/-- Something has happened to a job: its owner is told. -/
def State.jobEvent (s : State) (id : Nat) (ev : JobEv) : State :=
  match s.job id with
  | none => s
  | some j =>
    match j.who with
    | .payload tag k =>
      let (e, s) := s.localEvent id j tag ev
      let coll : Bool := match s.op tag with
        | some o => decide (o.opc = 0x40) || decide (o.opc = 0x41) || decide (o.opc = 0x42)
        | none => false
      if coll then (match e with
        | .good => s.collPayload tag k j.bytes
        | .bad st a => s.finishOp tag st 0 0 a
        | .wait => s)
      else s.payloadEnd j tag k e
    | .reply tag off => let (e, s) := s.localEvent id j tag ev; s.replyEnd tag off e
    | .coll tag key => let (e, s) := s.localEvent id j tag ev; s.collEnd tag key e
    | .viaRead tag k => let (e, s) := s.localEvent id j tag ev; s.viaReadEnd j tag k e
    | .viaDep c v _ => s.viaDepEvent id j v c ev
    | .put _ _ | .get _ _ | .atomRead _ _ | .atomWrite _ _ | .recv _ _ => s.remoteEvent id j ev

/-! ## Contexts being closed (R316) -/

/-- CTX_DISABLE or CTX_RESET ends once the target holds no tag; `forced` counts tags released by force. -/
def State.closeCtx (s : State) (c : Nat) (forced : Nat) : State :=
  let x := s.ctx c
  match x.closing with
  | none => s
  | some m =>
    if x.tagsHeld ≠ 0 then s
    else
      let reset := decide (x.state = CS.resetting)
      let x := { x with closing := none, mute := false, fetched := [], inline_ := [], fetching := none, polling := false }
      let x := if reset then { x with cmdTail := 0, cmdHead := 0, cqWritten := 0, cqHeadSeen := 0, cqReserved := 0, tagsHeld := 0, parked := 0,
                                      haltSlot := 0, overflow := 0, sinceEvent := 0, viaHeld := [] } else x
      let s := (s.setCtx c x).setCtxState c CS.disabled
      let s := if forced = 0 then s else s.raise (512 + ctxGroup c) 0x05 (forced * 2 ^ 32 + c)
      s.finishOp m (if forced = 0 then 0 else 0x12) 0 0 0

/-! ## The drain -/

/-- What the last round has left to do outside accesses and jobs: closings, waiting handler entries, validations, messages and
viaducts. -/
def State.settleWork (s : State) : State :=
  let s := (s.ep.ctx.filter (fun (e : Nat × Ctx) => e.2.closing.isSome)).foldl (fun s e => s.closeCtx e.1 0) s
  let s := s.retryHandlers
  let s := (s.ep.ctx.filter (fun (e : Nat × Ctx) => e.2.fetched ≠ [] ∨ e.2.inline_ ≠ [])).foldl (fun s e => s.validate e.1) s
  let s := s.ep.msg.foldl (fun s e => s.msgCheck e.1) s
  s.viaSources.viaDests

/-- Accesses and jobs that have ended are handed on, oldest first, until none is left; then the rest is settled. The fuel bounds the
rounds. -/
def State.drainN (s : State) : Nat → State
  | 0 => s
  | k + 1 =>
    match s.ended with
    | (w, st, d) :: rest => (({ s with ended := rest }).accessEnd w st d).drainN k
    | [] => match s.ep.jev with
      | (id, ev) :: rest => ((s.setEp { s.ep with jev := rest }).jobEvent id ev).drainN k
      | [] =>
        let t := s.settleWork
        if t.ended = [] ∧ t.ep.jev = [] then t else t.drainN k

def State.drain (s : State) : State := s.drainN 100000

end Sys2Proof.Machine
end

