-- ==== Sys2Proof/Machine/ViaCmds.lean ====
section
/-!
DEFINITION. Machine/ViaCmds.lean: the commands of viaducts (R188–R196), and the packet end whose freed cells end a viaduct's work.
-/
namespace Sys2Proof.Machine

/-- PACKET_TRANSMIT_END (R60). -/
def execPacketTransmitEnd (l : Fin 256) (s : State) : Out := .next (s.transmitEnd l.val).drain

/-- WINDOW_CLOSE (R190). -/
def execWindowClose (l : Fin 256) (e : Fin 64) (s : State) : Out := .next (s.windowClose l.val e.val).drain

/-- VIA_TABLE_SWAP (R195). -/
def execViaTableSwap (s : State) : Out := .next s.viaSwap.drain

/-- VIA_DATA_RECEIVE (R192, R193): the oldest VIA_DATA delivered here. -/
def execViaDataReceive (s : State) : Out :=
  if s.safe ∨ ¬ s.awake Dom.endpoint then .next s
  else match s.takeOpc 0x70 with
    | (none, s) => .next s
    | (some d, s) => .next (s.viaData d).drain

/-- VIA_SETUP_START (R194): the source of a viaduct that is not set up sends VIA_SETUP. -/
def execViaSetupStart (v : Fin 4096) (s : State) : Out :=
  if s.gatesOn ∧ vValid (s.vw v.val 0) ∧ vRole (s.vw v.val 0) = 1 ∧ (s.viaSrc v.val).phase = 0 ∧ ¬ s.viaArmed v.val then
    .next ((s.setViaSrc v.val { s.viaSrc v.val with phase := 1, resent := 0 }).sendSetup v.val)
  else .next s

/-- VIA_SETUP_RECEIVE (R194): the oldest VIA_SETUP here, at a hop, at the destination, or as a reply at the source. -/
def execViaSetupReceive (s : State) : Out :=
  match s.takeKept 0x71 with
  | (none, s) => .next s
  | (some d, s) => .next (s.viaSetup d).drain

/-- VIA_SETUP_TIMEOUT (R194): 10 µs without a reply. The setup is sent again three times; then the viaduct's descriptors fail. -/
def execViaSetupTimeout (v : Fin 4096) (s : State) : Out :=
  let x := s.viaSrc v.val
  if x.phase ≠ 1 then .next s
  else if x.resent < 3 then .next ((s.setViaSrc v.val { x with resent := x.resent + 1 }).sendSetup v.val)
  else .next (s.viaFail v.val).drain

/-- VIA_TEARDOWN_RECEIVE (R194): the oldest VIA_TEARDOWN here. -/
def execViaTeardownReceive (s : State) : Out :=
  match s.takeKept 0x72 with
  | (none, s) => .next s
  | (some d, s) => .next (s.viaTeardown d).drain

/-- VIA_TEARDOWN_FORWARD (R194): the hop's gate queue holds no packet of the viaduct, or two cycles have passed. -/
def execViaTeardownForward (v : Fin 4096) (s : State) : Out := .next (s.teardownForward v.val).drain

end Sys2Proof.Machine
end

