-- ==== Sys2Proof/Machine/EndpointCmds.lean ====
section
/-!
DEFINITION. Machine/EndpointCmds.lean: the commands of contexts and rings (chapter 11): descriptor fetch, the data opcodes and the
management opcodes carried out, and handler answers (R457).
-/
namespace Sys2Proof.Machine

/-! ## Fetch -/

/-- DESCRIPTOR_FETCH (R305). -/
def execDescriptorFetch (ctx : Fin 262144) (s : State) : Out := .next (s.fetch ctx.val).drain

/-- CQ_HEAD_POLL (R301): CQ_POLL has passed while fetching is stopped for completion space. -/
def execCqHeadPoll (ctx : Fin 262144) (s : State) : Out :=
  if s.takesDoorbells ctx.val ∧ s.cqStopped ctx.val ∧ ¬ s.safe then .next (s.pollHead ctx.val).drain else .next s

/-- PAD (R299): the slots of a PAD at the front are passed, or its failing check halts the context. -/
def execPad (ctx : Fin 262144) (s : State) : Out :=
  if ¬ s.mayTake ctx.val then .next s
  else match s.front ctx.val with
    | .ok 0x00 n _ => .next (s.dropFront ctx.val n).drain
    | .bad cause 0x00 => .next (s.frontBad ctx.val cause 0).drain
    | _ => .next s

/-! ## The data opcodes -/

/-- A validated operation of an opcode that is to be carried out now: not yet started, not waiting for its handler (R457), and not
held back by the safe state (R516). -/
def State.opReady (s : State) (tag opc : Nat) : Option Op :=
  match s.op tag with
  | none => none
  | some o => if o.opc = opc ∧ ¬ o.started ∧ ¬ o.stop ∧ o.handler ∉ [1, 3, 4] ∧ ¬ s.safe then some o else none

/-- An operation is marked as carried out, with its number of packets. -/
def State.begun (s : State) (tag : Nat) (o : Op) (segs : Nat) : State := s.setOp tag { o with started := true, segs := segs }

/-- The payload of an eager SEND, PUT or PUT_NOTIFY: inline bytes and an empty payload stand ready, other segments are read (R463). -/
def State.sendOpData (s : State) (tag : Nat) (o : Op) : State :=
  let n := segsOf o.len
  if o.inl ∨ o.len = 0 then ((s.begun tag { o with ready := [(0, slice o.desc 64 o.len)] } n)).injectOp tag
  else (List.range n).foldl (fun s k =>
    s.localJob { who := .payload tag k, ctx := o.ctx, space := 0, va := o.laddr + 4096 * k, len := segLen o.len k, write := false }) (s.begun tag o n)

/-- NOP (R307). -/
def execNop (tag : Fin 65536) (s : State) : Out :=
  match s.opReady tag.val 0x01 with
  | none => .next s
  | some _ => .next (s.finishOp tag.val 0 0 0 0).drain

/-- SEND (R334, R335): by rendezvous one RTS, else its segments. -/
def execSend (tag : Fin 65536) (s : State) : Out :=
  match s.opReady tag.val 0x10 with
  | none => .next s
  | some o => if o.rdv then .next ((s.begun tag.val o 1).injectOp tag.val).drain else .next (s.sendOpData tag.val o).drain

/-- RECV (R326): posted, or waiting at its MAT. -/
def execRecv (tag : Fin 65536) (s : State) : Out :=
  match s.opReady tag.val 0x11 with
  | none => .next s
  | some o =>
    if s.hookBlocked o.ctx then .next s
    else
      let n := matOf o.ctx
      match (s.begun tag.val o 0).post (recvPost tag.val o) with
      | (true, s) => .next s.drain
      | (false, s) => .next ((s.setMat n { s.mat n with waiting := (s.mat n).waiting ++ [tag.val] }).raise (640 + n) 0x04 o.ctx)

/-- PUT (R347). -/
def execPut (tag : Fin 65536) (s : State) : Out :=
  match s.opReady tag.val 0x20 with
  | none => .next s
  | some o => .next (s.sendOpData tag.val o).drain

/-- PUT_NOTIFY (R350). -/
def execPutNotify (tag : Fin 65536) (s : State) : Out :=
  match s.opReady tag.val 0x21 with
  | none => .next s
  | some o => .next (s.sendOpData tag.val o).drain

/-- GET (R347): one request a segment; a GET of length 0 completes at once. -/
def execGet (tag : Fin 65536) (s : State) : Out :=
  match s.opReady tag.val 0x22 with
  | none => .next s
  | some o =>
    if o.len = 0 then .next ((s.begun tag.val o 0).opCheck tag.val).drain
    else .next ((s.begun tag.val o (segsOf o.len)).injectOp tag.val).drain

/-- ATOMIC (R349). -/
def execAtomic (tag : Fin 65536) (s : State) : Out :=
  match s.opReady tag.val 0x24 with
  | none => .next s
  | some o => .next ((s.begun tag.val o 1).injectOp tag.val).drain

/-- A collective of chunks starts (R233–R235, R245–R247): every chunk is read. A context that is no local member of the tree ends with
status 0x08. -/
def State.collStart (s : State) (tag : Nat) (o : Op) : State :=
  match s.slotOf o.tree o.ctx with
  | none => s.finishOp tag 0x08 0 0 0
  | some _ =>
    let bytes := s.opBytes o
    let n := s.opChunks o
    let size := s.opElem o
    let last := (packPlain size 0 (List.replicate (bytes - 4096 * (n - 1)) 0#8)).length
    ((List.range n).foldl (fun s k =>
      s.localJob { who := .payload tag k, ctx := o.ctx, space := 0, va := o.laddr + 4096 * k, len := min 4096 (bytes - 4096 * k), write := false })
      (s.begun tag o (if n = 0 then 0 else 2 * (n - 1) + last))).collCheck tag

/-- COLL_REDUCE (R245). -/
def execCollReduce (tag : Fin 65536) (s : State) : Out :=
  match s.opReady tag.val 0x40 with
  | none => .next s
  | some o => .next (s.collStart tag.val o).drain

/-- COLL_BCAST (R246). -/
def execCollBcast (tag : Fin 65536) (s : State) : Out :=
  match s.opReady tag.val 0x41 with
  | none => .next s
  | some o => .next (s.collStart tag.val o).drain

/-- COLL_GATHER (R247). -/
def execCollGather (tag : Fin 65536) (s : State) : Out :=
  match s.opReady tag.val 0x42 with
  | none => .next s
  | some o => .next (s.collStart tag.val o).drain

/-- BARRIER (R248): a BARRIER_UP reaches the barrier logic of this router. -/
def execBarrier (tag : Fin 65536) (s : State) : Out :=
  match s.opReady tag.val 0x43 with
  | none => .next s
  | some o =>
    match s.slotOf o.tree o.ctx with
    | none => .next (s.finishOp tag.val 0x08 0 0 0).drain
    | some slot =>
      let b := mkPacket { s.treeHead o.tree s.routerId 0x46 (s.upTc o.tree) tag.val 0 with first := true, last := true } (collExt 0 o.tree 0 0 o.inst slot 0 0 0) []
      .next ((s.begun tag.val { o with ready := [(0, b)] } 1).injectOp tag.val).drain

/-- VIADUCT (R191, R309): its payload is read for the viaduct's gate queue. -/
def execViaduct (tag : Fin 65536) (s : State) : Out :=
  match s.opReady tag.val 0x70 with
  | none => .next s
  | some o =>
    let v := o.dByte 24 2 % 4096
    if ¬ s.viaSource v then .next (s.finishOp tag.val 0x0D 0 0 0).drain
    else
      let size := max 1 (vBytes (s.vw v 0))
      let n := o.len / size
      let x := s.viaSrc v
      let s := (s.begun tag.val o n).setViaSrc v { x with ops := x.ops ++ [tag.val] }
      .next ((List.range n).foldl (fun s k =>
        s.localJob { who := .viaRead tag.val k, ctx := o.ctx, space := 0, va := o.laddr + size * k, len := size, write := false }) s).drain

/-! ## The management opcodes (R316, R317, Table 6) -/

/-- The target of a management opcode that names a context (R317): none where the command completes with status 0x11. -/
def State.target (s : State) (o : Op) (ok : Nat → Bool) : Option Nat :=
  if o.dest < 2 ^ 18 ∧ o.dest ≠ 0 ∧ ok (s.ctx o.dest).state then some o.dest else none

/-- A management command completes. -/
def State.mgmtEnd (s : State) (tag status len : Nat) : Out := .next (s.finishOp tag status len 0 0).drain

/-- CTX_INIT: image bytes 2–47 are written, and the indices cleared. -/
def execCtxInit (tag : Fin 65536) (s : State) : Out :=
  match s.opReady tag.val 0xC0 with
  | none => .next s
  | some o => match s.target o (fun st => decide (st = CS.disabled)) with
    | none => s.mgmtEnd tag.val 0x11 0
    | some c =>
      let i := o.dByte
      let x := { s.ctx c with port := i 18 1, flags := i 19 1, pd := i 20 2, space := i 22 2, key := i 24 4, tcMask := i 28 1, cmdLog2 := i 29 1,
                              cqLog2 := i 30 1, maxOps := i 31 1, cmdBase := i 32 8, cqBase := i 40 8, cqTailAddr := i 48 8, cqHeadAddr := i 56 8,
                              cmdTail := 0, cmdHead := 0, cqWritten := 0, cqHeadSeen := 0, cqReserved := 0, tagsHeld := 0, parked := 0, haltSlot := 0,
                              overflow := 0 }
      (s.setCtx c x).mgmtEnd tag.val 0 0

/-- CTX_ENABLE: from DISABLED with empty rings, from HALTED at a new head. -/
def execCtxEnable (tag : Fin 65536) (s : State) : Out :=
  match s.opReady tag.val 0xC1 with
  | none => .next s
  | some o => match s.target o (fun st => decide (st = CS.disabled) || decide (st = CS.halted)) with
    | none => s.mgmtEnd tag.val 0x11 0
    | some c =>
      let x := s.ctx c
      let h := o.dByte 16 4
      if x.state = CS.halted then
        if seqDist 32 h x.haltSlot ≤ seqDist 32 x.cmdTail x.haltSlot then
          ((s.setCtx c { x with cmdHead := h, haltCause := 0 }).setCtxState c CS.enabled).mgmtEnd tag.val 0 0
        else s.mgmtEnd tag.val 0x11 0
      else if h = 0 ∧ x.tagsHeld = 0 then
        ((s.setCtx c { x with cmdTail := 0, cmdHead := 0, cqWritten := 0, cqHeadSeen := 0, overflow := 0, haltCause := 0, sinceEvent := 0, fetched := [],
                              inline_ := [] }).setCtxState c CS.enabled).mgmtEnd tag.val 0 0
      else s.mgmtEnd tag.val 0x11 0

/-- CTX_DISABLE: no more doorbells or inbound traffic, posted receives cancelled; it ends once the target holds no tag. -/
def execCtxDisable (tag : Fin 65536) (s : State) : Out :=
  match s.opReady tag.val 0xC2 with
  | none => .next s
  | some o => match s.target o (fun st => decide (st = CS.enabled) || decide (st = CS.halted)) with
    | none => s.mgmtEnd tag.val 0x11 0
    | some c =>
      let s := (s.begun tag.val o 0).setCtx c { s.ctx c with closing := some tag.val, fetched := [], inline_ := [] }
      .next (s.cancelPosts c).drain

/-- The receives of a context that a message has been bound to. -/
def State.boundRecv (s : State) (c tag : Nat) : Bool :=
  s.ep.msg.any (fun (e : Nat × Msg) => decide (e.2.ctx = c) && (match e.2.st with
    | .bound p => !p.handler && decide (p.id = tag)
    | _ => false))

/-- CTX_RESET steps 1 to 3: what has sent nothing is cancelled, receives, messages and parked work are discarded. -/
def State.resetCtx (s : State) (c : Nat) : State :=
  let n := matOf c
  let u := s.mat n
  let s := s.setMat n { u with posts := u.posts.filter (fun p => decide (p.ctx ≠ c)), waiting := u.waiting.filter (fun t => match s.op t with
    | some o => decide (o.ctx ≠ c)
    | none => false) }
  let s := s.discardMsgs c
  let s := (s.ep.job.filter (fun (e : Nat × Job) => decide (e.2.ctx = c) && e.2.slot.isSome)).foldl (fun s e => s.refuseJob e.1 e.2 0x01 0x06 (e.2.va + e.2.next)) s
  (s.opsWhere (fun o => decide (o.ctx = c) && !o.sent)).foldl (fun s e => if s.boundRecv c e.1 then s else s.releaseTag e.1) s

/-- CTX_RESET. -/
def execCtxReset (tag : Fin 65536) (s : State) : Out :=
  match s.opReady tag.val 0xC3 with
  | none => .next s
  | some o => match s.target o (fun st => decide (st ≠ CS.resetting)) with
    | none => s.mgmtEnd tag.val 0x11 0
    | some c =>
      let s := (s.begun tag.val o 0).setCtx c { s.ctx c with closing := some tag.val, mute := true, fetched := [], inline_ := [] }
      .next ((s.setCtxState c CS.resetting).resetCtx c).drain

/-- CTX_RESET_TIMEOUT (R316 step 5): tags still held are released by force. -/
def execCtxResetTimeout (ctx : Fin 262144) (s : State) : Out :=
  let c := ctx.val
  let x := s.ctx c
  if x.state ≠ CS.resetting ∨ x.closing.isNone ∨ x.tagsHeld = 0 then .next s
  else
    let bound := s.ep.msg.filter (fun (e : Nat × Msg) => decide (e.2.ctx = c) && (match e.2.st with
      | .bound _ => true
      | _ => false))
    let s := bound.foldl (fun s e => s.dropMsg e.1) s
    .next (((s.opsWhere (fun o => decide (o.ctx = c))).foldl (fun s e => s.releaseTag e.1) s).closeCtx c x.tagsHeld).drain

/-- CTX_READ: the image is written to an address of the management context's port, in HBM where its completion ring is. -/
def execCtxRead (tag : Fin 65536) (s : State) : Out :=
  match s.opReady tag.val 0xC4 with
  | none => .next s
  | some o => match s.target o (fun _ => true) with
    | none => s.mgmtEnd tag.val 0x11 0
    | some c => (s.ringWrite 0 (s.ctx 0).cqHbm (o.dByte 16 8) (s.ctxImage c) none).mgmtEnd tag.val 0 0

/-- SPACE_SET (R375, R376): the entry is written, and the command completes as an invalidation of the space. -/
def execSpaceSet (tag : Fin 65536) (s : State) : Out :=
  match s.opReady tag.val 0xC8 with
  | none => .next s
  | some o =>
    let a := o.dByte 16 2
    let pd := o.dByte 18 2
    let key := o.dByte 20 4
    let root := o.dByte 24 8
    let old := s.space a
    if 2 ^ 18 ≤ o.dest ∨ key / 2 ^ 16 ≠ a ∨ key = 0xFFFFFFFF ∨ 16383 < pd ∨ root / 4 % 2 ^ 10 ≠ 0 ∨ (root.testBit 0 ∧ hbmBytes ≤ root / 4096 * 4096) ∨
        (old.root.testBit 0 ∧ old.pd ≠ pd) then s.mgmtEnd tag.val 0x11 0
    else
      let s := s.begun tag.val o 0
      let s := s.setEp { s.ep with space := mput {} s.ep.space a { old with pd := pd, key := key, root := root } }
      .next (s.invIssue (a % 32) { scope := 1, space := a, resume := true, tag := some tag.val, spaceSet := true }).drain

/-- REGION_SET (R352): the completion carries the region word. -/
def execRegionSet (tag : Fin 65536) (s : State) : Out :=
  match s.opReady tag.val 0xC9 with
  | none => .next s
  | some o =>
    let i := o.dByte 16 4
    let pd := o.dByte 20 2
    let rights := o.dByte 22 2
    let base := o.dByte 24 8
    let len := o.dByte 32 8
    let key := o.dByte 40 4
    let r := s.region (i % 2 ^ 20)
    if 2 ^ 18 ≤ o.dest ∨ 2 ^ 20 ≤ i ∨ r.valid ∨ 16383 < pd ∨ ¬ s.keyValid key ∨ (s.space (key / 2 ^ 16)).pd ≠ pd ∨ 8 ≤ rights ∨ len = 0 ∨ 2 ^ 48 < base + len then
      s.mgmtEnd tag.val 0x11 0
    else
      (s.setEp { s.ep with region := mput {} s.ep.region i { r with valid := true, pd := pd, rights := rights, base := base, len := len, key := key } }).mgmtEnd
        tag.val 0 (r.gen * 2 ^ 20 + i)

/-- REGION_REVOKE (R371): phase 1. -/
def execRegionRevoke (tag : Fin 65536) (s : State) : Out :=
  match s.opReady tag.val 0xCA with
  | none => .next s
  | some o =>
    let i := o.dByte 16 4
    if 2 ^ 18 ≤ o.dest ∨ 2 ^ 20 ≤ i ∨ ¬ (s.region i).valid ∨ s.ep.revoke.isSome then s.mgmtEnd tag.val 0x11 0
    else .next ((s.begun tag.val o 0).revokeBegin i tag.val).drain

/-- REVOKE_COMPLETE (R371): phase 2, once every admitted access has ended. -/
def execRevokeComplete (s : State) : Out := .next s.revokeEnd.drain

/-- XLT_INVAL (R392, R393). A scope of all runs at unit 0. -/
def execXltInval (tag : Fin 65536) (s : State) : Out :=
  match s.opReady tag.val 0xCB with
  | none => .next s
  | some o =>
    if 2 ^ 18 ≤ o.dest then s.mgmtEnd tag.val 0x11 0
    else
      let cnt := o.dByte 32 4
      let sc := o.dByte 16 1
      let sc := if sc = 0 ∧ 2 ^ 20 < cnt then 1 else sc
      let sp := o.dByte 18 2
      let v : Inval := { scope := sc, space := sp, va := o.dByte 24 8 / 4096 * 4096, pages := max 1 cnt, resume := (o.dByte 17 1).testBit 0,
                         abandon := (o.dByte 17 1).testBit 1, tag := some tag.val }
      .next ((s.begun tag.val o 0).invIssue (if sc = 2 then 0 else sp % 32) v).drain

/-- MRING_ENABLE (R298, R319): a write of MRING_CTRL.ENABLE. -/
def execMringEnable (on : Bool) (s : State) : Out :=
  let port := s.ctxPort 0
  let f := F.CTG_MRING_CTRL_ENABLE
  if ¬ on then
    .next ((((s.setFld f 0).setCtxState 0 CS.disabled).setCtx 0 { (s.setCtxState 0 CS.disabled).ctx 0 with fetched := [], inline_ := [], fetching := none })).drain
  else if s.flag f then .next s
  else if port < 64 ∧ s.fld F.SPN_PRIV_LEVEL port ≠ 3 then
    .next (s.raise 512 0x07 (s.fld F.CTG_MRING_CFG_PORT * 2 ^ 24 + s.fld F.CTG_MRING_CFG_ON_MGT))
  else
    let lg (v : Nat) : Nat := if 6 ≤ v ∧ v ≤ 20 then v else 6
    let x : Ctx := { state := (s.ctx 0).state, port := port, flags := s.fld F.CTG_MRING_CFG_CMD_IN_HBM * 128 + s.fld F.CTG_MRING_CFG_CQ_IN_HBM * 64,
                     cmdLog2 := lg (s.fld F.CTG_MRING_CFG_CMD_LOG2), cqLog2 := lg (s.fld F.CTG_MRING_CFG_CQ_LOG2), cmdBase := s.fld F.CTG_MRING_BASE_ADDR,
                     cqBase := s.fld F.CTG_MCQ_BASE_ADDR, cqTailAddr := s.fld F.CTG_MCQ_TAIL_ADDR_ADDR, cqHeadAddr := s.fld F.CTG_MCQ_HEAD_ADDR_ADDR,
                     cqReserved := (s.ctx 0).cqReserved, tagsHeld := (s.ctx 0).tagsHeld }
    .next (((s.setFld f 1).setCtx 0 x).setCtxState 0 CS.enabled).drain

/-- CTG_INJECT_FETCH_ERR (R320). -/
def execCtgInjectFetchErr (g : Fin 128) (s : State) : Out := .next (s.setArmed F.CTG_INJECT_FETCH_ERR g.val true)

/-- CTG_INJECT_MALFORMED (R320). -/
def execCtgInjectMalformed (g : Fin 128) (s : State) : Out := .next (s.setArmed F.CTG_INJECT_MALFORMED g.val true)

/-! ## Handlers (R457) -/

/-- HANDLER_DONE (R457): a write of HANDLER_DONE with the tag and CANCEL. -/
def execHandlerDone (tag : Fin 65536) (cancel : Bool) (s : State) : Out :=
  match s.op tag.val with
  | none => .next s
  | some o =>
    if o.handler ∉ [1, 3, 4] then .next s
    else if cancel then .next (s.finishOp tag.val 0x05 0 0 0).drain
    else .next (s.setOp tag.val { o with handler := 2 }).drain

/-- HANDLER_TIMEOUT (R457): no HANDLER_DONE within TIMEOUT_US of the first push. -/
def execHandlerTimeout (tag : Fin 65536) (s : State) : Out :=
  match s.op tag.val with
  | none => .next s
  | some o =>
    if o.handler ∉ [1, 4] then .next s
    else .next (((s.finishOp tag.val 0x05 0 0 0).count F.PLC_CNT_HTIMEOUT_COUNT 0).raise 688 0x03 (tag.val * 2 ^ 32 + o.ctx)).drain

end Sys2Proof.Machine
end

