-- ==== Sys2Proof/Machine/RemoteCmds.lean ====
section
/-!
DEFINITION. Machine/RemoteCmds.lean: the commands of message matching, remote memory, reliability and translation (chapters 12, 13
and 14): packets at their endpoint blocks, timers, and what waits for room.
-/
namespace Sys2Proof.Machine

/-! ## Channel packets -/

/-- FENCE_RELEASE (R62). -/
def execFenceRelease (chan : Fin 65536) (s : State) : Out := if s.safe then .next s else .next (s.releaseFence chan.val).drain

/-- SEND_EAGER_RECEIVE (R329): the oldest SEND_EAGER delivered here. -/
def execSendEagerReceive (s : State) : Out := .next (s.receiveOpc 0x00).drain
/-- SEND_RTS_RECEIVE (R335). -/
def execSendRtsReceive (s : State) : Out := .next (s.receiveOpc 0x01).drain
/-- SEND_FIN_RECEIVE (R337). -/
def execSendFinReceive (s : State) : Out := .next (s.receiveOpc 0x02).drain
/-- SEND_CANCEL_RECEIVE (R337). -/
def execSendCancelReceive (s : State) : Out := .next (s.receiveOpc 0x03).drain
/-- PUT_RECEIVE (R353). -/
def execPutReceive (s : State) : Out := .next (s.receiveOpc 0x20).drain
/-- PUT_NOTIFY_RECEIVE (R350). -/
def execPutNotifyReceive (s : State) : Out := .next (s.receiveOpc 0x21).drain
/-- GET_REQ_RECEIVE (R363). -/
def execGetReqReceive (s : State) : Out := .next (s.receiveOpc 0x22).drain
/-- ATOMIC_RECEIVE (R349, R363). -/
def execAtomicReceive (s : State) : Out := .next (s.receiveOpc 0x24).drain

/-- The oldest delivery of an answer is taken by what it answers, unless the safe state holds the endpoint blocks (R516) or the
endpoint core is not awake (R524). -/
def State.answer (s : State) (o : Nat) (act : State → List Byte → State) : State :=
  if s.safe ∨ ¬ s.awake Dom.endpoint then s
  else match s.takeOpc o with
    | (none, s) => s
    | (some d, s) => (act s d.bytes).drain

/-- GET_RSP_RECEIVE (R364). -/
def execGetRspReceive (s : State) : Out := .next (s.answer 0x23 State.takeRsp)
/-- ATOMIC_RSP_RECEIVE (R364). -/
def execAtomicRspReceive (s : State) : Out := .next (s.answer 0x25 State.takeRsp)
/-- ACCESS_NAK_RECEIVE (R366, R369). -/
def execAccessNakReceive (s : State) : Out := .next (s.answer 0x26 State.takeNak)
/-- ACK_RECEIVE (R358). -/
def execAckReceive (s : State) : Out := .next (s.answer 0x60 State.takeAck)
/-- ROUTE_ERROR_RECEIVE (R84, R359). -/
def execRouteErrorReceive (s : State) : Out := .next (s.answer 0x63 State.takeRouteError)

/-! ## Matching -/

/-- Ring receives that wait at a MAT are posted, oldest first, while there is room. The fuel is their number. -/
def State.postWaiting (s : State) (n : Nat) : Nat → State
  | 0 => s
  | k + 1 =>
    match (s.mat n).waiting with
    | [] => s
    | tag :: rest =>
      match s.op tag with
      | none => (s.setMat n { s.mat n with waiting := rest }).postWaiting n k
      | some o => match s.post (recvPost tag o) with
        | (true, s) => (s.setMat n { s.mat n with waiting := rest }).postWaiting n k
        | (false, s) => s

/-- POSTED_RECEIVE_ROOM (R326). -/
def execPostedReceiveRoom (n : Fin 16) (s : State) : Out := .next (s.postWaiting n.val (s.mat n.val).waiting.length).drain

/-- HOOK_RECORD_PUSH (R343): the oldest waiting record goes to its queue, where that has room. -/
def execHookRecordPush (n : Fin 16) (s : State) : Out :=
  let q := s.fld F.MAT_HOOK_CFG_QUEUE n.val
  match (s.mat n.val).hooks with
  | [] => .next s
  | (_, r) :: rest =>
    if ¬ s.qValid q then .next (s.setMat n.val { s.mat n.val with hooks := rest }).drain
    else if s.qFull q then .next s
    else .next ((s.setMat n.val { s.mat n.val with hooks := rest }).qAppend q r).drain

/-- MAT_INJECT_STATE_ECC (R344). -/
def execMatInjectStateEcc (n : Fin 16) (s : State) : Out := .next (s.setArmed F.MAT_INJECT_STATE_ECC n.val true)

/-! ## Reliability -/

/-- REL_ACK_DELAY (R357): DELAY_NS has passed since the first packet not yet acknowledged. -/
def execRelAckDelay (chan : Fin 65536) (s : State) : Out :=
  match s.chan chan.val with
  | none => .next s
  | some c => if c.sinceAck = 0 then .next s else .next (s.sendRelAck chan.val)

/-- RETRANSMIT_TIMEOUT (R359, R360): the wait of an unretired packet has passed. -/
def execRetransmitTimeout (chan : Fin 65536) (seq : W32) (s : State) : Out := .next (s.resendTx chan.val seq.toNat true).drain

/-- CHANNEL_ENTRY_FREE (R354): operations that wait for a channel try again. -/
def execChannelEntryFree (s : State) : Out := .next s.retryChans.drain

/-- SEND_HALF_RESET (R361 rule 1). -/
def execSendHalfReset (chan : Fin 65536) (s : State) : Out := .next (s.txReset chan.val).drain

/-- RECEIVE_HALF_RESET (R361 rule 3). -/
def execReceiveHalfReset (chan : Fin 65536) (s : State) : Out := .next ((s.rxReset chan.val).retryChans).drain

/-- RESP_HOLD_EXPIRE (R363): RESP_HOLD_US after its last sending a response is freed. -/
def execRespHoldExpire (chan : Fin 65536) (seq : W32) (s : State) : Out :=
  .next ((s.setEp { s.ep with resp := merase s.ep.resp (respKey chan.val seq.toNat) }).showRel (chan.val % 16))

/-- REFUSE_HOLD_EXPIRE (R367). -/
def execRefuseHoldExpire (chan : Fin 65536) (seq : W32) (s : State) : Out :=
  match (s.chan chan.val).bind (fun c => c.holdOf seq.toNat) with
  | some { hold := .refused _, .. } => .next (s.unholdRx chan.val seq.toNat).drain
  | _ => .next s

/-- PARK_TIMEOUT (R368): a parked packet is refused. -/
def execParkTimeout (rel : Fin 16) (slot : Fin 4096) (s : State) : Out :=
  match s.ep.job.find? (fun (e : Nat × Job) => decide (e.2.slot = some slot.val) && decide (s.jobRel e.2 = rel.val)) with
  | none => .next s
  | some (id, j) => .next (s.unresolved id j).drain

/-- SUSPEND_LIMIT_EXPIRE (R369): the channel of a suspended packet fails. -/
def execSuspendLimitExpire (chan : Fin 65536) (seq : W32) (s : State) : Out :=
  match (s.chan chan.val).bind (fun c => c.tx seq.toNat) with
  | some t => if t.suspended then .next (s.chanFail chan.val).drain else .next s
  | none => .next s

/-- REL_INJECT_RESP_ECC (R373). -/
def execRelInjectRespEcc (n : Fin 16) (s : State) : Out := .next (s.setArmed F.REL_INJECT_RESP_ECC n.val true)
/-- REL_INJECT_DROP_ACK (R373). -/
def execRelInjectDropAck (n : Fin 16) (s : State) : Out := .next (s.setArmed F.REL_INJECT_DROP_ACK n.val true)
/-- REL_INJECT_DROP_RX (R373). -/
def execRelInjectDropRx (n : Fin 16) (s : State) : Out := .next (s.setArmed F.REL_INJECT_DROP_RX n.val true)

/-! ## Translation -/

/-- WALK_STEP_READ (R381, R384): the entry read of a unit's `i`-th walk returns. -/
def execWalkStepRead (n : Fin 32) (i : Fin 32) (s : State) : Out := .next (s.walkStep n.val i.val).drain

/-- LOCAL_TIMEOUT_EXPIRE (R388): a held local access of an operation is given up. -/
def execLocalTimeoutExpire (tag : Fin 65536) (s : State) : Out :=
  match s.ep.job.find? (fun (e : Nat × Job) => e.2.fault.isSome && decide (e.2.who.tag = some tag.val)) with
  | none => .next s
  | some (id, j) => .next ((s.localTimeout j tag.val).tellJob id .unresolved).drain

/-- An invalidation of a unit completes (R389, R393): a SPACE_SET makes its key valid or invalid, parked and held work is retried or
given up, and the next invalidation begins. -/
def State.invDone (s : State) (n : Nat) : State :=
  let x := s.xlt n
  match x.inv with
  | none => s
  | some v =>
    if ¬ s.invReady v then s
    else
      let sp := s.space v.space
      let s := if v.spaceSet then s.setEp { s.ep with space := mput {} s.ep.space v.space { sp with okKey := if sp.root.testBit 0 then some sp.key else none } } else s
      let s := s.invRetry v
      let s := (s.setXlt n { s.xlt n with inv := none }).setFld F.XLT_INV_CTRL_BUSY 0 n
      let s := s.setFld F.XLT_INV_SEQ_COUNT (s.fld F.XLT_INV_SEQ_COUNT n + 1) n
      let s := match v.tag with
        | some t => s.finishOp t 0 0 0 0
        | none => s
      match (s.xlt n).invQ with
      | [] => s
      | w :: rest => (s.setXlt n { s.xlt n with invQ := rest }).invBegin n w

/-- INVALIDATION_COMPLETE (R393). -/
def execInvalidationComplete (n : Fin 32) (s : State) : Out := .next (s.invDone n.val).drain

end Sys2Proof.Machine
end

