-- ==== Sys2Proof/Machine/CollCmds.lean ====
section
/-!
DEFINITION. Machine/CollCmds.lean: the commands of collective trees and of the Abacus (chapters 07 and 08).
-/
namespace Sys2Proof.Machine

/-! ## Packets -/

/-- COLL_CONTRIB_RECEIVE (R236). -/
def execCollContribReceive (s : State) : Out := .next (s.treeReceive 0x40).drain
/-- COLL_PARTIAL_EXACT_RECEIVE (R206, R236). -/
def execCollPartialExactReceive (s : State) : Out := .next (s.treeReceive 0x41).drain
/-- COLL_PARTIAL_ORDERED_RECEIVE (R218, R236). -/
def execCollPartialOrderedReceive (s : State) : Out := .next (s.treeReceive 0x42).drain
/-- COLL_RESULT_RECEIVE (R239, R243). -/
def execCollResultReceive (s : State) : Out := .next (s.downReceive 0x43 State.takeResult).drain

/-- COLL_BCAST_RECEIVE (R246): a chunk of the root's own source, or one that came down the tree. -/
def execCollBcastReceive (s : State) : Out :=
  match firstIdx s.fwd.dlv (fun d => decide (pOpc d.bytes = 0x44) && s.awake (Dom.slice (cTree d.bytes % 16))) with
  | none => .next s
  | some (_, d) =>
    if d.inLink.isNone ∧ s.treeRoot (cTree d.bytes) then .next (s.treeReceive 0x44).drain
    else .next (s.downReceive 0x44 State.takeBcast).drain

/-- COLL_GATHER_RECEIVE (R247). -/
def execCollGatherReceive (s : State) : Out := .next (s.treeReceive 0x45).drain
/-- BARRIER_UP_RECEIVE (R248). -/
def execBarrierUpReceive (s : State) : Out := .next (s.treeReceive 0x46).drain
/-- BARRIER_DOWN_RECEIVE (R248). -/
def execBarrierDownReceive (s : State) : Out := .next (s.downReceive 0x47 State.takeBarDown).drain
/-- COLL_REPULL_RECEIVE (R240, R242). -/
def execCollRepullReceive (s : State) : Out := .next (s.treeReceive 0x48).drain

/-- ABACUS_CTRL_RECEIVE (R244). -/
def execAbacusCtrlReceive (s : State) : Out :=
  if s.safe then .next s
  else match s.takeColl 0x64 with
    | (none, s) => .next s
    | (some d, s) => match s.treeLookup (cTree d.bytes) d.bytes with
      | (false, s) => .next (s.copyDone d.pkt).drain
      | (true, s) => .next ((s.takeFail d.bytes).copyDone d.pkt).drain

/-! ## Windows -/

/-- WINDOW_FILL_DONE (R224): a window that waits in HBM is in SRAM again, where there is room; its waiting packets go on. -/
def execWindowFillDone (tree : Fin 4096) (inst : W32) (chunk : Fin 65536) (s : State) : Out :=
  let k := wKey tree.val inst.toNat chunk.val
  let n := tree.val % 16
  match s.win k with
  | none => .next s
  | some w =>
    if ¬ w.inHbm ∨ ¬ w.filling then .next s
    else match s.makeRoom n w.units k with
      | none => .next s
      | some s =>
        let w := { w with inHbm := false, filling := false }
        let s := (s.touchWin k w).count F.ABC_CNT_FILL_COUNT n
        if s.armed F.ABC_INJECT_FILL_ECC n then
          let (r, s) := (s.setArmed F.ABC_INJECT_FILL_ECC n false).takeFree
          .next (((s.raise (416 + n) 0x06 (tree.val * 2 ^ 48 + chunk.val * 2 ^ 32 + Config.choice r % 65536)).resetWin k w).retryWaiting n).drain
        else .next (s.retryWaiting n).drain

/-- WINDOW_SPACE_FREE (R224, R250): the packets that wait at a slice try again. -/
def execWindowSpaceFree (n : Fin 16) (s : State) : Out := .next (s.retryWaiting n.val).drain

/-- WINDOW_STALL_TIMEOUT (R225): once for each window that waits for space. -/
def execWindowStallTimeout (tree : Fin 4096) (inst : W32) (chunk : Fin 65536) (s : State) : Out :=
  let k := wKey tree.val inst.toNat chunk.val
  let n := tree.val % 16
  if s.coll.waiting.any (fun x => decide (x.1 = k)) ∧ ¬ s.coll.stalled.contains k then
    .next (({ s with coll := { s.coll with stalled := s.coll.stalled ++ [k] } }).raise (416 + n) 0x04
      (tree.val * 2 ^ 48 + chunk.val * 2 ^ 32 + (sliceUnits - unitsOf (s.sliceWins n) false)))
  else .next s

/-! ## Timers (R239–R244, R248) -/

/-- REPULL_TIMEOUT (R240, R244): an OPEN window, or with `bar` an open barrier, has made no progress for REPULL_US. -/
def execRepullTimeout (tree : Fin 4096) (inst : W32) (chunk : Fin 65536) (bar : Bool) (s : State) : Out :=
  let t := tree.val
  let i := inst.toNat
  if bar then
    match s.bar (bKey t i) with
    | none => .next s
    | some x =>
      if x.ph ≠ .open_ then .next s
      else
        let n := if x.progress then 0 else x.repulls
        if s.repullLimit t ≤ n then .next (s.failBar t i none).drain
        else
          let s := s.setBar (bKey t i) { x with repulls := n + 1, progress := false }
          .next ((x.contribs.filter (fun c => !x.arrived.contains c)).foldl (fun s c => s.repullOne t i 0 c 0 true) s).drain
  else
    match s.win (wKey t i chunk.val) with
    | none => .next s
    | some w =>
      if w.ph ≠ .open_ then .next s
      else
        let n := if w.progress then 0 else w.repulls
        if s.repullLimit t ≤ n then .next (s.failWin t i chunk.val none).drain
        else
          let w := { w with repulls := n + 1, progress := false }
          .next ((s.setWin (wKey t i chunk.val) w).repullAll w).drain

/-- RESULT_REPULL_TIMEOUT (R242, R244): a member that has sent its part asks the root for the result again. -/
def execResultRepullTimeout (tree : Fin 4096) (inst : W32) (chunk : Fin 65536) (bar : Bool) (s : State) : Out :=
  let t := tree.val
  let i := inst.toNat
  let ask (s : State) (c : Nat) : State :=
    (s.count F.TRE_CNT_REPULL_TX_COUNT 0).sendRouted (s.repullPkt t (s.treeRootId t) i c 8 0) (slicePipe t) 0
  if s.treeRoot t then .next s
  else if bar then
    match s.bar (bKey t i) with
    | none => .next s
    | some x =>
      if x.ph ≠ WPh.sent then .next s
      else if s.repullLimit t ≤ x.repulls then .next (s.failBar t i none).drain
      else .next (ask (s.setBar (bKey t i) { x with repulls := x.repulls + 1 }) 0).drain
  else
    match s.win (wKey t i chunk.val) with
    | none => .next s
    | some w =>
      if w.ph ≠ WPh.sent then .next s
      else if s.repullLimit t ≤ w.repulls then .next (s.failWin t i chunk.val none).drain
      else .next (ask (s.setWin (wKey t i chunk.val) { w with repulls := w.repulls + 1 }) chunk.val).drain

/-- RETAIN_EXPIRE (R239): the root frees a downward chunk that it has retained. -/
def execRetainExpire (tree : Fin 4096) (inst : W32) (chunk : Fin 65536) (bar : Bool) (s : State) : Out :=
  let t := tree.val
  if ¬ s.treeRoot t then .next s
  else if bar then
    match s.bar (bKey t inst.toNat) with
    | none => .next s
    | some x => if x.ph = WPh.sent then .next (s.setBar (bKey t inst.toNat) { ph := .tomb }) else .next s
  else
    let k := wKey t inst.toNat chunk.val
    match s.win k with
    | none => .next s
    | some w => if w.ph = WPh.sent ∨ w.ph = .copy then .next (s.tombWin k w .tomb) else .next s

/-- TOMBSTONE_EXPIRE (R239): a tombstone lapses, and its key is free. -/
def execTombstoneExpire (tree : Fin 4096) (inst : W32) (chunk : Fin 65536) (bar : Bool) (s : State) : Out :=
  let t := tree.val
  if bar then
    let k := bKey t inst.toNat
    match s.bar k with
    | none => .next s
    | some x => if x.ph = .tomb ∨ x.ph = .failed then .next { s with coll := { s.coll with bar := merase s.coll.bar k } } else .next s
  else
    let k := wKey t inst.toNat chunk.val
    match s.win k with
    | none => .next s
    | some w =>
      if w.ph = .tomb ∨ w.ph = .failed then .next (({ s with coll := { s.coll with win := merase s.coll.win k } }).showAbc (t % 16)) else .next s

/-- BCAST_SOURCE_COMPLETE (R246): RETAIN_US after the source's last chunk was sent. -/
def execBcastSourceComplete (tag : Fin 65536) (s : State) : Out :=
  match s.op tag.val with
  | none => .next s
  | some o =>
    if o.opc = 0x41 ∧ o.srcFlag ∧ o.started ∧ o.segs ≤ o.built then .next (s.finishOp tag.val 0 (o.dByte 32 4) 0 0).drain else .next s

/-- GATHER_RESEND_TIMEOUT (R247): a chunk of the sender's block has not come back. The chunk is given by its global index. -/
def execGatherResendTimeout (tag : Fin 65536) (chunk : Fin 65536) (s : State) : Out :=
  match s.op tag.val with
  | none => .next s
  | some o =>
    let k := chunk.val - o.chunk 0
    let got := ((o.done.filter (fun x => decide (x / 8192 / 4096 = chunk.val))).map (fun x => x % 8192)).sum
    if o.opc ≠ 0x42 ∨ ¬ o.started ∨ chunk.val < o.chunk 0 ∨ s.opChunks o ≤ k ∨ 4096 ≤ got then .next s
    else
      let n := mget 0 o.resent k
      if s.repullLimit o.tree ≤ n then .next (s.finishOp tag.val 0x09 0 0 0).drain
      else .next ((s.setOp tag.val { o with resent := minsert o.resent k (n + 1) }).restage tag.val k 0).drain

/-! ## Injections -/

/-- ABC_INJECT_FILL_ECC (R228). -/
def execAbcInjectFillEcc (n : Fin 16) (s : State) : Out := .next (s.setArmed F.ABC_INJECT_FILL_ECC n.val true)
/-- ABC_INJECT_BEAD_ECC (R228). -/
def execAbcInjectBeadEcc (n : Fin 16) (s : State) : Out := .next (s.setArmed F.ABC_INJECT_BEAD_ECC n.val true)
/-- ABC_INJECT_RESIDUE (R228). -/
def execAbcInjectResidue (n : Fin 16) (s : State) : Out := .next (s.setArmed F.ABC_INJECT_RESIDUE n.val true)
/-- TRE_COLL_INJECT_DROP_UP (R252). -/
def execTreCollInjectDropUp (s : State) : Out := .next (s.setArmed F.TRE_COLL_INJECT_DROP_UP 0 true)

end Sys2Proof.Machine
end

