-- ==== Sys2Proof/Machine/Access.lean ====
section
/-!
DEFINITION. Machine/Access.lean: the checks on a register request as a whole (R578), and the register requests of piers while
their words pass the arbiter (R284, R486).
-/
namespace Sys2Proof.Machine

/-- The owner key slots that read as programmed and as revoked: a slot programmed in part reads as revoked (R543, R544). -/
def KeySlot.shownProgrammed (k : KeySlot) : Bool := k.programmed || k.partly
def KeySlot.shownRevoked (k : KeySlot) : Bool := k.revoked || k.partly

/-- No owner key slot is programmed and unrevoked (R574). -/
def State.jtagOpen (s : State) : Bool :=
  (List.range 4).all (fun i => let k := mget {} s.sec.slots i; !k.shownProgrammed || k.shownRevoked)

/-- The privilege level of an agent (R574, R575). -/
def State.agentLevel (s : State) : Agent → Nat
  | .boot | .mgmt | .hart _ => 3
  | .jtag => if s.jtagOpen then 3 else 0
  | .pier n => s.fld F.SPN_PRIV_LEVEL n

/-- What level 1 may read at a host port's pier (Table 5 of Span). -/
def State.ownPage (s : State) (n p : Nat) : Bool :=
  match pageKind p with
  | .block .hpt k | .block .spn k => decide (k = n)
  | .block .ctg g => s.ep.ctx.any (fun (e : Nat × Ctx) => decide (ctxGroup e.1 = g) && decide (s.ctxPort e.1 = n))
  | .window .summary _ => true
  | _ => false

/-- The privilege check of a page (R285, R286). -/
def State.privOk (s : State) (ag : Agent) (write : Bool) (p : Nat) : Bool :=
  let l := s.agentLevel ag
  if write then decide (3 ≤ l)
  else decide (2 ≤ l) || (decide (l = 1) && (match ag with
    | .pier n => s.ownPage n p
    | _ => false))

/-- The pages that stay writable to the management pier in the safe state (R292) and in boot hold (R550). -/
def safePage (p : Nat) : Bool := match pageKind p with
  | .block .dev _ | .block .kst _ => true
  | _ => false
def holdPage (p : Nat) : Bool := match pageKind p with
  | .block .dev _ | .block .kst _ | .block .sec _ | .block .mgt _ => true
  | _ => false

/-- Writes to a page are not barred by the safe state or boot hold (R577). -/
def State.writeOpen (s : State) (ag : Agent) (p : Nat) : Bool :=
  match ag with
  | .boot | .hart _ => true
  | .pier _ => !s.safe && !s.bootHold
  | .mgmt | .jtag => (!s.safe || safePage p) && (!s.bootHold || holdPage p)

/-- The status of a request checked as a whole: form, mapping, privilege, then safe state and boot hold (R578). -/
def State.regStatus (s : State) (ag : Agent) (write : Bool) (a words : Nat) (secureOk : Bool) : Nat :=
  let p := a / 4096
  if a % 4 ≠ 0 ∨ words = 0 ∨ (a + 4 * words - 1) / 4096 ≠ p then 0x03
  else if ¬ (List.range words).all (fun i => mapped (a + 4 * i)) then 0x04
  else if ¬ s.privOk ag write p ∨ ¬ secureOk then 0x01
  else if write ∧ ¬ s.writeOpen ag p then 0x02
  else 0

/-- A request refused with a status is counted (R592), and raises RFA kind 0x04 where it touches an unmapped word (R587). -/
def State.regRefused (s : State) (ag : Agent) (a st : Nat) : State :=
  let s := if st = 0x01 ∨ st = 0x02 ∨ st = 0x04 then s.setFld F.RFA_LAST_REFUSED_ADDR (a % 2 ^ 26) 0 else s
  if st = 0x04 then (s.count F.RFA_CNT_UNMAPPED_COUNT 0).raise 753 0x04 (ag.requestor * 2 ^ 32 + a % 2 ^ 26)
  else if st = 0x01 then s.count F.RFA_CNT_PRIV_COUNT 0
  else if st = 0x02 then s.count F.RFA_CNT_SAFE_COUNT 0
  else s

/-! ## Register requests of piers (R284) -/

/-- The agent of a pier: pier 64 is the management pier. -/
def pierAgent (n : Nat) : Agent := if n = 64 then .mgmt else .pier (Fin.ofNat 64 n)

/-- The answer to a register request: REG_RD_DATA or REG_WR_ACK with its status, and the words read. -/
def State.regAnswer (s : State) (n : Nat) (f : SFrame) (st : Nat) (ws : List W32) : State :=
  let words := if f.op = 0x20 ∧ st = 0 then ws.flatMap (fun w => leBytes 4 w.toNat) else []
  s.queueSpan n { f := { op := f.op + 1, target := f.target, opspec := f.tseq * 2 ^ 16 + st * 2 ^ 8, payload := words } }

/-- The words that a register request covers. -/
def SFrame.regWords (f : SFrame) : Nat := if f.op = 0x20 then f.opspec else f.payload.length / 4

/-- The next word of the pier's request is presented to the arbiter, or the request is answered. -/
def State.regPresent (s : State) (n : Nat) : State :=
  let p := s.pier n
  match p.reg with
  | none => s
  | some (f, ws) =>
    let i := ws.length
    if f.regWords ≤ i then (s.setPier n { p with reg := none }).regAnswer n f 0 ws
    else s.rfaPresent { agent := pierAgent n, write := decide (f.op = 0x22), addr := f.target + 4 * i,
                        data := BitVec.ofNat 32 (leAt f.payload (4 * i) 4) }

/-- The arbiter has performed a word of the pier's request. -/
def State.regWordDone (s : State) (n : Nat) (v : W32) : State :=
  let p := s.pier n
  match p.reg with
  | none => s
  | some (f, ws) => (s.setPier n { p with reg := some (f, ws ++ [v]) }).regPresent n

/-- The oldest delivered request of an operation is checked as a whole, and answered or begun (R284–R286, R292). One is served
at a time. -/
def State.takeReg (s : State) (n op : Nat) : State :=
  if (s.pier n).reg.isSome then s
  else match s.takeDelivered n [op] with
    | (none, s) => s
    | (some f, s) =>
      let ag := pierAgent n
      let st := s.regStatus ag (decide (op = 0x22)) f.target f.regWords (f.secure || !s.flag F.SPN_PRIV_REQUIRE_MACSEC n)
      if st = 0 then (s.setPier n { s.pier n with reg := some (f, []) }).regPresent n
      else
        let s := s.regRefused ag f.target st
        let s := if st = 0x01 then s.raise (portSrc n) 0x14 f.target else s
        s.regAnswer n f st []

end Sys2Proof.Machine
end

