-- ==== Sys2Proof/Machine/SpanCmds.lean ====
section
/-!
DEFINITION. Machine/SpanCmds.lean: the commands of host ports and piers that reach other blocks (chapters 09 and 10): a port
becoming ACTIVE, frames in, doorbells, answers from memory, register requests, sessions and their timers.
-/
namespace Sys2Proof.Machine

/-! ## The port -/

/-- A HELD session goes on: every unacknowledged frame not shown held is sent again at once, its retry count unchanged (R291). -/
def State.resumeSession (s : State) (n : Nat) : State :=
  let s := s.setFld F.SPN_SESSION_STATE SS.open_ n
  let s := ((s.pier n).tx.filter (fun t => !t.held)).foldl (fun s t => s.resend n t.f.tseq false) s
  (s.issueReads n).pump n

/-- The pier's side of its port becoming ACTIVE (R272, R273, R291). -/
def State.pierPortUp (s : State) (n : Nat) : State :=
  if s.session n = SS.held then s.resumeSession n
  else if s.session n = SS.down ∧ s.pierOn n then s.enterSync n
  else s

/-- HOST_PORT_ACTIVE (R256, R264): negotiation and training have completed; `cr` is the medium that Clause 73 resolved. The
management port is port 64, whose link the device does not train by state. -/
def execHostPortActive (n : Fin 65) (cr : Bool) (s : State) : Out :=
  let st := s.pstate n
  let ready := if n.val = 64 then decide (st ≠ PS.active) && s.pwr.inReset.isNone else decide (st = PS.an) || decide (st = PS.training) || decide (st = PS.align)
  if ¬ ready then .next s
  else
    let s := if n.val = 64 then s.applyPortCommits 64 else (s.portLanes n).foldl (fun s m => s.setLane m 5) s
    let medium := if s.flag F.HPT_CFG_AN_EN n then cr else s.flag F.HPT_CFG_MEDIA n
    let s := (s.setFld F.HPT_PSTATE_STATE PS.active n).setFld F.HPT_PSTATE_CR (if medium then 1 else 0) n
    .next (s.pierPortUp n).drain

/-- The PTP frames that a port has stamped are pushed to the queue of PTP_CFG (R263). -/
def State.pushPtp (s : State) (n : Nat) : State :=
  let p := s.port n
  p.ptp.foldl (fun s e => s.ptpPush (s.fld F.HPT_PTP_CFG_QUEUE n) n (e.1 / 4) e.2) (s.setPort n { p with ptp := [] })

/-- ETH_FRAME_RECEIVE (R257): a frame with its FCS has arrived at a port. -/
def execEthFrameReceive (n : Fin 65) (frame : List Byte) (s : State) : Out := .next ((s.frameIn n frame).pushPtp n).drain

/-! ## Doorbells (R283, R292, R302–R304) -/

/-- A delivered doorbell is refused or passed to the context manager; `inl` is its inline copy. -/
def State.spanBell (s : State) (n : Nat) (f : SFrame) (inl : List Byte) : State :=
  let c := f.target
  let t := f.opspec
  if s.safe then s.refuseFrame n f.tseq 0x12 none 0
  else if s.ctxPort c ≠ n ∨ ¬ s.takesDoorbells c then
    (s.refuseFrame n f.tseq 0x11 (some 0x15) c).count F.CTG_CNT_DB_REFUSED_COUNT (ctxGroup c)
  else if f.op = 0x02 ∧ inl.length ≠ 16 * seqDist 32 t (s.ctx c).cmdTail then
    s.refuseFrame n f.tseq 0x13 (some 0x16) (f.op * 2 ^ 56 + 0x13 * 2 ^ 48 + f.tseq)
  else s.doorbell c t inl

/-- DOORBELL (R302). While the endpoint core wakes, the frame waits in its pier (R524). -/
def execDoorbell (n : Fin 65) (s : State) : Out :=
  if ¬ s.awake Dom.endpoint then .next s else match s.takeDelivered n [0x01] with
  | (none, s) => .next s
  | (some f, s) => .next (s.spanBell n f []).drain

/-- DOORBELL_INLINE (R303). -/
def execDoorbellInline (n : Fin 65) (s : State) : Out :=
  if ¬ s.awake Dom.endpoint then .next s else match s.takeDelivered n [0x02] with
  | (none, s) => .next s
  | (some f, s) => .next (s.spanBell n f f.payload).drain

/-! ## Answers from memory (R280, R281) -/

/-- A read of the pier ends: it leaves those outstanding, what waits is told, and a waiting read is issued. -/
def State.endRead (s : State) (n i : Nat) (r : HostRd) (st : Nat) (d : List Byte) : State :=
  let p := s.pier n
  ((s.setPier n { p with reads := p.reads.eraseIdx i }).memEnd r.waiter st d).issueReads n

/-- A MEM_RD_DATA frame against the read it names. A failing one's detail names the MEM_RD's sequence. -/
def State.readData (s : State) (n : Nat) (f : SFrame) : State :=
  let p := s.pier n
  let st := f.opspec / 2 ^ 24
  let off := f.opspec % 2 ^ 24
  match firstIdx p.reads (fun r => decide (r.id = f.target) && r.seq.isSome) with
  | none => s.count F.SPN_CNT_MALFORMED_COUNT n
  | some (i, r) =>
    if st ≠ 0 then
      (s.raise (portSrc n) 0x18 (st * 2 ^ 56 + r.seq.getD 0 * 2 ^ 32 + tagDetail r.tag)).endRead n i r st []
    else
      let have_ := r.got.length
      let tot := have_ + f.payload.length
      let last := f.flags.testBit 0
      if off ≠ have_ ∨ r.len < tot ∨ (last ∧ tot < r.len) then
        ((s.count F.SPN_CNT_MALFORMED_COUNT n).raise (portSrc n) 0x16 (0x11 * 2 ^ 56 + 0x03 * 2 ^ 48 + f.tseq)).endRead n i r 0x03 []
      else if last then s.endRead n i r 0 (r.got ++ f.payload)
      else s.setPier n { p with reads := p.reads.set i { r with got := r.got ++ f.payload } }

/-- MEM_RD_DATA (R280). -/
def execMemRdData (n : Fin 65) (s : State) : Out :=
  match s.takeDelivered n [0x11] with
  | (none, s) => .next s
  | (some f, s) => .next (s.readData n f).drain

/-- A MEM_WR_ACK: every write at or before S has landed, or the write S is refused (R281). -/
def State.writeAck (s : State) (n : Nat) (f : SFrame) : State :=
  let p := s.pier n
  let q := f.target % 2 ^ 16
  let st := f.opspec / 2 ^ 24
  if st ≠ 0 then
    match p.writes.find? (fun w => decide (w.seq = q)) with
    | none => s
    | some w => (s.raise (portSrc n) 0x18 (st * 2 ^ 56 + q * 2 ^ 32 + tagDetail w.tag)).refuseWr n q st
  else
    let in_ (w : HostWr) : Bool := decide (seqDist 16 q w.seq < 2 ^ 15)
    let newer := p.writes.any in_ || decide (seqDist 16 q (s.fld F.SPN_RX_STATE_LANDED n) < 2 ^ 15)
    let s := s.setPier n { p with writes := p.writes.filter (fun w => !in_ w) }
    let s := if newer then s.setFld F.SPN_RX_STATE_LANDED q n else s
    (p.writes.filter in_).foldl (fun s w => s.memEnd w.waiter 0 []) s

/-- MEM_WR_ACK (R281). -/
def execMemWrAck (n : Fin 65) (s : State) : Out :=
  match s.takeDelivered n [0x13] with
  | (none, s) => .next s
  | (some f, s) => .next (s.writeAck n f).drain

/-! ## Register requests (R284) -/

/-- REG_RD (R284): the check as a whole; its words pass the arbiter one by one (RFA_GRANT). -/
def execRegRd (n : Fin 65) (s : State) : Out := .next (s.takeReg n 0x20)

/-- REG_WR (R284). -/
def execRegWr (n : Fin 65) (s : State) : Out := .next (s.takeReg n 0x22)

/-! ## Acknowledgements and sessions -/

/-- SPAN_ACK (R272, R276): the oldest ACK that has arrived. -/
def execSpanAck (n : Fin 65) (s : State) : Out :=
  match s.takeRx n (fun f => decide (f.op = 0x3F)) with
  | (none, s) => .next s
  | (some f, s) => .next (s.spanAck n f).drain

/-- SPAN_NAK (R278, R614). -/
def execSpanNak (n : Fin 65) (s : State) : Out :=
  match s.takeRx n (fun f => decide (f.op = 0x3E)) with
  | (none, s) => .next s
  | (some f, s) => .next (s.spanNak n f).drain

/-- The session is lost and the pier reads DOWN. -/
def State.lossToDown (s : State) (n cause : Nat) : State := (s.sessionLoss n cause).setFld F.SPN_SESSION_STATE SS.down n

/-- A write of a pier's ENABLE (R273). -/
def State.pierEnable (s : State) (n : Nat) (on : Bool) : State :=
  let s := s.setHdr .spn n F.HDR_CTRL_ENABLE (if on then 1 else 0)
  if on then (if s.session n = SS.down ∧ s.portUp n then s.enterSync n else s)
  else if s.session n = SS.down then s
  else s.lossToDown n 6

/-- SPN_ENABLE_WRITE (R273). -/
def execSpnEnableWrite (n : Fin 64) (on : Bool) (s : State) : Out := .next (s.pierEnable n on).drain

/-- A write of 1 to SESSION_CTRL.RESYNC (R272). -/
def State.resync (s : State) (n : Nat) : State :=
  let st := s.session n
  if st = SS.open_ then s.lossAndSync n 1
  else if st = SS.syncing then s.enterSync n
  else if st = SS.held then s.lossToDown n 1
  else s

/-- SESSION_RESYNC (R272). -/
def execSessionResync (n : Fin 65) (s : State) : Out := .next (s.resync n).drain

/-- SPAN_RTO_EXPIRE (R278, R279). -/
def execSpanRtoExpire (n : Fin 65) (seq : W16) (s : State) : Out := .next (s.rtoExpire n seq.toNat).drain

/-- MEM_RD_TIMEOUT (R280): a read once sent. -/
def execMemRdTimeout (n : Fin 65) (id : W32) (s : State) : Out :=
  match firstIdx (s.pier n).reads (fun r => decide (r.id = id.toNat) && r.seq.isSome) with
  | none => .next s
  | some (i, r) =>
    let s := (s.count F.SPN_CNT_RD_TIMEOUT_COUNT n).raise (portSrc n) 0x12 (id.toNat * 2 ^ 32 + tagDetail r.tag)
    .next (s.endRead n i r 0x22 []).drain

/-- LANDING_TIMEOUT (R281): a write acknowledged and not landed. -/
def execLandingTimeout (n : Fin 65) (seq : W16) (s : State) : Out :=
  if (s.pier n).writes.any (fun w => decide (w.seq = seq.toNat) && w.acked) then
    let s := s.raise (portSrc n) 0x13 seq.toNat
    .next (if s.portUp n then s.lossAndSync n 4 else s.lossToDown n 4).drain
  else .next s

/-- SESSION_HOLD_EXPIRE (R291). -/
def execSessionHoldExpire (n : Fin 65) (s : State) : Out :=
  if s.session n = SS.held then .next (s.lossToDown n 5).drain else .next s

/-! ## Keystone records (R287) -/

/-- A Keystone record as 16 bytes, bits [127:120] first (R499). -/
def KRec.bytes (r : KRec) : List Byte :=
  beBytes 16 (r.src * 2 ^ 118 + r.kind * 2 ^ 110 + r.sev * 2 ^ 108 + r.rep * 2 ^ 102 + r.time * 2 ^ 64 + r.detail.toNat)

/-- EVENT_GATHER_SEND (R287): up to 64 gathered records leave in one EVENT frame while the management pier is OPEN. -/
def execEventGatherSend (s : State) : Out :=
  let g := s.kst.gather.take 64
  if g = [] then .next s
  else
    let s := { s with kst := { s.kst with gather := s.kst.gather.drop 64 } }
    if s.session 64 = SS.open_ then
      .next (s.queueSpan 64 { f := { op := 0x30, target := 1, opspec := g.length, payload := g.flatMap KRec.bytes } }).drain
    else .next s

end Sys2Proof.Machine
end

