-- ==== Sys2Proof/Machine/Isa.lean ====
section
/-!
DEFINITION. Machine/Isa.lean: the instructions of a hart (R400, R402): their decoding from 16- and 32-bit parcels, and the
arithmetic of RV64IM with Zba and Zbb. Encodings and arithmetic of the base sets are those of the RISC-V specification (log 30).
-/
namespace Sys2Proof.Machine

/-- The two-operand operations; those of one operand ignore the second. -/
inductive Alu where
  | add | sub | sll | slt | sltu | xor | srl | sra | or | and
  | addw | subw | sllw | srlw | sraw
  | mul | mulh | mulhsu | mulhu | div | divu | rem | remu | mulw | divw | divuw | remw | remuw
  | sh1add | sh2add | sh3add | addUw | sh1addUw | sh2addUw | sh3addUw | slliUw
  | andn | orn | xnor | clz | ctz | cpop | clzw | ctzw | cpopw | max | maxu | min | minu
  | sextB | sextH | zextH | rol | ror | rolw | rorw | orcB | rev8
deriving DecidableEq, Repr

/-- The operations of AMOs. -/
inductive Amo where
  | swap | add | xor | and | or | min | max | minu | maxu
deriving DecidableEq, Repr

/-- An instruction. Registers are numbers; immediates are sign-extended; `w` is an access's width in bytes. -/
inductive Rv where
  | illegal
  | lui (rd : Nat) (imm : W64)
  | auipc (rd : Nat) (imm : W64)
  | jal (rd : Nat) (off : W64)
  | jalr (rd rs1 : Nat) (off : W64)
  | branch (cond rs1 rs2 : Nat) (off : W64)
  | load (w : Nat) (signed : Bool) (rd rs1 : Nat) (off : W64)
  | store (w : Nat) (rs1 rs2 : Nat) (off : W64)
  | alu (op : Alu) (rd rs1 rs2 : Nat)
  | alui (op : Alu) (rd rs1 : Nat) (imm : W64)
  | fence | fenceI | ecall | ebreak | mret | sret | wfi
  | sfence
  | csr (f3 rd src a : Nat)
  | lr (w rd rs1 : Nat)
  | sc (w rd rs1 rs2 : Nat)
  | amo (op : Amo) (w rd rs1 rs2 : Nat)
  | lq (rd rs1 : Nat) (off : W64)
  | sq (rs1 rs2 : Nat) (off : W64)
  | lkacq (try_ : Bool) (rd rs1 : Nat)
  | lkrel (rd rs1 : Nat)
  | qpush (quad : Bool) (rd rs1 rs2 : Nat)
  | qpop (rd rs1 rs2 : Nat)
  | mprb (rd rs1 rs2 : Nat)
  | waitq (rd rs1 : Nat)
  | fenceEp (rd : Nat)
  | evsig (rs1 rs2 : Nat)
  | hret
deriving DecidableEq, Repr

/-- A signed field as a word. -/
def sx (w v : Nat) : W64 := BitVec.ofInt 64 (signedOf w v)

/-- A 32-bit result sign-extended. -/
def sx32 (v : Nat) : W64 := sx 32 (v % 2 ^ 32)

/-! ## Arithmetic -/

/-- Signed division, which rounds toward zero; by zero it gives −1 (RISC-V). -/
def divS (a b : Int) : Int := if b = 0 then -1 else a.tdiv b
/-- Signed remainder; by zero it gives the dividend. -/
def remS (a b : Int) : Int := if b = 0 then a else a.tmod b
def divU (w a b : Nat) : Nat := if b = 0 then 2 ^ w - 1 else a / b
def remU (a b : Nat) : Nat := if b = 0 then a else a % b

/-- Leading zeros of a `w`-bit number. -/
def clzN (w v : Nat) : Nat := w - ((List.range w).filter (fun i => 2 ^ i ≤ v)).length
/-- Trailing zeros of a `w`-bit number. -/
def ctzN (w v : Nat) : Nat := ((List.range w).takeWhile (fun i => !v.testBit i)).length

/-- What an operation gives. -/
def Alu.run (op : Alu) (a b : W64) : W64 :=
  let an := a.toNat
  let bn := b.toNat
  let ai := a.toInt
  let bi := b.toInt
  let aw := an % 2 ^ 32
  let bw := bn % 2 ^ 32
  let awi := signedOf 32 aw
  let bwi := signedOf 32 bw
  let s6 := bn % 64
  let s5 := bn % 32
  let u (v : Nat) : W64 := BitVec.ofNat 64 v
  let i (v : Int) : W64 := BitVec.ofInt 64 v
  let w (v : Int) : W64 := sx32 (ofSigned 32 v)
  match op with
  | .add => a + b
  | .sub => a - b
  | .sll => a <<< s6
  | .slt => if ai < bi then 1 else 0
  | .sltu => if an < bn then 1 else 0
  | .xor => a ^^^ b
  | .srl => a >>> s6
  | .sra => a.sshiftRight s6
  | .or => a ||| b
  | .and => a &&& b
  | .addw => sx32 (aw + bw)
  | .subw => sx32 (aw + 2 ^ 32 - bw)
  | .sllw => sx32 (aw <<< s5)
  | .srlw => sx32 (aw >>> s5)
  | .sraw => i (awi / 2 ^ s5)
  | .mul => a * b
  | .mulh => i (ai * bi / 2 ^ 64)
  | .mulhsu => i (ai * (bn : Int) / 2 ^ 64)
  | .mulhu => u (an * bn / 2 ^ 64)
  | .div => i (divS ai bi)
  | .divu => u (divU 64 an bn)
  | .rem => i (remS ai bi)
  | .remu => u (remU an bn)
  | .mulw => sx32 (aw * bw)
  | .divw => w (divS awi bwi)
  | .divuw => sx32 (divU 32 aw bw)
  | .remw => w (remS awi bwi)
  | .remuw => sx32 (remU aw bw)
  | .sh1add => b + (a <<< 1)
  | .sh2add => b + (a <<< 2)
  | .sh3add => b + (a <<< 3)
  | .addUw => b + u aw
  | .sh1addUw => b + (u aw <<< 1)
  | .sh2addUw => b + (u aw <<< 2)
  | .sh3addUw => b + (u aw <<< 3)
  | .slliUw => u aw <<< s6
  | .andn => a &&& ~~~b
  | .orn => a ||| ~~~b
  | .xnor => ~~~(a ^^^ b)
  | .clz => u (clzN 64 an)
  | .ctz => u (ctzN 64 an)
  | .cpop => u (popCount 64 an)
  | .clzw => u (clzN 32 aw)
  | .ctzw => u (ctzN 32 aw)
  | .cpopw => u (popCount 32 aw)
  | .max => if ai < bi then b else a
  | .maxu => if an < bn then b else a
  | .min => if ai < bi then a else b
  | .minu => if an < bn then a else b
  | .sextB => sx 8 (an % 2 ^ 8)
  | .sextH => sx 16 (an % 2 ^ 16)
  | .zextH => u (an % 2 ^ 16)
  | .rol => a.rotateLeft s6
  | .ror => a.rotateRight s6
  | .rolw => sx32 ((BitVec.ofNat 32 aw).rotateLeft s5).toNat
  | .rorw => sx32 ((BitVec.ofNat 32 aw).rotateRight s5).toNat
  | .orcB => u (leNat ((leBytes 8 an).map (fun x => if x = 0 then 0#8 else 0xFF#8)))
  | .rev8 => u (beNat (leBytes 8 an))

/-- What an AMO stores, from what memory holds and its operand, at a width in bytes. -/
def Amo.run (op : Amo) (w m b : Nat) : Nat :=
  let k := 8 * w
  let b := b % 2 ^ k
  let lt := decide (signedOf k m < signedOf k b)
  match op with
  | .swap => b
  | .add => (m + b) % 2 ^ k
  | .xor => m ^^^ b
  | .and => m &&& b
  | .or => m ||| b
  | .min => if lt then m else b
  | .max => if lt then b else m
  | .minu => if m < b then m else b
  | .maxu => if m < b then b else m

/-- A branch's condition, by its funct3. -/
def taken (cond : Nat) (a b : W64) : Bool :=
  match cond with
  | 0 => decide (a = b)
  | 1 => decide (a ≠ b)
  | 4 => decide (a.toInt < b.toInt)
  | 5 => decide (b.toInt ≤ a.toInt)
  | 6 => decide (a.toNat < b.toNat)
  | _ => decide (b.toNat ≤ a.toNat)

/-! ## 32-bit encodings -/

def decOp (f7 f3 : Nat) : Option Alu :=
  match f7, f3 with
  | 0x00, 0 => some .add | 0x00, 1 => some .sll | 0x00, 2 => some .slt | 0x00, 3 => some .sltu
  | 0x00, 4 => some .xor | 0x00, 5 => some .srl | 0x00, 6 => some .or | 0x00, 7 => some .and
  | 0x20, 0 => some .sub | 0x20, 5 => some .sra | 0x20, 7 => some .andn | 0x20, 6 => some .orn | 0x20, 4 => some .xnor
  | 0x01, 0 => some .mul | 0x01, 1 => some .mulh | 0x01, 2 => some .mulhsu | 0x01, 3 => some .mulhu
  | 0x01, 4 => some .div | 0x01, 5 => some .divu | 0x01, 6 => some .rem | 0x01, 7 => some .remu
  | 0x10, 2 => some .sh1add | 0x10, 4 => some .sh2add | 0x10, 6 => some .sh3add
  | 0x05, 4 => some .min | 0x05, 5 => some .minu | 0x05, 6 => some .max | 0x05, 7 => some .maxu
  | 0x30, 1 => some .rol | 0x30, 5 => some .ror
  | _, _ => none

def decOp32 (f7 f3 rs2 : Nat) : Option Alu :=
  match f7, f3 with
  | 0x00, 0 => some .addw | 0x00, 1 => some .sllw | 0x00, 5 => some .srlw
  | 0x20, 0 => some .subw | 0x20, 5 => some .sraw
  | 0x01, 0 => some .mulw | 0x01, 4 => some .divw | 0x01, 5 => some .divuw | 0x01, 6 => some .remw | 0x01, 7 => some .remuw
  | 0x04, 0 => some .addUw
  | 0x04, 4 => if rs2 = 0 then some .zextH else none
  | 0x10, 2 => some .sh1addUw | 0x10, 4 => some .sh2addUw | 0x10, 6 => some .sh3addUw
  | 0x30, 1 => some .rolw | 0x30, 5 => some .rorw
  | _, _ => none

/-- The operation of an OP-IMM instruction and its immediate. -/
def decOpImm (f3 imm : Nat) : Option (Alu × W64) :=
  let sh : W64 := BitVec.ofNat 64 (imm % 64)
  match f3 with
  | 0 => some (.add, sx 12 imm)
  | 2 => some (.slt, sx 12 imm)
  | 3 => some (.sltu, sx 12 imm)
  | 4 => some (.xor, sx 12 imm)
  | 6 => some (.or, sx 12 imm)
  | 7 => some (.and, sx 12 imm)
  | 1 =>
    if imm / 64 = 0x00 then some (.sll, sh)
    else if imm = 0x600 then some (.clz, 0) else if imm = 0x601 then some (.ctz, 0) else if imm = 0x602 then some (.cpop, 0)
    else if imm = 0x604 then some (.sextB, 0) else if imm = 0x605 then some (.sextH, 0) else none
  | _ =>
    if imm / 64 = 0x00 then some (.srl, sh) else if imm / 64 = 0x10 then some (.sra, sh)
    else if imm / 64 = 0x18 then some (.ror, sh)
    else if imm = 0x287 then some (.orcB, 0) else if imm = 0x6B8 then some (.rev8, 0) else none

/-- The operation of an OP-IMM-32 instruction and its immediate. -/
def decOpImm32 (f3 imm : Nat) : Option (Alu × W64) :=
  let sh5 : W64 := BitVec.ofNat 64 (imm % 32)
  match f3 with
  | 0 => some (.addw, sx 12 imm)
  | 1 =>
    if imm / 32 = 0x00 then some (.sllw, sh5)
    else if imm / 64 = 0x02 then some (.slliUw, BitVec.ofNat 64 (imm % 64))
    else if imm = 0x600 then some (.clzw, 0) else if imm = 0x601 then some (.ctzw, 0) else if imm = 0x602 then some (.cpopw, 0) else none
  | 5 =>
    if imm / 32 = 0x00 then some (.srlw, sh5) else if imm / 32 = 0x20 then some (.sraw, sh5)
    else if imm / 32 = 0x30 then some (.rorw, sh5) else none
  | _ => none

def decAmo (f5 : Nat) : Option Amo :=
  match f5 with
  | 0x01 => some .swap | 0x00 => some .add | 0x04 => some .xor | 0x0C => some .and | 0x08 => some .or
  | 0x10 => some .min | 0x14 => some .max | 0x18 => some .minu | 0x1C => some .maxu
  | _ => none

/-- A register names an Xgk pair: even and not x0 (R402). -/
def pairOk (r : Nat) : Bool := decide (r % 2 = 0) && decide (r ≠ 0)

/-- The Xgk instructions (Table 2 of the engines). -/
def decXgk (w : W32) : Rv :=
  let rd := bits w 7 5
  let f3 := bits w 12 3
  let rs1 := bits w 15 5
  let rs2 := bits w 20 5
  let f7 := bits w 25 7
  if bits w 0 7 = 0x2B then
    if f7 ≠ 0 then .illegal
    else if f3 = 0 ∧ rs1 = 0 ∧ rs2 = 0 then .fenceEp rd
    else if f3 = 1 ∧ rd = 0 then .evsig rs1 rs2
    else if f3 = 2 ∧ rd = 0 ∧ rs1 = 0 ∧ rs2 = 0 then .hret
    else .illegal
  else match f3 with
    | 0 => if pairOk rd then .lq rd rs1 (sx 12 (bits w 20 12)) else .illegal
    | 1 => if pairOk rs2 then .sq rs1 rs2 (sx 12 (f7 * 32 + rd)) else .illegal
    | 2 => if rs2 = 0 ∧ f7 ≤ 1 then .lkacq (decide (f7 = 1)) rd rs1 else .illegal
    | 3 => if rs2 = 0 ∧ f7 = 0 then .lkrel rd rs1 else .illegal
    | 4 => if f7 = 0 then .qpush false rd rs1 rs2 else if f7 = 1 ∧ pairOk rs2 then .qpush true rd rs1 rs2 else .illegal
    | 5 => if f7 = 0 then .qpop rd rs1 rs2 else .illegal
    | 6 => if f7 = 0 then .mprb rd rs1 rs2 else .illegal
    | _ => if f7 = 0 ∧ rs2 = 0 then .waitq rd rs1 else .illegal

/-- A SYSTEM instruction. -/
def decSystem (w : W32) : Rv :=
  let rd := bits w 7 5
  let f3 := bits w 12 3
  let rs1 := bits w 15 5
  let imm := bits w 20 12
  if f3 = 0 then
    if rd ≠ 0 then .illegal
    else if bits w 25 7 = 0x09 then .sfence
    else if rs1 ≠ 0 then .illegal
    else if imm = 0x000 then .ecall else if imm = 0x001 then .ebreak else if imm = 0x302 then .mret
    else if imm = 0x102 then .sret else if imm = 0x105 then .wfi else .illegal
  else if f3 = 4 then .illegal
  else .csr f3 rd rs1 imm

/-- A 32-bit instruction. -/
def decode32 (w : W32) : Rv :=
  let op := bits w 0 7
  let rd := bits w 7 5
  let f3 := bits w 12 3
  let rs1 := bits w 15 5
  let rs2 := bits w 20 5
  let f7 := bits w 25 7
  let immI := bits w 20 12
  let immS := sx 12 (f7 * 32 + rd)
  let immB := sx 13 (bits w 31 1 * 4096 + bits w 7 1 * 2048 + bits w 25 6 * 32 + bits w 8 4 * 2)
  let immU := sx 32 (bits w 12 20 * 4096)
  let immJ := sx 21 (bits w 31 1 * 2 ^ 20 + bits w 12 8 * 4096 + bits w 20 1 * 2048 + bits w 21 10 * 2)
  match op with
  | 0x37 => .lui rd immU
  | 0x17 => .auipc rd immU
  | 0x6F => .jal rd immJ
  | 0x67 => if f3 = 0 then .jalr rd rs1 (sx 12 immI) else .illegal
  | 0x63 => if f3 = 2 ∨ f3 = 3 then .illegal else .branch f3 rs1 rs2 immB
  | 0x03 => if f3 = 7 then .illegal else .load (2 ^ (f3 % 4)) (decide (f3 < 4)) rd rs1 (sx 12 immI)
  | 0x23 => if 4 ≤ f3 then .illegal else .store (2 ^ f3) rs1 rs2 immS
  | 0x13 => match decOpImm f3 immI with
    | some (o, i) => .alui o rd rs1 i
    | none => .illegal
  | 0x1B => match decOpImm32 f3 immI with
    | some (o, i) => .alui o rd rs1 i
    | none => .illegal
  | 0x33 => match decOp f7 f3 with
    | some o => .alu o rd rs1 rs2
    | none => .illegal
  | 0x3B => match decOp32 f7 f3 rs2 with
    | some o => .alu o rd rs1 rs2
    | none => .illegal
  | 0x0F => if f3 = 0 then .fence else if f3 = 1 then .fenceI else .illegal
  | 0x73 => decSystem w
  | 0x2F =>
    if f3 ≠ 2 ∧ f3 ≠ 3 then .illegal
    else
      let k := 2 ^ f3
      let f5 := f7 / 4
      if f5 = 0x02 then (if rs2 = 0 then .lr k rd rs1 else .illegal)
      else if f5 = 0x03 then .sc k rd rs1 rs2
      else match decAmo f5 with
        | some o => .amo o k rd rs1 rs2
        | none => .illegal
  | 0x0B | 0x2B => decXgk w
  | _ => .illegal

/-! ## 16-bit encodings -/

/-- Quadrant 0. -/
def decC0 (w : W32) : Rv :=
  let rd := bits w 2 3 + 8
  let rs1 := bits w 7 3 + 8
  let offW : W64 := BitVec.ofNat 64 (bits w 10 3 * 8 + bits w 6 1 * 4 + bits w 5 1 * 64)
  let offD : W64 := BitVec.ofNat 64 (bits w 10 3 * 8 + bits w 5 2 * 64)
  match bits w 13 3 with
  | 0 =>
    let imm := bits w 11 2 * 16 + bits w 7 4 * 64 + bits w 6 1 * 4 + bits w 5 1 * 8
    if imm = 0 then .illegal else .alui .add rd 2 (BitVec.ofNat 64 imm)
  | 2 => .load 4 true rd rs1 offW
  | 3 => .load 8 true rd rs1 offD
  | 6 => .store 4 rs1 rd offW
  | 7 => .store 8 rs1 rd offD
  | _ => .illegal

/-- Quadrant 1. -/
def decC1 (w : W32) : Rv :=
  let rd := bits w 7 5
  let rc := bits w 7 3 + 8
  let r2 := bits w 2 3 + 8
  let imm6 := bits w 12 1 * 32 + bits w 2 5
  let immJ := sx 12 (bits w 12 1 * 2048 + bits w 11 1 * 16 + bits w 9 2 * 256 + bits w 8 1 * 1024 + bits w 7 1 * 64 + bits w 6 1 * 128 +
    bits w 3 3 * 2 + bits w 2 1 * 32)
  let immB := sx 9 (bits w 12 1 * 256 + bits w 10 2 * 8 + bits w 5 2 * 64 + bits w 3 2 * 2 + bits w 2 1 * 32)
  match bits w 13 3 with
  | 0 => .alui .add rd rd (sx 6 imm6)
  | 1 => if rd = 0 then .illegal else .alui .addw rd rd (sx 6 imm6)
  | 2 => .alui .add rd 0 (sx 6 imm6)
  | 3 =>
    if imm6 = 0 then .illegal
    else if rd = 2 then
      .alui .add 2 2 (sx 10 (bits w 12 1 * 512 + bits w 6 1 * 16 + bits w 5 1 * 64 + bits w 3 2 * 128 + bits w 2 1 * 32))
    else .lui rd (sx 18 (imm6 * 4096))
  | 4 =>
    match bits w 10 2 with
    | 0 => .alui .srl rc rc (BitVec.ofNat 64 imm6)
    | 1 => .alui .sra rc rc (BitVec.ofNat 64 imm6)
    | 2 => .alui .and rc rc (sx 6 imm6)
    | _ =>
      match bits w 12 1, bits w 5 2 with
      | 0, 0 => .alu .sub rc rc r2
      | 0, 1 => .alu .xor rc rc r2
      | 0, 2 => .alu .or rc rc r2
      | 0, _ => .alu .and rc rc r2
      | _, 0 => .alu .subw rc rc r2
      | _, 1 => .alu .addw rc rc r2
      | _, _ => .illegal
  | 5 => .jal 0 immJ
  | 6 => .branch 0 rc 0 immB
  | _ => .branch 1 rc 0 immB

/-- Quadrant 2. -/
def decC2 (w : W32) : Rv :=
  let rd := bits w 7 5
  let r2 := bits w 2 5
  let imm6 := bits w 12 1 * 32 + r2
  match bits w 13 3 with
  | 0 => .alui .sll rd rd (BitVec.ofNat 64 imm6)
  | 2 => if rd = 0 then .illegal else .load 4 true rd 2 (BitVec.ofNat 64 (bits w 12 1 * 32 + bits w 4 3 * 4 + bits w 2 2 * 64))
  | 3 => if rd = 0 then .illegal else .load 8 true rd 2 (BitVec.ofNat 64 (bits w 12 1 * 32 + bits w 5 2 * 8 + bits w 2 3 * 64))
  | 4 =>
    if bits w 12 1 = 0 then
      (if r2 ≠ 0 then .alu .add rd 0 r2 else if rd = 0 then .illegal else .jalr 0 rd 0)
    else if r2 ≠ 0 then .alu .add rd rd r2
    else if rd = 0 then .ebreak
    else .jalr 1 rd 0
  | 6 => .store 4 2 r2 (BitVec.ofNat 64 (bits w 9 4 * 4 + bits w 7 2 * 64))
  | 7 => .store 8 2 r2 (BitVec.ofNat 64 (bits w 10 3 * 8 + bits w 7 3 * 64))
  | _ => .illegal

/-- An instruction from its parcels: the low 16 bits alone where they are not the low half of a 32-bit one. -/
def decodeRv (w : W32) : Rv :=
  match bits w 0 2 with
  | 0 => decC0 w
  | 1 => decC1 w
  | 2 => decC2 w
  | _ => decode32 w

/-- The bytes of an instruction. -/
def rvLen (w : W32) : Nat := if bits w 0 2 = 3 then 4 else 2

end Sys2Proof.Machine
end

