-- ==== Sys2Proof/Machine/Exec.lean ====
section
/-!
DEFINITION. Machine/Exec.lean: how a hart runs its next instruction (chapters 15 and 16): fetch, loads and stores to the three
kinds of memory, atomics, the Xgk instructions and locks.
-/
namespace Sys2Proof.Machine

/-! ## Fetch -/

/-- An exception is taken with its cause and trap value. -/
def State.exc (s : State) (h cause : Nat) (tval : W64) : State := s.trap h cause tval false

/-- Two bytes of an instruction at a virtual address, or the fault of their fetch. -/
def State.fetchVa (s : State) (h : Nat) (va : W64) : Except (Nat × W64) Nat × State :=
  match s.engAccess h va 2 .fetch with
  | (.error c, s) => (.error (c, va), s)
  | (.ok (a, .normal), s) => (match s.fetchHalf h a with
    | ((d, false), s) => (.ok (leNat d), s)
    | ((_, true), s) => (.error (1, va), s))
  | (.ok _, s) => (.error (1, va), s)

/-- The hart's instruction: its parcels, or the exception's code and trap value. -/
def State.fetch32 (s : State) (h : Nat) : Except (Nat × W64) W32 × State :=
  let pc := (s.hart h).pc
  match s.fetchVa h pc with
  | (.error e, s) => (.error e, s)
  | (.ok lo, s) =>
    if lo % 4 ≠ 3 then (.ok (BitVec.ofNat 32 lo), s)
    else match s.fetchVa h (pc + 2) with
      | (.error e, s) => (.error e, s)
      | (.ok hi, s) => (.ok (BitVec.ofNat 32 (lo + 2 ^ 16 * hi)), s)

/-- A hart can execute: it runs, waits for nothing, and its cluster is awake and not being reset. -/
def State.canRun (s : State) (h : Nat) : Bool :=
  let x := s.hart h
  !s.stopped h && x.wait.isNone && !x.resetting && s.awake (Dom.cluster (clusterOf h))

/-! ## Loads and stores -/

/-- The bytes of an access that lie in its first line, for which it is translated and checked. -/
def lineLen (va : W64) (n : Nat) : Nat := min n (64 - va.toNat % 64)

/-- A register address that an engine may not reach: unmapped (R587), or a store to SEC from S or U mode (R575). -/
def State.deviceBad (s : State) (h r : Nat) (write : Bool) : Bool :=
  !mapped r || (write && decide ((s.hart h).priv ≠ 3) && (match pageKind (r / 4096) with
    | .block .sec _ => true
    | _ => false))

/-- A load of 1, 2, 4 or 8 bytes (R432–R434, R439, R441). -/
def State.doLoad (s : State) (h w : Nat) (signed : Bool) (rd : Nat) (va npc : W64) : State :=
  match s.engAccess h va (lineLen va w) .load with
  | (.error c, s) => s.exc h c va
  | (.ok (a, m), s) =>
    let mis := decide (a % w ≠ 0)
    match m with
    | .normal =>
      if 64 < a % 64 + w then s.exc h 4 va
      else match s.loadNormal h a w with
        | ((_, true), s) => s.exc h 5 va
        | ((d, false), s) => s.setHart h (((s.hart h).wx rd (extLoad w signed (leNat d))).retire npc)
    | .device r =>
      if w < 4 ∨ mis ∨ s.deviceBad h r false ∨ s.deviceBad h (r + w - 4) false then s.exc h 5 va
      else
        let x := (s.hart h).countEv 0x000D 1
        (s.setHart h { x with wait := some (.device rd false signed r (w / 4) [] npc) }).rfaPresent { agent := hartAgent h, write := false, addr := r }
    | .host p b =>
      if mis then s.exc h 5 va
      else
        let s := s.drainSb h
        let x := (s.hart h).countEv 0x000C 1
        (s.setHart h { x with wait := some (.hostLoad rd w signed va npc) }).hostRead p b w (.hartRead h) none
    | .none => s.exc h 5 va

/-- A store of 1, 2, 4 or 8 bytes (R432–R434, R439). -/
def State.doStore (s : State) (h w : Nat) (v va npc : W64) : State :=
  match s.engAccess h va (lineLen va w) .store with
  | (.error c, s) => s.exc h c va
  | (.ok (a, m), s) =>
    let mis := decide (a % w ≠ 0)
    let d := leBytes w v.toNat
    match m with
    | .normal =>
      if 64 < a % 64 + w then s.exc h 6 va
      else let s := s.pushSb h (.normal a d); s.setHart h ((s.hart h).retire npc)
    | .device r =>
      if w < 4 ∨ mis ∨ s.deviceBad h r true ∨ s.deviceBad h (r + w - 4) true then s.exc h 7 va
      else
        let x := (s.hart h).countEv 0x000D 1
        let hi := if w = 8 then [BitVec.ofNat 32 (v.toNat / 2 ^ 32)] else []
        (s.setHart h { x with wait := some (.device 0 true false r (w / 4) hi npc) }).rfaPresent
          { agent := hartAgent h, write := true, addr := r, data := BitVec.ofNat 32 v.toNat }
    | .host p b =>
      if mis then s.exc h 7 va
      else let s := s.pushSb h (.host p b d); s.setHart h (((s.hart h).countEv 0x000C 1).retire npc)
    | .none => s.exc h 7 va

/-- The physical address of a naturally aligned access that only Normal memory takes, or the exception's code. -/
def State.normalAddr (s : State) (h : Nat) (va : W64) (w : Nat) (k : MAcc) : Except Nat Nat × State :=
  if va.toNat % w ≠ 0 then (.error k.mis, s)
  else match s.engAccess h va w k with
    | (.error c, s) => (.error c, s)
    | (.ok (a, .normal), s) => (.ok a, s)
    | (.ok _, s) => (.error k.fault, s)

/-- LR (R437): the line is obtained for writing and reserved, and probes of it are deferred. -/
def State.doLr (s : State) (h w rd : Nat) (va npc : W64) : State :=
  match s.normalAddr h va w .load with
  | (.error c, s) => s.exc h c va
  | (.ok a, s) =>
    let s := (s.drainSb h).missEv h a
    let s := s.l2Get (clusterOf h) (a / 64) true
    match s.loadNormal h a w with
    | ((_, true), s) => s.exc h 7 va
    | ((d, false), s) => s.setHart h { (((s.hart h).wx rd (extLoad w true (leNat d))).retire npc) with resv := some (a / 64, true) }

/-- SC (R437): it stores only while the hart holds the reservation and the line is in M or E; the reservation ends. -/
def State.doSc (s : State) (h w rd : Nat) (v va npc : W64) : State :=
  match s.normalAddr h va w .store with
  | (.error c, s) => s.exc h c va
  | (.ok a, s) =>
    let s := s.drainSb h
    let l := s.l2 (clusterOf h) (a / 64)
    let held : Bool := match (s.hart h).resv with
      | some (line, _) => decide (line = a / 64)
      | none => false
    let ok := held && (decide (l.live = .m) || decide (l.live = .e))
    if ok ∧ l.poison then (s.poisonRead (a / 64) (clusterOf h)).exc h 7 va
    else
      let s := if ok then s.storeNormal h a (leBytes w v.toNat) else s
      s.setHart h { (((s.hart h).wx rd (if ok then 0 else 1)).retire npc) with resv := none }

/-- An AMO (R438): in the L2, with the line held in M. -/
def State.doAmo (s : State) (h : Nat) (op : Amo) (w rd : Nat) (v va npc : W64) : State :=
  match s.normalAddr h va w .store with
  | (.error c, s) => s.exc h c va
  | (.ok a, s) =>
    let x := s.hart h
    if ¬ x.pmpOk (x.accPriv .load) a w .load then s.exc h 7 va
    else
      let s := (s.drainSb h).missEv h a
      let s := s.l2Get (clusterOf h) (a / 64) true
      match s.loadNormal h a w with
      | ((_, true), s) => s.exc h 7 va
      | ((d, false), s) =>
        let m := leNat d
        let s := s.storeNormal h a (leBytes w (op.run w m v.toNat))
        s.setHart h (((s.hart h).wx rd (extLoad w true m)).retire npc)

/-- LQ (R404). -/
def State.doLq (s : State) (h rd : Nat) (va npc : W64) : State :=
  match s.normalAddr h va 16 .load with
  | (.error c, s) => s.exc h c va
  | (.ok a, s) => match s.loadNormal h a 16 with
    | ((_, true), s) => s.exc h 5 va
    | ((d, false), s) =>
      let x := ((s.hart h).wx rd (BitVec.ofNat 64 (leAt d 0 8))).wx (rd + 1) (BitVec.ofNat 64 (leAt d 8 8))
      s.setHart h (x.retire npc)

/-- SQ (R404). -/
def State.doSq (s : State) (h rs2 : Nat) (va npc : W64) : State :=
  match s.normalAddr h va 16 .store with
  | (.error c, s) => s.exc h c va
  | (.ok a, s) =>
    let x := s.hart h
    let s := s.pushSb h (.normal a (leBytes 8 (x.rx rs2).toNat ++ leBytes 8 (x.rx (rs2 + 1)).toNat))
    s.setHart h ((s.hart h).retire npc)

/-! ## Locks (R406–R410, R444–R446) -/

/-- Entries in use and entries marked abandoned (R449). -/
def State.showLck (s : State) : State :=
  (s.setFld F.LCK_USED_ENTRIES s.eng.lck.length).setFld F.LCK_ABANDONED_ENTRIES (s.eng.lck.filter (fun (e : Nat × Lock) => e.2.abandoned)).length

def State.lock (s : State) (key : Nat) : Option Lock := mfind s.eng.lck key
def State.setLock (s : State) (key : Nat) (l : Lock) : State := (s.setEng { s.eng with lck := minsert s.eng.lck key l }).showLck
def State.dropLock (s : State) (key : Nat) : State := (s.setEng { s.eng with lck := merase s.eng.lck key }).showLck

/-- The harts that wait for a lock, with their destination registers and orders of arrival. -/
def State.lockWaiters (s : State) (key : Nat) : List (Nat × Nat × Nat) :=
  s.eng.hart.filterMap (fun (e : Nat × Hart) => match e.2.wait with
    | some (.lock k rd o) => if k = key then some (e.1, rd, o) else none
    | _ => none)

/-- The larger of a hart's base priority and the priority of the handler that it runs. -/
def Hart.ownPrio (x : Hart) : Nat := max (bits (x.c CSR.prio) 0 3) (if x.frames = [] then 0 else x.run)

/-- A hart's effective priority (R409): its own, and those inherited from waiters of the locks that it holds, to at most 8 holders. -/
def State.effPrio (s : State) (h : Nat) : Nat → Nat
  | 0 => (s.hart h).ownPrio
  | k + 1 =>
    let keys := (s.eng.lck.filter (fun (e : Nat × Lock) => decide (e.2.holder = some h))).map (·.1)
    (keys.flatMap (fun key => (s.lockWaiters key).map (·.1))).foldl (fun m w => max m (s.effPrio w k)) (s.hart h).ownPrio

/-- The holders along the chain from a lock, at most `n`. -/
def State.lockChain (s : State) (key : Nat) : Nat → List Nat
  | 0 => []
  | n + 1 => match (s.lock key).bind (·.holder) with
    | none => []
    | some h => match (s.hart h).wait with
      | some (.lock k _ _) => h :: s.lockChain k n
      | _ => [h]

/-- The waiter that receives a lock: of highest effective priority, then the first to arrive (R407). -/
def State.bestWaiter (s : State) (key : Nat) : Option (Nat × Nat × Nat) :=
  (s.lockWaiters key).foldl (fun (b : Option (Nat × Nat × Nat)) w => match b with
    | none => some w
    | some v =>
      let pv := s.effPrio v.1 8
      let pw := s.effPrio w.1 8
      if pv < pw ∨ (pv = pw ∧ w.2.2 < v.2.2) then some w else b) none

/-- A free lock is handed to its best waiter, or its entry is kept while marked abandoned, or freed (R407, R444, R445). -/
def State.passLock (s : State) (key : Nat) (abandoned : Bool) : State :=
  match s.bestWaiter key with
  | some (w, rd, _) =>
    let x := s.hart w
    let s := (s.setLock key { holder := some w }).setHart w ((x.wx rd (if abandoned then 1 else 0)).retire (x.pc + 4))
    (s.count F.LCK_CNT_ACQ_COUNT 0).showCluster (clusterOf w)
  | none => if abandoned then s.setLock key { holder := none, abandoned := true } else s.dropLock key

/-- The read of a lock's entry: an injected error frees the lock as abandoned (R446). -/
def State.lockRead (s : State) (key : Nat) : State :=
  if s.armed F.LCK_INJECT_ENTRY_ECC 0 ∧ (s.lock key).isSome then
    (((s.setArmed F.LCK_INJECT_ENTRY_ECC 0 false).raise 504 0x02 key)).passLock key true
  else s

/-- A hart starts to wait for a lock: it gives its priority along the chain of holders (R409). -/
def State.waitLock (s : State) (h key rd : Nat) : State :=
  let chain := s.lockChain key 9
  let before := chain.map (fun k => s.effPrio k 8)
  let x := s.hart h
  let s := s.setEng { s.eng with arrivals := s.eng.arrivals + 1 }
  let s := (s.setHart h { x with wait := some (.lock key rd (s.eng.arrivals - 1)) }).count F.LCK_CNT_WAIT_COUNT 0
  let s := ((chain.take 8).zip before).foldl (fun s e => if e.2 < s.effPrio e.1 8 then s.count F.ENG_CNT_INHERIT_COUNT (clusterOf e.1) else s) s
  let s := s.showCluster (clusterOf h)
  match chain with
  | first :: _ => if 8 < chain.length then s.raise (353 + 2 * clusterOf first) 0x13 first else s
  | [] => s

/-- LKACQ and LKACQ.TRY on a lock's key (R407, R444): the status, or none where the hart waits. -/
def State.acquire (s : State) (h key : Nat) (try_ : Bool) : Option Nat × State :=
  let s := s.lockRead key
  match s.lock key with
  | none =>
    if 16384 ≤ s.eng.lck.length then (some 4, (s.count F.LCK_CNT_FULL_COUNT 0).raise 504 0x01 key)
    else (some 0, (s.setLock key { holder := some h }).count F.LCK_CNT_ACQ_COUNT 0)
  | some l => match l.holder with
    | none => (some (if l.abandoned then 1 else 0), (s.setLock key { holder := some h }).count F.LCK_CNT_ACQ_COUNT 0)
    | some k => if k = h then (some 6, s) else if try_ then (some 2, s) else (none, s)

/-- The key of a lock address: Normal or Host memory; none for a Device address, or the exception's code (R406). -/
def State.lockKey (s : State) (h : Nat) (va : W64) : Except Nat (Option Nat) × State :=
  if va.toNat % 8 ≠ 0 then (.error 4, s)
  else match s.engAccess h va 8 .load with
    | (.error c, s) => (.error c, s)
    | (.ok (_, .device _), s) => (.ok none, s)
    | (.ok (a, _), s) => (.ok (some (a % 2 ^ 56)), s)

/-- An instruction completes with a status in rd. -/
def State.xgkDone (s : State) (h rd status : Nat) (npc : W64) : State :=
  s.setHart h (((s.hart h).wx rd (BitVec.ofNat 64 status)).retire npc)

/-- LKACQ (R406–R408). -/
def State.doLkacq (s : State) (h : Nat) (try_ : Bool) (rd : Nat) (va npc : W64) : State :=
  match s.lockKey h va with
  | (.error c, s) => s.exc h c va
  | (.ok none, s) => s.xgkDone h rd 3 npc
  | (.ok (some key), s) => match s.acquire h key try_ with
    | (some st, s) => s.xgkDone h rd st npc
    | (none, s) => s.waitLock h key rd

/-- LKREL (R407, R434): earlier stores are performed first. -/
def State.doLkrel (s : State) (h rd : Nat) (va npc : W64) : State :=
  match s.lockKey h va with
  | (.error c, s) => s.exc h c va
  | (.ok none, s) => s.xgkDone h rd 3 npc
  | (.ok (some key), s) =>
    let s := s.lockRead key
    if (s.lock key).bind (·.holder) = some h then
      let s := s.drainSb h
      ((s.setLock key { holder := none }).passLock key false).xgkDone h rd 0 npc
    else s.xgkDone h rd 5 npc

/-! ## Queues (R412–R414) -/

/-- QPUSH to MAT's post queue (R326, Table 4): the status. -/
def State.postPush (s : State) (a : Nat) : Nat × State :=
  if a % 64 ≠ 0 ∨ hbmBytes ≤ a then (3, s)
  else match s.memRead a 48 with
    | (none, s) => (3, s)
    | (some d, s) => match s.post (handlerPost d) with
      | (true, s) => (0, s)
      | (false, s) => (2, s)

/-- The status of a push of 16 bytes (R412, R414). -/
def State.push (s : State) (h q : Nat) (e : List Byte) : Nat × State :=
  let u := decide ((s.hart h).priv = 0)
  if q < 0x20 then
    if u then (3, s)
    else if q = 0 then
      let s := s.wake Dom.endpoint
      let c := leAt e 0 4 % 2 ^ 18
      if s.takesDoorbells c then (0, s.doorbell c (leAt e 4 4) []) else (0, s.count F.CTG_CNT_DB_REFUSED_COUNT (ctxGroup c))
    else if q ≤ 0x10 then (s.wake Dom.endpoint).postPush (leAt e 0 8)
    else (4, s)
  else if ¬ s.qValid q then (4, s)
  else if u ∧ ¬ qUserOk (s.qWord q 0) then (3, s)
  else if s.qFull q then (2, s)
  else (0, s.qAppend q e)

/-- QPUSH.D and QPUSH.Q: a release (R434). -/
def State.doQpush (s : State) (h : Nat) (quad : Bool) (rd rs1 rs2 : Nat) (npc : W64) : State :=
  let s := s.drainSb h
  let x := s.hart h
  let e := leBytes 8 (x.rx rs2).toNat ++ leBytes 8 (if quad then (x.rx (rs2 + 1)).toNat else 0)
  let (st, s) := s.push h (bits (x.rx rs1) 0 12) e
  s.xgkDone h rd st npc

/-- QPOP (R414): the oldest entry goes to 16 bytes of Normal memory. -/
def State.doQpop (s : State) (h rd rs1 rs2 : Nat) (npc : W64) : State :=
  let x := s.hart h
  let q := bits (x.rx rs1) 0 12
  let va := x.rx rs2
  if ¬ s.qValid q then s.xgkDone h rd 4 npc
  else if x.priv = 0 ∧ ¬ qUserOk (s.qWord q 0) then s.xgkDone h rd 3 npc
  else match s.normalAddr h va 16 .store with
    | (.error c, s) => s.exc h c va
    | (.ok a, s) => match (s.queue q).ents with
      | [] => s.xgkDone h rd 1 npc
      | (_, e) :: rest =>
        let s := (s.setQueue q { s.queue q with ents := rest }).drainSb h
        (s.storeNormal h a e).xgkDone h rd 0 npc

/-! ## MPRB (R340, R423) -/

/-- Bytes of Normal memory at a virtual address, line by line; or the exception's code and address. -/
def State.readVa (s : State) (h : Nat) (va : W64) (n : Nat) : Nat → Except (Nat × W64) (List Byte) × State
  | 0 => (.ok [], s)
  | k + 1 =>
    if n = 0 then (.ok [], s)
    else
      let l := lineLen va n
      match s.engAccess h va l .load with
      | (.error c, s) => (.error (c, va), s)
      | (.ok (a, .normal), s) => (match s.loadNormal h a l with
        | ((_, true), s) => (.error (5, va), s)
        | ((d, false), s) => (match s.readVa h (va + BitVec.ofNat 64 l) (n - l) k with
          | (.ok r, s) => (.ok (d ++ r), s)
          | e => e))
      | (.ok _, s) => (.error (5, va), s)

/-- The physical parts of a range that is to be written; or the exception's code and address. -/
def State.writeParts (s : State) (h : Nat) (va : W64) (n : Nat) : Nat → Except (Nat × W64) (List (Nat × Nat)) × State
  | 0 => (.ok [], s)
  | k + 1 =>
    if n = 0 then (.ok [], s)
    else
      let l := lineLen va n
      match s.engAccess h va l .store with
      | (.error c, s) => (.error (c, va), s)
      | (.ok (a, .normal), s) => (match s.writeParts h (va + BitVec.ofNat 64 l) (n - l) k with
          | (.ok r, s) => (.ok ((a, l) :: r), s)
          | e => e)
      | (.ok _, s) => (.error (7, va), s)

/-- The record of the oldest unexpected message that fits a receive specification (Table 2 of message matching). -/
def State.probe (s : State) (p : Post) : List Byte :=
  let un := s.ep.msg.filter (fun (e : Nat × Msg) => decide (e.2.ctx = p.ctx) && decide (e.2.st = .unexpected) && p.fits e.2)
  let first := un.foldl (fun (b : Option Msg) e => match b with
    | some x => if e.2.order < x.order then some e.2 else b
    | none => some e.2) none
  match first with
  | none => List.replicate 32 0#8
  | some m =>
    let staged := m.rdv.isNone && decide (m.seen.length = segsOf m.len)
    leBytes 8 m.tag ++ leBytes 4 m.src ++ leBytes 4 m.len ++ leBytes 2 m.comm ++
      leBytes 1 (1 + (if m.rdv.isSome then 2 else 0) + (if staged then 4 else 0)) ++ leBytes 1 0 ++ leBytes 4 m.mseq ++ leBytes 8 0

/-- MPRB. -/
def State.doMprb (s : State) (h rd rs1 rs2 : Nat) (npc : W64) : State :=
  let x := s.hart h
  if x.priv = 0 ∧ ¬ bitAt (x.c CSR.xgkcfg) 1 then s.xgkDone h rd 3 npc
  else match s.readVa h (x.rx rs1) 48 3 with
    | (.error (c, va), s) => s.exc h c va
    | (.ok d, s) => match s.writeParts h (x.rx rs2) 32 3 with
      | (.error (c, va), s) => s.exc h c va
      | (.ok parts, s) =>
        if 2 ^ 18 ≤ leAt d 36 4 then s.xgkDone h rd 3 npc
        else
          let p := handlerPost d
          let r := s.probe p
          let s := (s.touchCtx p.ctx).drainSb h
          let s := (parts.foldl (fun (acc : Nat × State) q => (acc.1 + q.2, acc.2.storeNormal h q.1 (slice r acc.1 q.2))) (0, s)).2
          s.xgkDone h rd 0 npc

/-! ## WAITQ, FENCE.EP, EVSIG, HRET (R405, R416, R418) -/

/-- WAITQ. A sink queue can be named and never holds an entry. -/
def State.doWaitq (s : State) (h rd rs1 : Nat) : State :=
  let x := s.hart h
  let v := x.rx rs1
  let q := bits v 0 12
  let ev := bitAt v 63
  let s := if ¬ s.qValid q ∧ 0x10 < q then s.setHart h (x.waitqEnd rd 4)
    else if (s.queue q).ents ≠ [] then s.setHart h (x.waitqEnd rd 0)
    else if ev ∧ s.eventPending h then s.setHart h (x.waitqEnd rd 1)
    else s.setHart h { x with wait := some (.queue q ev rd) }
  s.showCluster (clusterOf h)

/-- FENCE.EP: every buffered store is performed or passed on, and Host stores are waited for. -/
def State.doFenceEp (s : State) (h rd : Nat) : State :=
  let s := s.drainSb h
  (s.setHart h { s.hart h with wait := some (.fenceEp rd) }).fenceEpCheck h

/-- EVSIG: a software event on a hart. -/
def State.doEvsig (s : State) (h rs1 rs2 : Nat) (npc : W64) : State :=
  let x := s.hart h
  (s.setHart h (x.retire npc)).signal (bits (x.rx rs1) 0 12) (bits (x.rx rs2) 0 5)

/-- An illegal instruction (log 28). -/
def State.illegal (s : State) (h : Nat) (w : W32) : State := s.exc h 2 (Config.trapVal 2 w)

/-- HRET: the top frame is popped. -/
def State.doHret (s : State) (h : Nat) (w : W32) : State :=
  let x := s.hart h
  match x.frames with
  | [] => s.illegal h w
  | f :: rest =>
    if x.priv = 0 then s.illegal h w
    else s.setHart h { (x.retire f.pc) with priv := f.priv, frames := rest, run := if rest = [] then 0 else f.prio }

/-! ## The base instructions -/

/-- The engine forgets its instruction lines (FENCE.I, R426, R435). -/
def State.dropL1i (s : State) (e : Nat) : State :=
  s.setEng { s.eng with l1i := s.eng.l1i.filter (fun (x : Nat × List Byte) => decide (x.1 / 2 ^ 31 ≠ e)) }

/-- The TLB of a hart's engine is emptied (SFENCE.VMA, R435). -/
def State.dropTlb (s : State) (h : Nat) : State :=
  (List.range 4).foldl (fun s i => let k := h / 4 * 4 + i; s.setHart k { s.hart k with tlb := [] }) s

/-- A return from a trap: MRET or SRET. -/
def State.trapRet (s : State) (h : Nat) (m : Bool) : State :=
  let x := s.hart h
  let st := x.c CSR.mstatus
  let (pp, ie, st) : Nat × Nat × W64 := if m then (bits st 11 2, bits st 7 1, setBits (setBits st 7 1 1) 11 2 0)
    else (bits st 8 1, bits st 5 1, setBits (setBits st 5 1 1) 8 1 0)
  let st := setBits st (if m then 3 else 1) 1 ie
  let st := if pp = 3 then st else setBits st 17 1 0
  s.setHart h { ((x.setC CSR.mstatus st).retire (x.c (if m then 0x341 else 0x141))) with priv := pp }

/-- A CSR instruction. -/
def State.doCsr (s : State) (h f3 rd src a : Nat) (w : W32) (npc : W64) : State :=
  let x := s.hart h
  let v : W64 := if 4 ≤ f3 then BitVec.ofNat 64 src else x.rx src
  let write := decide (f3 % 4 = 1) || decide (src ≠ 0)
  match s.csrVal h a with
  | none => s.illegal h w
  | some old =>
    if ¬ s.csrAllowed h a write then s.illegal h w
    else
      let new := if f3 % 4 = 1 then v else if f3 % 4 = 2 then old ||| v else old &&& ~~~v
      let s := s.setHart h ((x.wx rd old).retire npc)
      if ¬ write then s
      else
        let new := if a = 0x5C2 ∧ f3 % 4 ≠ 1 then v else new
        s.csrWrite h a new

/-- A base instruction other than loads, stores, fences and atomics (R400). -/
def State.doBase (s : State) (h : Nat) (i : Rv) (w : W32) : State :=
  let x := s.hart h
  let pc := x.pc
  let npc := pc + BitVec.ofNat 64 (rvLen w)
  let put (rd : Nat) (v : W64) : State := s.setHart h ((x.wx rd v).retire npc)
  match i with
  | .lui rd imm => put rd imm
  | .auipc rd imm => put rd (pc + imm)
  | .jal rd off => s.setHart h ((x.wx rd npc).retire (pc + off))
  | .jalr rd rs1 off => s.setHart h ((x.wx rd npc).retire ((x.rx rs1 + off) &&& ~~~1#64))
  | .branch c rs1 rs2 off => s.setHart h (x.retire (if taken c (x.rx rs1) (x.rx rs2) then pc + off else npc))
  | .alu op rd rs1 rs2 => put rd (op.run (x.rx rs1) (x.rx rs2))
  | .alui op rd rs1 imm => put rd (op.run (x.rx rs1) imm)
  | .load wd sg rd rs1 off => s.doLoad h wd sg rd (x.rx rs1 + off) npc
  | .store wd rs1 rs2 off => s.doStore h wd (x.rx rs2) (x.rx rs1 + off) npc
  | .fenceI =>
    let s := (s.drainSb h).dropL1i (h / 4)
    s.setHart h ((s.hart h).retire npc)
  | .ecall => s.exc h (if x.priv = 3 then 11 else 8 + x.priv) 0
  | .ebreak => s.exc h 3 (Config.trapVal 3 w)
  | .mret => if x.priv = 3 then s.trapRet h true else s.illegal h w
  | .sret => if x.priv = 0 ∨ (x.priv = 1 ∧ bitAt x.mstatus 22) then s.illegal h w else s.trapRet h false
  | .wfi => if x.priv < 3 ∧ bitAt x.mstatus 21 then s.illegal h w else s.setHart h (x.retire npc)
  | .sfence =>
    if x.priv = 0 ∨ (x.priv = 1 ∧ bitAt x.mstatus 20) then s.illegal h w
    else
      let s := (s.drainSb h).dropTlb h
      s.setHart h ((s.hart h).retire npc)
  | .csr f3 rd src a => s.doCsr h f3 rd src a w npc
  | _ => s.illegal h w

/-! ## One instruction -/

/-- The commands among which a hart's instructions are divided. -/
inductive Cls where
  | base | fence | lr | sc | amo | device | host | lq | sq | lkacq | lkacqTry | lkrel | qpushD | qpushQ | qpop | mprb | waitq
  | fenceEp | evsig | hret
deriving DecidableEq, Repr

/-- A load or store's command: by the kind of memory that its address names. -/
def accCls (r : Except Nat (Nat × PMem)) : Cls :=
  match r with
  | .ok (_, .device _) => .device
  | .ok (_, .host _ _) => .host
  | _ => .base

/-- The command of an instruction. -/
def State.clsOf (s : State) (h : Nat) (i : Rv) : Cls :=
  let x := s.hart h
  match i with
  | .load w _ _ rs1 off => let va := x.rx rs1 + off; accCls (s.engAccess h va (lineLen va w) .load).1
  | .store w rs1 _ off => let va := x.rx rs1 + off; accCls (s.engAccess h va (lineLen va w) .store).1
  | .fence => .fence
  | .lr _ _ _ => .lr
  | .sc _ _ _ _ => .sc
  | .amo _ _ _ _ _ => .amo
  | .lq _ _ _ => .lq
  | .sq _ _ _ => .sq
  | .lkacq t _ _ => if t then .lkacqTry else .lkacq
  | .lkrel _ _ => .lkrel
  | .qpush q _ _ _ => if q then .qpushQ else .qpushD
  | .qpop _ _ _ => .qpop
  | .mprb _ _ _ => .mprb
  | .waitq _ _ => .waitq
  | .fenceEp _ => .fenceEp
  | .evsig _ _ => .evsig
  | .hret => .hret
  | _ => .base

/-- The effect of a fetched instruction. -/
def State.doInstr (s : State) (h : Nat) (i : Rv) (w : W32) : State :=
  let x := s.hart h
  let npc := x.pc + BitVec.ofNat 64 (rvLen w)
  match i with
  | .fence => let s := s.drainSb h; s.setHart h ((s.hart h).retire npc)
  | .lr wd rd rs1 => s.doLr h wd rd (x.rx rs1) npc
  | .sc wd rd rs1 rs2 => s.doSc h wd rd (x.rx rs2) (x.rx rs1) npc
  | .amo op wd rd rs1 rs2 => s.doAmo h op wd rd (x.rx rs2) (x.rx rs1) npc
  | .lq rd rs1 off => s.doLq h rd (x.rx rs1 + off) npc
  | .sq rs1 rs2 off => s.doSq h rs2 (x.rx rs1 + off) npc
  | .lkacq t rd rs1 => s.doLkacq h t rd (x.rx rs1) npc
  | .lkrel rd rs1 => s.doLkrel h rd (x.rx rs1) npc
  | .qpush q rd rs1 rs2 => s.doQpush h q rd rs1 rs2 npc
  | .qpop rd rs1 rs2 => s.doQpop h rd rs1 rs2 npc
  | .mprb rd rs1 rs2 => s.doMprb h rd rs1 rs2 npc
  | .waitq rd rs1 => s.doWaitq h rd rs1
  | .fenceEp rd => s.doFenceEp h rd
  | .evsig rs1 rs2 => s.doEvsig h rs1 rs2 npc
  | .hret => s.doHret h w
  | i => s.doBase h i w

end Sys2Proof.Machine
end

