-- ==== Sys2Proof/Machine/EngineCmds.lean ====
section
/-!
DEFINITION. Machine/EngineCmds.lean: the commands of the engines (chapter 15): one instruction of a hart, events, resets of harts
and clusters, HART_RUN; and the lock table and self-refresh (chapters 16 and 20). Which hart issues next (R411) is the choice of
the command.
-/
namespace Sys2Proof.Machine

/-! ## Resets (R420, R421, R410, R440, R458) -/

/-- The harts that a reset of a cluster covers. -/
def resetHarts (c : Nat) (kind hart : Nat) : List Nat := if kind = 1 then [128 * c + hart] else (List.range 128).map (128 * c + ·)

def State.creset (s : State) (c : Nat) : Option CReset := mfind s.eng.reset c
def State.setCreset (s : State) (c : Nat) (r : Option CReset) : State :=
  let s := s.setEng { s.eng with reset := match r with
    | some r => minsert s.eng.reset c r
    | none => merase s.eng.reset c }
  s.setFld F.ENG_RST_CTRL_BUSY (if r.isSome then 1 else 0) c

/-- A memory access no longer answers a hart. -/
def dropHart (hs : List Nat) (w : Waiter) : Waiter :=
  match w with
  | .hartRead h | .hartWrite h => if hs.contains h then .none else w
  | w => w

/-- Responses that arrive later for a reset hart's accesses are discarded (R420). -/
def State.orphan (s : State) (hs : List Nat) : State :=
  let p (p : Pier) : Pier :=
    { p with wait := p.wait.map (fun t => { t with waiter := dropHart hs t.waiter }), tx := p.tx.map (fun t => { t with waiter := dropHart hs t.waiter }),
             reads := p.reads.map (fun r => { r with waiter := dropHart hs r.waiter }),
             readWait := p.readWait.map (fun r => (r.1, { r.2 with waiter := dropHart hs r.2.waiter })),
             writes := p.writes.map (fun w => { w with waiter := dropHart hs w.waiter }) }
  s.spn.foldl (fun s e => s.setPier e.1 (p e.2)) s

/-- Register requests of harts under reset are withdrawn unperformed (R490). -/
def State.withdraw (s : State) (c : Nat) (hs : List Nat) : State :=
  let q := mget [] s.rfa.req (66 + c)
  let keep := q.filter (fun r => match r.agent with
    | .hart h => !hs.contains h.val
    | _ => true)
  if keep.length = q.length then s
  else ({ s with rfa := { s.rfa with req := mput [] s.rfa.req (66 + c) keep, backoff := merase s.rfa.backoff (66 + c),
                                     sitOut := merase s.rfa.sitOut (66 + c) } }).count F.RFA_CNT_MASKED_COUNT 0 (q.length - keep.length)

/-- The harts of a reset stop, and their waits are withdrawn; a warm reset's stores drain (R420). -/
def State.beginReset (s : State) (c : Nat) (r : CReset) : State :=
  let hs := resetHarts c r.kind r.hart
  let s := hs.foldl (fun s h =>
    let s := s.setStopped h true
    let s := s.setHart h { s.hart h with wait := none, resetting := true, resv := none }
    if r.kind = 3 ∨ r.stall then s else s.drainSb h) s
  let s := s.withdraw c hs
  ((if r.kind = 3 then s.orphan hs else s).setCreset c (some r)).showCluster c

/-- The lines that a fault reset loses (R440): those held in M or O, and those of stores never drained. -/
def State.lostLines (s : State) (c : Nat) : List Nat :=
  let held := (s.eng.l2.filter (fun (e : Nat × L2Line) => decide (e.1 / 2 ^ 31 = c) && (decide (e.2.st = .m) || decide (e.2.st = .o)))).map (fun e => e.1 % 2 ^ 31)
  let sb := (List.range 128).flatMap (fun i => (s.hart (128 * c + i)).sb.filterMap (fun e => match e with
    | .normal a _ => some (a / 64)
    | .host _ _ _ => none))
  (held ++ sb).eraseDups

/-- A cluster fault reset begins (R420, R440): stores are discarded, and the lines lost are marked poisoned. -/
def State.beginFault (s : State) (c : Nat) : State :=
  let lines := s.lostLines c
  let dropped := ((List.range 128).map (fun i => (s.hart (128 * c + i)).sb.length)).sum
  let s := (List.range 128).foldl (fun s i => s.setHart (128 * c + i) { s.hart (128 * c + i) with sb := [] }) s
  let s := s.beginReset c { kind := 3, hart := 0, discarded := min dropped 0xFFFF }
  let s := lines.foldl (fun s l => s.markPoison l) s
  (List.range 8).foldl (fun s h =>
    let n := (lines.filter (fun l => decide (homeOf l = h))).length
    if n = 0 then s else s.raise (480 + h) 0x02 (n * 2 ^ 32 + c)) s

/-- The caches of a cluster are emptied: dirty lines are written back first by a warm reset (R420). -/
def State.emptyCaches (s : State) (c : Nat) (writeBack : Bool) : State :=
  let mine (s : State) : List (Nat × L2Line) := s.eng.l2.filter (fun (e : Nat × L2Line) => decide (e.1 / 2 ^ 31 = c))
  let s := (mine s).foldl (fun s e =>
    let line := e.1 % 2 ^ 31
    let s := s.settleLine line 4096
    let l := s.l2 c line
    if writeBack ∧ (l.st = .m ∨ l.st = .o) then (s.setL2 c line { l with retiring := true }).runAsk line { code := .retire, agent := c } else s) s
  let s := (mine s).foldl (fun s e => (s.setL2 c (e.1 % 2 ^ 31) {}).sfClear c (e.1 % 2 ^ 31)) s
  s.setEng { s.eng with l1i := s.eng.l1i.filter (fun (e : Nat × List Byte) => decide (e.1 / 2 ^ 31 / 32 ≠ c)) }

/-- The locks that a hart holds are freed as abandoned (R410). -/
def State.abandonLocks (s : State) (h : Nat) : State :=
  let c := clusterOf h
  (s.eng.lck.filter (fun (e : Nat × Lock) => decide (e.2.holder = some h))).foldl (fun s e =>
    let s := (s.count F.ENG_CNT_ABANDON_COUNT c).raise (353 + 2 * c) 0x11 e.1
    (s.setLock e.1 { holder := none, abandoned := true }).passLock e.1 true) s

/-- A hart takes its reset values and stays stopped (R420); its counters read 0 (R559). -/
def State.resetHart (s : State) (h : Nat) : State :=
  let s := s.abandonLocks h
  let x : Hart := {}
  let s := s.setHart h (x.setC CSR.mcycle (0 - s.hartClk h))
  { s with evt := mput 0#64 s.evt h 0 }

/-- The handler entries that a cluster's reset asks to be pushed again (R458). -/
def State.redeliver (s : State) (c : Nat) : State :=
  let again := s.ep.op.filter (fun (e : Nat × Op) => decide (e.2.cluster = c) && (decide (e.2.handler = 1) || decide (e.2.handler = 4)))
  let s := again.foldl (fun s e => s.setOp e.1 { e.2 with handler := 4 }) s
  let n := again.length
  if n = 0 then s
  else ((s.count F.PLC_CNT_REDELIVER_COUNT 0 n).raise 688 0x06 (n % 2 ^ 16 * 2 ^ 16 + c)).retryHandlers

/-- A reset ends (R420, R425). -/
def State.endReset (s : State) (c : Nat) (r : CReset) : State :=
  let hs := resetHarts c r.kind r.hart
  let s := s.orphan hs
  let s := if r.kind = 1 then s else s.emptyCaches c (decide (r.kind = 2))
  let s := hs.foldl State.resetHart s
  let s := (s.setCreset c none).showCluster c
  let s := if r.kind = 3 then s.raise (352 + 2 * c) 0x02 r.discarded else s
  if r.kind = 1 then s else s.redeliver c

/-- The drain of a warm reset is complete: no Host store of its harts is outstanding. -/
def State.resetDrained (s : State) (c : Nat) (r : CReset) : Bool :=
  !r.stall && (decide (r.kind = 3) || (resetHarts c r.kind r.hart).all (fun h => decide ((s.hart h).hostOut = 0)))

/-- A write of RST_CTRL (R420, R421). -/
def State.rstCtrl (s : State) (c kind hart : Nat) : State :=
  if kind = 0 then s
  else if (s.creset c).isSome then s.raise (353 + 2 * c) 0x15 (kind * 2 ^ 29)
  else if kind = 3 then s.beginFault c
  else
    let stall := s.armed F.ENG_INJECT_DRAIN_STALL c
    let s := if stall then s.setArmed F.ENG_INJECT_DRAIN_STALL c false else s
    s.beginReset c { kind := kind, hart := hart, stall := stall }

/-! ## One instruction -/

/-- A waiting hart takes a pending interrupt, or finds that its WAITQ is over. -/
def State.attend (s : State) (h : Nat) : State :=
  let x := s.hart h
  if s.stopped h ∨ x.resetting ∨ ¬ x.interruptible ∨ ¬ s.awake (Dom.cluster (clusterOf h)) then s
  else match s.irqOf h with
    | some c => (((s.setHart h x.breakWait).trap h c 0 true).showCluster (clusterOf h)).invoke h
    | none => match x.wait with
      | some (.queue q ev rd) =>
        if (s.queue q).ents ≠ [] then (s.setHart h (x.waitqEnd rd 0)).showCluster (clusterOf h)
        else if ev ∧ s.eventPending h then (s.setHart h (x.waitqEnd rd 1)).showCluster (clusterOf h)
        else s
      | _ => s

/-- A hart runs its next instruction where it is one of the command's; a pending interrupt and a fetch that fails belong to
HART_INSTRUCTION. An injected register-file error is found instead (R424, R425). -/
def State.hartRun (s : State) (h : Nat) (k : Cls) : State :=
  let base := decide (k = .base)
  if ¬ s.canRun h then (if base then s.attend h else s)
  else match s.irqOf h with
    | some c => if base then (s.trap h c 0 true).invoke h else s
    | none => match s.fetch32 h with
      | (.error (c, v), t) => if base then (t.exc h c v).invoke h else s
      | (.ok w, t) =>
        let i := decodeRv w
        let c := clusterOf h
        if t.clsOf h i ≠ k then s
        else if t.armed F.ENG_INJECT_STATE_ECC c then
          ((t.setArmed F.ENG_INJECT_STATE_ECC c false).raise (352 + 2 * c) 0x01 (h % 128)).beginFault c
        else ((t.doInstr h i w).invoke h).drain

/-- HART_INSTRUCTION (R400). -/
def execHartInstruction (h : Fin 4096) (s : State) : Out := .next (s.hartRun h .base)
/-- FENCE (R435). -/
def execFence (h : Fin 4096) (s : State) : Out := .next (s.hartRun h .fence)
/-- LR (R437). -/
def execLr (h : Fin 4096) (s : State) : Out := .next (s.hartRun h .lr)
/-- SC (R437). -/
def execSc (h : Fin 4096) (s : State) : Out := .next (s.hartRun h .sc)
/-- AMO (R438). -/
def execAmo (h : Fin 4096) (s : State) : Out := .next (s.hartRun h .amo)
/-- DEVICE_ACCESS (R432). -/
def execDeviceAccess (h : Fin 4096) (s : State) : Out := .next (s.hartRun h .device)
/-- HOST_ACCESS (R433). -/
def execHostAccess (h : Fin 4096) (s : State) : Out := .next (s.hartRun h .host)
/-- LQ (R404). -/
def execLq (h : Fin 4096) (s : State) : Out := .next (s.hartRun h .lq)
/-- SQ (R404). -/
def execSq (h : Fin 4096) (s : State) : Out := .next (s.hartRun h .sq)
/-- LKACQ (R407). -/
def execLkacq (h : Fin 4096) (s : State) : Out := .next (s.hartRun h .lkacq)
/-- LKACQ.TRY (R407). -/
def execLkacqTry (h : Fin 4096) (s : State) : Out := .next (s.hartRun h .lkacqTry)
/-- LKREL (R407). -/
def execLkrel (h : Fin 4096) (s : State) : Out := .next (s.hartRun h .lkrel)
/-- QPUSH.D (R414). -/
def execQpushD (h : Fin 4096) (s : State) : Out := .next (s.hartRun h .qpushD)
/-- QPUSH.Q (R414). -/
def execQpushQ (h : Fin 4096) (s : State) : Out := .next (s.hartRun h .qpushQ)
/-- QPOP (R414). -/
def execQpop (h : Fin 4096) (s : State) : Out := .next (s.hartRun h .qpop)
/-- MPRB (R423). -/
def execMprb (h : Fin 4096) (s : State) : Out := .next (s.hartRun h .mprb)
/-- WAITQ (R416). -/
def execWaitq (h : Fin 4096) (s : State) : Out := .next (s.hartRun h .waitq)
/-- FENCE.EP (R405). -/
def execFenceEp (h : Fin 4096) (s : State) : Out := .next (s.hartRun h .fenceEp)
/-- EVSIG (R416). -/
def execEvsig (h : Fin 4096) (s : State) : Out := .next (s.hartRun h .evsig)
/-- HRET (R418). -/
def execHret (h : Fin 4096) (s : State) : Out := .next (s.hartRun h .hret)

/-! ## Events and resets -/

/-- FTCMP_EVENT (R416): fabric time has reached sxgkftcmp. -/
def execFtcmpEvent (h : Fin 4096) (s : State) : Out :=
  let x := s.hart h
  if ¬ x.ftDone ∧ (x.c CSR.ftcmp).toNat ≤ s.ftime then .next ((s.setHart h { x with ftDone := true }).signal h 32) else .next s

/-- HART_WARM_RESET (R420). -/
def execHartWarmReset (c : Fin 32) (hart : Fin 128) (s : State) : Out := .next (s.rstCtrl c 1 hart).drain

/-- CLUSTER_WARM_RESET (R420). -/
def execClusterWarmReset (c : Fin 32) (s : State) : Out := .next (s.rstCtrl c 2 0).drain

/-- CLUSTER_FAULT_RESET (R420). -/
def execClusterFaultReset (c : Fin 32) (s : State) : Out := .next (s.rstCtrl c 3 0).drain

/-- RESET_DRAIN_DONE (R420). -/
def execResetDrainDone (c : Fin 32) (s : State) : Out :=
  match s.creset c with
  | some r => if s.resetDrained c r then .next (s.endReset c r).drain else .next s
  | none => .next s

/-- DRAIN_TIMEOUT (R421): a warm reset that has not drained becomes a fault reset. -/
def execDrainTimeout (c : Fin 32) (s : State) : Out :=
  match s.creset c with
  | some r =>
    if r.kind = 3 then .next s
    else .next ((s.raise (352 + 2 * c.val) 0x03 (if r.kind = 1 then r.hart else 0x7F)).beginFault c).drain
  | none => .next s

/-- A hart that was stopped runs again: at RESET_PC after a reset (R420, R424). -/
def State.startHart (s : State) (h : Nat) : State :=
  let x := s.hart h
  if x.resetting ∨ s.safe ∨ s.bootHold then s
  else
    let x := if x.fresh then { x with fresh := false, pc := BitVec.ofNat 64 (s.fld F.ENG_RESET_PC_PC (clusterOf h)) } else x
    (((s.setHart h x).setStopped h false).attend h).invoke h

/-- A write of HART_RUN (R424): a bit that goes to 0 stops its hart, and one that goes to 1, or is written 1 after the hart's
reset, starts it. -/
def State.hartRunWrite (s : State) (c i : Nat) (v : W32) : State :=
  let old := s.fld F.ENG_HART_RUN_RUN c i
  let s := s.setFld F.ENG_HART_RUN_RUN v.toNat c i
  let s := s.wake (Dom.cluster c)
  let s := (List.range 32).foldl (fun s j =>
    let h := 128 * c + 32 * i + j
    if ¬ v.getLsbD j then (if old.testBit j then s.setStopped h true else s)
    else if ¬ old.testBit j ∨ (s.hart h).fresh then s.startHart h
    else s) s
  s.showCluster c

/-- HART_RUN_WRITE (R424). -/
def execHartRunWrite (c : Fin 32) (i : Fin 4) (v : W32) (s : State) : Out := .next (s.hartRunWrite c i v).drain

/-- ENG_INJECT_STATE_ECC (R424). -/
def execEngInjectStateEcc (c : Fin 32) (s : State) : Out := .next (s.setArmed F.ENG_INJECT_STATE_ECC c true)

/-- ENG_INJECT_DRAIN_STALL (R424). -/
def execEngInjectDrainStall (c : Fin 32) (s : State) : Out := .next (s.setArmed F.ENG_INJECT_DRAIN_STALL c true)

/-! ## Time in the engines -/

/-- A nanosecond of the engines: mcycle and the awake clocks advance, counters of ready and waiting clocks count, and each hart
performs the oldest store of its buffer (R426, R559, R561, R565). -/
def State.engTick (s : State) : State :=
  let s := (List.range 32).foldl (fun s c =>
    if s.awake (Dom.cluster c) then
      ({ s with pwr := { s.pwr with awakeNs := mput 0 s.pwr.awakeNs c (mget 0 s.pwr.awakeNs c + 1) } }).tally (192 + c) 15 2
    else s) s
  s.eng.hart.foldl (fun s e =>
    let h := e.1
    if ¬ s.awake (Dom.cluster (clusterOf h)) then s
    else
      let x := s.hart h
      let x := match x.wait with
        | some (.queue _ _ _) => x.countEv 0x0009 2
        | some (.lock _ _ _) => x.countEv 0x000A 2
        | some _ => x
        | none => if s.stopped h then x else x.countEv 0x0001 2
      let x := if 16 ≤ x.sb.length then x.countEv 0x0008 2 else x
      (s.setHart h x).drainOne h) s

/-! ## The lock table and HBM -/

/-- A write of LCK.CLR_CTRL.GO: the mark of a free lock is cleared (R445). -/
def State.lckClear (s : State) : State :=
  let key := s.fld F.LCK_CLR_ADDR_ADDR % 2 ^ 56
  match s.lock key with
  | some l => if l.holder = none ∧ l.abandoned then s.dropLock key else s
  | none => s

/-- LCK_CLR_GO (R445). -/
def execLckClrGo (s : State) : Out := .next s.lckClear

/-- LCK_INJECT_ENTRY_ECC (R449). -/
def execLckInjectEntryEcc (s : State) : Out := .next (s.setArmed F.LCK_INJECT_ENTRY_ECC 0 true)

/-- SELF_REFRESH_ENTRY (R523): an idle ACTIVE stack, while every cluster, slice and pipeline sleeps. -/
def execSelfRefreshEntry (n : Fin 4) (s : State) : Out :=
  let asleep := (List.range 80).all (fun d => decide ((s.dom d).st = .asleep))
  if asleep ∧ s.fld F.HBM_STATUS_STATE n = 1 then
    .next (({ s with pwr := { s.pwr with hbmSr := mput false s.pwr.hbmSr n true } }).setFld F.HBM_STATUS_STATE 2 n)
  else .next s

/-- SELF_REFRESH_EXIT (R523): an exit has been started, by an access or a tile's wake; a failed one faults the stack. -/
def execSelfRefreshExit (n : Fin 4) (failed : Bool) (s : State) : Out :=
  if ¬ mget false s.pwr.hbmSr n then .next s
  else
    let s := { s with pwr := { s.pwr with hbmSr := mput false s.pwr.hbmSr n false, hbmSrExit := mput false s.pwr.hbmSrExit n false } }
    if failed then .next ((s.setFld F.HBM_STATUS_STATE 3 n).raise (432 + 4 * n.val) 0x03 3)
    else .next (s.setFld F.HBM_STATUS_STATE 1 n)

end Sys2Proof.Machine
end

