-- ==== Sys2Proof/Machine/KeystoneCmds.lean ====
section
/-!
DEFINITION. Machine/KeystoneCmds.lean: the commands of Keystone (chapter 19): events, the reaction timer, heartbeats, the
progress watch points, the log, the severity window, SAFE_CTRL, test events and self-faults.
-/
namespace Sys2Proof.Machine

/-- A source that reports: below 768 and not reserved in Table 2 (R501). -/
def reports (src : Nat) : Bool := decide (src < 768) && decide (srcBlk src ≠ .reserved)

/-- KEYSTONE_EVENT (R503, R506): a source's event is merged or written. Kind 0x00 is never used and reserved sources never
report. -/
def execKeystoneEvent (src : Fin 768) (kind : Byte) (detail : W64) (s : State) : Out :=
  if reports src ∧ kind ≠ 0 then .next (s.raise src kind.toNat detail.toNat) else .next s

/-! ## The reaction timer (R510) -/

/-- The reaction timer has reached 0 by the local clock. -/
def State.reactDue (s : State) : Bool :=
  match s.kst.react with
  | some t => decide (t ≤ 10 * s.clk)
  | none => false

/-- A timer that has reached 0 stops, and the device enters the safe state with cause 1. -/
def State.reactExpire (s : State) : State :=
  if s.reactDue then ({ s with kst := { s.kst with react := none } }).enterSafe 1 (BitVec.ofNat 64 s.kst.reactSlot) 0 else s

/-- REACTION_TIMER_EXPIRE (R510). -/
def execReactionTimerExpire (s : State) : Out := .next s.reactExpire

/-! ## Heartbeats (R512) -/

/-- The domain in which a source lies; none for sources of the keeper domain, which never sleeps (R26, R512). -/
def State.srcDomain (s : State) (src : Nat) : Option Nat :=
  match srcBlk src with
  | .lnk => some (Dom.tile (s.linkTile src))
  | .hpt => some (Dom.tile (s.portTile (src - 256)))
  | .til => some (Dom.tile (src - 320))
  | .eng0 | .eng1 => some (Dom.cluster ((src - 352) / 2))
  | .abc => some (Dom.slice (src - 416))
  | .fwd => some (Dom.pipe (src - 448))
  | .hbm | .hom | .xlt | .lck | .ctg | .mat | .rel | .sch | .plc => some Dom.endpoint
  | _ => none

/-- A source whose domain is asleep or waking is exempt. -/
def State.beatExempt (s : State) (src : Nat) : Bool :=
  match s.srcDomain src with
  | some d => decide ((s.dom d).st = .asleep) || decide ((s.dom d).st = .waking)
  | none => false

def State.setBeats (s : State) (src n : Nat) : State :=
  { s with kst := { s.kst with beatsMissed := mput 0 s.kst.beatsMissed src n } }

/-- HEARTBEAT (R512): a beat of a source ends its run of missing ones. -/
def execHeartbeat (src : Fin 768) (s : State) : Out := .next (s.setBeats src 0)

/-- HEARTBEAT_LOST (R512): eight more beats of a source are missing. `odd` is the low bit of the number of the translation unit
that is silent (R502). -/
def execHeartbeatLost (src : Fin 768) (odd : Bool) (s : State) : Out :=
  if ¬ reports src ∨ src.val = 752 ∨ s.beatExempt src then .next s
  else
    let n := min (mget 0 s.kst.beatsMissed src + 8) 65535
    let top := if srcBlk src = .xlt ∧ odd then 2 ^ 63 else 0
    .next ((s.setBeats src n).raise src 0xF0 (top + n))

/-! ## The progress watchdog (R513) -/

/-- PROG.US as it acts (R519). -/
def State.progUs (s : State) : Nat := max 1 (min 15 (s.fld F.KST_PROG_US))

/-- The eligible head of a watch point (Table 5): its source, the index shown in the detail, and a number that tells it from
another head. `none` where nothing stands there or it is not eligible. The detail of points 2 and 4 names no index. -/
def State.watched (s : State) (point unit index : Nat) : Option (Nat × Option Nat × Nat) :=
  if point = 0 then
    let l := unit % 256
    match s.outQ l (index / 4 % 8) (index % 4) with
    | [] => none
    | e :: _ =>
      let open_ : Bool := match s.openFor l with
        | none => true
        | some ns => decide (0 < ns)
      match s.pkt e.pkt with
      | none => none
      | some p =>
        if s.lstate l = LS.active ∧ open_ ∧ (s.creditsFor l (pTc e.hdr) (pVc e.hdr) p.len).isSome then
          some (448 + s.linkTile l, some l, e.pkt)
        else none
  else if point = 1 then
    let k := unit % 16
    match (s.injQ (256 * k + index % 256)).head with
    | none => none
    | some h => if (s.blocked k (index % 256) h).isNone then some (672 + k, some (index % 256), h.fin) else none
  else if point = 2 then
    let n := min unit 64
    if s.session n = SS.open_ ∧ s.portUp n ∧ (s.port n).paused = [] ∧ (s.pier n).wait ≠ [] then
      some (portSrc n, none, s.fld F.SPN_TX_STATE_NEXT n)
    else none
  else if point = 3 then
    let ts := s.eng.tx.filter (fun (e : Nat × CTx) => decide (homeOf e.1 = unit % 8))
    match ts[index % 256]? with
    | some (line, _) => some (480 + unit % 8, some (index % 256), line)
    | none => none
  else
    let c := index % 262144
    let x := s.ctx c
    if seqDist 32 x.cmdTail x.nextFetch ≠ 0 ∧ s.mayTake c then some (512 + ctxGroup c, none, x.cmdHead * 2 ^ 18 + c) else none

/-- The containing action of kind 0xF1: the stalled point is treated as its block's uncorrectable-state fault (R502). The packet
buffer discards the head (R53); a scheduler's queues become newly active at their next heads; the sets of the line's home are
snooped by broadcast; the context halts with cause 0x0F. The piers' chapter states no such fault. -/
def State.containStall (s : State) (point unit index : Nat) : State :=
  if point = 0 then
    let l := unit % 256
    match s.outQ l (index / 4 % 8) (index % 4) with
    | [] => s
    | e :: q => (s.setOutQ l (index / 4 % 8) (index % 4) q).discardPkt e.pkt
  else if point = 1 then
    { s with sch := { s.sch with q := s.sch.q.map (fun (e : Nat × InjQ) => if e.1 / 256 = unit % 16 then (e.1, { e.2 with lastF := none }) else e) } }
  else if point = 2 then s
  else if point = 3 then
    let ts := s.eng.tx.filter (fun (e : Nat × CTx) => decide (homeOf e.1 = unit % 8))
    match ts[index % 256]? with
    | some (line, _) => s.setEng { s.eng with sfBad := (List.range 32).foldl (fun m c => mput 0 m (c * 2048 + setOf line) 0xFFFF) s.eng.sfBad }
    | none => s
  else
    let c := index % 262144
    s.haltCtx c 0x0F (s.ctx c).cmdHead 0

/-- The watchdog's report of a head, once for each head (R513). -/
def State.stallReport (s : State) (point unit index : Nat) : State :=
  match s.watched point unit index with
  | none => s
  | some (src, shown, head) =>
    let key := (src * 8 + point) * 2 ^ 18 + index
    if mget 0 s.kst.stalled key = head + 1 then s
    else
      let s := { s with kst := { s.kst with stalled := mput 0 s.kst.stalled key (head + 1) } }
      let (i, s) := match shown with
        | some i => (i, s)
        | none => let (n, s) := s.takeFree; (Config.choice n % 256, s)
      let top := if srcBlk src = .xlt ∧ src % 2 = 1 then 2 ^ 63 else 0
      (s.raise src 0xF1 (top + point * 2 ^ 56 + i % 256 * 2 ^ 48 + s.progUs)).containStall point unit index

/-- PROGRESS_STALL (R513): the head of a watch point has been eligible and not served for PROG.US. -/
def execProgressStall (point : Fin 5) (unit : Fin 256) (index : Fin 262144) (s : State) : Out :=
  .next (s.stallReport point unit index).drain

/-! ## Self-faults (R514, R521) -/

/-- A self-fault with its code and the failing slot, word or offset: kind 0x02 for the log and the severity window, kind 0x03
for lockstep and the KST page, and the safe state at once. -/
def State.selfFault (s : State) (code loc : Nat) (logOk : Bool) : State :=
  let d := BitVec.ofNat 64 (code * 2 ^ 56 + loc % 65536)
  let s := if logOk then s.keyEvent 752 (if code = 2 ∨ code = 3 then 0x02 else 0x03) 3 d false else s
  s.enterSafe 2 d 0

/-- KEYSTONE_SELF_FAULT (R514): code 1 lockstep, 2 log, 3 severity window, 4 KST page; `logOk`: the log still works. -/
def execKeystoneSelfFault (code : Fin 4) (loc : Fin 65536) (logOk : Bool) (s : State) : Out :=
  .next (s.selfFault (code.val + 1) loc.val logOk)

/-- KST_INJECT_LOCKSTEP (R520): the next comparison, made every keeper clock, mismatches. -/
def execKstInjectLockstep (s : State) : Out := .next (s.selfFault 1 0 true)

/-- KST_INJECT_LOG_ECC (R520). -/
def execKstInjectLogEcc (s : State) : Out := .next (s.setArmed F.KST_INJECT_LOG_ECC 0 true)

/-! ## The log and the severity window -/

/-- A write of LOG_HEAD: it is accepted where it retires no more than is live; the timer stops when no live record of severity 3
remains; an expiry that is due acts first (R508, R510). -/
def State.logHeadWrite (s : State) (ag : Agent) (v : W32) : State :=
  if s.agentLevel ag < 3 then s
  else
    let s := s.reactExpire
    let h := s.fld F.KST_LOG_HEAD_COUNT
    if s.logLive < seqDist 32 v.toNat h then s
    else
      let s := s.setFld F.KST_LOG_HEAD_COUNT v.toNat
      if s.liveSeverity 3 then s else { s with kst := { s.kst with react := none } }

/-- LOG_HEAD_WRITE (R508). -/
def execLogHeadWrite (ag : Agent) (v : W32) (s : State) : Out := .next (s.logHeadWrite ag v)

/-- A record as the four words of its slot: word 0 holds bits [31:0] (R499, R508). -/
def KRec.words (r : KRec) : List W32 :=
  let hi := r.src * 2 ^ 54 + r.kind * 2 ^ 46 + r.sev * 2 ^ 44 + r.rep * 2 ^ 38 + r.time
  [r.detail.setWidth 32, (r.detail >>> 32).setWidth 32, BitVec.ofNat 32 hi, BitVec.ofNat 32 (hi / 2 ^ 32)]

/-- A word of the log window is read: word 0 latches the slot's other words for the agent until it reads word 3 (R508); an
uncorrectable slot is a self-fault (R514). -/
def State.logRead (s : State) (ag : Agent) (slot w : Nat) : W32 × State :=
  let ws := (mget {} s.kst.log slot).words
  let s := if s.armed F.KST_INJECT_LOG_ECC 0 then (s.setArmed F.KST_INJECT_LOG_ECC 0 false).selfFault 2 slot true else s
  let own := match mfind s.kst.latch ag.key with
    | some (k, a, b, c) => if k = slot then some (a, b, c) else none
    | none => none
  if w = 0 then
    (ws.getD 0 0, { s with kst := { s.kst with latch := minsert s.kst.latch ag.key (slot, ws.getD 1 0, ws.getD 2 0, ws.getD 3 0) } })
  else match own with
    | none => (ws.getD w 0, s)
    | some (a, b, c) =>
      if w = 3 then (c, { s with kst := { s.kst with latch := merase s.kst.latch ag.key } })
      else (if w = 1 then a else b, s)

/-- LOG_READ (R508): an agent reads word 0 of a slot. -/
def execLogRead (ag : Agent) (slot : Fin 1024) (s : State) : Out := .next (s.logRead ag slot 0).2

/-- An entry of the severity window after a write: fixed kinds keep theirs, and no floor is passed (R505). -/
def severityTaken (src kind old new : Nat) : Nat :=
  if severityFixed src kind then old else max new (severityFloor src kind)

/-- A write of a word of the severity window, from level 3 only (R504, R505). -/
def State.severityWrite (s : State) (ag : Agent) (src w : Nat) (v : W32) : State :=
  if s.agentLevel ag < 3 then s
  else
    let a := 0x3400000 + 64 * src + 4 * w
    let old := s.rd a
    s.wr a (BitVec.ofNat 32 (((List.range 16).map (fun j =>
      severityTaken src (16 * w + j) (bits old (2 * j) 2) (bits v (2 * j) 2) * 4 ^ j)).sum))

/-- SEVERITY_WRITE (R505). -/
def execSeverityWrite (ag : Agent) (src : Fin 768) (w : Fin 16) (v : W32) (s : State) : Out := .next (s.severityWrite ag src w v)

/-! ## SAFE_CTRL and TEST_EVENT -/

/-- The safe state by its key (R511). -/
def State.safeCtrl (s : State) (ag : Agent) (key : W32) : State :=
  if 3 ≤ s.agentLevel ag ∧ key = 0x5AFE0001#32 then s.enterSafe 3 0 ag.requestor else s

/-- SAFE_CTRL_WRITE (R511). -/
def execSafeCtrlWrite (ag : Agent) (key : W32) (s : State) : Out := .next (s.safeCtrl ag key)

/-- A write of TEST_EVENT: SOURCE and KIND are kept, and GO raises the kind with DETAIL 0 and no containing action (R520). -/
def State.testEvent (s : State) (v : W32) : State :=
  let s := (s.setFld F.KST_TEST_EVENT_SOURCE (bits v 20 10)).setFld F.KST_TEST_EVENT_KIND (bits v 12 8)
  if bitAt v 31 ∧ bits v 12 8 ≠ 0 ∧ reports (bits v 20 10) then s.raise (bits v 20 10) (bits v 12 8) 0 else s

/-- TEST_EVENT (R520). -/
def execTestEvent (v : W32) (s : State) : Out := .next (s.testEvent v)

end Sys2Proof.Machine
end

