-- ==== Sys2Proof/Machine/PowerCmds.lean ====
section
/-!
DEFINITION. Machine/PowerCmds.lean: the commands of the power, clock and sensor blocks and the device resets (chapter 20, and
R602, R606 of chapter 24). The end of a reset's hold starts boot and stands in Machine/Boot.lean.
-/
namespace Sys2Proof.Machine

/-! ## The sensed outputs that follow other state (R509, R516, R518, R533, R550) -/

/-- Some page has an event that is pending and enabled (KST.LEGACY.ANY, R518). -/
def State.legacyAny (s : State) : Bool :=
  s.regs.act.any (fun (e : Nat × W32) => decide (e.1 % 0x1000 = 0x014) && decide (e.2 &&& s.rd (e.1 + 4) ≠ 0#32) &&
    (match pageKind (e.1 / 0x1000) with
      | .block _ _ => true
      | _ => false))

/-- ALERT_OUT is asserted (R509, R518). -/
def State.alertOut (s : State) : Bool :=
  (s.flag F.KST_CFG_ALERT_EN && s.liveSeverity 1) || (s.flag F.KST_CFG_LEGACY_ALERT && s.legacyAny)

/-- FAULT_OUT is asserted: in the safe state, in thermal hold, and in boot hold except under BOOT_SEL 0b01, as which 0b11 is taken
(R516, R533, R550, R551). -/
def State.faultOut (s : State) : Bool :=
  s.safe || s.thermalHold || (s.bootHold && s.fld F.DEV_BOOT_BOOT_SEL % 2 == 0)

/-! ## Sleep and wake (R522, R523, R28) -/

/-- The page whose CTRL.SLEEP_ALLOW governs a domain; the endpoint core has none (R522). -/
def sleepPage (d : Nat) : Option (Blk × Nat) :=
  if d < 32 then some (.eng, d) else if d < 48 then some (.abc, d - 32) else if d < 80 then some (.fwd, d - 48)
  else if d < 112 then some (.til, d - 80) else none

def State.sleepAllowed (s : State) (d : Nat) : Bool :=
  match sleepPage d with
  | some (b, n) => s.hdr b n F.HDR_CTRL_SLEEP_ALLOW == 1
  | none => true

/-- A lane is off, or in quiet sleep (R137, R151). -/
def State.laneResting (s : State) (n : Nat) : Bool :=
  !s.lanePowered n || s.modeOf n == 0 || s.fld F.SRD_STATUS_LSTATE n == 6

/-- A domain is idle, with no work queued for it (R522, R28, Table 1). -/
def State.domIdle (s : State) (d : Nat) : Bool :=
  if d < 32 then
    (List.range 128).all (fun i => let h := 128 * d + i; s.stopped h || (s.hart h).wait.isSome) && (s.creset d).isNone &&
      !s.ep.op.any (fun (e : Nat × Op) => decide (e.2.cluster = d) && decide (e.2.handler ∈ [1, 3, 4])) &&
      !s.eng.q.any (fun (e : Nat × HwQ) => !e.2.ents.isEmpty && decide (s.qHart e.1 / 128 = d))
  else if d < 48 then
    let n := d - 32
    !s.coll.win.any (fun (e : Nat × Window) => decide (e.2.tree % 16 = n) && !e.2.inHbm) &&
      !s.fwd.dlv.any (fun x => isColl (pOpc x.bytes) && decide (pDst x.bytes % 2 ^ 12 % 16 = n))
  else if d < 80 then
    let t := d - 48
    (decide ((s.dom (Dom.tile t)).st = .asleep) || !s.enabled .til t) &&
      !s.fwd.pkts.any (fun (e : Nat × Pkt) => match e.2.inLink with
        | some l => decide (s.linkTile l = t)
        | none => false) &&
      !s.fwd.outQ.any (fun (e : Nat × List QEnt) => !e.2.isEmpty && decide (s.linkTile (e.1 / 32) = t))
  else if d < 112 then
    let t := d - 80
    (List.range 16).all (fun i => s.laneResting (16 * t + i)) &&
      !(List.range 64).any (fun n => s.enabled .hpt n && decide (s.fld F.HPT_CFG_FIRST_LANE n / 16 = t)) &&
      !(List.range 256).any (fun l => (s.link l).waking && decide (s.linkTile l = t))
  else
    !s.ep.ctx.any (fun (e : Nat × Ctx) => decide (e.2.state = CS.enabled)) && s.fld F.PWR_AWAKE_CLUSTER_MASK == 0 &&
      !s.fwd.dlv.any (fun x => !isColl (pOpc x.bytes)) &&
      !s.spn.any (fun (e : Nat × Pier) => e.2.delivered.any (fun f => decide (f.op = 0x01) || decide (f.op = 0x02)))

/-- SLEEP_ENTRY_START (R522): a domain has been idle for its idle time. A cluster begins its drain (R421). -/
def execSleepEntryStart (d : Fin 113) (s : State) : Out :=
  if s.awake d ∧ s.flag F.PWR_CFG_SLEEP_EN ∧ s.sleepAllowed d ∧ s.domIdle d then
    let s := if d.val < 32 then (List.range 128).foldl (fun s i => s.drainSb (128 * d.val + i)) s else s
    .next (s.setDom d { st := .entering })
  else .next s

/-- Sleep entry completes: a cluster's caches have been written back and are lost (R443), and a cause that arrived meanwhile, or a
cleared SLEEP_ALLOW, wakes the domain at once (R28, R522). -/
def State.sleepDone (s : State) (d : Nat) : State :=
  let x := s.dom d
  if x.st ≠ .entering ∨ (d < 32 ∧ ¬ (List.range 128).all (fun i => decide ((s.hart (128 * d + i)).hostOut = 0))) then s
  else
    let s := if d < 32 then s.emptyCaches d true else s
    let s := s.setDom d { st := .asleep }
    if x.wakeWaiting ∨ ¬ s.sleepAllowed d then s.wake d else s

/-- SLEEP_ENTRY_DONE (R522). -/
def execSleepEntryDone (d : Fin 113) (s : State) : Out := .next (s.sleepDone d).drain

/-- A waking domain becomes awake, and its waiting work proceeds: a cluster's harts take their entries and events (R27). -/
def State.wakeDone (s : State) (d : Nat) : State :=
  if (s.dom d).st ≠ .waking ∨ s.thermalHold ∨ s.pwr.inReset.isSome then s
  else
    let s := s.setDom d { st := .awake }
    let s := { s with pwr := { s.pwr with wakeLate := mput false s.pwr.wakeLate d false } }
    if d < 32 then (List.range 128).foldl (fun s i => let h := 128 * d + i; if s.stopped h then s else (s.attend h).invoke h) s else s

/-- DOMAIN_WAKE_DONE (R27). -/
def execDomainWakeDone (d : Fin 113) (s : State) : Out := .next (s.wakeDone d).drain

/-- The type and the instance of a domain, as PWR kind 0x01 shows them (R536, log 7). -/
def domType (d : Nat) : Nat × Nat :=
  if d < 32 then (0, d) else if d < 48 then (1, d - 32) else if d < 80 then (2, d - 48) else if d < 112 then (3, d - 80) else (4, 0)

/-- WAKE_TIMEOUT (R536): a domain is not awake within four times its wake latency. -/
def execWakeTimeout (d : Fin 113) (s : State) : Out :=
  if (s.dom d).st ≠ .waking ∨ mget false s.pwr.wakeLate d then .next s
  else
    let (t, i) := domType d
    let s := { s with pwr := { s.pwr with wakeLate := mput false s.pwr.wakeLate d true } }
    .next (s.raise 704 0x01 ((Config.domainTypeCode t).toNat * 256 + i))

/-! ## Clocks (R525, R526) -/

/-- The links that are neither DISABLED nor DOWN, and the host ports likewise, go down with reason 0x01; `hold` keeps the links
down until REFCLK1 returns. -/
def State.lanesLoseClock (s : State) (hold : Bool) : State :=
  let s := s.liveLinks.foldl (fun s l =>
    let s := s.linkDown l 0x01
    if hold then s.setLink l { s.link l with clockHeld := true } else s) s
  (List.range 64).foldl (fun s n => s.portDown n 0x01) s

/-- The PLLs that take REFCLK1 lose their locks; with FAILOVER they start again from REFCLK0 (R526). -/
def State.pllsLose (s : State) : State :=
  s.til.foldl (fun s e =>
    if e.2.ref0 then s
    else
      let s := if e.2.pll0 || e.2.pll0Starting then s.setPll e.1 0 true false else s
      if e.2.pll1 || e.2.pll1Starting then s.setPll e.1 1 true false else s) s

/-- REFCLK_LOSS (R526): REFCLK0 or REFCLK1 is absent or out of frequency; `ppm` is its offset in tenths of a ppm. -/
def execRefclkLoss (ref : Fin 2) (ppm : W16) (s : State) : Out :=
  let s := (s.setFld F.CLK_PPM_OFFSET ppm.toNat 0 ref).count F.CLK_CNT_LOSS_COUNT 0
  if ref.val = 0 then
    .next (((s.setFld F.CLK_STATUS_REF0_OK 0).setFld F.CLK_STATUS_ON_OSC 1).raise 705 0x01 ppm.toNat)
  else
    let feeds := s.til.any (fun (e : Nat × Tile) => !e.2.ref0 && (e.2.pll0 || e.2.pll1 || e.2.pll0Starting || e.2.pll1Starting))
    let s := s.setFld F.CLK_STATUS_REF1_OK 0
    let s := ({ s with pwr := { s.pwr with ref1Lost := true } }).raise 705 0x02 ppm.toNat
    if feeds then .next (s.pllsLose.lanesLoseClock (!s.flag F.CLK_CFG_FAILOVER)).drain else .next s

/-- A link held down for REFCLK1 may retrain (R526, R142). -/
def State.clockBack (s : State) (l : Nat) : State :=
  let k := s.link l
  if ¬ k.clockHeld then s
  else
    let s := s.setLink l { k with clockHeld := false }
    if k.downHold ∨ s.enabled .lnk l = false ∨ ¬ s.mayTrain ∨ k.claimLapsed ∨ k.paramRetry ∨ s.lstate l ≠ LS.down then s
    else if k.reEnabled ∨ (s.flag F.LNK_CFG_AUTO_RETRAIN l ∧ k.claimed) then s.linkStart l
    else s

/-- REFCLK_RETURN (R526): a reference clock is present and within frequency. -/
def execRefclkReturn (ref : Fin 2) (ppm : W16) (s : State) : Out :=
  let s := s.setFld F.CLK_PPM_OFFSET ppm.toNat 0 ref
  if ref.val = 0 then .next ((s.setFld F.CLK_STATUS_REF0_OK 1).setFld F.CLK_STATUS_ON_OSC 0)
  else
    let s := { s.setFld F.CLK_STATUS_REF1_OK 1 with pwr := { s.pwr with ref1Lost := false } }
    .next ((s.lnk.map (·.1)).foldl State.clockBack s)

/-- CORE_PLL_UNLOCK (R536): 0 the engine die's, 1 and 2 the switch dies'. -/
def execCorePllUnlock (pll : Fin 3) (s : State) : Out := .next (s.raise 705 0x03 pll)

/-- AVS_TARGET_CHANGE (R527): the target moves within 650–800 mV in steps of 5 mV, at most once per 100 µs. -/
def execAvsTargetChange (mv : Fin 801) (s : State) : Out :=
  let late : Bool := match s.pwr.avsAt with
    | none => true
    | some t => decide (t + 100000 ≤ s.clk)
  if late ∧ 650 ≤ mv.val ∧ mv.val % 5 = 0 then
    let old := s.fld F.PWR_AVS_TARGET_MV
    .next ({ s.setFld F.PWR_AVS_TARGET_MV mv with pwr := { s.pwr with avsOld := old, avsAt := some s.clk } })
  else .next s

/-! ## Temperature and supplies (R533, R534, R606) -/

/-- Thermal hold: every fast domain and every tile PLL stops, and the lanes go to electrical idle without a fence marker (R533,
R139). -/
def State.enterThermalHold (s : State) : State :=
  if s.thermalHold then s
  else
    let s := s.setFld F.PWR_STATE_THERMAL_HOLD 1
    let s := (s.pwr.dom.map (·.1)).foldl (fun s d => s.setDom d {}) s
    let s := ({ s with til := [] }).showLaneRef
    let s := (s.fenceLinks false).dropQueued
    (List.range 64).foldl (fun s n => s.portDown n 0x01) s

/-- What a sensor reading raises: above WARN_C and CRIT_C once until it has fallen by HYST_C, above TRIP_C thermal hold (R533). -/
def State.tempCheck (s : State) (sensor : Nat) (t : Int) : State :=
  let hyst : Int := max 1 (s.fld F.SNS_TEMP_CFG_HYST_C)
  let warn := signedOf 8 (s.fld F.SNS_TEMP_CFG_WARN_C)
  let crit := signedOf 8 (s.fld F.SNS_TEMP_CFG_CRIT_C)
  let d := sensor * 256 + ofSigned 8 t
  let s := { s with pwr := { s.pwr with warnArmed := s.pwr.warnArmed || decide (t ≤ warn - hyst),
                                        critArmed := s.pwr.critArmed || decide (t ≤ crit - hyst) } }
  let s := if warn < t ∧ s.pwr.warnArmed then ({ s with pwr := { s.pwr with warnArmed := false } }).raise 706 0x01 d else s
  let s := if crit < t ∧ s.pwr.critArmed then ({ s with pwr := { s.pwr with critArmed := false } }).raise 706 0x02 d else s
  if 120 < t ∧ ¬ s.thermalHold then (s.raise 706 0x03 d).enterThermalHold else s

/-- The 24 readings and the hottest of them enter their registers. -/
def State.tempPut (s : State) (readings : List Byte) (hot : Nat) (top : Int) : State :=
  let s := (List.range 6).foldl (fun s i => s.setFld F.SNS_TEMP_C (leAt readings (4 * i) 4) 0 i) s
  (s.setFld F.SNS_TEMP_MAX_SENSOR hot).setFld F.SNS_TEMP_MAX_C (ofSigned 8 top)

/-- The temperature that a sensor reads, in signed degrees; a reading not given is 0. -/
def tempOf (readings : List Byte) (i : Nat) : Int := signedOf 8 ((readings.getD i 0#8).toNat)

/-- The highest temperature read, and the sensors that read it. -/
def tempTop (readings : List Byte) : Int := (List.range 24).foldl (fun m i => max m (tempOf readings i)) (tempOf readings 0)
def tempTies (readings : List Byte) : List Nat := (List.range 24).filter (fun i => decide (tempOf readings i = tempTop readings))

/-- TEMP_SAMPLE (R533): the readings of the 24 junction sensors, in signed degrees. A cold reset that
waits for the temperature goes on once the hottest is below 100 °C. -/
def execTempSample (readings : List Byte) (s : State) : Out :=
  let r := s.pickTie (tempTies readings)
  let hot := r.1.getD 0
  let s := r.2.tempPut readings hot (tempTop readings)
  if s.pwr.inReset.isSome then
    .next (if tempTop readings < 100 then { s with pwr := { s.pwr with coldWaitsTemp := false } } else s)
  else .next (s.tempCheck hot (tempTop readings))

/-- VDD_CORE's window about a target (R527); SUPPLY[0] word 0 reads it. -/
def State.coreWindow (s : State) (mv : Nat) : Nat × Nat :=
  let tol := s.fld F.PWR_AVS_TOL_MV
  let tol := if tol = 0 then 10 else tol
  (mv - tol, mv + tol)

/-- A sample of a rail lies in its range: VDD_CORE's window, the old one too for 1 ms after a change, or the limits (R527, R534). -/
def State.supplyOk (s : State) (rail mv : Nat) : Bool :=
  let inside (w : Nat × Nat) : Bool := decide (w.1 ≤ mv) && decide (mv ≤ w.2)
  if rail = 0 then
    let old : Bool := match s.pwr.avsAt with
      | none => false
      | some t => decide (s.clk < t + 1000000)
    inside (s.coreWindow (s.fld F.PWR_AVS_TARGET_MV)) || (old && inside (s.coreWindow s.pwr.avsOld))
  else inside (s.fld F.SNS_SUPPLY_UV_MV 0 rail, s.fld F.SNS_SUPPLY_OV_MV 0 rail)

/-- SUPPLY_SAMPLE (R534): a rail's voltage, and its current where it is measured; the fourth sample in a row out of range raises
kind 0x04. -/
def execSupplySample (rail : Fin 8) (mv da : W16) (s : State) : Out :=
  let r := rail.val
  let s := (s.setFld F.SNS_SUPPLY_MV mv.toNat 0 r).setFld F.SNS_SUPPLY_CUR_DA (if r ∈ [0, 1, 3, 5] then da.toNat else 0) 0 r
  let forced := decide (r = 7) && decide (0 < s.pwr.oorLeft)
  let s := if forced then { s with pwr := { s.pwr with oorLeft := s.pwr.oorLeft - 1 } } else s
  let n := if forced ∨ ¬ s.supplyOk r mv.toNat then mget 0 s.pwr.supplyBad r + 1 else 0
  let s := { s with pwr := { s.pwr with supplyBad := mput 0 s.pwr.supplyBad r n } }
  .next (if n = 4 then s.raise 706 0x04 (r * 2 ^ 32 + mv.toNat) else s)

/-- SNS_INJECT_SUPPLY_OOR (R535). -/
def execSnsInjectSupplyOor (s : State) : Out := .next { s with pwr := { s.pwr with oorLeft := 4 } }

/-- HBM_TEMP_CHANGE (R606): a stack's hottest die, in signed degrees. Above 85 °C its refresh rate is doubled, and above 95 °C the
stack fails. -/
def execHbmTempChange (n : Fin 4) (c : Byte) (s : State) : Out :=
  let t := signedOf 8 c.toNat
  let s := s.setFld F.HBM_STATUS_TEMP_C c.toNat n
  let s := { s with pwr := { s.pwr with hbmFast := mput false s.pwr.hbmFast n (decide (85 < t)) } }
  if 95 < t ∧ s.fld F.HBM_STATUS_STATE n ≠ 3 then
    .next ((s.setFld F.HBM_STATUS_STATE 3 n).raise (432 + 4 * n.val) 0x03 3)
  else .next s

/-! ## Device resets (R528–R532, R612) -/

/-- The pages that a warm reset keeps: the keeper domain's, the severity window and MGT (R612). -/
def warmPage (p : Nat) : Bool := match pageKind p with
  | .block .dev _ | .block .kst _ | .block .pwr _ | .block .clk _ | .block .sns _ | .block .sec _ | .block .mgt _ => true
  | .window .severity _ => true
  | _ => false

/-- The TBL_SEQ registers, which a warm reset keeps (R100, R528). -/
def tblSeqs : List Nat :=
  [F.ROU_TBL_SEQ_A_SEQ, F.ROU_TBL_SEQ_B_SEQ, F.TRE_TBL_SEQ_A_SEQ, F.TRE_TBL_SEQ_B_SEQ, F.VIA_TBL_SEQ_A_SEQ, F.VIA_TBL_SEQ_B_SEQ,
   F.ENG_QTBL_SEQ_A_SEQ, F.ENG_QTBL_SEQ_B_SEQ].map (fun f => f.addr 0 0)

/-- The fields that a cold reset keeps, as words with their masks (R508, R528): LOG_HEAD, LOG_TAIL, SAFE.CAUSE, SAFE_TIME,
SAFE_DETAIL, PIN_IDLE and RESET_STAT. -/
def coldKept : List (Nat × W32) :=
  let k (o : Nat) : Nat := Blk.kst.addr 0 o
  [(k 0x110, 0xFFFFFFFF#32), (k 0x114, 0xFFFFFFFF#32), (k 0x120, 0xFF#32), (k 0x128, 0xFFFFFFFF#32), (k 0x12C, 0xFFFFFFFF#32),
   (k 0x130, 0xFFFFFFFF#32), (k 0x134, 0xFFFFFFFF#32), (Blk.pwr.addr 0 0x11C, 0xFFFFFFFF#32), (Blk.pwr.addr 0 0x120, 0xFFFFFFFF#32)]

/-- The registers that a warm reset keeps. -/
def Regs.warm (r : Regs) : Regs :=
  let ofAddr {α : Type} (m : SMap α) : SMap α := m.filter (fun e => warmPage (e.1 / 0x1000))
  { act := r.act.filter (fun e => warmPage (e.1 / 0x1000) || tblSeqs.contains e.1), shadow := ofAddr r.shadow,
    pend := r.pend.filter (fun e => warmPage e.1), parBad := ofAddr r.parBad, inj := ofAddr r.inj }

/-- Of the arbiter a reset keeps what JTAG waits for: the TAP is not reset with the device (R532). -/
def Rfa.jtagOnly (r : Rfa) : Rfa := { req := r.req.filter (fun e => decide (e.1 = 1)) }

/-- Fuses and flash survive every reset. -/
def Sec.cold (c : Sec) : Sec := { slots := c.slots, svnMin := c.svnMin, flash := c.flash }

/-- The management pier's session is lost at a reset, with cause 7 (R530, R274). -/
def State.mgmtLost (s : State) : State :=
  if s.session 64 = SS.down then s else (s.sessionLoss 64 7).setFld F.SPN_SESSION_STATE SS.down 64

/-- RESET_STAT after a reset has begun: a power-on reset starts the count (R535). -/
def State.resetStat (s : State) (k : ResetKind) (count : Nat) : State :=
  (s.setFld F.PWR_RESET_STAT_LAST k.code).setFld F.PWR_RESET_STAT_COUNT count

/-- What every reset keeps beyond the device: the queue of commands, what has been put out, the local clock, the counter of free
values, fuses and flash, and the input pins. -/
def State.blank (s : State) (k : ResetKind) : State :=
  { pending := s.pending, out := s.out, clk := s.clk, free := s.free, sec := s.sec.cold,
    pwr := { inReset := some k, pwrok := s.pwr.pwrok, resetN := s.pwr.resetN, ppsIn := s.pwr.ppsIn } }

/-- A power-on reset clears everything (R528). -/
def State.powerOn (s : State) : State := (s.blank .powerOn).resetStat .powerOn 0

/-- A cold reset clears every block; the log and what R528 lists are kept. In thermal hold it waits for the temperature (R533). -/
def State.coldReset (s : State) (k : ResetKind) : State :=
  let s := s.mgmtLost
  let hot := s.thermalHold
  let b := s.blank k
  let b := { b with time := s.time, tap := s.tap, rfa := s.rfa.jtagOnly, kst := { log := s.kst.log }, pwr := { b.pwr with coldWaitsTemp := hot } }
  let b := coldKept.foldl (fun b e => b.wr e.1 ((b.rd e.1 &&& ~~~e.2) ||| (s.rd e.1 &&& e.2))) b
  let b := if hot then b.setFld F.PWR_STATE_THERMAL_HOLD 1 else b
  b.resetStat k ((s.fld F.PWR_RESET_STAT_COUNT + 1) % 65536)

/-- A warm reset clears every block but the keeper domain and the management port (R612): DEV.BOOT.STAGE restarts, ATTEST returns
to its reset value, the AWAKE masks follow the domains, HBM keeps its content in self-refresh, and the pier's session is lost. -/
def State.warmReset (s : State) : State :=
  let s := s.mgmtLost
  let c := { s.sec with bootStep := 0, bodyFailed := [], cfgOn := false, cfgBody := [], cfgIndex := 0, cdiK := 0, cdiE := 0, aliasKey := 0,
                        attestBody := [], attestVoid := 0, udsLocked := false }
  let p := { s.pwr with dom := [], awakeNs := [], hbmSr := (List.range 4).map (fun n => (n, true)), hbmSrExit := [], inReset := some .warmCmd,
                        resetPending := none, ready := false, ppsOut := false, wakeLate := [], hbmFast := [] }
  let b := { s.blank .warmCmd with time := s.time, regs := s.regs.warm, kst := s.kst, pwr := p, sec := c, tap := s.tap, rfa := s.rfa.jtagOnly,
                                   hpt := s.hpt.filter (fun e => decide (e.1 = 64)), spn := s.spn.filter (fun e => decide (e.1 = 64)),
                                   eng := { mem := s.eng.mem, poison := s.eng.poison } }
  let b := ((b.setFld F.DEV_BOOT_STAGE 0).wr (F.SEC_ATTEST_GO.addr 0 0) 0#32).setFld F.PWR_AWAKE_CLUSTER_MASK 0
  let b := (((b.setFld F.PWR_AWAKE_PIPE_MASK 0).setFld F.PWR_AWAKE_TILE_MASK 0).setFld F.PWR_AWAKE_OTHER_SLICE 0).setFld F.PWR_AWAKE_OTHER_ENDPOINT 0
  let b := b.setFld F.CLK_STATUS_LANE_ON_REF0 0
  b.resetStat .warmCmd ((s.fld F.PWR_RESET_STAT_COUNT + 1) % 65536)

/-- POWER_ON_RESET (R528, R529, R532): PWROK falls; each sensed output is then read with the pull-down and with the pull-up. -/
def execPowerOnReset (down up : Byte) (s : State) : Out :=
  let s := ({ s with pwr := { s.pwr with pwrok := false } }).powerOn
  .next ((s.setFld F.PWR_PIN_IDLE_VALID (~~~(down ^^^ up)).toNat).setFld F.PWR_PIN_IDLE_LEVEL (down &&& up).toNat)

/-- PWROK_RISE (R602). -/
def execPwrokRise (s : State) : Out := .next { s with pwr := { s.pwr with pwrok := true } }

/-- RESET_N_ASSERT (R529, R599): RESET_N has been low for 10 µs; while PWROK is low, and until power-on reset has ended, that reset
governs. -/
def execResetNAssert (s : State) : Out :=
  let s := { s with pwr := { s.pwr with resetN := false } }
  if s.pwr.inReset = some .powerOn then .next s else .next (s.coldReset .resetN)

/-- RESET_N_RELEASE (R531, R602). -/
def execResetNRelease (s : State) : Out := .next { s with pwr := { s.pwr with resetN := true } }

/-- The cold key: a cold reset is requested (R530). -/
def State.coldCmd (s : State) : State := { s with pwr := { s.pwr with resetPending := some .coldCmd } }

/-- The warm key: refused in the safe state and in thermal hold; a cold reset requested before stays (R529, R530). -/
def State.warmCmd (s : State) : State :=
  if s.thermalHold then s.raise 704 0x03 2
  else if s.safe then s.raise 704 0x03 1
  else if s.pwr.resetPending.isSome then s
  else { s with pwr := { s.pwr with resetPending := some .warmCmd } }

/-- An agent may write the DEV page (R530, R577). -/
def State.devOpen (s : State) (ag : Agent) : Bool := decide (3 ≤ s.agentLevel ag) && s.writeOpen ag 0 && decide (ag ≠ .boot)

/-- COLD_RESET_CMD (R530). -/
def execColdResetCmd (ag : Agent) (s : State) : Out := .next (if s.devOpen ag then s.coldCmd else s)

/-- WARM_RESET_CMD (R530). -/
def execWarmResetCmd (ag : Agent) (s : State) : Out := .next (if s.devOpen ag then s.warmCmd else s)

/-- RESET_BEGIN (R530): the reset that was commanded begins. A warm one is refused where the safe state or thermal hold has been
entered meanwhile (R529). -/
def execResetBegin (s : State) : Out :=
  match s.pwr.resetPending with
  | none => .next s
  | some .warmCmd =>
    let s := { s with pwr := { s.pwr with resetPending := none } }
    if s.thermalHold then .next (s.raise 704 0x03 2)
    else if s.safe then .next (s.raise 704 0x03 1)
    else .next s.warmReset
  | some k => .next (s.coldReset k)

end Sys2Proof.Machine
end

