-- ==== Sys2Proof/Machine/Security.lean ====
section
/-!
DEFINITION. Machine/Security.lean: the security block (chapter 21): image copies and their checks, fuse and flash commands,
measurements, the alias certificate and attestation reports, and the commands for them.
-/
namespace Sys2Proof.Machine

def State.setSec (s : State) (c : Sec) : State := { s with sec := c }

/-! ## Flash (R537, R538) -/

/-- Bytes of the flash; those from 0x0300_0000 upward are never read (R537). -/
def State.flashBytes (s : State) (a n : Nat) : List Byte :=
  (List.range n).map (fun i => if a + i < 0x3000000 then mget 0xFF#8 s.sec.flash (a + i) else 0xFF#8)

/-- Bytes put into the flash. -/
def State.flashPut (s : State) (a : Nat) (d : List Byte) : State :=
  s.setSec { s.sec with flash := (d.zipIdx).foldl (fun m e => mput 0xFF#8 m (a + e.2) e.1) s.sec.flash }

/-- The address of a copy's slot, by type − 2 and copy (Table 1). -/
def imgSlot (i c : Nat) : Nat :=
  match i, c with
  | 0, 0 => 0x0000000 | 0, _ => 0x0100000
  | 1, 0 => 0x1000000 | 1, _ => 0x2000000
  | 2, 0 => 0x0400000 | 2, _ => 0x0800000
  | _, 0 => 0x0200000 | _, _ => 0x0210000

/-- The bytes of a slot, header included (Table 1). -/
def imgSize (i : Nat) : Nat :=
  match i with
  | 0 => 0x100000
  | 1 => 0x1000000
  | 2 => 0x400000
  | _ => 0x10000

/-- A copy's header, and the body that its LENGTH gives. -/
def State.imgHeader (s : State) (i c : Nat) : List Byte := s.flashBytes (imgSlot i c) 256
def State.imgBody (s : State) (i c : Nat) : List Byte := s.flashBytes (imgSlot i c + 256) (leAt (s.imgHeader i c) 16 4)

/-! ## Keys and the checks of a copy (R540, R543, R544) -/

def State.keySlot (s : State) (i : Nat) : KeySlot := mget {} s.sec.slots i

/-- SEC.OWNER's fuse bits (R556). -/
def State.ownerBits (s : State) (f : KeySlot → Bool) : Nat :=
  ((List.range 4).map (fun i => if f (s.keySlot i) then 2 ^ i else 0)).sum

/-- The key that KEY_SLOT selects for a type matches a public key: the root for type 0x02; for the others an owner slot that is
programmed and not revoked, or the root while no slot is programmed (R543). -/
def State.keyOk (s : State) (i slot : Nat) (pub : List Byte) : Bool :=
  let h := sha256 pub
  if slot = 0xFF then decide (h = leBytes 32 Config.rootKeyHash.toNat) && (decide (i = 0) || decide (s.ownerBits KeySlot.shownProgrammed = 0))
  else
    let k := s.keySlot slot
    decide (i ≠ 0) && decide (slot < 4) && k.shownProgrammed && !k.shownRevoked && decide (h = leBytes 32 k.hash.toNat)

/-- Every byte of some ranges is 0. -/
def zeroBytes (h : List Byte) (rs : List (Nat × Nat)) : Bool := rs.all (fun r => (slice h r.1 r.2).all (· = 0#8))

/-- The first check of Table 3 that a copy fails, 0 for a valid one; `body` says whether its body is checked, `failed` that the
flash could not be read (R540). -/
def State.copyReason (s : State) (i c : Nat) (body failed : Bool) : Nat :=
  let h := s.imgHeader i c
  let svn := leAt h 12 2
  let len := leAt h 16 4
  let load := leAt h 24 8
  if failed then 0x07
  else if leAt h 0 4 = 0xFFFFFFFF then 0x0F
  else if leAt h 0 4 ≠ 0x4B524431 ∨ leAt h 4 1 ≠ 2 + i ∨ leAt h 5 1 ≠ 1 ∨ ¬ zeroBytes h [(6, 2), (14, 2), (20, 4), (129, 3), (196, 60)] ∨
      (i ≠ 1 ∧ load ≠ 0) then 0x01
  else if imgSize i - 256 < len ∨ 64 < svn ∨ (i = 1 ∧ (load % 4096 ≠ 0 ∨ hbmBytes < load + len)) then 0x02
  else if body ∧ sha256 (s.imgBody i c) ≠ slice h 32 32 then 0x03
  else if i ≠ 3 ∧ ¬ s.keyOk i (leAt h 128 1) (slice h 132 64) then 0x04
  else if i ≠ 3 ∧ ¬ ecVerify (slice h 132 64) (sha256 (slice h 0 64 ++ slice h 128 128)) (beAt h 64 32) (beAt h 96 32) then 0x05
  else if i ≠ 3 ∧ svn < mget 0 s.sec.svnMin i then 0x06
  else 0

/-! ## Fuse commands (R543, R544) -/

/-- FUSE_CMD.GO: the command joins those in progress, which are performed in the order written. -/
def State.fuseGo (s : State) (op arg : Nat) : State :=
  let s := (s.setFld F.SEC_FUSE_CMD_OP op).setFld F.SEC_FUSE_CMD_ARG arg
  (s.setSec { s.sec with fuseOps := s.sec.fuseOps ++ [{ op := op, arg := arg, data := s.sec.fuseData }] }).setFld F.SEC_FUSE_CMD_BUSY 1

/-- FUSE_PROGRAM_SLOT (R543). -/
def execFuseProgramSlot (arg : Fin 16) (s : State) : Out := .next (s.fuseGo 1 arg)

/-- FUSE_REVOKE_SLOT (R543). -/
def execFuseRevokeSlot (arg : Fin 16) (s : State) : Out := .next (s.fuseGo 2 arg)

/-- SVN_COMMIT (R544). -/
def execSvnCommit (arg : Fin 16) (s : State) : Out := .next (s.fuseGo 3 arg)

/-- What a fuse command does, and its RESULT; `failed`: a fuse failed to program (R543, R544, R558). -/
def State.fuseRun (s : State) (f : FuseOp) (failed : Bool) : Nat × State :=
  let k := s.keySlot f.arg
  let setSlot (k : KeySlot) : State := s.setSec { s.sec with slots := mput {} s.sec.slots f.arg k }
  let old := mget 0 s.sec.svnMin (f.arg - 2)
  let svn := s.fld F.SEC_IMG_SVN 0 (f.arg - 2)
  let refused : Bool := match f.op with
    | 1 => decide (4 ≤ f.arg) || k.programmed || k.partly
    | 2 => decide (4 ≤ f.arg)
    | _ => decide (f.arg < 2) || decide (4 < f.arg) || !s.flag F.SEC_IMG_LOADED 0 (f.arg - 2) || decide (svn ≤ old)
  if refused then (1, s)
  else if failed then
    let s := match f.op with
      | 1 => setSlot { k with partly := true }
      | 2 => s
      | _ => let (n, s) := s.takeFree; s.setSec { s.sec with svnMin := mput 0 s.sec.svnMin (f.arg - 2) (old + Config.choice n % (svn - old)) }
    (2, s.raise 707 0x03 (f.arg * 256 + f.op))
  else match f.op with
    | 1 => (0, setSlot { k with programmed := true, hash := f.data })
    | 2 => (0, setSlot { k with revoked := true })
    | _ => (0, s.setSec { s.sec with svnMin := mput 0 s.sec.svnMin (f.arg - 2) svn })

/-- FUSE_CMD_DONE (R544): the oldest fuse command completes. -/
def execFuseCmdDone (failed : Bool) (s : State) : Out :=
  match s.sec.fuseOps with
  | [] => .next s
  | f :: rest =>
    let (r, s) := s.fuseRun f failed
    let s := s.setSec { s.sec with fuseOps := rest }
    .next ((s.setFld F.SEC_FUSE_CMD_RESULT r).setFld F.SEC_FUSE_CMD_BUSY (if rest = [] then 0 else 1))

/-! ## Flash commands (R552) -/

/-- FLASH_CMD.GO at FLASH_ADDR; ignored while BUSY is 1. -/
def State.flashGo (s : State) (op : Nat) : State :=
  if s.flag F.SEC_FLASH_CMD_BUSY then s
  else
    let s := (s.setFld F.SEC_FLASH_CMD_OP op).setFld F.SEC_FLASH_CMD_BUSY 1
    s.setSec { s.sec with flashOp := some { op := op, addr := s.fld F.SEC_FLASH_ADDR_ADDR } }

/-- FLASH_READ (R552). -/
def execFlashRead (s : State) : Out := .next (s.flashGo 1)
/-- FLASH_PROGRAM (R552). -/
def execFlashProgram (s : State) : Out := .next (s.flashGo 2)
/-- FLASH_ERASE (R552). -/
def execFlashErase (s : State) : Out := .next (s.flashGo 3)
/-- FLASH_VERIFY (R552). -/
def execFlashVerify (s : State) : Out := .next (s.flashGo 4)

/-- A byte range touches a protected copy, or bytes from 0x0300_0000 upward (R552). -/
def State.flashProtected (s : State) (a n : Nat) : Bool :=
  decide (0x3000000 < a + n) ||
  (List.range 4).any (fun i => s.flag F.SEC_IMG_LOADED 0 i &&
    (let b := imgSlot i (if (s.fld F.SEC_FLASH_PROT_COPY).testBit i then 1 else 0); decide (a < b + imgSize i) && decide (b < a + n)))

/-- The bytes that a failed program or erase leaves: open values. -/
def State.flashSpoil (s : State) (a n : Nat) : State :=
  let (k, s) := s.takeFree
  s.flashPut a ((List.range n).map (fun i => BitVec.ofNat 8 (Config.choice (2 ^ 32 * (k + 1) + i))))

/-- What a flash command does, and its RESULT (R552). PROGRAM clears bits, as NOR flash does. -/
def State.flashRun (s : State) (f : FlashOp) (failed : Bool) : Nat × State :=
  let err (s : State) : Nat × State := (2, s.raise 707 0x04 f.addr)
  let prot : Nat × State := (1, s.raise 707 0x07 f.addr)
  match f.op with
  | 1 =>
    if 0x3000000 < f.addr + 256 then (1, s)
    else if failed then err s
    else
      let d := s.flashBytes f.addr 256
      (0, (List.range 64).foldl (fun s i => s.setFld F.SEC_FLASH_BUF_DATA (leAt d (4 * i) 4) 0 i) s)
  | 2 =>
    if f.addr % 256 ≠ 0 then (3, s)
    else if s.flashProtected f.addr 256 then prot
    else if failed then err (s.flashSpoil f.addr 256)
    else
      let new := (List.range 64).flatMap (fun i => leBytes 4 (s.fld F.SEC_FLASH_BUF_DATA 0 i))
      (0, s.flashPut f.addr (List.zipWith (· &&& ·) (s.flashBytes f.addr 256) new))
  | 3 =>
    if f.addr % 65536 ≠ 0 then (3, s)
    else if s.flashProtected f.addr 65536 then prot
    else if failed then err (s.flashSpoil f.addr 65536)
    else (0, s.flashPut f.addr (List.replicate 65536 0xFF#8))
  | _ =>
    match (List.range 8).find? (fun k => decide (imgSlot (k / 2) (k % 2) = f.addr)) with
    | none => (3, s)
    | some k =>
      let r := s.copyReason (k / 2) (k % 2) true failed
      let s := (s.setFld F.SEC_VERIFY_STAT_VALID (if r = 0 then 1 else 0)).setFld F.SEC_VERIFY_STAT_REASON r
      let s := if failed then s else s.setFld F.SEC_VERIFY_SEQ_SEQ (leAt (s.imgHeader (k / 2) (k % 2)) 8 4)
      if failed then err s else (0, s)

/-- FLASH_CMD_DONE (R552): the flash command completes; `failed`: a timeout or status error. -/
def execFlashCmdDone (failed : Bool) (s : State) : Out :=
  match s.sec.flashOp with
  | none => .next s
  | some f =>
    let (r, s) := s.flashRun f failed
    let s := s.setSec { s.sec with flashOp := none }
    .next ((s.setFld F.SEC_FLASH_CMD_RESULT r).setFld F.SEC_FLASH_CMD_BUSY 0)

/-! ## Measurements, identity and attestation (R547, R548, R554, R555) -/

/-- MEAS[m] as 32 bytes, and written. -/
def State.meas (s : State) (m : Nat) : List Byte := (List.range 8).flatMap (fun w => leBytes 4 (s.fld F.SEC_MEAS_DIGEST 0 (8 * m + w)))
def State.setMeas (s : State) (m : Nat) (d : List Byte) : State :=
  (List.range 8).foldl (fun s w => s.setFld F.SEC_MEAS_DIGEST (leAt d (4 * w) 4) 0 (8 * m + w)) s

/-- EXTEND.GO: ignored while BUSY is 1. -/
def State.extendGo (s : State) : State :=
  if s.flag F.SEC_EXTEND_BUSY then s
  else (s.setSec { s.sec with extendRun := some s.sec.extendData }).setFld F.SEC_EXTEND_BUSY 1

/-- EXTEND (R547). -/
def execExtend (s : State) : Out := .next s.extendGo

/-- EXTEND_DONE (R547): MEAS[3] is the SHA-256 of itself and EXTEND_DATA. -/
def execExtendDone (s : State) : Out :=
  match s.sec.extendRun with
  | none => .next s
  | some d =>
    let s := s.setMeas 3 (sha256 (s.meas 3 ++ leBytes 32 d.toNat))
    .next ((s.setSec { s.sec with extendRun := none }).setFld F.SEC_EXTEND_BUSY 0)

/-- The DeviceID key (R547). -/
def deviceIdKey : Nat := deriveKey (beBytes 32 Config.uds.toNat) (asciiOf "GK5120 DeviceID")

/-- The bytes of a table window in ascending address. -/
def State.windowBytes (s : State) (a n : Nat) : List Byte := (List.range (n / 4)).flatMap (fun i => leBytes 4 (s.rd (a + 4 * i)).toNat)

/-- The digests of the active copies of ROU, TRE and VIA (R554). -/
def State.tableDigests (s : State) : List Byte :=
  let t (b : Bool) (x y n : Nat) : List Byte := s.windowBytes (if b then y else x) n
  let rou := s.flag F.ROU_TBL_CTRL_ACTIVE
  let tre := s.flag F.TRE_TBL_CTRL_ACTIVE
  sha256 (t rou 0x1000000 0x1200000 0x200000 ++ t rou 0x1400000 0x1401000 0x1000) ++
  sha256 (t tre 0x1500000 0x1600000 0x100000 ++ t tre 0x1900000 0x1A00000 0x100000) ++
  sha256 (t s.viaB 0x1800000 0x1820000 0x20000 ++ t s.viaB 0x1840000 0x1860000 0x20000)

/-- The first 448 bytes of a report (Table 6), as they stand at GO. -/
def State.reportBody (s : State) : List Byte :=
  let img (i : Nat) : List Byte := leBytes 4 (s.fld F.SEC_IMG_SEQ_SEQ 0 i) ++ leBytes 2 (s.fld F.SEC_IMG_SVN 0 i) ++
    [BitVec.ofNat 8 (2 + i), BitVec.ofNat 8 (s.fld F.SEC_IMG_COPY 0 i + 2 * s.fld F.SEC_IMG_LOADED 0 i)]
  leBytes 4 0x41545354 ++ leBytes 2 1 ++ leBytes 2 512 ++ leBytes 8 s.ftime ++ leBytes 2 s.routerId ++
    leBytes 2 (s.fld F.PWR_RESET_STAT_COUNT) ++ leBytes 4 (s.rd (F.DEV_PART_ID_PART.addr 0 0)).toNat ++ leBytes 16 Config.serial.toNat ++
    (List.range 8).flatMap (fun i => leBytes 4 (s.fld F.SEC_NONCE_NONCE 0 i)) ++ (List.range 4).flatMap s.meas ++
    (List.range 4).flatMap img ++ tblSeqs.flatMap (fun a => leBytes 4 (s.rd a).toNat) ++ s.tableDigests ++
    [BitVec.ofNat 8 s.sec.keySlot, 0#8] ++ List.replicate 6 0#8 ++ ecPublic s.sec.aliasKey.toNat ++ List.replicate 16 0#8

/-- ATTEST.GO: ignored while BUSY is 1 (R554). -/
def State.attestGo (s : State) : State :=
  if s.flag F.SEC_ATTEST_BUSY then s
  else
    let s := s.setSec { s.sec with attestBody := s.reportBody, attestVoid := 0 }
    (s.setFld F.SEC_ATTEST_BUSY 1).setFld F.SEC_ATTEST_DONE 0

/-- ATTEST (R554). -/
def execAttest (s : State) : Out := .next s.attestGo

/-- The words of a window written from bytes. -/
def State.putWindow (s : State) (a : Nat) (d : List Byte) : State :=
  (List.range ((d.length + 3) / 4)).foldl (fun s i => s.wr (a + 4 * i) (BitVec.ofNat 32 (leAt d (4 * i) 4))) s

/-- The signature of an attestation report by the alias key, and free bytes before there is such a key. -/
def State.attestSign (s : State) (b : List Byte) : List Byte × State :=
  if s.sec.aliasKey = 0 then
    ((List.range 64).map (fun i => BitVec.ofNat 8 (Config.choice (2 ^ 32 * (s.takeFree.1 + 1) + i))), s.takeFree.2)
  else
    let g := ecSign s.sec.aliasKey.toNat (sha256 b)
    (beBytes 32 g.1 ++ beBytes 32 g.2, s)

/-- ATTEST_DONE (R554, R555): the digest of a table that has swapped is 32 zero bytes; the alias key signs bytes 0–447. Before the
alias key is made, no rule gives the signature. -/
def execAttestDone (s : State) : Out :=
  if ¬ s.flag F.SEC_ATTEST_BUSY then .next s
  else
    let v := s.sec.attestVoid
    let b := (List.range 3).foldl (fun b t => if v.testBit t then overwrite b (264 + 32 * t) (List.replicate 32 0#8) else b) s.sec.attestBody
    let b := overwrite b 361 [BitVec.ofNat 8 v]
    let r := s.attestSign b
    let s := r.2.putWindow 0x3800000 (b ++ r.1)
    .next (((s.setSec { s.sec with attestBody := [], attestVoid := 0 }).setFld F.SEC_ATTEST_BUSY 0).setFld F.SEC_ATTEST_DONE 1)

/-- A write of DEV.BOOT.DONE (R546): READY_OUT asserts; it stays deasserted in boot hold (R550). -/
def State.bootDone (s : State) : State :=
  if s.bootHold ∨ s.pwr.inReset.isSome then s else { s with pwr := { s.pwr with ready := true } }

/-- BOOT_DONE (R546). -/
def execBootDone (s : State) : Out := .next s.bootDone

/-! ## The boot sequence (R541, R542, R545, R550) -/

/-- Booting: the reset hold has ended, and the boot has neither completed nor ended in boot hold. -/
def State.booting (s : State) : Bool := s.pwr.inReset.isNone && !s.bootHold && decide (s.sec.bootStep < 7)

/-- Boot ends in boot hold (R550). -/
def State.toHold (s : State) : State := (s.setSec { s.sec with cfgOn := false, cfgBody := [] }).setFld F.DEV_BOOT_STAGE 0xE

/-- A step is done. -/
def State.bootTo (s : State) (n : Nat) : State := (s.setSec { s.sec with bootStep := n }).setFld F.DEV_BOOT_STAGE n

/-- REASON_A or REASON_B of a type. -/
def State.imgReason (s : State) (i c : Nat) : Nat := if c = 0 then s.fld F.SEC_IMG_REASON_A 0 i else s.fld F.SEC_IMG_REASON_B 0 i

/-- The reason of a copy recorded; a copy present but not valid raises kind 0x01 (R542). -/
def State.setReason (s : State) (i c r : Nat) : State :=
  let s := s.setFld (if c = 0 then F.SEC_IMG_REASON_A else F.SEC_IMG_REASON_B) r 0 i
  if r = 0 ∨ r = 0x0F then s else s.raise 707 0x01 ((2 + i) * 256 + c * 64 + r)

/-- The copy that R541 picks from the reasons recorded. -/
def State.pickCopy (s : State) (i : Nat) : Option Nat :=
  let a := s.imgReason i 0 = 0
  let b := s.imgReason i 1 = 0
  let seq (c : Nat) : Nat := leAt (s.imgHeader i c) 8 4
  if a ∧ b then
    let p := if seq 0 < seq 1 then 1 else 0
    some (if s.fld F.DEV_BOOT_BOOT_SEL = 2 then 1 - p else p)
  else if a then some 0
  else if b then some 1
  else none

/-- A copy is chosen: IMG, IMG_SEQ and FLASH_PROT show it. -/
def State.takeCopyOf (s : State) (i c : Nat) : State :=
  let h := s.imgHeader i c
  let s := ((s.setFld F.SEC_IMG_LOADED 1 0 i).setFld F.SEC_IMG_COPY c 0 i).setFld F.SEC_IMG_SVN (leAt h 12 2) 0 i
  let p := s.fld F.SEC_FLASH_PROT_COPY
  (s.setFld F.SEC_IMG_SEQ_SEQ (leAt h 8 4) 0 i).setFld F.SEC_FLASH_PROT_COPY
    ((if p.testBit i then p - 2 ^ i else p) + c * 2 ^ i)

/-- No copy of a type is chosen. -/
def State.noCopyOf (s : State) (i : Nat) : State :=
  let s := ((s.setFld F.SEC_IMG_LOADED 0 0 i).setFld F.SEC_IMG_COPY 0 0 i).setFld F.SEC_IMG_SVN 0 0 i
  let p := s.fld F.SEC_FLASH_PROT_COPY
  (s.setFld F.SEC_IMG_SEQ_SEQ 0 0 i).setFld F.SEC_FLASH_PROT_COPY (if p.testBit i then p - 2 ^ i else p)

/-- The copy chosen for a type. -/
def State.copyOf (s : State) (i : Nat) : Nat := s.fld F.SEC_IMG_COPY 0 i

/-- The choice of a type's copy by the headers (R541). -/
def State.chooseImg (s : State) (i : Nat) : State :=
  match s.pickCopy i with
  | some c => s.takeCopyOf i c
  | none => s.noCopyOf i

/-- The chosen copy's body has been read: 0 it is good, 1 the other copy's body is read next, 2 no copy is left (R541). -/
def State.bodyCheck (s : State) (i : Nat) (failed : Bool) : Nat × State :=
  let c := s.copyOf i
  let bad := failed || decide (sha256 (s.imgBody i c) ≠ slice (s.imgHeader i c) 32 32)
  if ¬ bad then (0, s)
  else
    let s := s.setReason i c (if failed then 0x07 else 0x03)
    if ¬ mget false s.sec.bodyFailed i ∧ s.imgReason i (1 - c) = 0 then
      (1, (s.setSec { s.sec with bodyFailed := mput false s.sec.bodyFailed i true }).takeCopyOf i (1 - c))
    else (2, s.noCopyOf i)

/-- A required type has no valid copy: kind 0x02 and boot hold (R542). -/
def State.imgMissing (s : State) (i : Nat) : State := (s.raise 707 0x02 ((2 + i) * 256)).toHold

/-- Step 1: the ROM reads all eight headers and chooses the keeper firmware. `failed` has a bit for each header that could not be
read, copy c of type 2 + i at bit 2i + c. -/
def State.bootStart (s : State) (failed : Byte) : State :=
  let s := (List.range 8).foldl (fun s k => s.setReason (k / 2) (k % 2) (s.copyReason (k / 2) (k % 2) false (bitAt failed k))) s
  let s := (List.range 4).foldl State.chooseImg s
  let s := s.setMeas 3 (List.replicate 32 0#8)
  if s.flag F.SEC_IMG_LOADED 0 0 then s.bootTo 1 else (s.bootTo 1).imgMissing 0

/-- The end of step 6: MEAS[1] and MEAS[2], CDI_E, the alias key and certificate, and the chain's window (R545, R547, R548). -/
def State.bootIdentity (s : State) : State :=
  let m2 := if s.flag F.SEC_IMG_LOADED 0 2 then sha256 (s.imgHeader 2 (s.copyOf 2)) else List.replicate 32 0#8
  let s := (s.setMeas 1 (sha256 (s.imgHeader 1 (s.copyOf 1)))).setMeas 2 m2
  let e := hmac (beBytes 32 s.sec.cdiK.toNat) (s.meas 1 ++ s.meas 2)
  let k := deriveKey e (asciiOf "GK5120 Alias")
  let tbs := Config.aliasTbs (ecPublic k) (s.meas 0 ++ s.meas 1 ++ s.meas 2)
  let sig := ecSign deviceIdKey (sha256 tbs)
  let chain := (if s.flag F.SEC_IMG_LOADED 0 3 then s.imgBody 3 (s.copyOf 3) else []) ++ certOf tbs sig.1 sig.2
  let s := s.setSec { s.sec with cdiE := BitVec.ofNat 256 (beNat e), aliasKey := BitVec.ofNat 256 k, cfgOn := false, cfgBody := [] }
  ((s.putWindow 0x3801000 (chain.take 65536)).setFld F.SEC_CERT_LEN_BYTES chain.length).bootTo 6

/-- Step 4: the DeviceID certificate's public key is compared with the derived key; a mismatch or an absent chain raises kind 0x05
(R545). -/
def State.bootChain (s : State) : State :=
  let key := if s.flag F.SEC_IMG_LOADED 0 3 then ((certSplit 8 (s.imgBody 3 (s.copyOf 3)))[1]?).bind certKey else none
  let s := if ¬ s.flag F.SEC_IMG_LOADED 0 3 then s.raise 707 0x05 0
    else if key = some (ecPublic deviceIdKey) then s else s.raise 707 0x05 1
  s.bootTo 4

/-- Step 7: hart 0 starts in M mode at LOAD_ADDR (R545). -/
def State.bootRun (s : State) : State :=
  let s := s.setFld F.ENG_RESET_PC_PC (leAt (s.imgHeader 1 (s.copyOf 1)) 24 8) 0
  let s := (s.bootTo 7).hartRunWrite 0 0 (s.rd (F.ENG_HART_RUN_RUN.addr 0 0) ||| 1#32)
  let s := s.raise 708 0x02 (7 + s.fld F.DEV_BOOT_BOOT_SEL * 256)
  if s.fld F.PWR_RESET_STAT_LAST = 1 then
    (List.range 8).foldl (fun s o => if (s.fld F.PWR_PIN_IDLE_VALID).testBit o then s else s.raise 706 0x05 o) s
  else s

end Sys2Proof.Machine
end

