-- ==== Sys2Proof/Machine/Tally.lean ====
section
/-!
DEFINITION. Machine/Tally.lean: the tally banks (chapter 22): latching, clearing and the hardware dumps.
-/
namespace Sys2Proof.Machine

/-- A live counter as a latch copies it: all ones where its storage has failed (R566), and a free value in the engines' slots
whose classes are a matter of the pipeline's timing (log 32). -/
def State.talLive (s : State) (b sl : Nat) : W64 :=
  if mget false s.tal.eccBad (b * 256 + sl) then BitVec.allOnes 64
  else if 192 ≤ b ∧ b < 224 ∧ 9 ≤ sl ∧ sl ≤ 14 then Config.microCount (65536 + b * 256 + sl) s.clk
  else mget 0#64 s.tal.live (b * 256 + sl)

/-- A latch of a bank (R567): all 256 counters and OVF into the snapshot, and the fabric time. -/
def State.talLatch (s : State) (b : Nat) : State :=
  let snap := (List.range 256).foldl (fun m sl => mput 0#64 m (b * 256 + sl) (s.talLive b sl)) s.tal.snap
  let ovf := (List.range 8).foldl (fun m i => mput 0#32 m (b * 8 + i) (s.rd (F.TAL_OVF_SLOT.addr b i))) s.tal.snapOvf
  ({ s with tal := { s.tal with snap := snap, snapOvf := ovf } }).setFld F.TAL_SNAP_TIME_TIME s.ftime b

/-- A clear of a bank's live counters (R567); slots whose storage had failed read again (R566). -/
def State.talClear (s : State) (b : Nat) : State :=
  { s with tal := { s.tal with live := s.tal.live.filter (fun e => decide (e.1 / 256 ≠ b)),
                               eccBad := s.tal.eccBad.filter (fun e => decide (e.1 / 256 ≠ b)) } }

/-- TAL_SNAP (R567). -/
def execTalSnap (b : Byte) (s : State) : Out := .next (s.talLatch b.toNat)

/-- TAL_CLEAR (R567). -/
def execTalClear (b : Byte) (s : State) : Out := .next (s.talClear b.toNat)

/-! ## Hardware dumps (R569–R571) -/

/-- The enabled banks, in ascending order. -/
def State.dumpBanks (s : State) : List Nat := (List.range 256).filter (fun b => (s.fld F.TAL_BANK_EN_BANKS 0 (b / 32)).testBit (b % 32))

/-- A latched bank as the record holds it (Table 4). -/
def State.dumpBank (s : State) (b : Nat) : List Byte :=
  leBytes 2 b ++ leBytes 6 0 ++ (List.range 8).flatMap (fun i => leBytes 4 (mget 0#32 s.tal.snapOvf (b * 8 + i)).toNat) ++ leBytes 8 0 ++
    (List.range 256).flatMap (fun sl => leBytes 8 (mget 0#64 s.tal.snap (b * 256 + sl)).toNat)

/-- The record of a dump whose banks have been latched (Table 4). -/
def State.dumpRecord (s : State) (seq : Nat) : List Byte :=
  let bs := s.dumpBanks
  leBytes 4 0x54414C59 ++ leBytes 2 1 ++ leBytes 2 bs.length ++ leBytes 8 s.ftime ++ leBytes 4 seq ++
    leBytes 2 (s.fld F.DEV_ROUTER_ID_ID) ++ leBytes 2 0 ++ (List.range 8).flatMap (fun i => leBytes 4 (s.fld F.TAL_BANK_EN_BANKS 0 i)) ++
    leBytes 8 0 ++ bs.flatMap s.dumpBank

/-- Bytes of a record of `e` banks (R569). -/
def dumpLen (e : Nat) : Nat := 64 + 2096 * e

/-- The ring's bytes: 2^RING_LOG2, other values than 16 to 30 taken as 20 (R572). -/
def State.ringBytes (s : State) : Nat :=
  let k := s.fld F.TAL_DUMP_CFG_RING_LOG2
  2 ^ (if 16 ≤ k ∧ k ≤ 30 then k else 20)

/-- DEST with 3 taken as 0, and the pier of a dump: 64 for the management port. -/
def State.dumpDest (s : State) : Nat := s.fld F.TAL_DUMP_CFG_DEST % 3
def State.dumpPort (s : State) : Nat := if s.dumpDest = 1 then 64 else s.fld F.TAL_DUMP_CFG_PORT

/-- A dump is due: fabric time has reached a multiple of the period in this keeper clock, outside the safe state and boot hold. -/
def State.dumpDue (s : State) : Bool :=
  let p := s.fld F.TAL_DUMP_CFG_PERIOD_US * 1000
  decide (p ≠ 0) && decide (s.ftime % p < 7) && !s.safe && !s.bootHold

/-- A due dump is skipped: the previous one is in progress, its ring is too small, or its pier is not OPEN (R569–R571). -/
def State.dumpSkips (s : State) : Bool :=
  s.tal.dump.isSome || (if s.dumpDest = 0 then decide (s.ringBytes < dumpLen s.dumpBanks.length) else decide (s.session s.dumpPort ≠ SS.open_))

/-- A dump starts: the enabled banks are latched, the sequence advances, and the record goes to its ring or its pier's frames. -/
def State.dumpStart (s : State) : State :=
  let s := s.dumpBanks.foldl State.talLatch s
  let seq := if s.tal.started then (s.fld F.TAL_DUMP_SEQ_SEQ + 1) % 2 ^ 32 else 0
  let r := s.dumpRecord seq
  let off := if s.dumpDest = 0 ∧ s.ringBytes < s.tal.ringNext + r.length then 0 else s.tal.ringNext
  let d : Dump := { record := r, dest := s.dumpDest, port := s.dumpPort, base := s.fld F.TAL_RING_BASE_ADDR / 4096 * 4096, offset := off, seq := seq }
  let s := { s with tal := { s.tal with dump := some d, started := true } }
  let s := s.setFld F.TAL_DUMP_SEQ_SEQ seq
  if d.dest = 0 then s
  else
    let parts := cutParts (s.pmax d.port) r
    (parts.zip (List.range parts.length)).foldl (fun s x =>
      s.queueSpan d.port { f := { flags := if x.2 + 1 = parts.length then 1 else 0, op := 0x31, target := seq, opspec := x.2, payload := x.1.2 } }) s

/-- TALLY_DUMP (R569). -/
def execTallyDump (s : State) : Out :=
  if ¬ s.dumpDue then .next s
  else if s.dumpSkips then .next (s.count F.TAL_CNT_SKIP_COUNT 0)
  else .next s.dumpStart

/-- TALLY_DUMP_DONE (R570): the record has been written to HBM, its first 64 bytes last, and LAST_OFF gives its offset; or the last
frame of it has been sent. Bytes beyond the end of HBM are not written. -/
def execTallyDumpDone (s : State) : Out :=
  match s.tal.dump with
  | none => .next s
  | some d =>
    let s' := { s with tal := { s.tal with dump := none } }
    if d.dest = 0 then
      let a := d.base + d.offset
      let s' := if hbmBytes < a + d.record.length then s' else (s'.memWrite (a + 64) (d.record.drop 64)).memWrite a (d.record.take 64)
      let s' := { s' with tal := { s'.tal with ringNext := roundUp 4096 (d.offset + d.record.length) } }
      .next (s'.setFld F.TAL_LAST_OFF_OFFSET d.offset).drain
    else if (s.pier d.port).wait.any (fun t => decide (t.f.op = 0x31) && decide (t.f.target = d.seq)) then .next s
    else .next s'

end Sys2Proof.Machine
end

