-- ==== Sys2Proof/Machine/Bus.lean ====
section
/-!
DEFINITION. Machine/Bus.lean: what a register access that the arbiter has granted does (chapter 23): the words that registers
and windows read as, commits, table swaps, the common header's controls, and the effect of every register write.
-/
namespace Sys2Proof.Machine

/-- The state that a command of this block ends in. -/
def Out.state (s : State) : Out → State
  | .next t => t
  | _ => s

/-- A register word that exists only in the first page of its block: CTG's MRING fields (R319), the queue table's registers of ENG
(R424) and the dump fields of TAL (R572). -/
def absentWord (b : Blk) (n off : Nat) : Bool :=
  decide (n ≠ 0) &&
  (match b with
   | .ctg => decide (0x180 ≤ off) && decide (off < 0x1A8)
   | .eng => decide (0x140 ≤ off) && decide (off < 0x14C)
   | .tal => decide (0x180 ≤ off) && decide (off < 0x1C0)
   | _ => false)

/-! ## What registers read as (R518, R519, R535, R556, R557, R572) -/

/-- The event sources of a block's instance (R501). -/
def pageSrcs (b : Blk) (n : Nat) : List Nat :=
  match b with
  | .lnk => [n] | .hpt | .spn => [256 + n] | .til => [320 + n] | .eng => [352 + 2 * n, 353 + 2 * n] | .abc => [416 + n]
  | .hbm => (List.range 4).map (fun i => 432 + 4 * n + i)
  | .fwd => [448 + n] | .hom => [480 + n] | .xlt => [488 + n / 2] | .lck => [504] | .ctg => [512 + n] | .mat => [640 + n]
  | .rel => [656 + n] | .sch => [672 + n] | .plc => [688] | .rou => [689] | .tre => [690] | .via => [691] | .pwr => [704]
  | .clk => [705] | .sns => [706] | .sec => [707] | .dev => [708] | .mgt => [709] | .kst => [752] | .rfa => [753]
  | .srd | .tal => []

/-- The live records of an instance's sources. -/
def State.pageRecs (s : State) (b : Blk) (n : Nat) : List KRec :=
  (s.liveCounts.map s.logRec).filter (fun r => (pageSrcs b n).contains r.src)

/-- The domain in which an instance lies, where it is one that sleeps. -/
def State.instDomain (s : State) (b : Blk) (n : Nat) : Option Nat :=
  if b = .srd then some (Dom.tile (n / 16)) else match pageSrcs b n with
    | src :: _ => s.srcDomain src
    | [] => none

/-- STATUS (R518). -/
def State.statusWord (s : State) (b : Blk) (n : Nat) : Nat :=
  let rs := s.pageRecs b n
  let resting : Bool := match s.instDomain b n with
    | some d => decide ((s.dom d).st = .asleep) || decide ((s.dom d).st = .waking)
    | none => false
  let st := if rs.any (fun r => decide (2 ≤ r.sev)) then 3 else if ¬ s.enabled b n then 0 else if resting then 2 else 1
  st + (if rs.any (fun r => decide (1 ≤ r.sev)) then 4 else 0)

/-- EVT_RAW (R518). -/
def State.evtRaw (s : State) (b : Blk) (n : Nat) : Nat :=
  (s.pageRecs b n).foldl (fun m r => m ||| 2 ^ evtBit r.src r.kind) 0

/-- LOG_STAT and REACT_STAT (R519). -/
def State.logStat (s : State) : Nat :=
  (if s.liveSeverity 3 then 2 ^ 31 else 0) +
  (if s.liveCounts.any (fun c => decide ((s.logRec c).src = 752) && decide ((s.logRec c).kind = 0x01)) then 2 ^ 30 else 0) + s.logLive
def State.reactStat (s : State) : Nat :=
  match s.kst.react with
  | none => 0
  | some t => 2 ^ 31 + min 65535 ((t - 10 * s.clk + 9999) / 10000)

/-- OCCUPANCY of a pipeline: cells of packets that entered on its tile (R64). -/
def State.occupancy (s : State) (t : Nat) : Nat :=
  (s.fwd.pkts.map (fun (e : Nat × Pkt) => match e.2.inLink with
    | some l => if s.linkTile l = t then cellsOf e.2.len else 0
    | none => 0)).sum

/-- TSTATE of a tile (R171): OFF, WAKING, AWAKE, or KEEP while it sleeps with its PLLs in keep mode (R162). -/
def State.tstate (s : State) (t : Nat) : Nat :=
  if ¬ s.enabled .til t then 0 else match (s.dom (Dom.tile t)).st with
    | .waking => 1
    | .awake | .entering => 2
    | .asleep => if (s.tileSt t).pll0 || (s.tileSt t).pll1 then 3 else 0

/-- The word that a register reads where it is not simply stored: a view of the rest of the state. -/
def State.viewWord (s : State) (b : Blk) (n off : Nat) (w : W32) : W32 :=
  if off = 0x00C then BitVec.ofNat 32 (s.statusWord b n)
  else if off = 0x010 then BitVec.ofNat 32 (s.evtRaw b n)
  else match b with
    | .kst => if off = 0x118 then BitVec.ofNat 32 s.logStat
        else if off = 0x11C then BitVec.ofNat 32 s.reactStat
        else if off = 0x150 then (if s.legacyAny then 1 else 0) else w
    | .fwd => if off = 0x134 then BitVec.ofNat 32 (s.occupancy n) else w
    | .til => if off = 0x104 then setBits w 28 4 (s.tstate n) else w
    | .srd => if off = 0x104 ∧ ¬ s.claimedLane n then
          setBits w F.SRD_STATUS_MODE.lo F.SRD_STATUS_MODE.w (if s.lanePowered n then s.modeOf n else 0) else w
    | .via => if off = 0x140 then s.time.now.setWidth 32 else if off = 0x144 then (s.time.now >>> 32).setWidth 32 else w
    | .pwr => if off = 0x114 then setBits w 0 4 (((List.range 4).map (fun i => if mget false s.pwr.hbmSr i then 2 ^ i else 0)).sum) else w
    | .sns => if off = 0x140 then
          let (lo, hi) := s.coreWindow (s.fld F.PWR_AVS_TARGET_MV)
          BitVec.ofNat 32 (lo * 0x10000 + hi) else w
    | .sec => if off = 0x120 then
          BitVec.ofNat 32 ((if s.sec.keySlot < 4 then s.sec.keySlot else 0) * 256 + s.ownerBits KeySlot.shownRevoked * 16 + s.ownerBits KeySlot.shownProgrammed)
        else if off = 0x124 then BitVec.ofNat 32 ((List.range 3).map (fun j => mget 0 s.sec.svnMin j % 256 * 256 ^ j)).sum else w
    | .dev => if 0x110 ≤ off ∧ off < 0x120 then (Config.serial >>> (8 * (off - 0x110))).setWidth 32 else w
    | .tal => if 0x800 ≤ off then
          let v := mget 0#64 s.tal.snap (n * 256 + (off - 0x800) / 8)
          if off % 8 = 0 then v.setWidth 32 else (v >>> 32).setWidth 32 else w
    | _ => w

/-- A word of a block page as it reads now: active values, the shadows of RWS fields (R583), views, and 0 at WO fields and reserved
bits and addresses (R582, R588). -/
def State.pageWord (s : State) (b : Blk) (n a : Nat) : W32 :=
  let off := a % 0x1000
  match regWordAt a with
  | none => 0#32
  | some w =>
    if absentWord b n off then 0#32
    else
      let m := BitVec.ofNat 32 w.rws
      let v := s.viewWord b n off ((s.rd a &&& ~~~m) ||| (s.rdShadow a &&& m))
      (v &&& BitVec.ofNat 32 (w.rw ||| w.rws ||| w.w1c ||| w.ro)) ||| BitVec.ofNat 32 w.ones

/-- A word of the context summary (R318); a level-1 read sees only contexts bound to its port. -/
def State.summaryWord (s : State) (ag : Agent) (o : Nat) : W32 :=
  let c := o / 16
  let x := s.ctx c
  let shown : Bool := match ag with
    | .pier p => decide (s.agentLevel ag ≠ 1) || decide (s.ctxPort c = p.val)
    | _ => true
  if ¬ shown then 0#32
  else if o % 16 / 4 = 0 then BitVec.ofNat 32 (x.state + x.haltCause % 256 * 2 ^ 8 + s.ctxPort c % 256 * 2 ^ 16)
  else BitVec.ofNat 32 (if o % 16 / 4 = 1 then x.cmdTail else if o % 16 / 4 = 2 then x.cmdHead else x.cqWritten)

/-- A word that an address reads as now, without the latches. -/
def State.liveWord (s : State) (ag : Agent) (a : Nat) : W32 :=
  if ¬ mapped a then 0#32
  else match pageKind (a / 0x1000) with
    | .block b n => s.pageWord b n a
    | .window .summary f => s.summaryWord ag (a - f * 0x1000)
    | .window .queueOcc f => BitVec.ofNat 32 (s.queue ((a - f * 0x1000) / 4)).ents.length
    | .window _ _ => s.rd a
    | .unmapped => 0#32

/-! ## Reads -/

/-- Which word of a pair an address is (R585). -/
def pairHalf (a : Nat) : PairHalf := match pageKind (a / 0x1000) with
  | .block _ _ => match regWordAt a with
    | some w => w.pair
    | none => .single
  | .window w _ => if w.wide then (if a % 8 = 0 then .low else .high) else .single
  | .unmapped => .single

/-- The read latch of an agent (R585): a low word latches the high one, and the matching high word returns it once. -/
def State.latchRead (s : State) (ag : Agent) (a : Nat) : W32 × State :=
  let v := s.liveWord ag a
  match pairHalf a with
  | .single => (v, s)
  | .low => (v, { s with regs := { s.regs with latch := minsert s.regs.latch ag.key (a + 4, s.liveWord ag (a + 4)) } })
  | .high => match mfind s.regs.latch ag.key with
    | some (x, h) => if x = a then (h, { s with regs := { s.regs with latch := merase s.regs.latch ag.key } }) else (v, s)
    | none => (v, s)

/-- The host port of a page that shows one, and the offset within its registers; the MGT page shows port 64 (R264). -/
def portAt (b : Blk) (n off : Nat) : Option (Nat × Nat) :=
  match b with
  | .hpt => some (n, off)
  | .mgt => if off < 0x200 then some (64, off) else none
  | _ => none

/-- The pier of a page that shows one, and the offset within its registers (R293). -/
def pierAt (b : Blk) (n off : Nat) : Option (Nat × Nat) :=
  match b with
  | .spn => some (n, off)
  | .mgt => if 0x200 ≤ off then some (64, off - 0x200) else none
  | _ => none

/-- A granted read of one word: its value, and what reading it does (R263, R396, R508, R585). -/
def State.busRead (s : State) (ag : Agent) (a : Nat) : W32 × State :=
  let a := a / 4 * 4
  let s := s.wakePage (a / 0x1000)
  match pageKind (a / 0x1000) with
  | .window .log f => let o := a - f * 0x1000; s.logRead ag (o / 16) (o % 16 / 4)
  | .block b n =>
    let off := a % 0x1000
    if b = .xlt ∧ a = F.XLT_PTE_DATA_DATA.addr n 0 then
      let s := Out.state s (execPteDataRead ag (Fin.ofNat 32 n) s)
      (s.rd a, s)
    else
      let (v, s) := s.latchRead ag a
      match portAt b n off with
      | some (p, 0x16C) => (v, Out.state s (execTsTimePop (Fin.ofNat 65 p) s))
      | _ => (v, s)
  | _ => s.latchRead ag a

/-! ## Tables in two copies (R97–R100, R195, R231, R413) -/

/-- The table of a window, 0 ROU, 1 TRE, 2 VIA, 3 the queue table, and its copy. -/
def winTable : Win → Option (Nat × Bool)
  | .route c | .detour c => some (0, c)
  | .tree c | .member c => some (1, c)
  | .gate c | .viaduct c => some (2, c)
  | .queue c => some (3, c)
  | _ => none

/-- The fields of a table's TBL_CTRL, its page, and the source and kind of a refused write; the queue table has none. -/
def tblActive (t : Nat) : Fld := if t = 0 then F.ROU_TBL_CTRL_ACTIVE else if t = 1 then F.TRE_TBL_CTRL_ACTIVE else if t = 2 then F.VIA_TBL_CTRL_ACTIVE else F.ENG_QTBL_CTRL_ACTIVE
def tblNext (t : Nat) : Fld := if t = 0 then F.ROU_TBL_CTRL_NEXT else if t = 1 then F.TRE_TBL_CTRL_NEXT else if t = 2 then F.VIA_TBL_CTRL_NEXT else F.ENG_QTBL_CTRL_NEXT
def tblBusy (t : Nat) : Fld := if t = 0 then F.ROU_TBL_CTRL_SYNC_BUSY else if t = 1 then F.TRE_TBL_CTRL_SYNC_BUSY else if t = 2 then F.VIA_TBL_CTRL_SYNC_BUSY else F.ENG_QTBL_CTRL_SYNC_BUSY
def tblPage (t : Nat) : Nat := if t = 0 then 0x520 else if t = 1 then 0x530 else if t = 2 then 0x540 else 0x700
def tblRefuse (t : Nat) : Option (Nat × Nat) := if t = 0 then some (689, 0x04) else if t = 1 then some (690, 0x04) else if t = 2 then some (691, 0x0C) else none

/-- The table of a page. -/
def pageTable (p : Nat) : Option Nat := (List.range 4).find? (fun t => tblPage t = p)

/-- A write to a copy is refused: it is active, it still counts as active during a swap, or a sync runs (R98, R99, R195). -/
def State.tableShut (s : State) (t : Nat) (c : Bool) : Bool :=
  s.flag (tblBusy t) || (s.flag (tblActive t) == c) || mget false s.rou.swapping t || (decide (t = 2) && s.via.swapFrom.isSome)

/-- The windows of a table: first page of each copy, and its pages. -/
def tableWins (t : Nat) : List (Nat × Nat × Nat) :=
  if t = 0 then [(0x1000, 0x1200, 0x200), (0x1400, 0x1401, 1)] else if t = 1 then [(0x1500, 0x1600, 0x100), (0x1900, 0x1A00, 0x100)]
  else if t = 2 then [(0x1800, 0x1820, 0x20), (0x1840, 0x1860, 0x20)] else [(0x2800, 0x2810, 0x10)]

/-- Copy one range of window pages over another. -/
def State.copyPages (s : State) (src dst n : Nat) : State :=
  let inR (p a : Nat) : Bool := decide (p * 0x1000 ≤ a) && decide (a < (p + n) * 0x1000)
  let from_ := s.regs.act.filter (fun e => inR src e.1)
  let kept := s.regs.act.filter (fun e => !inR dst e.1)
  { s with regs := { s.regs with act := from_.foldl (fun m e => minsert m (e.1 - src * 0x1000 + dst * 0x1000) e.2) kept } }

/-- The active copy of a table is copied into the other (R100). -/
def State.syncCopies (s : State) (t : Nat) : State :=
  let b := s.flag (tblActive t)
  (tableWins t).foldl (fun s w => if b then s.copyPages w.2.1 w.1 w.2.2 else s.copyPages w.1 w.2.1 w.2.2) s

/-- A write of TBL_CTRL.SYNC (R100); a sync that runs goes on. -/
def State.tblSync (s : State) (t : Nat) : State := s.setFld (tblBusy t) 1

/-! ## Commits (R584 and the chapters' refusals) -/

/-- The first queue that a swap of the queue table may not touch: it holds entries, and its BASE, DEPTH_LOG2 or DATA_BASE would
change or its VALID would be cleared (R413). -/
def State.queueBar (s : State) : Option Nat :=
  let b := s.flag (tblActive 3)
  let at_ (c : Bool) (q w : Nat) : Nat := (s.rd64 ((if c then 0x2810000 else 0x2800000) + 16 * q + 8 * w)).toNat
  (s.eng.q.find? (fun (e : Nat × HwQ) =>
    let o := at_ b e.1 0
    let n := at_ (!b) e.1 0
    !e.2.ents.isEmpty &&
      (decide (o / 4096 ≠ n / 4096) || decide (o / 128 % 32 ≠ n / 128 % 32) || decide (at_ b e.1 1 / 4096 ≠ at_ (!b) e.1 1 / 4096) ||
       (o.testBit 0 && !n.testBit 0)))).map (·.1)

/-- A captured commit of a page is refused by its block: the source, kind and detail of the refusal (R61, R171, R187, R319, R413,
R557). -/
def State.commitBar (s : State) (p : Nat) : Option (Nat × Nat × Nat) :=
  let swaps (t : Nat) : Bool := decide (s.pendFld (tblNext t) ≠ s.fld (tblActive t))
  match pageKind p with
  | .block .dev _ =>
    if s.liveLinks ≠ [] ∨ s.ep.ctx.any (fun (e : Nat × Ctx) => decide (e.2.state = CS.enabled)) then
      some (708, 0x01, s.pendFld F.DEV_ROUTER_ID_ID) else none
  | .block .fwd t =>
    let die := t / 16
    let s' := s.applyVals p
    if s'.reserveOk die none then none
    else some (448 + t, 0x09, min (s'.dieReserve die none) (2 ^ 24 - 1) * 2 ^ 40 + s'.diePool die * 2 ^ 20)
  | .block .til t =>
    let bars (f : Fld) (g : Nat) : Bool := decide (s.pendFld f t ≠ s.fld f t) && (List.range 8).any (fun i => s.claimedLane (16 * t + 8 * g + i))
    if bars F.TIL_CFG_FAMILY0 0 then some (320 + t, 0x01, (16 * t) * 2 ^ 32)
    else if bars F.TIL_CFG_FAMILY1 1 then some (320 + t, 0x01, (16 * t + 8) * 2 ^ 32) else none
  | .block .via _ =>
    if swaps 2 then (s.gateFaults (s.pendFld F.VIA_TBL_CTRL_NEXT == 1)).map (fun e => (691, 0x06, e.1 * 256 + e.2)) else none
  | .block .ctg 0 =>
    if s.flag F.CTG_MRING_CTRL_ENABLE ∧ (mget [] s.regs.pend p) ≠ [] then
      some (512, 0x07, s.pendFld F.CTG_MRING_CFG_PORT * 2 ^ 24 + s.pendFld F.CTG_MRING_CFG_ON_MGT) else none
  | .block .eng 0 => if swaps 3 then (s.queueBar).map (fun q => (353, 0x14, q)) else none
  | _ => none

/-- The member slots of the tree table just made active that TRE ignores (R231): kind 0x07 once for each. -/
def State.badSlots (s : State) : State :=
  let base := if s.flag F.TRE_TBL_CTRL_ACTIVE then 0x1A00000 else 0x1900000
  let es := s.regs.act.filter (fun e => decide (base ≤ e.1) && decide (e.1 < base + 0x100000) && bitAt e.2 31)
  es.foldl (fun s e =>
    let t := (e.1 - base) / 256
    let slot := (e.1 - base) % 256 / 4
    let c := bits e.2 0 18
    if (s.localMembers t).any (fun x => decide (x.1 = slot)) then s else s.raise 690 0x07 (t * 2 ^ 48 + slot * 2 ^ 40 + c)) s

/-- With RNG_FIXED, a COMMIT of ROU seeds every pipeline's generator (R101, R608). -/
def State.seedFixed (s : State) : State :=
  if s.flag F.ROU_CFG_RNG_FIXED then
    { s with rou := { s.rou with gen := (List.range 32).map (fun n => (n, seedOf (BitVec.ofNat 64 (s.fld F.ROU_RNG_SEED_SEED + n)))) } }
  else s

/-- A swap of a table's copies at its COMMIT, with the page's other values (R99): what each block does with it. -/
def State.swapNow (s : State) (t : Nat) : State :=
  let p := tblPage t
  let nxt := s.pendFld (tblNext t)
  let swap := decide (nxt ≠ s.fld (tblActive t))
  let s := s.applyVals p
  let s := if swap then (s.setFld (tblActive t) nxt).noteSwap t else s
  let s := if t = 0 then
      let s := if swap then { s with rou := { s.rou with failed := [] } } else s
      s.seedFixed
    else if t = 1 then
      let s := { s with coll := { s.coll with bad := [] } }
      if swap then s.badSlots else s
    else s
  if ¬ swap then s.bumpSeq p
  else
    let s := if mget false s.rou.swapping t then s.bumpSeq p else s
    { s with rou := { s.rou with swapping := mput false s.rou.swapping t true } }

/-- A VIA COMMIT (R195): one that swaps waits for its cycle start; another is applied with the role it sets. -/
def State.viaCommit (s : State) : State :=
  if s.pendFld F.VIA_TBL_CTRL_NEXT ≠ s.fld F.VIA_TBL_CTRL_ACTIVE then
    let at_ := s.fld F.VIA_SWAP_AT_TIME
    { s with via := { s.via with swapFrom := some (if s.ftime < at_ then at_ else s.ftime + 200) } }
  else
    let role := s.fld F.VIA_TIME_CFG_ROLE
    ({ (s.applyPend 0x540) with via := { s.via with swapFrom := none } }).roleApply role

/-- A captured commit takes effect or is refused: at once on pages with tables and on pages without RWS fields, else the pending copy
waits for the point its chapter states (R584). -/
def State.commitGo (s : State) (p : Nat) : State :=
  match s.commitBar p with
  | some (src, kind, d) =>
    let s := s.dropPend p
    if kind = 0x09 ∧ srcBlk src = .fwd then s.raiseSev src kind 1 (BitVec.ofNat 64 d) else s.raise src kind d
  | none =>
    if pageRws p = [] then (s.dropPend p).bumpSeq p
    else match pageTable p with
      | some 2 => s.viaCommit
      | some t => s.swapNow t
      | none => s

/-- The guard of a commit request differs from CFG_SEQ (R584). -/
def State.guardBad (s : State) (p : Nat) (guard : W32) : Bool := decide (guard ≠ 0#32) && decide (guard ≠ s.rd (p * 0x1000 + 0x028))

/-- A write of COMMIT (R584): a guarded request that does not match is refused; a request during a sync waits for its end (R99). -/
def State.commitWrite (s : State) (ag : Agent) (p : Nat) (guard : W32) : State :=
  if s.guardBad p guard then
    let s := (s.count F.RFA_CNT_GUARD_COUNT 0).setFld F.RFA_LAST_REFUSED_ADDR (p * 0x1000 + 0x020) 0
    s.raise 753 0x05 (ag.requestor * 2 ^ 32 + p * 2 ^ 16 + bits (s.rd (p * 0x1000 + 0x028)) 0 16)
  else
    let s := s.commitRequest p
    match pageTable p with
    | some t => if s.flag (tblBusy t) then { s with rou := { s.rou with commitHeld := mput false s.rou.commitHeld t true } } else s.commitGo p
    | none => s.commitGo p

/-- The pending copy of a page is applied at the point its chapter states (R584): here the pages whose blocks take it between two
operations. Links, lanes that are claimed, ports and piers take theirs at their bring-up or session, VIA at its swap. -/
def State.commitApply (s : State) (p : Nat) : State :=
  match pageKind p with
  | .block .lnk _ | .block .hpt _ | .block .spn _ | .block .mgt _ | .block .via _ | .block .rou _ | .block .tre _ => s
  | .block .eng 0 => s
  | .block .srd n => if s.claimedLane n then s else s.applyPend p
  | _ => s.applyPend p

/-! ## The controls of the common header -/

/-- The owner of a lane, or the owners of a tile's lanes, go down with reason 0x07 and their claims lapse (R150). -/
def State.lapseLink (s : State) (l : Nat) : State :=
  let s := if s.lstate l = LS.disabled ∨ s.lstate l = LS.down then s else s.linkDown l 0x07 (some 0)
  let s := s.releaseClaim l
  s.setLink l { s.link l with claimLapsed := true }
def State.lapsePort (s : State) (n : Nat) : State :=
  let s := (s.portDown n 0x07).releasePort n
  s.setPort n { s.port n with restart := false }

/-- The stop of a tile (R150): owners down, PLLs off, lanes off. -/
def State.tileStop (s : State) (t : Nat) : State :=
  let s := (List.range 256).foldl (fun s l => if (s.link l).claimed ∧ s.linkTile l = t then s.lapseLink l else s) s
  let s := (List.range 64).foldl (fun s n => if (s.port n).claimed ∧ s.portTile n = t then s.lapsePort n else s) s
  let x := s.tileSt t
  let s := if x.pll0 || x.pll0Starting then s.setPll t 0 false false else s
  let s := if x.pll1 || x.pll1Starting then s.setPll t 1 false false else s
  (List.range 16).foldl (fun s i => (s.setLane (16 * t + i) 0).setPrbsLock (16 * t + i) false) s

/-- The stop of a lane (R150). -/
def State.laneStop (s : State) (n : Nat) : State :=
  let k := s.fld F.SRD_OWNER_NUMBER n
  let s := if ¬ s.claimedLane n then s else if s.flag F.SRD_OWNER_HOST n then s.lapsePort k else s.lapseLink k
  (s.setLane n 0).setPrbsLock n false

/-- What a block's instance does when it stops or starts (R135, R138, R150, R256, R265, R273). Where no chapter states a stop, ENABLE
shows in STATUS only. -/
def State.instStop (s : State) (b : Blk) (n : Nat) : State :=
  match b with
  | .lnk => s.linkDisable n
  | .hpt => s.portDisable n
  | .spn => s.pierEnable n false
  | .til => s.tileStop n
  | .srd => s.laneStop n
  | _ => s
def State.instStart (s : State) (b : Blk) (n : Nat) : State :=
  match b with
  | .lnk => s.linkEnable n
  | .hpt => s.portEnable n
  | .spn => s.pierEnable n true
  | _ => s

/-- A write of CTRL.ENABLE (R580, R590): 1 clears a parity error, after which the instance starts again. -/
def State.pageEnable (s : State) (p : Nat) (on : Bool) : State :=
  match pageKind p with
  | .block b n =>
    let bad := decide (s.hdr b n F.HDR_PAGE_PARITY_ERROR = 1)
    let s := if on then (s.setHdr b n F.HDR_PAGE_PARITY_ERROR 0).setHdr b n F.HDR_PAGE_PARITY_OFFSET 0 else s
    if b.enableFixed then s
    else if on then
      let s := if bad then s.setHdr b n F.HDR_CTRL_ENABLE 0 else s
      (s.instStart b n).setHdr b n F.HDR_CTRL_ENABLE 1
    else if s.hdr b n F.HDR_CTRL_ENABLE = 0 then s
    else (s.instStop b n).setHdr b n F.HDR_CTRL_ENABLE 0
  | _ => s

/-- Every word of a page returns to its reset value. -/
def State.resetPage (s : State) (p : Nat) : State :=
  let out {α : Type} (m : SMap α) : SMap α := m.filter (fun e => decide (e.1 / 0x1000 ≠ p))
  let r := s.regs
  { s with regs := { r with act := out r.act, shadow := out r.shadow, pend := merase r.pend p, parBad := out r.parBad, inj := out r.inj } }

/-- A write of CTRL.SOFT_RESET (R581): the page's fields and the instance return to their state after cold reset. -/
def State.softReset (s : State) (p : Nat) : State :=
  match pageKind p with
  | .block b n =>
    if ¬ b.hasSoftReset then s
    else
      let s := match b with
        | .lnk =>
          let up := decide (s.lstate n ≠ LS.disabled) && decide (s.lstate n ≠ LS.down)
          let s := if up then s.linkDown n 0x09 else s
          let k : Link := { downHold := true, byp := (s.link n).byp, idle := (s.link n).idle }
          let s := ((s.releaseClaim n).resetPage p).setLink n k
          let s := (s.setFld F.LNK_LSTATE_STATE LS.down n).setFld F.LNK_LSTATE_DOWN_REASON 0x09 n
          if up then (s.setFld F.LNK_CNT_DOWN_COUNT 1 n).pend n 0x01 else s
        | .hpt =>
          let s := (((s.portDown n 0x09).releasePort n).resetPage p).setPort n {}
          (s.setFld F.HPT_PSTATE_STATE PS.down n).setFld F.HPT_PSTATE_DOWN_REASON 0x09 n
        | .spn =>
          let s := if s.session n = SS.down then s else s.sessionLoss n 1
          (s.resetPage p).setPier n {}
        | .tal =>
          let out {α : Type} (m : SMap α) (k : Nat) : SMap α := m.filter (fun e => decide (e.1 / k ≠ n))
          let t := { s.tal with live := out s.tal.live 256, snap := out s.tal.snap 256, snapOvf := out s.tal.snapOvf 8, eccBad := out s.tal.eccBad 256 }
          let t := if n = 0 then { t with dump := none, ringNext := 0, started := false } else t
          ({ s with tal := t }).resetPage p
        | _ => s
      { s with regs := { s.regs with softReset := mput false s.regs.softReset p true } }
  | _ => s

/-- A page's sleeping domain (R522). -/
def sleepDomain (b : Blk) (n : Nat) : Option Nat := match b with
  | .eng => some (Dom.cluster n)
  | .abc => some (Dom.slice n)
  | .fwd => some (Dom.pipe n)
  | .til => some (Dom.tile n)
  | _ => none

/-- A write of CTRL.SLEEP_ALLOW (R522): cleared during entry, the entry completes and the domain wakes at once. -/
def State.sleepAllow (s : State) (p : Nat) (on : Bool) : State :=
  match pageKind p with
  | .block b n => match sleepDomain b n with
    | some d =>
      let s := s.setHdr b n F.HDR_CTRL_SLEEP_ALLOW (if on then 1 else 0)
      if ¬ on ∧ (s.dom d).st = .entering then s.setDom d { st := .entering, wakeWaiting := true } else s
    | none => s
  | _ => s

/-- A write of CTRL: a soft reset returns the page's fields, so the rest of the word is not taken. -/
def State.ctrlWrite (s : State) (p : Nat) (v : W32) : State :=
  match pageKind p with
  | .block b _ => if bitAt v 1 ∧ b.hasSoftReset then s.softReset p else (s.sleepAllow p (bitAt v 2)).pageEnable p (bitAt v 0)
  | _ => s

/-! ## Writes -/

/-- A write of a word by its access types alone (R582, R583): RW takes the bits, RWS its shadow, W1C clears, the rest is ignored. -/
def State.plainWrite (s : State) (a : Nat) (v : W32) : State :=
  match regWordAt a with
  | none => s
  | some w =>
    let rw := BitVec.ofNat 32 w.rw
    let rws := BitVec.ofNat 32 w.rws
    let s := if w.rw = 0 ∧ w.w1c = 0 then s
      else s.wr a ((((s.rd a &&& ~~~rw) ||| (v &&& rw)) &&& ~~~(v &&& BitVec.ofNat 32 w.w1c)) ||| BitVec.ofNat 32 w.ones)
    if w.rws = 0 then s else s.wrShadow a ((s.rdShadow a &&& ~~~rws) ||| (v &&& rws))

/-- A write of a word computes the parity of its shadow and of its active RW bits again (R590). -/
def State.wordParity (s : State) (a : Nat) : State :=
  match regWordAt a with
  | none => s
  | some w =>
    let k := mget 0 s.regs.parBad a
    let k := if w.rws ≠ 0 then k / 2 * 2 else k
    let k := if w.rw ≠ 0 then k % 4 else k
    { s with regs := { s.regs with parBad := mput 0 s.regs.parBad a k } }

/-- Bits written to an INJECT register stay armed until they act. -/
def State.armBits (s : State) (a : Nat) (v : W32) : State :=
  match regWordAt a with
  | none => s
  | some w => { s with regs := { s.regs with inj := mput 0#32 s.regs.inj a (mget 0#32 s.regs.inj a ||| (v &&& BitVec.ofNat 32 w.wo)) } }

/-- The low word of a pair whose high word applies both is staged for its agent (R586). -/
def State.stageLow (s : State) (ag : Agent) (a : Nat) (v : W32) : State :=
  { s with regs := { s.regs with staged := mput [] s.regs.staged ag.key (minsert (mget [] s.regs.staged ag.key) a v) } }

/-- A command's effect when its condition holds. -/
def State.thenDo (s : State) (c : Bool) (f : State → Out) : State := if c then Out.state s (f s) else s

/-- A write to a host port's registers beyond their access types (R261, R266). -/
def State.portWrite (s : State) (p off : Nat) (v : W32) : State :=
  let x := s.port p
  if off = 0x120 then s.thenDo (bitAt v 3) (execSaInstall (Fin.ofNat 65 p))
  else if 0x124 ≤ off ∧ off < 0x144 then s.setPort p { x with sak := setBits x.sak (8 * (off - 0x124)) 32 v.toNat }
  else if 0x144 ≤ off ∧ off < 0x150 then s.setPort p { x with salt := setBits x.salt (8 * (off - 0x144)) 32 v.toNat }
  else if off = 0x150 then s.setPort p { x with ssci := v }
  else s

/-- The same where the word is one of a host port's, and where it is one of a pier's. -/
def State.portArea (s : State) (b : Blk) (n off a : Nat) (v : W32) : State :=
  match portAt b n off with
  | some (p, o) => if o = 0x19C then s.armBits a v else s.portWrite p o v
  | none => s
def State.pierArea (s : State) (b : Blk) (n off a : Nat) (v : W32) : State :=
  match pierAt b n off with
  | some (p, o) => if o = 0x1A0 then s.armBits a v else if o = 0x15C then s.thenDo (bitAt v 0) (execSessionResync (Fin.ofNat 65 p)) else s
  | none => s

/-- The effect of a write to a block's register beyond its access types. -/
def State.blockWrite (s : State) (ag : Agent) (b : Blk) (n a : Nat) (v : W32) : State :=
  let off := a % 0x1000
  match b with
  | .lnk => if off = 0x150 then (s.armBits a (v &&& 3)).thenDo (bitAt v 2) (execLnkInjectForceDown (Fin.ofNat 256 n)) else s
  | .srd => if off = 0x140 then (s.thenDo (bitAt v 0) (execSrdInjectBit (Fin.ofNat 512 n))).thenDo (bitAt v 1) (execSrdInjectBurst (Fin.ofNat 512 n))
    else if (off = 0x128 ∨ off = 0x130) ∧ v = 0#32 then s.wr (a + 4) 0#32 else s
  | .via =>
    if off = 0x104 then (if bitAt v 2 then s.tblSync 2 else s)
    else if off = 0x150 then s.timeAdj v
    else if off = 0x18C then (s.armBits a (v &&& 1)).thenDo (bitAt v 1) execViaInjectWindowSkip
    else s
  | .rou => if off = 0x108 then (if bitAt v 2 then s.tblSync 0 else s) else if off = 0x168 then s.armBits a v else s
  | .tre => if off = 0x104 then (if bitAt v 2 then s.tblSync 1 else s) else if off = 0x118 ∨ off = 0x13C then s.armBits a v else s
  | .eng =>
    if off = 0x138 then (s.rstCtrl n (bits v 29 2) (bits v 0 7)).drain
    else if off = 0x140 then (if bitAt v 2 then s.tblSync 3 else s)
    else if off = 0x180 then s.armBits a v else s
  | .ctg => if off = 0x130 then s.armBits a v else s
  | .xlt => if off = 0x108 then s.thenDo (bitAt v 30) (execXltInvStart (Fin.ofNat 32 n)) else if off = 0x164 then s.armBits a v else s
  | .hom =>
    if off = 0x110 then (s.thenDo (bitAt v 0) (execPoisonCtrlMark (Fin.ofNat 8 n))).thenDo (bitAt v 1) (execPoisonCtrlClear (Fin.ofNat 8 n))
    else if off = 0x134 then s.armBits a v else s
  | .lck => if off = 0x110 then s.thenDo (bitAt v 0) execLckClrGo else if off = 0x12C then s.armBits a v else s
  | .plc =>
    if off = 0x128 then s.thenDo true (execHandlerDone (Fin.ofNat 65536 (bits v 0 16)) (bitAt v 16))
    else if off = 0x1B0 then s.thenDo (bitAt v 31) (execMigrate (Fin.ofNat 262144 (bits v 0 18)) (Fin.ofNat 32 (bits v 18 5)))
    else if off = 0x25C then s.armBits a v else s
  | .sns => if off = 0x180 then s.thenDo (bitAt v 0) execSnsInjectSupplyOor else s
  | .rfa => if off = 0x154 ∧ v.toNat % 65536 = 0 then s.setFld F.RFA_MAXWAIT_REQUESTOR 0 else s
  | .sec =>
    if off = 0x128 then (if bitAt v 31 ∧ bits v 0 4 ∈ [1, 2, 3] then s.fuseGo (bits v 0 4) (bits v 8 4) else s)
    else if 0x140 ≤ off ∧ off < 0x160 then s.setSec { s.sec with fuseData := setBits s.sec.fuseData (8 * (off - 0x140)) 32 v.toNat }
    else if off = 0x180 then (if bitAt v 31 then s.attestGo else s)
    else if off = 0x184 then (if bitAt v 31 then s.extendGo else s)
    else if 0x1A0 ≤ off ∧ off < 0x1C0 then s.setSec { s.sec with extendData := setBits s.sec.extendData (8 * (off - 0x1A0)) 32 v.toNat }
    else if off = 0x244 then (if bitAt v 31 ∧ bits v 0 4 ∈ [1, 2, 3, 4] then s.flashGo (bits v 0 4) else s)
    else s
  | .dev =>
    if off = 0x108 then (if bitAt v 31 then s.bootDone else s)
    else if off = 0x1F0 then (if v = 0xC01D0001#32 then s.coldCmd else if v = 0x3A470002#32 then s.warmCmd else s)
    else s
  | .kst =>
    if off = 0x124 then s.safeCtrl ag v
    else if off = 0x154 then (s.armBits a (v &&& 2)).thenDo (bitAt v 0) execKstInjectLockstep
    else s
  | .tal =>
    if off = 0x100 then
      let s := if bitAt v 31 then s.talLatch n else s
      if bitAt v 30 then s.talClear n else s
    else s
  | .hpt | .spn | .mgt => (s.portArea b n off a v).pierArea b n off a v
  | .fwd => if off = 0x160 then s.armBits a v else s
  | .abc => if off = 0x150 then s.armBits a v else s
  | .mat | .rel | .sch => if off = 0x154 then s.armBits a v else s
  | .hbm => if off = 0x11C then s.armBits a v else s
  | .til | .pwr | .clk => s

/-- Registers whose write is wholly their own: the value stored is not simply the word written. -/
def State.ownWrite (s : State) (ag : Agent) (b : Blk) (n a : Nat) (v : W32) : Option State :=
  let off := a % 0x1000
  match b with
  | .kst => if off = 0x110 then some (s.logHeadWrite ag v) else if off = 0x138 then some (s.testEvent v) else none
  | .srd => if off ∈ [0x100, 0x108, 0x120, 0x138, 0x13C] then some (s.testWrite n off v) else none
  | .via => if off = 0x148 then some (s.stageLow ag a v) else if off = 0x14C then some (s.timeSet ag v) else none
  | .xlt =>
    if a = F.XLT_PTE_DATA_DATA.addr n 0 then some (s.stageLow ag a v)
    else if a = F.XLT_PTE_DATA_DATA.addr n 0 + 4 then some (Out.state s (execPteStore ag (Fin.ofNat 32 n) v s)) else none
  | .eng => if 0x110 ≤ off ∧ off < 0x120 then some (s.hartRunWrite n ((off - 0x110) / 4) v).drain else none
  | .ctg => if off = 0x184 then some (Out.state s (execMringEnable (bitAt v 0) s)) else none
  | _ => none

/-- A granted write of one word. -/
def State.busWrite (s : State) (ag : Agent) (a : Nat) (v : W32) : State :=
  let a := a / 4 * 4
  let p := a / 0x1000
  let s := s.wakePage p
  if ¬ mapped a then s
  else match pageKind p with
    | .unmapped => s
    | .window w f =>
      let o := a - f * 0x1000
      if w.readOnly then s
      else match winTable w with
        | some (t, c) =>
          if ¬ s.tableShut t c then s.wr a v
          else match tblRefuse t with
            | some (src, kind) => s.raise src kind a
            | none => s
        | none => match w with
          | .severity => s.severityWrite ag (o / 64) (o % 64 / 4) v
          | .hint => if a % 8 = 0 then s.stageLow ag a v else Out.state s (execHintApply ag (Fin.ofNat 262144 (o / 8)) v s)
          | .flow => s.wr a (v &&& 0x1F1F1F1F#32)
          | _ => s
    | .block b n =>
      let off := a % 0x1000
      let s := s.wordParity a
      if off = 0x008 then s.ctrlWrite p v
      else if off = 0x020 then s.commitWrite ag p v
      else if absentWord b n off then s
      else match s.ownWrite ag b n a v with
        | some s => s
        | none => (s.plainWrite a v).blockWrite ag b n a v

/-- A write that its register's own rules refuse, by which a configuration entry fails (R549): a table copy that is shut (R98), a
commit that is refused, and the refusals of R168, R180, R298, R392, R396 and R421. -/
def State.writeRefused (s : State) (a : Nat) (v : W32) : Bool :=
  let p := a / 0x1000
  match pageKind p with
  | .window w _ => match winTable w with
    | some (t, c) => s.tableShut t c
    | none => false
  | .block b n =>
    let off := a % 0x1000
    if off = 0x020 then s.guardBad p v || ((s.commitRequest p).commitBar p).isSome
    else match b with
      | .srd => decide (off ∈ [0x100, 0x108, 0x120, 0x138, 0x13C]) && !s.testAllowed n &&
          (match regWordAt a with
           | some w => let m := BitVec.ofNat 32 w.rw; decide ((v &&& m) ≠ (s.rd a &&& m))
           | none => false)
      | .via => decide (off = 0x14C) && decide (s.fld F.VIA_TIME_CFG_ROLE = 0)
      | .xlt => (decide (off = 0x108) && bitAt v 30 && s.flag F.XLT_INV_CTRL_BUSY n) ||
          (decide (a = F.XLT_PTE_DATA_DATA.addr n 0 + 4) && !apertureOk (s.fld F.XLT_PTE_ADDR_ADDR n))
      | .ctg => decide (n = 0) && decide (off = 0x184) && bitAt v 0 && decide (s.ctxPort 0 < 64) && decide (s.fld F.SPN_PRIV_LEVEL (s.ctxPort 0) ≠ 3)
      | .eng => decide (off = 0x138) && decide (bits v 29 2 ≠ 0) && (s.creset n).isSome
      | _ => false
  | .unmapped => true

end Sys2Proof.Machine
end

