-- ==== Sys2Proof/Machine/RegCmds.lean ====
section
/-!
DEFINITION. Machine/RegCmds.lean: the commands of the register space (chapter 23), of the register fabric arbiter (R486–R492)
and of the JTAG TAP (R576, R599).
-/
namespace Sys2Proof.Machine

/-- An access to a page must wait: its soft reset runs (R490), or it needs the endpoint core, which is not awake (R524). -/
def State.pageBlocked (s : State) (p : Nat) : Bool :=
  mget false s.regs.softReset p || (decide (pageDomain p = some Dom.endpoint) && !s.awake Dom.endpoint)

/-- One register write by an agent, checked as a request of one word (R578); a blocked page holds it at the arbiter. -/
def State.rawWrite (s : State) (ag : Agent) (a : Nat) (v : W32) : State :=
  if s.pwr.inReset.isSome then s
  else
    let st := s.regStatus ag true a 1 true
    if st ≠ 0 then s.regRefused ag a st
    else if s.pageBlocked (a / 0x1000) then s.rfaPresent { agent := ag, write := true, addr := a, data := v, token := 1 }
    else (s.busWrite ag a v).drain

/-- REGISTER_WRITE (R582). -/
def execRegisterWrite (ag : Agent) (a : Fin 67108864) (v : W32) (s : State) : Out := .next (s.rawWrite ag a v)

/-- COMMIT (R584). -/
def execCommit (ag : Agent) (page : Fin 16384) (guard : W32) (s : State) : Out := .next (s.rawWrite ag (page * 0x1000 + 0x020) guard)

/-- COMMIT_APPLY (R584). -/
def execCommitApply (page : Fin 16384) (s : State) : Out := .next (s.commitApply page)

/-- Both switch dies have swapped: COMMIT_SEQ advances (R99). -/
def State.swapDone (s : State) (t : Nat) : State :=
  if mget false s.rou.swapping t then
    ({ s with rou := { s.rou with swapping := mput false s.rou.swapping t false } }).bumpSeq (tblPage t)
  else s

/-- TABLE_SWAP_DONE (R99): 0 ROU, 1 TRE, 3 the queue table. VIA's swap ends with its own command (R195). -/
def execTableSwapDone (t : Fin 4) (s : State) : Out := .next (s.swapDone t)

/-- TBL_SYNC (R100). -/
def execTblSync (ag : Agent) (t : Fin 4) (s : State) : Out :=
  let a := (tblBusy t).addr 0 0
  let st := s.regStatus ag true a 1 true
  if s.pwr.inReset.isSome then .next s
  else if st ≠ 0 then .next (s.regRefused ag a st)
  else .next (s.tblSync t)

/-- TBL_SYNC_DONE (R99, R100): the inactive copy equals the active one, and a COMMIT held by the sync takes effect. -/
def execTblSyncDone (t : Fin 4) (s : State) : Out :=
  if ¬ s.flag (tblBusy t) then .next s
  else
    let s := (s.syncCopies t).setFld (tblBusy t) 0
    if mget false s.rou.commitHeld t then
      .next (({ s with rou := { s.rou with commitHeld := mput false s.rou.commitHeld t false } }).commitGo (tblPage t))
    else .next s

/-- PAIR_LOW_READ (R585): a permitted read of a pair's low word. -/
def execPairLowRead (ag : Agent) (a : Fin 67108864) (s : State) : Out :=
  if s.pwr.inReset.isSome ∨ pairHalf a ≠ .low then .next s
  else
    let st := s.regStatus ag false a 1 true
    if st ≠ 0 then .next (s.regRefused ag a st)
    else if s.pageBlocked (a / 0x1000) then .next (s.rfaPresent { agent := ag, write := false, addr := a, token := 1 })
    else .next (s.busRead ag a).2.drain

/-- The high words whose write applies both words of their pair (R586): TIME_SET, PTE_DATA and the hint entries. -/
def appliesBoth (a : Nat) : Bool :=
  decide (a = F.VIA_TIME_SET_TIME.addr 0 0 + 4) ||
  (match pageKind (a / 0x1000) with
   | .block .xlt n => decide (a = F.XLT_PTE_DATA_DATA.addr n 0 + 4)
   | .window .hint _ => decide (a % 8 = 4)
   | _ => false)

/-- PAIR_HIGH_WRITE (R586). -/
def execPairHighWrite (ag : Agent) (a : Fin 67108864) (v : W32) (s : State) : Out :=
  if appliesBoth a then .next (s.rawWrite ag a v) else .next s

/-- CTRL of a page with one bit replaced, as software writes it. -/
def State.ctrlWith (s : State) (p i : Nat) (on : Bool) : W32 :=
  setBits (s.liveWord .boot (p * 0x1000 + 0x008)) i 1 (if on then 1 else 0)

/-- PAGE_ENABLE_WRITE (R580). -/
def execPageEnableWrite (ag : Agent) (page : Fin 16384) (on : Bool) (s : State) : Out :=
  .next (s.rawWrite ag (page * 0x1000 + 0x008) (s.ctrlWith page 0 on))

/-- SOFT_RESET (R581). -/
def execSoftReset (ag : Agent) (page : Fin 16384) (s : State) : Out := .next (s.rawWrite ag (page * 0x1000 + 0x008) (s.ctrlWith page 1 true))

/-- SOFT_RESET_DONE (R581, R490). -/
def execSoftResetDone (page : Fin 16384) (s : State) : Out :=
  .next { s with regs := { s.regs with softReset := mput false s.regs.softReset page false } }

/-- SLEEP_ALLOW_WRITE (R522). -/
def execSleepAllowWrite (ag : Agent) (page : Fin 16384) (on : Bool) (s : State) : Out :=
  .next (s.rawWrite ag (page * 0x1000 + 0x008) (s.ctrlWith page 2 on))

/-! ## Parity (R589, R590) -/

/-- The CNT registers and counting words of a block, as ranges of offsets; parity does not cover them (R589). -/
def counterRange : Blk → Nat × Nat
  | .abc => (0x120, 0x144) | .clk => (0x110, 0x114) | .ctg => (0x110, 0x12C) | .eng => (0x160, 0x174) | .fwd => (0x140, 0x160)
  | .hbm => (0x110, 0x11C) | .hom => (0x120, 0x134) | .hpt => (0x170, 0x19C) | .kst => (0x140, 0x150) | .lck => (0x120, 0x12C)
  | .lnk => (0x130, 0x150) | .mat => (0x130, 0x154) | .plc => (0x240, 0x25C) | .rel => (0x120, 0x154) | .rfa => (0x154, 0x180)
  | .rou => (0x150, 0x170) | .sch => (0x140, 0x154) | .spn => (0x170, 0x1A8) | .tal => (0x198, 0x19C) | .tre => (0x110, 0x13C)
  | .via => (0x170, 0x18C) | .xlt => (0x140, 0x164) | .srd => (0x124, 0x138)
  | .dev | .pwr | .sns | .sec | .mgt | .til => (0, 0)

/-- Parity covers a part of a word: 0 the shadow, 1 the pending copy, 2 the active value. -/
def State.parityCovers (s : State) (a part : Nat) : Bool :=
  match pageKind (a / 0x1000), regWordAt a with
  | .block b n, some w =>
    let off := a % 0x1000
    let (b', off') : Blk × Nat := match portAt b n off, pierAt b n off with
      | some (_, o), _ => (.hpt, o)
      | _, some (_, o) => (.spn, o)
      | _, _ => (b, off)
    let (lo, hi) := counterRange b'
    let counts := (decide (lo ≤ off') && decide (off' < hi)) || (decide (b = .sch) && decide (0xA00 ≤ off) && decide (off < 0xC00) && decide (off % 16 = 12))
    !counts && !absentWord b n off &&
      (if part = 2 then decide (w.rw ≠ 0 ∨ w.rws ≠ 0) else decide (w.rws ≠ 0) && (decide (part = 0) || s.pending? (a / 0x1000)))
  | _, _ => false

/-- The source that reports for an instance: SRD lanes report through their tile; tally banks report nothing (R501, R573). -/
def paritySrc (b : Blk) (n : Nat) : Option Nat := if b = .srd then some (320 + n / 16) else (pageSrcs b n).head?

/-- A page whose parity fails at an offset (R589): ERROR and OFFSET, kind 0xF2, and its instance stops; the fixed pages go on, and KST
faults itself (R514). -/
def State.parityFail (s : State) (p off : Nat) : State :=
  match pageKind p with
  | .block b n =>
    let en := s.hdr b n F.HDR_CTRL_ENABLE
    let s := if b.enableFixed then s else (s.instStop b n).setHdr b n F.HDR_CTRL_ENABLE en
    let s := (s.setHdr b n F.HDR_PAGE_PARITY_ERROR 1).setHdr b n F.HDR_PAGE_PARITY_OFFSET off
    if b = .kst then s.selfFault 4 off true
    else match paritySrc b n with
      | some src => s.raise src 0xF2 ((if b = .xlt ∧ n % 2 = 1 then 2 ^ 63 else 0) + p * 2 ^ 32 + off)
      | none => s
  | _ => s

/-- The pages with a failing word and no ERROR yet, each with its first failing offset. -/
def State.parityFinds (s : State) : List (Nat × Nat) :=
  s.regs.parBad.foldl (fun l e =>
    let p := e.1 / 0x1000
    if l.any (fun x => x.1 = p) ∨ bitAt (s.rd (p * 0x1000 + 0x02C)) 31 then l else l ++ [(p, e.1 % 0x1000)]) []

/-- PARITY_SWEEP (R589): `upset` says that a stored bit of a part of the word at `a` has flipped since the last sweep. -/
def execParitySweep (upset : Bool) (a : Fin 67108864) (part : Fin 3) (s : State) : Out :=
  let a' := a.val / 4 * 4
  let s := if upset ∧ s.parityCovers a' part then
      { s with regs := { s.regs with parBad := mput 0 s.regs.parBad a' (mget 0 s.regs.parBad a' ||| 2 ^ part.val) } } else s
  .next (s.parityFinds.foldl (fun s e => s.parityFail e.1 e.2) s).drain

/-! ## The register fabric arbiter (R486–R492) -/

/-- PRIO of a requestor (R494). -/
def State.rfaPrio (s : State) (r : Nat) : Nat := bits (s.rd (F.RFA_PRIO_LEVELS.addr 0 (r / 8))) (4 * (r % 8)) 3

/-- A requestor's oldest request may be granted: the device is out of reset, the management pier leaves the boot its place
(R574), its back-off is over, and its page is not blocked. -/
def State.rfaEligible (s : State) (r : Nat) (q : RegReq) : Bool :=
  s.pwr.inReset.isNone && (decide (q.agent ≠ .mgmt) || s.bootHold || decide (6 ≤ s.sec.bootStep)) &&
    decide (mget 0 s.rfa.sitOut r = 0) && !s.pageBlocked (q.addr / 0x1000)

/-- The requests that compete at a grant: the oldest of each requestor (R486, R490). -/
def State.rfaPresentNow (s : State) : List (Nat × RegReq) :=
  s.rfa.req.filterMap (fun (e : Nat × List RegReq) => match e.2 with
    | q :: _ => if s.rfaEligible e.1 q then some (e.1, q) else none
    | [] => none)

/-- The requestor granted: the highest PRIO, and among equals the one that follows the last granted at that level (R487). -/
def State.rfaWinner (s : State) (rs : List (Nat × RegReq)) : Option (Nat × RegReq) :=
  let top := (rs.map (fun e => s.rfaPrio e.1)).foldl max 0
  let es := rs.filter (fun e => decide (s.rfaPrio e.1 = top))
  match mfind s.rfa.lastAt top with
  | none => es.head?
  | some l => match es.find? (fun e => decide (l < e.1)) with
    | some e => some e
    | none => es.head?

/-- A granted access has been performed: its agent takes the answer. A write or read made by a command of its own has none. -/
def State.rfaAnswer (s : State) (q : RegReq) (v : W32) : State :=
  if q.token ≠ 0 then s
  else match q.agent with
    | .hart h => s.deviceDone h v
    | .mgmt => s.regWordDone 64 v
    | .pier n => s.regWordDone n v
    | .jtag => { s with tap := { s.tap with busy := false, status := 0, data := if q.write then s.tap.data else v } }
    | .boot => s

/-- A request leaves its queue with a grant (R488, R494): the counts, LAST and MAXWAIT. -/
def State.rfaTake (s : State) (r : Nat) (q : RegReq) : State :=
  let rest := (mget [] s.rfa.req r).drop 1
  let s := { s with rfa := { s.rfa with req := mput [] s.rfa.req r rest, backoff := merase s.rfa.backoff r,
                                        lastAt := minsert s.rfa.lastAt (s.rfaPrio r) r } }
  let us := min 65535 ((s.clk - q.since) / 1000)
  let s := if s.fld F.RFA_MAXWAIT_US < us then (s.setFld F.RFA_MAXWAIT_US us).setFld F.RFA_MAXWAIT_REQUESTOR r else s
  (s.setFld F.RFA_LAST_REQUESTOR r).count F.RFA_CNT_GRANT_COUNT 0

/-- A request that loses sits out its back-off, which doubles (R488). -/
def State.rfaLose (s : State) (r : Nat) : State :=
  let b := (mfind s.rfa.backoff r).getD 1
  let cap := 2 ^ min (s.fld F.RFA_CFG_BACKOFF_MAX_LOG2) 10
  let s := { s with rfa := { s.rfa with sitOut := mput 0 s.rfa.sitOut r (min b cap), backoff := minsert s.rfa.backoff r (min (2 * b) cap) } }
  s.count F.RFA_CNT_LOSS_COUNT 0

/-- RFA_GRANT (R486–R488): one keeper clock of the arbiter. -/
def execRfaGrant (s : State) : Out :=
  let rs := s.rfaPresentNow
  let s := { s with rfa := { s.rfa with sitOut := s.rfa.sitOut.filterMap (fun (e : Nat × Nat) => if e.2 ≤ 1 then none else some (e.1, e.2 - 1)) } }
  match s.rfaWinner rs with
  | none => .next s
  | some (r, q) =>
    let s := (rs.filter (fun e => decide (e.1 ≠ r))).foldl (fun s e => s.rfaLose e.1) s
    let s := s.rfaTake r q
    if q.write then .next ((s.busWrite q.agent q.addr q.data).rfaAnswer q 0).drain
    else
      let (v, s) := s.busRead q.agent q.addr
      .next (s.rfaAnswer q v).drain

/-- A requestor's oldest request with a mark set. -/
def State.rfaMark (s : State) (r : Nat) (f : RegReq → RegReq) : State :=
  match mget [] s.rfa.req r with
  | q :: t => { s with rfa := { s.rfa with req := mput [] s.rfa.req r (f q :: t) } }
  | [] => s

/-- RFA_WAIT_WARN (R492, R494): kind 0x01 once for the access; WAIT_WARN.US of 0 turns it off. -/
def execRfaWaitWarn (r : Fin 98) (s : State) : Out :=
  match (mget [] s.rfa.req r).head? with
  | some q => if q.warned ∨ s.fld F.RFA_WAIT_WARN_US = 0 then .next s
      else .next ((s.rfaMark r (fun q => { q with warned := true })).raise 753 0x01 (r * 2 ^ 32 + q.addr))
  | none => .next s

/-- RFA_HOLD_WARN (R490): kind 0x02 for a request that a page reset holds. -/
def execRfaHoldWarn (r : Fin 98) (s : State) : Out :=
  match (mget [] s.rfa.req r).head? with
  | some q => if q.heldWarned ∨ ¬ mget false s.regs.softReset (q.addr / 0x1000) then .next s
      else .next ((s.rfaMark r (fun q => { q with heldWarned := true })).raise 753 0x02 (r * 2 ^ 32 + q.addr))
  | none => .next s

/-! ## The JTAG TAP (R576, R599) -/

/-- REGACC at Update-DR (R576): op 1 reads, 2 writes; an operation shifted in while BUSY is ignored. -/
def execRegacc (op : Fin 4) (addr data : W32) (s : State) : Out :=
  if s.tap.busy ∨ (op.val ≠ 1 ∧ op.val ≠ 2) then .next s
  else
    let a := addr.toNat
    let wr := decide (op.val = 2)
    let st := if 2 ^ 26 ≤ a then 0x03 else s.regStatus .jtag wr a 1 true
    if st ≠ 0 then
      let s := s.regRefused .jtag a st
      .next { s with tap := { s.tap with status := st } }
    else .next (({ s with tap := { s.tap with busy := true } }).rfaPresent { agent := .jtag, write := wr, addr := a, data := data })

/-- TAP_RESET (R599): JTAG_TRST_N is low. -/
def execTapReset (s : State) : Out :=
  .next { s with tap := {}, rfa := { s.rfa with req := merase s.rfa.req 1, backoff := merase s.rfa.backoff 1, sitOut := merase s.rfa.sitOut 1 } }

/-- EXTEST drives the lands: PWROK is high, in boot hold or in power-on reset (R599). -/
def State.extestDrives (s : State) : Bool := s.pwr.pwrok && (s.bootHold || decide (s.pwr.inReset = some .powerOn))

/-- BOUNDARY_SCAN_UPDATE (R599). -/
def execBoundaryScanUpdate (v : W64) (s : State) : Out := .next { s with tap := { s.tap with boundary := v, extest := s.extestDrives } }

end Sys2Proof.Machine
end

