-- ==== Sys2Proof/Machine/BootCmds.lean ====
section
/-!
DEFINITION. Machine/BootCmds.lean: the end of the reset hold (R531), the steps of the boot (R545) and the configuration entries
(R549).
-/
namespace Sys2Proof.Machine

/-- The pipelines' generators take their seeds at reset from the security block's generator (R608). -/
def State.seedPipes (s : State) : State :=
  { s with free := s.free + 32, rou := { s.rou with gen := (List.range 32).map (fun n => (n, seedOf (Config.secRandom (s.free + n)))) } }

/-- The reset hold may end: PWROK and RESET_N are high, and a cold reset in thermal hold has seen the temperature fall (R533). -/
def State.mayLeaveReset (s : State) : Bool := s.pwr.inReset.isSome && s.pwr.pwrok && s.pwr.resetN && !s.pwr.coldWaitsTemp

/-- RESET_HOLD_END (R531, R545): the straps are sampled, PWR raises kind 0x04, and the ROM chooses the copies. `failed` has a bit for
each header that could not be read, copy c of type 2 + i at bit 2i + c. -/
def execResetHoldEnd (bootSel : Fin 4) (mgtMode : Bool) (failed : Byte) (s : State) : Out :=
  if ¬ s.mayLeaveReset then .next s
  else
    let m := if mgtMode then 1 else 0
    let s := { s with pwr := { s.pwr with inReset := none } }
    let s := ((s.setFld F.PWR_STATE_THERMAL_HOLD 0).setFld F.DEV_BOOT_BOOT_SEL bootSel).setFld F.DEV_BOOT_MGT_MODE m
    let s := (s.wr 0x44100 (setBits (s.rd 0x44100) 0 1 m)).seedPipes
    let s := s.raise 704 0x04 (s.fld F.PWR_RESET_STAT_LAST * 2 ^ 24)
    let s := if s.portUp 64 then s.enterSync 64 else s
    .next (s.bootStart failed).drain

/-! ## Configuration entries (R549) -/

/-- The next entry's operation and its three words. -/
def State.cfgOp (s : State) : Nat := leAt s.sec.cfgBody 0 1
def State.cfgA (s : State) : Nat := leAt s.sec.cfgBody 4 4
def State.cfgB (s : State) : Nat := leAt s.sec.cfgBody 8 4
def State.cfgC (s : State) : Nat := leAt s.sec.cfgBody 12 4

/-- An entry fails: kind 0x06 with its operation and index, and boot hold. -/
def State.cfgFail (s : State) : State := (s.raise 707 0x06 (s.cfgOp * 2 ^ 56 + s.sec.cfgIndex % 2 ^ 32)).toHold

/-- The entry that comes next fails at once where its operation is unknown or the body has ended without END. -/
def State.cfgCheck (s : State) : State :=
  if s.sec.cfgOn ∧ (s.sec.cfgBody.length < 16 ∨ 4 < s.cfgOp) then s.cfgFail else s

/-- An entry is done; `n` is the number of its bytes. -/
def State.cfgNext (s : State) (n : Nat) : State :=
  if ¬ s.sec.cfgOn then s
  else (s.setSec { s.sec with cfgBody := s.sec.cfgBody.drop n, cfgIndex := s.sec.cfgIndex + 1 }).cfgCheck

/-- An entry of an operation is next. -/
def State.cfgAt (s : State) (op : Nat) : Bool := s.booting && s.sec.cfgOn && decide (s.cfgOp = op) && decide (16 ≤ s.sec.cfgBody.length)

/-- A register access of an entry fails by its address (R284, R587), and a write also by its target or its register's rules. -/
def State.cfgBadRead (_s : State) (a : Nat) : Bool := decide (a % 4 ≠ 0) || !mapped a
def State.cfgBadWrite (s : State) (a : Nat) (v : W32) : Bool :=
  s.cfgBadRead a ||
  (match pageKind (a / 0x1000) with
   | .block .sec _ => true
   | .block .dev _ => decide (a % 0x1000 = 0x1F0)
   | .block .kst _ => decide (a % 0x1000 = 0x124)
   | _ => false) || s.writeRefused a v

/-- An access of the boot controller in requestor 0's place (R545, R574): it counts as a grant. -/
def State.cfgGrant (s : State) : State := (s.setFld F.RFA_LAST_REQUESTOR 0).count F.RFA_CNT_GRANT_COUNT 0

/-- One write of an entry; none where it fails. -/
def State.cfgWrite (s : State) (a : Nat) (v : W32) : Option State :=
  if s.cfgBadWrite a v then none else some (s.cfgGrant.busWrite .boot a v)

/-- CONFIG_END (R549): the block ends, and step 6 with it. -/
def execConfigEnd (s : State) : Out := if s.cfgAt 0 then .next s.bootIdentity else .next s

/-- CONFIG_WRITE (R549). An access to a page that is blocked waits. -/
def execConfigWrite (s : State) : Out :=
  let a := s.cfgA
  if ¬ s.cfgAt 1 then .next s
  else if ¬ s.cfgBadRead a ∧ s.pageBlocked (a / 0x1000) then .next (s.wakePage (a / 0x1000))
  else match s.cfgWrite a (BitVec.ofNat 32 s.cfgB) with
    | some s => .next (s.cfgNext 16).drain
    | none => .next s.cfgFail

/-- CONFIG_POLL (R549): the register is read; the entry is done once it matches. -/
def execConfigPoll (s : State) : Out :=
  let a := s.cfgA
  let b := s.cfgB
  let c := s.cfgC
  if ¬ s.cfgAt 2 then .next s
  else if s.cfgBadRead a then .next s.cfgFail
  else if s.pageBlocked (a / 0x1000) then .next (s.wakePage (a / 0x1000))
  else
    let (v, s) := s.cfgGrant.busRead .boot a
    if v &&& BitVec.ofNat 32 b = BitVec.ofNat 32 c then .next (s.cfgNext 16).drain else .next s.drain

/-- CONFIG_POLL_TIMEOUT (R549). -/
def execConfigPollTimeout (s : State) : Out := if s.cfgAt 2 then .next s.cfgFail else .next s

/-- CONFIG_WAIT (R549): the time has passed. -/
def execConfigWait (s : State) : Out := if s.cfgAt 3 then .next (s.cfgNext 16) else .next s

/-- The words of a FILL from its address on, up to the first that fails. -/
def State.fillWords (s : State) (a : Nat) : List Byte → Nat → Bool × State
  | _, 0 => (true, s)
  | d, n + 1 => match s.cfgWrite a (BitVec.ofNat 32 (leAt d 0 4)) with
    | none => (false, s)
    | some s => s.fillWords (a + 4) (d.drop 4) n

/-- CONFIG_FILL (R549). -/
def execConfigFill (s : State) : Out :=
  let a := s.cfgA
  let n := s.cfgB
  if ¬ s.cfgAt 4 then .next s
  else if n % 4 ≠ 0 ∨ s.sec.cfgBody.length < 16 + n then .next s.cfgFail
  else if ¬ s.cfgBadRead a ∧ s.pageBlocked (a / 0x1000) then .next (s.wakePage (a / 0x1000))
  else match s.fillWords a (s.sec.cfgBody.drop 16) (n / 4) with
    | (true, s) => .next (s.cfgNext (16 + roundUp 16 n)).drain
    | (false, s) => .next s.cfgFail.drain

/-! ## The boot's steps (R545) -/

/-- Step 2: the keeper firmware has been read and checked; BOOT_SEL 0b01 and 0b11 stop here in boot hold (R551). -/
def State.bootKeeper (s : State) : State :=
  let m := sha256 (s.imgHeader 0 (s.copyOf 0))
  let s := s.setMeas 0 m
  let s := s.setSec { s.sec with cdiK := BitVec.ofNat 256 (beNat (hmac (beBytes 32 Config.uds.toNat) m)), udsLocked := true }
  let s := s.bootTo 2
  if s.fld F.DEV_BOOT_BOOT_SEL % 2 = 1 then s.toHold else s

/-- Step 3: HBM is trained; after a cold reset it is written with zeros, which clears every poison mark, and after a warm reset it
leaves self-refresh with its contents. -/
def State.bootHbm (s : State) : State :=
  let s := (List.range 4).foldl (fun s n => s.setFld F.HBM_STATUS_STATE 1 n) s
  let s := if s.fld F.PWR_RESET_STAT_LAST = 4 then s else s.setEng { s.eng with mem := [], poison := [] }
  ({ s with pwr := { s.pwr with hbmSr := [], hbmSrExit := [] } }).bootTo 3

/-- Step 6 begins: the configuration body has been read and checked, and its first entry comes next. -/
def State.cfgStart (s : State) : State :=
  (s.setSec { s.sec with cfgOn := true, cfgBody := s.imgBody 2 (s.copyOf 2), cfgIndex := 0 }).cfgCheck

/-- BOOT_STAGE_COMPLETE (R541, R542, R545): what the step in progress waits for has ended: the body it reads has been read, `failed`
saying that the flash failed, or HBM is trained. The configuration's own end is CONFIG_END. -/
def execBootStageComplete (failed : Bool) (s : State) : Out :=
  if ¬ s.booting then .next s
  else if s.sec.bootStep ≤ 1 then
    match s.bodyCheck 0 failed with
    | (0, s) => .next s.bootKeeper
    | (1, s) => .next s
    | (_, s) => .next (s.imgMissing 0)
  else if s.sec.bootStep = 2 then .next s.bootHbm
  else if s.sec.bootStep = 3 then
    if ¬ s.flag F.SEC_IMG_LOADED 0 3 then .next s.bootChain
    else match s.bodyCheck 3 failed with
      | (1, s) => .next s
      | (_, s) => .next s.bootChain
  else if s.sec.bootStep = 4 then
    if ¬ s.flag F.SEC_IMG_LOADED 0 1 then .next (s.imgMissing 1)
    else
      let h := s.imgHeader 1 (s.copyOf 1)
      let s := s.hbmPut (leAt h 24 8) (s.imgBody 1 (s.copyOf 1))
      match s.bodyCheck 1 failed with
      | (0, s) => .next ((s.setSec { s.sec with keySlot := (leAt (s.imgHeader 1 (s.copyOf 1)) 128 1) }).bootTo 5)
      | (1, s) => .next s
      | (_, s) => .next (s.imgMissing 1)
  else if s.sec.bootStep = 5 then
    if s.sec.cfgOn then .next s
    else if s.flag F.SEC_IMG_LOADED 0 2 then
      match s.bodyCheck 2 failed with
      | (0, s) => .next s.cfgStart
      | (1, s) => .next s
      | (_, s) => .next s.toHold
    else if s.imgReason 2 0 = 0x0F ∧ s.imgReason 2 1 = 0x0F then .next s.bootIdentity
    else .next s.toHold
  else .next s.bootRun.drain

end Sys2Proof.Machine
end

