-- ==== Sys2Proof/Machine/LoadReports.lean ====
section
/-!
DEFINITION. Machine/LoadReports.lean: load reports, failed marks and the injections of ROU and TRE (chapter 03).
-/
namespace Sys2Proof.Machine

/-- The class map entry of a link in the active copy (R97). -/
def State.classMap (s : State) (l : Nat) : Nat :=
  bits (s.rd ((if s.rouB then 0x1401000 else 0x1400000) + 0xC00 + l / 2 * 4)) (16 * (l % 2)) 16

/-- The reported classes in ascending order (R81). -/
def State.reportedClasses (s : State) : List Nat :=
  let links := (List.range 256).filter (fun l => (s.classMap l).testBit 15)
  (List.range 256).filter (fun c => links.any (fun l => decide (s.classMap l % 256 = c)))

/-- The highest level among the reported links of a class (R81). -/
def State.reportLevel (s : State) (c : Nat) : Nat :=
  ((List.range 256).filter (fun l => (s.classMap l).testBit 15 && decide (s.classMap l % 256 = c))).foldl
    (fun m l => max m (s.level l)) 0

/-- The classes of one period: all of them up to twelve, else twelve from where the cycle stands (R81). -/
def State.periodClasses (s : State) : List Nat :=
  let cs := s.reportedClasses
  if cs.length ≤ 12 then cs else (List.range 12).map (fun i => cs.getD ((s.rou.cycle + i) % cs.length) 0)

/-- The load report extension (R80). -/
def loadReportExt (router time : Nat) (entries : List (Nat × Nat)) : List Byte :=
  let e := entries.flatMap (fun p => beBytes 1 p.1 ++ beBytes 1 p.2)
  beBytes 2 router ++ beBytes 1 (entries.length * 16) ++ beBytes 1 0 ++ beBytes 4 time ++ slice e 0 24

/-- Report target `t` of the active copy: its path word and router id (R97). -/
def State.reportTarget (s : State) (t : Nat) : Nat × Nat :=
  let a := (if s.rouB then 0x1401000 else 0x1400000) + 0x800 + 16 * t
  ((s.rd64 a).toNat, (s.rd (a + 8)).toNat % 2 ^ 14)

/-- One round of load reports to the targets in use; the cycle advances once (R79, R81). -/
def State.loadReportRound (s : State) : State :=
  if s.fld F.ROU_LR_CFG_PERIOD = 0 then s
  else
    let es := s.periodClasses.map (fun c => (c, s.reportLevel c))
    let ext := loadReportExt s.routerId s.ftime es
    let n := min 64 (s.fld F.ROU_LR_CFG_TARGETS)
    let s1 := (List.range n).foldl (fun s t =>
      let (w, r) := s.reportTarget t
      s.sendBuilt (mkPacket { dst := fabAddr r 0, src := fabAddr s.routerId 0, opc := 0x62, tc := 7 } ext []) w 0) s
    let cs := s.reportedClasses.length
    { s1 with rou := { s1.rou with cycle := if cs ≤ 12 then 0 else (s.rou.cycle + 12) % cs } }

/-- One entry of a report applied to the class table (R82). -/
def State.applyLevel (s : State) (reporter c level : Nat) : State :=
  let r := mget {} s.rou.cls c
  if r.reporter = reporter ∨ s.classLevel c ≤ level then
    { s with rou := { s.rou with cls := mput {} s.rou.cls c { level := level, reporter := reporter, time := s.clk } } }
  else s

/-- The signed age of a stamp's low 32 bits, a negative age counting as 0 (R82). -/
def stampAge (now stamp : Nat) : Nat := (signedOf 32 ((now + 2 ^ 32 - stamp) % 2 ^ 32)).toNat

/-- A load report taken at the last hop of its path (R82). -/
def State.loadReport (s : State) (p : List Byte) : State :=
  let e := pExt p
  let n := beAt e 2 1 / 16
  if 12 < n then s.count F.ROU_CNT_LR_BAD_COUNT 0
  else if s.fld F.ROU_AGE_CFG_MAXAGE < stampAge (s.ftime % 2 ^ 32) (beAt e 4 4) then s.count F.ROU_CNT_LR_STALE_COUNT 0
  else
    ((List.range n).foldl (fun s i => s.applyLevel (beAt e 0 2 % 2 ^ 14) (beAt e (8 + 2 * i) 1) (beAt e (9 + 2 * i) 1)) s).count
      F.ROU_CNT_LR_RX_COUNT 0

/-- LOAD_REPORT_ROUND (R79, R80, R81). -/
def execLoadReportRound (s : State) : Out := .next s.loadReportRound

/-- LOAD_REPORT_RECEIVE (R82). -/
def execLoadReportReceive (s : State) : Out :=
  match s.takeOpc 0x62 with
  | (some d, s) => .next (s.loadReport d.bytes)
  | (none, s) => .next s

/-- FAILED_MARK_EXPIRE (R84): the mark of a candidate clears. -/
def execFailedMarkExpire (dest : Fin 16384) (cand : Fin 16) (s : State) : Out :=
  .next { s with rou := { s.rou with failed := merase s.rou.failed (dest.val * 16 + cand.val) } }

/-- ROU_INJECT_TBL_ECC (R101). -/
def execRouInjectTblEcc (s : State) : Out := .next (s.setArmed F.ROU_INJECT_TBL_ECC 0 true)

/-- TRE_INJECT_TBL_ECC (R102). -/
def execTreInjectTblEcc (s : State) : Out := .next (s.setArmed F.TRE_INJECT_TBL_ECC 0 true)

end Sys2Proof.Machine
end

