-- ==== Sys2Proof/Machine/Dispatch.lean ====
section
/-!
DEFINITION. Machine/Dispatch.lean: one arm for each constructor of Instr, each one call of its meaning.
-/
namespace Sys2Proof.Machine

def exec (i : Instr) (s : State) : Host.Outcome State Fault Refusal :=
  match i with
  | .registerWrite ag a v => Sys2Proof.Machine.execRegisterWrite ag a v s
  | .commit ag page guard => Sys2Proof.Machine.execCommit ag page guard s
  | .commitApply page => Sys2Proof.Machine.execCommitApply page s
  | .tableSwapDone t => Sys2Proof.Machine.execTableSwapDone t s
  | .tblSync ag t => Sys2Proof.Machine.execTblSync ag t s
  | .tblSyncDone t => Sys2Proof.Machine.execTblSyncDone t s
  | .pairLowRead ag a => Sys2Proof.Machine.execPairLowRead ag a s
  | .pairHighWrite ag a v => Sys2Proof.Machine.execPairHighWrite ag a v s
  | .pageEnableWrite ag page on => Sys2Proof.Machine.execPageEnableWrite ag page on s
  | .softReset ag page => Sys2Proof.Machine.execSoftReset ag page s
  | .softResetDone page => Sys2Proof.Machine.execSoftResetDone page s
  | .sleepAllowWrite ag page on => Sys2Proof.Machine.execSleepAllowWrite ag page on s
  | .paritySweep upset a part => Sys2Proof.Machine.execParitySweep upset a part s
  | .regacc op addr data => Sys2Proof.Machine.execRegacc op addr data s
  | .packetHeaderArrive l => Sys2Proof.Machine.execPacketHeaderArrive l s
  | .packetTransmitStart l => Sys2Proof.Machine.execPacketTransmitStart l s
  | .packetTailArrive l => Sys2Proof.Machine.execPacketTailArrive l s
  | .packetTransmitEnd l => Sys2Proof.Machine.execPacketTransmitEnd l s
  | .fenceRelease chan => Sys2Proof.Machine.execFenceRelease chan s
  | .fwdInjectBufEcc t => Sys2Proof.Machine.execFwdInjectBufEcc t s
  | .fwdInjectE2e t => Sys2Proof.Machine.execFwdInjectE2e t s
  | .fwdInjectHchk t => Sys2Proof.Machine.execFwdInjectHchk t s
  | .schSelect k => Sys2Proof.Machine.execSchSelect k s
  | .loadReportRound => Sys2Proof.Machine.execLoadReportRound s
  | .loadReportReceive => Sys2Proof.Machine.execLoadReportReceive s
  | .routeErrorReceive => Sys2Proof.Machine.execRouteErrorReceive s
  | .failedMarkExpire dest cand => Sys2Proof.Machine.execFailedMarkExpire dest cand s
  | .rouInjectTblEcc => Sys2Proof.Machine.execRouInjectTblEcc s
  | .treInjectTblEcc => Sys2Proof.Machine.execTreInjectTblEcc s
  | .flitSend l => Sys2Proof.Machine.execFlitSend l s
  | .flitReceive l content corrected uncorrectable => Sys2Proof.Machine.execFlitReceive l content corrected uncorrectable s
  | .linkAckTimer l => Sys2Proof.Machine.execLinkAckTimer l s
  | .linkAckReceive l => Sys2Proof.Machine.execLinkAckReceive l s
  | .replayReqReceive l => Sys2Proof.Machine.execReplayReqReceive l s
  | .replayWaitTimeout l => Sys2Proof.Machine.execReplayWaitTimeout l s
  | .replayTimeout l => Sys2Proof.Machine.execReplayTimeout l s
  | .spillReadDone l => Sys2Proof.Machine.execSpillReadDone l s
  | .creditLimitReceive l => Sys2Proof.Machine.execCreditLimitReceive l s
  | .creditRefresh l => Sys2Proof.Machine.execCreditRefresh l s
  | .creditStall l pool => Sys2Proof.Machine.execCreditStall l pool s
  | .ctStallExpire l => Sys2Proof.Machine.execCtStallExpire l s
  | .linkParamSend l => Sys2Proof.Machine.execLinkParamSend l s
  | .linkParamReceive l => Sys2Proof.Machine.execLinkParamReceive l s
  | .linkStateReceive l => Sys2Proof.Machine.execLinkStateReceive l s
  | .echoReqSend l => Sys2Proof.Machine.execEchoReqSend l s
  | .echoReqReceive l => Sys2Proof.Machine.execEchoReqReceive l s
  | .echoRspReceive l => Sys2Proof.Machine.execEchoRspReceive l s
  | .sleepIdleExpire l => Sys2Proof.Machine.execSleepIdleExpire l s
  | .sleepReqReceive l => Sys2Proof.Machine.execSleepReqReceive l s
  | .sleepAckReceive l => Sys2Proof.Machine.execSleepAckReceive l s
  | .linkEnable l => Sys2Proof.Machine.execLinkEnable l s
  | .linkDisable l => Sys2Proof.Machine.execLinkDisable l s
  | .teardownDrainEnd l => Sys2Proof.Machine.execTeardownDrainEnd l s
  | .teardownTimeout l => Sys2Proof.Machine.execTeardownTimeout l s
  | .bringupStepTimeout l => Sys2Proof.Machine.execBringupStepTimeout l s
  | .laneSignalLoss lane => Sys2Proof.Machine.execLaneSignalLoss lane s
  | .deadTimeExpire l => Sys2Proof.Machine.execDeadTimeExpire l s
  | .downHoldExpire l => Sys2Proof.Machine.execDownHoldExpire l s
  | .linkWakeDone l => Sys2Proof.Machine.execLinkWakeDone l s
  | .wakeRelockTimeout l => Sys2Proof.Machine.execWakeRelockTimeout l s
  | .laneWakeDetect lane => Sys2Proof.Machine.execLaneWakeDetect lane s
  | .lnkInjectForceDown l => Sys2Proof.Machine.execLnkInjectForceDown l s
  | .lnkInjectBadFlit l => Sys2Proof.Machine.execLnkInjectBadFlit l s
  | .lnkInjectSymbol l => Sys2Proof.Machine.execLnkInjectSymbol l s
  | .receiverDetect lane present => Sys2Proof.Machine.execReceiverDetect lane present s
  | .pllLock tile group => Sys2Proof.Machine.execPllLock tile group s
  | .trainingFrameSend lane req adapted => Sys2Proof.Machine.execTrainingFrameSend lane req adapted s
  | .trainingFrameReceive lane raw slip loss skew => Sys2Proof.Machine.execTrainingFrameReceive lane raw slip loss skew s
  | .prbsIntervalEnd lane errors checked => Sys2Proof.Machine.execPrbsIntervalEnd lane errors checked s
  | .laneTrainTimeout l => Sys2Proof.Machine.execLaneTrainTimeout l s
  | .groupPllUnlock tile group => Sys2Proof.Machine.execGroupPllUnlock tile group s
  | .srdTestWrite lane off v => Sys2Proof.Machine.execSrdTestWrite lane off v s
  | .srdInjectBit lane => Sys2Proof.Machine.execSrdInjectBit lane s
  | .srdInjectBurst lane => Sys2Proof.Machine.execSrdInjectBurst lane s
  | .timeExchangeStart l => Sys2Proof.Machine.execTimeExchangeStart l s
  | .syncReceive l => Sys2Proof.Machine.execSyncReceive l s
  | .syncHiReceive l => Sys2Proof.Machine.execSyncHiReceive l s
  | .delayReqReceive l => Sys2Proof.Machine.execDelayReqReceive l s
  | .delayRspReceive l => Sys2Proof.Machine.execDelayRspReceive l s
  | .exchangeTimeout => Sys2Proof.Machine.execExchangeTimeout s
  | .holdoverExpire => Sys2Proof.Machine.execHoldoverExpire s
  | .ppsInEdge => Sys2Proof.Machine.execPpsInEdge s
  | .timeSetWrite ag hi => Sys2Proof.Machine.execTimeSetWrite ag hi s
  | .timeAdjWrite ns => Sys2Proof.Machine.execTimeAdjWrite ns s
  | .ppsOutAssert => Sys2Proof.Machine.execPpsOutAssert s
  | .ppsOutDeassert => Sys2Proof.Machine.execPpsOutDeassert s
  | .windowOpen l e => Sys2Proof.Machine.execWindowOpen l e s
  | .windowClose l e => Sys2Proof.Machine.execWindowClose l e s
  | .viaductEligible => Sys2Proof.Machine.execViaductEligible s
  | .viaDataReceive => Sys2Proof.Machine.execViaDataReceive s
  | .viaSetupStart v => Sys2Proof.Machine.execViaSetupStart v s
  | .viaSetupReceive => Sys2Proof.Machine.execViaSetupReceive s
  | .viaSetupTimeout v => Sys2Proof.Machine.execViaSetupTimeout v s
  | .viaTeardownReceive => Sys2Proof.Machine.execViaTeardownReceive s
  | .viaTeardownForward v => Sys2Proof.Machine.execViaTeardownForward v s
  | .viaTableSwap => Sys2Proof.Machine.execViaTableSwap s
  | .viaInjectWindowSkip => Sys2Proof.Machine.execViaInjectWindowSkip s
  | .viaInjectTimeErr => Sys2Proof.Machine.execViaInjectTimeErr s
  | .collContribReceive => Sys2Proof.Machine.execCollContribReceive s
  | .collPartialExactReceive => Sys2Proof.Machine.execCollPartialExactReceive s
  | .collPartialOrderedReceive => Sys2Proof.Machine.execCollPartialOrderedReceive s
  | .collResultReceive => Sys2Proof.Machine.execCollResultReceive s
  | .collBcastReceive => Sys2Proof.Machine.execCollBcastReceive s
  | .collGatherReceive => Sys2Proof.Machine.execCollGatherReceive s
  | .barrierUpReceive => Sys2Proof.Machine.execBarrierUpReceive s
  | .barrierDownReceive => Sys2Proof.Machine.execBarrierDownReceive s
  | .collRepullReceive => Sys2Proof.Machine.execCollRepullReceive s
  | .abacusCtrlReceive => Sys2Proof.Machine.execAbacusCtrlReceive s
  | .windowFillDone tree inst chunk => Sys2Proof.Machine.execWindowFillDone tree inst chunk s
  | .windowSpaceFree n => Sys2Proof.Machine.execWindowSpaceFree n s
  | .windowStallTimeout tree inst chunk => Sys2Proof.Machine.execWindowStallTimeout tree inst chunk s
  | .repullTimeout tree inst chunk bar => Sys2Proof.Machine.execRepullTimeout tree inst chunk bar s
  | .resultRepullTimeout tree inst chunk bar => Sys2Proof.Machine.execResultRepullTimeout tree inst chunk bar s
  | .retainExpire tree inst chunk bar => Sys2Proof.Machine.execRetainExpire tree inst chunk bar s
  | .tombstoneExpire tree inst chunk bar => Sys2Proof.Machine.execTombstoneExpire tree inst chunk bar s
  | .bcastSourceComplete tag => Sys2Proof.Machine.execBcastSourceComplete tag s
  | .gatherResendTimeout tag chunk => Sys2Proof.Machine.execGatherResendTimeout tag chunk s
  | .abcInjectFillEcc n => Sys2Proof.Machine.execAbcInjectFillEcc n s
  | .abcInjectBeadEcc n => Sys2Proof.Machine.execAbcInjectBeadEcc n s
  | .abcInjectResidue n => Sys2Proof.Machine.execAbcInjectResidue n s
  | .treCollInjectDropUp => Sys2Proof.Machine.execTreCollInjectDropUp s
  | .hostPortEnable n => Sys2Proof.Machine.execHostPortEnable n s
  | .hostPortActive n cr => Sys2Proof.Machine.execHostPortActive n cr s
  | .hostPortTrainTimeout n negotiated => Sys2Proof.Machine.execHostPortTrainTimeout n negotiated s
  | .hostPortRestart n => Sys2Proof.Machine.execHostPortRestart n s
  | .hostPortFault n remote => Sys2Proof.Machine.execHostPortFault n remote s
  | .ethFrameReceive n frame => Sys2Proof.Machine.execEthFrameReceive n frame s
  | .pfcFrameReceive n => Sys2Proof.Machine.execPfcFrameReceive n s
  | .pauseFrameReceive n => Sys2Proof.Machine.execPauseFrameReceive n s
  | .pauseTimerExpire n timer => Sys2Proof.Machine.execPauseTimerExpire n timer s
  | .pfcXoffRepeat n => Sys2Proof.Machine.execPfcXoffRepeat n s
  | .saInstall n => Sys2Proof.Machine.execSaInstall n s
  | .tsTimePop n => Sys2Proof.Machine.execTsTimePop n s
  | .hptInjectFecSymbol n => Sys2Proof.Machine.execHptInjectFecSymbol n s
  | .hptInjectFcs n => Sys2Proof.Machine.execHptInjectFcs n s
  | .spanFrameReceive n => Sys2Proof.Machine.execSpanFrameReceive n s
  | .doorbell n => Sys2Proof.Machine.execDoorbell n s
  | .doorbellInline n => Sys2Proof.Machine.execDoorbellInline n s
  | .memRdData n => Sys2Proof.Machine.execMemRdData n s
  | .memWrAck n => Sys2Proof.Machine.execMemWrAck n s
  | .regRd n => Sys2Proof.Machine.execRegRd n s
  | .regWr n => Sys2Proof.Machine.execRegWr n s
  | .spanAck n => Sys2Proof.Machine.execSpanAck n s
  | .spanNak n => Sys2Proof.Machine.execSpanNak n s
  | .spnEnableWrite n on => Sys2Proof.Machine.execSpnEnableWrite n on s
  | .sessionResync n => Sys2Proof.Machine.execSessionResync n s
  | .syncResend n => Sys2Proof.Machine.execSyncResend n s
  | .spanRtoExpire n seq => Sys2Proof.Machine.execSpanRtoExpire n seq s
  | .spanAckDelay n => Sys2Proof.Machine.execSpanAckDelay n s
  | .memRdTimeout n id => Sys2Proof.Machine.execMemRdTimeout n id s
  | .landingTimeout n seq => Sys2Proof.Machine.execLandingTimeout n seq s
  | .sessionHoldExpire n => Sys2Proof.Machine.execSessionHoldExpire n s
  | .eventGatherSend => Sys2Proof.Machine.execEventGatherSend s
  | .spnInjectDropAck n => Sys2Proof.Machine.execSpnInjectDropAck n s
  | .spnInjectDropRx n => Sys2Proof.Machine.execSpnInjectDropRx n s
  | .spnInjectDropTx n => Sys2Proof.Machine.execSpnInjectDropTx n s
  | .descriptorFetch ctx => Sys2Proof.Machine.execDescriptorFetch ctx s
  | .cqHeadPoll ctx => Sys2Proof.Machine.execCqHeadPoll ctx s
  | .pad ctx => Sys2Proof.Machine.execPad ctx s
  | .nop tag => Sys2Proof.Machine.execNop tag s
  | .send tag => Sys2Proof.Machine.execSend tag s
  | .recv tag => Sys2Proof.Machine.execRecv tag s
  | .put tag => Sys2Proof.Machine.execPut tag s
  | .putNotify tag => Sys2Proof.Machine.execPutNotify tag s
  | .get tag => Sys2Proof.Machine.execGet tag s
  | .atomic tag => Sys2Proof.Machine.execAtomic tag s
  | .collReduce tag => Sys2Proof.Machine.execCollReduce tag s
  | .collBcast tag => Sys2Proof.Machine.execCollBcast tag s
  | .collGather tag => Sys2Proof.Machine.execCollGather tag s
  | .barrier tag => Sys2Proof.Machine.execBarrier tag s
  | .viaduct tag => Sys2Proof.Machine.execViaduct tag s
  | .ctxInit tag => Sys2Proof.Machine.execCtxInit tag s
  | .ctxEnable tag => Sys2Proof.Machine.execCtxEnable tag s
  | .ctxDisable tag => Sys2Proof.Machine.execCtxDisable tag s
  | .ctxReset tag => Sys2Proof.Machine.execCtxReset tag s
  | .ctxResetTimeout ctx => Sys2Proof.Machine.execCtxResetTimeout ctx s
  | .ctxRead tag => Sys2Proof.Machine.execCtxRead tag s
  | .spaceSet tag => Sys2Proof.Machine.execSpaceSet tag s
  | .regionSet tag => Sys2Proof.Machine.execRegionSet tag s
  | .regionRevoke tag => Sys2Proof.Machine.execRegionRevoke tag s
  | .revokeComplete => Sys2Proof.Machine.execRevokeComplete s
  | .xltInval tag => Sys2Proof.Machine.execXltInval tag s
  | .mringEnable on => Sys2Proof.Machine.execMringEnable on s
  | .ctgInjectFetchErr g => Sys2Proof.Machine.execCtgInjectFetchErr g s
  | .ctgInjectMalformed g => Sys2Proof.Machine.execCtgInjectMalformed g s
  | .sendEagerReceive => Sys2Proof.Machine.execSendEagerReceive s
  | .sendRtsReceive => Sys2Proof.Machine.execSendRtsReceive s
  | .sendFinReceive => Sys2Proof.Machine.execSendFinReceive s
  | .sendCancelReceive => Sys2Proof.Machine.execSendCancelReceive s
  | .postedReceiveRoom n => Sys2Proof.Machine.execPostedReceiveRoom n s
  | .hookRecordPush n => Sys2Proof.Machine.execHookRecordPush n s
  | .matInjectStateEcc n => Sys2Proof.Machine.execMatInjectStateEcc n s
  | .putReceive => Sys2Proof.Machine.execPutReceive s
  | .putNotifyReceive => Sys2Proof.Machine.execPutNotifyReceive s
  | .getReqReceive => Sys2Proof.Machine.execGetReqReceive s
  | .getRspReceive => Sys2Proof.Machine.execGetRspReceive s
  | .atomicReceive => Sys2Proof.Machine.execAtomicReceive s
  | .atomicRspReceive => Sys2Proof.Machine.execAtomicRspReceive s
  | .accessNakReceive => Sys2Proof.Machine.execAccessNakReceive s
  | .ackReceive => Sys2Proof.Machine.execAckReceive s
  | .relAckDelay chan => Sys2Proof.Machine.execRelAckDelay chan s
  | .retransmitTimeout chan seq => Sys2Proof.Machine.execRetransmitTimeout chan seq s
  | .channelEntryFree => Sys2Proof.Machine.execChannelEntryFree s
  | .sendHalfReset chan => Sys2Proof.Machine.execSendHalfReset chan s
  | .receiveHalfReset chan => Sys2Proof.Machine.execReceiveHalfReset chan s
  | .respHoldExpire chan seq => Sys2Proof.Machine.execRespHoldExpire chan seq s
  | .refuseHoldExpire chan seq => Sys2Proof.Machine.execRefuseHoldExpire chan seq s
  | .parkTimeout rel slot => Sys2Proof.Machine.execParkTimeout rel slot s
  | .suspendLimitExpire chan seq => Sys2Proof.Machine.execSuspendLimitExpire chan seq s
  | .relInjectRespEcc n => Sys2Proof.Machine.execRelInjectRespEcc n s
  | .relInjectDropAck n => Sys2Proof.Machine.execRelInjectDropAck n s
  | .relInjectDropRx n => Sys2Proof.Machine.execRelInjectDropRx n s
  | .walkStepRead n k => Sys2Proof.Machine.execWalkStepRead n k s
  | .localTimeoutExpire tag => Sys2Proof.Machine.execLocalTimeoutExpire tag s
  | .xltInvStart n => Sys2Proof.Machine.execXltInvStart n s
  | .invalidationComplete n => Sys2Proof.Machine.execInvalidationComplete n s
  | .pteStore ag n hi => Sys2Proof.Machine.execPteStore ag n hi s
  | .pteDataRead ag n => Sys2Proof.Machine.execPteDataRead ag n s
  | .xltInjectTcacheEcc n => Sys2Proof.Machine.execXltInjectTcacheEcc n s
  | .xltInjectWalkErr n => Sys2Proof.Machine.execXltInjectWalkErr n s
  | .hartInstruction h => Sys2Proof.Machine.execHartInstruction h s
  | .fence h => Sys2Proof.Machine.execFence h s
  | .lr h => Sys2Proof.Machine.execLr h s
  | .sc h => Sys2Proof.Machine.execSc h s
  | .amo h => Sys2Proof.Machine.execAmo h s
  | .deviceAccess h => Sys2Proof.Machine.execDeviceAccess h s
  | .hostAccess h => Sys2Proof.Machine.execHostAccess h s
  | .lq h => Sys2Proof.Machine.execLq h s
  | .sq h => Sys2Proof.Machine.execSq h s
  | .lkacq h => Sys2Proof.Machine.execLkacq h s
  | .lkacqTry h => Sys2Proof.Machine.execLkacqTry h s
  | .lkrel h => Sys2Proof.Machine.execLkrel h s
  | .qpushD h => Sys2Proof.Machine.execQpushD h s
  | .qpushQ h => Sys2Proof.Machine.execQpushQ h s
  | .qpop h => Sys2Proof.Machine.execQpop h s
  | .mprb h => Sys2Proof.Machine.execMprb h s
  | .waitq h => Sys2Proof.Machine.execWaitq h s
  | .fenceEp h => Sys2Proof.Machine.execFenceEp h s
  | .evsig h => Sys2Proof.Machine.execEvsig h s
  | .hret h => Sys2Proof.Machine.execHret h s
  | .ftcmpEvent h => Sys2Proof.Machine.execFtcmpEvent h s
  | .hartWarmReset c hart => Sys2Proof.Machine.execHartWarmReset c hart s
  | .clusterWarmReset c => Sys2Proof.Machine.execClusterWarmReset c s
  | .clusterFaultReset c => Sys2Proof.Machine.execClusterFaultReset c s
  | .resetDrainDone c => Sys2Proof.Machine.execResetDrainDone c s
  | .drainTimeout c => Sys2Proof.Machine.execDrainTimeout c s
  | .hartRunWrite c k v => Sys2Proof.Machine.execHartRunWrite c k v s
  | .engInjectStateEcc c => Sys2Proof.Machine.execEngInjectStateEcc c s
  | .engInjectDrainStall c => Sys2Proof.Machine.execEngInjectDrainStall c s
  | .fetchSh c line => Sys2Proof.Machine.execFetchSh c line s
  | .fetchEx c line => Sys2Proof.Machine.execFetchEx c line s
  | .promote c line => Sys2Proof.Machine.execPromote c line s
  | .retire c line => Sys2Proof.Machine.execRetire c line s
  | .ioRead p line => Sys2Proof.Machine.execIoRead p line s
  | .ioWrite p line off data => Sys2Proof.Machine.execIoWrite p line off data s
  | .probeSh c line => Sys2Proof.Machine.execProbeSh c line s
  | .probeEx c line => Sys2Proof.Machine.execProbeEx c line s
  | .probeKill c line => Sys2Proof.Machine.execProbeKill c line s
  | .fill agent line => Sys2Proof.Machine.execFill agent line s
  | .grant agent line => Sys2Proof.Machine.execGrant agent line s
  | .none c line => Sys2Proof.Machine.execNone c line s
  | .probeAck c line => Sys2Proof.Machine.execProbeAck c line s
  | .clean c line => Sys2Proof.Machine.execClean c line s
  | .dirty c line => Sys2Proof.Machine.execDirty c line s
  | .reservationDeferEnd h => Sys2Proof.Machine.execReservationDeferEnd h s
  | .poisonCtrlMark h => Sys2Proof.Machine.execPoisonCtrlMark h s
  | .poisonCtrlClear h => Sys2Proof.Machine.execPoisonCtrlClear h s
  | .lckClrGo => Sys2Proof.Machine.execLckClrGo s
  | .hbmScrub n line => Sys2Proof.Machine.execHbmScrub n line s
  | .selfRefreshEntry n => Sys2Proof.Machine.execSelfRefreshEntry n s
  | .selfRefreshExit n failed => Sys2Proof.Machine.execSelfRefreshExit n failed s
  | .homInjectSfEcc h => Sys2Proof.Machine.execHomInjectSfEcc h s
  | .hbmInjectCorr n => Sys2Proof.Machine.execHbmInjectCorr n s
  | .hbmInjectUncorr n => Sys2Proof.Machine.execHbmInjectUncorr n s
  | .lckInjectEntryEcc => Sys2Proof.Machine.execLckInjectEntryEcc s
  | .scoreSample => Sys2Proof.Machine.execScoreSample s
  | .migrationCheck => Sys2Proof.Machine.execMigrationCheck s
  | .migrate ctx cluster => Sys2Proof.Machine.execMigrate ctx cluster s
  | .hintApply ag ctx hi => Sys2Proof.Machine.execHintApply ag ctx hi s
  | .handlerDone tag cancel => Sys2Proof.Machine.execHandlerDone tag cancel s
  | .handlerTimeout tag => Sys2Proof.Machine.execHandlerTimeout tag s
  | .plcInjectSteerEcc => Sys2Proof.Machine.execPlcInjectSteerEcc s
  | .shaperRefill k => Sys2Proof.Machine.execShaperRefill k s
  | .policerRefill k => Sys2Proof.Machine.execPolicerRefill k s
  | .schInjectQstateEcc k => Sys2Proof.Machine.execSchInjectQstateEcc k s
  | .rfaGrant => Sys2Proof.Machine.execRfaGrant s
  | .rfaWaitWarn r => Sys2Proof.Machine.execRfaWaitWarn r s
  | .rfaHoldWarn r => Sys2Proof.Machine.execRfaHoldWarn r s
  | .keystoneEvent src kind detail => Sys2Proof.Machine.execKeystoneEvent src kind detail s
  | .reactionTimerExpire => Sys2Proof.Machine.execReactionTimerExpire s
  | .heartbeat src => Sys2Proof.Machine.execHeartbeat src s
  | .heartbeatLost src odd => Sys2Proof.Machine.execHeartbeatLost src odd s
  | .progressStall point unit index => Sys2Proof.Machine.execProgressStall point unit index s
  | .logHeadWrite ag v => Sys2Proof.Machine.execLogHeadWrite ag v s
  | .logRead ag slot => Sys2Proof.Machine.execLogRead ag slot s
  | .severityWrite ag src w v => Sys2Proof.Machine.execSeverityWrite ag src w v s
  | .safeCtrlWrite ag key => Sys2Proof.Machine.execSafeCtrlWrite ag key s
  | .testEvent v => Sys2Proof.Machine.execTestEvent v s
  | .keystoneSelfFault code loc logOk => Sys2Proof.Machine.execKeystoneSelfFault code loc logOk s
  | .kstInjectLogEcc => Sys2Proof.Machine.execKstInjectLogEcc s
  | .kstInjectLockstep => Sys2Proof.Machine.execKstInjectLockstep s
  | .sleepEntryStart d => Sys2Proof.Machine.execSleepEntryStart d s
  | .sleepEntryDone d => Sys2Proof.Machine.execSleepEntryDone d s
  | .domainWakeDone d => Sys2Proof.Machine.execDomainWakeDone d s
  | .wakeTimeout d => Sys2Proof.Machine.execWakeTimeout d s
  | .refclkLoss ref ppm => Sys2Proof.Machine.execRefclkLoss ref ppm s
  | .corePllUnlock pll => Sys2Proof.Machine.execCorePllUnlock pll s
  | .avsTargetChange mv => Sys2Proof.Machine.execAvsTargetChange mv s
  | .tempSample readings => Sys2Proof.Machine.execTempSample readings s
  | .supplySample rail mv da => Sys2Proof.Machine.execSupplySample rail mv da s
  | .snsInjectSupplyOor => Sys2Proof.Machine.execSnsInjectSupplyOor s
  | .powerOnReset down up => Sys2Proof.Machine.execPowerOnReset down up s
  | .pwrokRise => Sys2Proof.Machine.execPwrokRise s
  | .resetNAssert => Sys2Proof.Machine.execResetNAssert s
  | .coldResetCmd ag => Sys2Proof.Machine.execColdResetCmd ag s
  | .warmResetCmd ag => Sys2Proof.Machine.execWarmResetCmd ag s
  | .resetBegin => Sys2Proof.Machine.execResetBegin s
  | .resetHoldEnd bootSel mgtMode failed => Sys2Proof.Machine.execResetHoldEnd bootSel mgtMode failed s
  | .configEnd => Sys2Proof.Machine.execConfigEnd s
  | .configWrite => Sys2Proof.Machine.execConfigWrite s
  | .configPoll => Sys2Proof.Machine.execConfigPoll s
  | .configPollTimeout => Sys2Proof.Machine.execConfigPollTimeout s
  | .configWait => Sys2Proof.Machine.execConfigWait s
  | .configFill => Sys2Proof.Machine.execConfigFill s
  | .bootDone => Sys2Proof.Machine.execBootDone s
  | .fuseProgramSlot arg => Sys2Proof.Machine.execFuseProgramSlot arg s
  | .fuseRevokeSlot arg => Sys2Proof.Machine.execFuseRevokeSlot arg s
  | .svnCommit arg => Sys2Proof.Machine.execSvnCommit arg s
  | .fuseCmdDone failed => Sys2Proof.Machine.execFuseCmdDone failed s
  | .flashRead => Sys2Proof.Machine.execFlashRead s
  | .flashProgram => Sys2Proof.Machine.execFlashProgram s
  | .flashErase => Sys2Proof.Machine.execFlashErase s
  | .flashVerify => Sys2Proof.Machine.execFlashVerify s
  | .flashCmdDone failed => Sys2Proof.Machine.execFlashCmdDone failed s
  | .attest => Sys2Proof.Machine.execAttest s
  | .attestDone => Sys2Proof.Machine.execAttestDone s
  | .extend => Sys2Proof.Machine.execExtend s
  | .talSnap b => Sys2Proof.Machine.execTalSnap b s
  | .talClear b => Sys2Proof.Machine.execTalClear b s
  | .tallyDump => Sys2Proof.Machine.execTallyDump s
  | .tallyDumpDone => Sys2Proof.Machine.execTallyDumpDone s
  | .refclkReturn ref ppm => Sys2Proof.Machine.execRefclkReturn ref ppm s
  | .resetNRelease => Sys2Proof.Machine.execResetNRelease s
  | .prbsCheckerLock lane locks => Sys2Proof.Machine.execPrbsCheckerLock lane locks s
  | .echoWaitExpire l => Sys2Proof.Machine.execEchoWaitExpire l s
  | .linkParamRetry l => Sys2Proof.Machine.execLinkParamRetry l s
  | .bootStageComplete failed => Sys2Proof.Machine.execBootStageComplete failed s
  | .extendDone => Sys2Proof.Machine.execExtendDone s
  | .poisonCtrlDone h => Sys2Proof.Machine.execPoisonCtrlDone h s
  | .hbmTempChange n c => Sys2Proof.Machine.execHbmTempChange n c s
  | .tapReset => Sys2Proof.Machine.execTapReset s
  | .boundaryScanUpdate v => Sys2Proof.Machine.execBoundaryScanUpdate v s

end Sys2Proof.Machine
end

