-- ==== Sys2Proof/Machine/Step.lean ====
section
/-!
DEFINITION. Machine/Step.lean: one step of the block: the command at the front of its queue, or a nanosecond of time.
-/
namespace Sys2Proof.Machine

/-- A nanosecond in which no command is waiting (log 9): local and fabric time advance (R173), locked PRBS checkers count (R166), and
awake engines count and perform stores (R426, R559). -/
def State.idleTick (s : State) : State := (s.prbs.foldl (fun s e => s.prbsTick e.1) s).engTick.tick

/-- Take the command at the front of the queue and run it with the queue's rest; on an empty queue time passes. -/
def step (s : State) : Host.Outcome State Fault Refusal :=
  match s.pending with
  | [] => .next s.idleTick
  | c :: rest => exec c { s with pending := rest }

/-- The state with the command that a word spells put at the front of its queue. No row of the table gives bits. -/
def State.withFetchWord (s : State) (nbits w : Nat) : State :=
  match Sys2Proof.decodeTableWord nbits w with
  | some c => { s with pending := c :: s.pending }
  | none => s

end Sys2Proof.Machine
end

