-- ==== Sys2Proof/Safety.lean ====
section
/-!
DEFINITION. Safety.lean: what counts as a safe run. The block has no fault: a command that the spec gives an effect always
answers a next state, and what fails is recorded in Keystone.
-/
namespace Sys2Proof.Safety

open Sys2Proof.Machine

/-- A step goes on. -/
def Goes (s : State) : Prop := ∃ t, step s = .next t

/-- Every step of a run goes on: `n` steps from a state answer next states. -/
def GoesFor : Nat → State → Prop
  | 0, _ => True
  | n + 1, s => ∃ t, step s = .next t ∧ GoesFor n t

end Sys2Proof.Safety
end

