-- ==== Sys2Proof/Certificates/Slice0/Obligations.lean ====
section
/-!
DEFINITION. The statements about the block: what every command does from the states in which the spec says that it acts, what steps keep,
and what the shared operations compute.
-/

open Sys2Proof Sys2Proof.Machine

/-- Registers (R578, R580–R586, R576): an access that the checks of R578 pass, on a page that is not blocked, is performed; a JTAG
access is presented to the arbiter. -/
def Obligations.RegisterAccessesAreMade : Prop :=
  (∀ ag a v s, s.pwr.inReset = none → s.regStatus ag true a.val 1 true = 0 → s.pageBlocked (a.val / 0x1000) = false →
    exec (.registerWrite ag a v) s = .next (s.busWrite ag a.val v).drain) ∧
  (∀ ag a v s, s.pwr.inReset = none → s.regStatus ag true a.val 1 true = 0 → s.pageBlocked (a.val / 0x1000) = false →
    appliesBoth a.val = true → exec (.pairHighWrite ag a v) s = .next (s.busWrite ag a.val v).drain) ∧
  (∀ ag a s, s.pwr.inReset = none → s.regStatus ag false a.val 1 true = 0 → s.pageBlocked (a.val / 0x1000) = false →
    pairHalf a.val = .low → exec (.pairLowRead ag a) s = .next (s.busRead ag a.val).2.drain) ∧
  (∀ ag page guard s, s.pwr.inReset = none → s.regStatus ag true (page.val * 0x1000 + 0x020) 1 true = 0 → s.pageBlocked page.val = false →
    exec (.commit ag page guard) s = .next (s.busWrite ag (page.val * 0x1000 + 0x020) guard).drain) ∧
  (∀ ag page on s, s.pwr.inReset = none → s.regStatus ag true (page.val * 0x1000 + 0x008) 1 true = 0 → s.pageBlocked page.val = false →
    exec (.pageEnableWrite ag page on) s = .next (s.busWrite ag (page.val * 0x1000 + 0x008) (s.ctrlWith page.val 0 on)).drain ∧
    exec (.sleepAllowWrite ag page on) s = .next (s.busWrite ag (page.val * 0x1000 + 0x008) (s.ctrlWith page.val 2 on)).drain ∧
    exec (.softReset ag page) s = .next (s.busWrite ag (page.val * 0x1000 + 0x008) (s.ctrlWith page.val 1 true)).drain) ∧
  (∀ op addr data s, s.tap.busy = false → op.val = 1 ∨ op.val = 2 → addr.toNat < 2 ^ 26 →
    s.regStatus .jtag (decide (op.val = 2)) addr.toNat 1 true = 0 →
    exec (.regacc op addr data) s = .next (({ s with tap := { s.tap with busy := true } }).rfaPresent
      { agent := .jtag, write := decide (op.val = 2), addr := addr.toNat, data := data }))

/-- A register access that the checks refuse does nothing but count and record the refusal (R578, R592). -/
def Obligations.RefusedRegisterWritesWriteNothing : Prop :=
  ∀ ag a v s st, s.pwr.inReset = none → s.regStatus ag true a.val 1 true = st → st ≠ 0 →
    exec (.registerWrite ag a v) s = .next (s.regRefused ag a.val st) ∧
    (st = 0x01 → ∃ t, exec (.registerWrite ag a v) s = .next t ∧ t.fld F.RFA_LAST_REFUSED_ADDR = a.val ∧
      t.fld F.RFA_CNT_PRIV_COUNT = satAdd 32 (s.fld F.RFA_CNT_PRIV_COUNT) 1) ∧
    (st = 0x02 → ∃ t, exec (.registerWrite ag a v) s = .next t ∧ t.fld F.RFA_LAST_REFUSED_ADDR = a.val ∧
      t.fld F.RFA_CNT_SAFE_COUNT = satAdd 32 (s.fld F.RFA_CNT_SAFE_COUNT) 1)

/-- Pages and tables (R99, R100, R581, R583, R584, R589). -/
def Obligations.CommitsSyncsAndResetsEnd : Prop :=
  (∀ (page : Fin 16384) s b n, pageKind page.val = .block b n → b ∉ [Blk.lnk, .hpt, .spn, .mgt, .via, .rou, .tre, .srd, .eng] →
    s.pending? page.val = true → ∃ t, exec (.commitApply page) s = .next t ∧ t = (s.applyVals page.val).bumpSeq page.val ∧
      t.rd (page.val * 0x1000 + 0x024) = (s.applyVals page.val).rd (page.val * 0x1000 + 0x024) + 1) ∧
  (∀ (k : Fin 4) s, mget false s.rou.swapping k.val = true → ∃ t, exec (.tableSwapDone k) s = .next t ∧
    t.rd (tblPage k.val * 0x1000 + 0x024) = s.rd (tblPage k.val * 0x1000 + 0x024) + 1 ∧ mget false t.rou.swapping k.val = false) ∧
  (∀ ag (k : Fin 4) s, s.pwr.inReset = none → s.regStatus ag true ((tblBusy k.val).addr 0 0) 1 true = 0 →
    ∃ t, exec (.tblSync ag k) s = .next t ∧ t.flag (tblBusy k.val) = true) ∧
  (∀ (k : Fin 4) s, s.flag (tblBusy k.val) = true → mget false s.rou.commitHeld k.val = false →
    ∃ t, exec (.tblSyncDone k) s = .next t ∧ t.flag (tblBusy k.val) = false) ∧
  (∀ (k : Fin 4) s, s.flag (tblBusy k.val) = true → mget false s.rou.commitHeld k.val = true →
    ∀ u, u = (s.syncCopies k.val).setFld (tblBusy k.val) 0 →
    exec (.tblSyncDone k) s = .next (({ u with rou := { u.rou with commitHeld := mput false u.rou.commitHeld k.val false } }).commitGo (tblPage k.val))) ∧
  (∀ page s, ∃ t, exec (.softResetDone page) s = .next t ∧ mget false t.regs.softReset page.val = false ∧
    ∀ p, p ≠ page.val → mget false t.regs.softReset p = mget false s.regs.softReset p) ∧
  (∀ a part s, s.parityFinds = [] → exec (.paritySweep false a part) s = .next s.drain) ∧
  (∀ a part s, s.parityFinds ≠ [] →
    exec (.paritySweep false a part) s = .next (s.parityFinds.foldl (fun s e => s.parityFail e.1 e.2) s).drain)

/-- Packets (R42, R49, R60, R62, R483): a header that checks is stored and resolved, a whole packet for this router is delivered, a free
link starts the head that the service order gives, and a sent packet's END leaves and its copy is done; a FENCE packet that may pass does. -/
def Obligations.PacketsMoveThroughTheRouter : Prop :=
  (∀ (l : Fin 256) s i r id s1 p s2, firstIdx (s.link l).rxq (fun r => decide (r.pkt = none) && decide (32 ≤ r.bytes.length)) = some (i, r) →
    pHchk (slice r.bytes 0 32) = (hchk (slice r.bytes 0 32)).toNat →
    p = { bytes := r.bytes, len := r.len, inLink := some l.val, pipe := s.linkTile l, tc := r.tc, vc := r.vc,
          shared := r.shared, whole := false, fate := Fate.forward } → s.addPkt p = (id, s1) →
    (s1.setLink l { s1.link l with rxq := (s1.link l).rxq.set i { r with pkt := some id } }).police l (slice r.bytes 0 32) r.len = (.green, s2) →
    exec (.packetHeaderArrive l) s = .next (s2.resolve id p)) ∧
  (∀ (l : Fin 256) s i r id p b, firstIdx (s.link l).rxq (fun r => r.pkt.isSome && decide (r.ended ≠ 0)) = some (i, r) → r.pkt = some id →
    r.ended = 1 → s.pkt id = some p → p.fate = .deliver → b = slice p.bytes 0 32 ++ r.bytes.drop 32 →
    exec (.packetTailArrive l) s = .next (((s.setLink l { s.link l with rxq := (s.link l).rxq.eraseIdx i }).setPkt id
      { p with bytes := b, whole := true }).deliver id { p with bytes := b, whole := true })) ∧
  (∀ (l : Fin 256) s u tc vc e rest, s.lstate l = LS.active → (s.link l).txPkt = none → s.awake (Dom.pipe (s.linkTile l)) = true → s.gatesOn = false →
    s.chooseOut l none = (some (tc, vc), u) → u.outQ l tc vc = e :: rest →
    exec (.packetTransmitStart l) s = .next ((u.setOutQ l tc vc rest).startCopy l e.pkt e.hdr e.crc none)) ∧
  (∀ (l : Fin 256) s u x p, s.supply l = u → (u.link l).txPkt = some x → u.pkt x.pkt = some p → x.bad = false → p.bad = false →
    p.len ≤ x.sent → p.whole = true → exec (.packetTransmitEnd l) s = .next ((u.setLink l { u.link l with
      txStream := (u.link l).txStream ++ streamItem (beBytes 4 (0xFD * 2 ^ 24)), txPkt := none }).copyDone x.pkt).drain) ∧
  (∀ (p : Fin 65536) s c r, s.safe = false → s.chan p = some c → c.rx.find? (fun r => decide (r.hold = .fence) && s.fenceReady p r.seq) = some r →
    exec (.fenceRelease p) s =
      .next ((s.setChan p { c with rx := c.rx.filter (fun x => decide (x.seq ≠ r.seq)) }).passRx p r.bytes r.pipe).drain) ∧
  (∀ (l : Fin 256) s u x p, s.supply l = u → (u.link l).txPkt = some x → u.pkt x.pkt = some p → p.whole = false → x.sent < p.len →
    exec (.ctStallExpire l) s = .next ((u.count F.FWD_CNT_ABORT_COUNT p.pipe).abortTx l x p.len))

/-- Injection schedulers and routing (R475, R79, R82, R84): a scheduler admits an eligible head, a load report round advances the class
cycle, a valid report is applied and counted, a ROUTE_ERROR is taken by what it names, and a failed mark clears. -/
def Obligations.SchedulersAndRoutingAct : Prop :=
  (∀ (k : Fin 16) s u key h, s.safe = false → s.armed F.SCH_INJECT_QSTATE_ECC k = false →
    u = ((s.headOrder k).map (·.2)).foldl (fun s key => s.rechoose key) s → (u.headOrder k).map (·.2) = [key] → (u.injQ key).head = some h →
    u.blocked k (key % 256) h = none → exec (.schSelect k) s = .next (u.letIn key)) ∧
  (∀ s, s.fld F.ROU_LR_CFG_PERIOD ≠ 0 → ∃ t, exec .loadReportRound s = .next t ∧
    t.rou.cycle = if s.reportedClasses.length ≤ 12 then 0 else (s.rou.cycle + 12) % s.reportedClasses.length) ∧
  (∀ s d u, s.takeOpc 0x62 = (some d, u) → beAt (pExt d.bytes) 2 1 / 16 ≤ 12 →
    stampAge (u.ftime % 2 ^ 32) (beAt (pExt d.bytes) 4 4) ≤ u.fld F.ROU_AGE_CFG_MAXAGE → exec .loadReportReceive s =
      .next (((List.range (beAt (pExt d.bytes) 2 1 / 16)).foldl (fun s i => s.applyLevel (beAt (pExt d.bytes) 0 2 % 2 ^ 14)
        (beAt (pExt d.bytes) (8 + 2 * i) 1) (beAt (pExt d.bytes) (9 + 2 * i) 1)) u).count F.ROU_CNT_LR_RX_COUNT 0)) ∧
  (∀ s d u, s.safe = false → s.awake Dom.endpoint = true → s.takeOpc 0x63 = (some d, u) →
    exec .routeErrorReceive s = .next (u.takeRouteError d.bytes).drain) ∧
  (∀ (dest : Fin 16384) (cand : Fin 16) s, ∃ t, exec (.failedMarkExpire dest cand) s = .next t ∧
    mfind t.rou.failed (dest.val * 16 + cand.val) = none ∧
    ∀ k, k ≠ dest.val * 16 + cand.val → mfind t.rou.failed k = mfind s.rou.failed k)

/-- Flits (R104, R122, R123, R124, R125, R129): a data flit leaves where one may; a good data flit with the expected SEQ advances E; ACKs
and REPLAY_REQs are sent and taken; a replay starts from the sequence asked for. -/
def Obligations.FlitsAcksAndReplays : Prop :=
  (∀ (l : Fin 256) s u u', s.supply l = u → u.sends l = true → (u.link l).replayPos = none → u.lstate l = LS.active →
    (u.link l).canSend (u.flitData l) = true → u.outstanding l < u.maxOutstanding l → u.replayRoom l = some u' →
    exec (.flitSend l) s = .next (u'.sendData l)) ∧
  (∀ (l : Fin 256) (b : List Byte) s, (s.link l).step = 7 → (s.link l).waking = false → s.v1 l = false → b.length = s.flitData l + 12 →
    beAt b (s.flitData l + 8) 4 = (lcrc (b.take (s.flitData l + 8))).toNat → (s.link l).rxHalf = none → beAt b 4 4 = 0 →
    (s.link l).rxE < 2 ^ 20 → beAt b 0 4 / 2 ^ 12 = (s.link l).rxE → beAt b 0 4 % 16 = 1 →
    beAt b 0 4 / 2 ^ 4 % 256 = (s.link l).expectOffset (s.flitData l) → (s.link l).unacked < 15 →
    ∃ t, exec (.flitReceive l b 0 false) s = .next t ∧ (t.link l).rxE = ((s.link l).rxE + 1) % 2 ^ 20 ∧ (t.link l).replayWait = false ∧
      (t.link l).unacked = (s.link l).unacked + 1) ∧
  (∀ (l : Fin 256) s, (s.link l).unacked ≠ 0 → ∃ t, exec (.linkAckTimer l) s = .next t ∧ (t.link l).unacked = 0 ∧
    (t.link l).byp = (s.link l).byp ++ [bypMsg 0x02 (((s.link l).rxE + 2 ^ s.seqBits l - 1) % 2 ^ s.seqBits l)]) ∧
  (∀ (l : Fin 256) s u m q, s.takeByp l [0x02] = (some (m, q), u) →
    seqDist (u.seqBits l) (bits m 0 (u.seqBits l)) (u.link l).acked < u.outstanding l →
    ∃ t, exec (.linkAckReceive l) s = .next t ∧ (t.link l).acked = (bits m 0 (u.seqBits l) + 1) % 2 ^ u.seqBits l ∧ (t.link l).retries = 0 ∧
      (t.link l).replay = (u.link l).replay.filter (fun r => decide (seqDist (u.seqBits l) (bits m 0 (u.seqBits l)) (u.link l).acked <
        seqDist (u.seqBits l) r.seq (u.link l).acked))) ∧
  (∀ (l : Fin 256) s u m q, s.takeByp l [0x03] = (some (m, q), u) →
    seqDist (u.seqBits l) (bits m 0 (u.seqBits l)) (u.link l).acked < u.outstanding l → (u.link l).replayPos = none → (u.link l).replayFrom = none →
    exec (.replayReqReceive l) s = .next (u.startReplay l (bits m 0 (u.seqBits l)))) ∧
  (∀ (l : Fin 256) s, (s.link l).replayWait = true → ∃ t, exec (.replayWaitTimeout l) s = .next t ∧ (t.link l).byp = (s.link l).byp ++
    [bypMsg 0x02 (((s.link l).rxE + 2 ^ s.seqBits l - 1) % 2 ^ s.seqBits l), bypMsg 0x03 (s.link l).rxE]) ∧
  (∀ (l : Fin 256) s, s.linkUp l = true → s.outstanding l ≠ 0 → (s.link l).replayPos = none →
    exec (.replayTimeout l) s = .next (s.startReplay l (s.link l).acked)) ∧
  (∀ (l : Fin 256) s p i r, (s.link l).replayPos = some p → firstIdx (s.link l).replay (fun r => r.spilled && !r.readBack &&
      decide (seqDist (s.seqBits l) p (s.link l).acked ≤ seqDist (s.seqBits l) r.seq (s.link l).acked)) = some (i, r) →
    ∃ t, exec (.spillReadDone l) s = .next t ∧ (t.link l).replay = (s.link l).replay.set i { r with readBack := true })

/-- Bypass messages of a link (R118, R119, R120, R135, R137, R140, R160): limits are taken and repeated, parameters agreed, echoes
answered, sleep asked for and answered, and a partner's DOWN or FENCE followed. -/
def Obligations.LinkMessagesAct : Prop :=
  (∀ (l : Fin 256) s u m q pool v, s.takeByp l [0x01] = (some (m, q), u) → pool = bits m 49 7 → v = bits m 0 24 → pool ∈ u.pools l → 6 ≤ (u.link l).step →
    seqDist 24 v (mget 0 (u.link l).limit pool) < 2 ^ 23 → seqDist 24 v (mget 0 (u.link l).used pool) ≤ 2 ^ 20 →
    exec (.creditLimitReceive l) s = .next ((u.setLink l
      { u.link l with
        limit := mput 0 (u.link l).limit pool v,
        limGot := mput false (u.link l).limGot pool true,
        stallSeen := if seqDist 24 v (mget 0 (u.link l).limit pool) = 0 then (u.link l).stallSeen
          else mput false (u.link l).stallSeen pool false }).linkActive l)) ∧
  (∀ (l : Fin 256) s, s.linkUp l = true → exec (.creditRefresh l) s =
    .next ((s.pools l).foldl (fun s p => s.queueByp l (creditMsg p (mget 0 (s.link l).rxLimit p))) s)) ∧
  (∀ (l : Fin 256) (pool : Fin 128) s, s.linkUp l = true → pool.val ∈ s.pools l → mget false (s.link l).stallSeen pool.val = false →
    exec (.creditStall l pool) s = .next ((s.setLink l { s.link l with stallSeen := mput false (s.link l).stallSeen pool.val true }).raise l.val 0x04
      (pool.val * 2 ^ 49 + mget 0 (s.link l).limit pool.val))) ∧
  (∀ (l : Fin 256) s, 3 ≤ (s.link l).step → (s.link l).step < 7 → s.codingAsk l ≠ 1 →
    exec (.linkParamSend l) s = .next ((s.queueByp l (s.paramMsg l 0)).queueByp l (s.paramMsg l 1))) ∧
  (∀ (l : Fin 256) s u m q w k w1 v strong mask, s.takeByp l [0x04] = (some (m, q), u) → (u.link l).step = 3 → w = m.setWidth 56 → bits w 52 4 = 0 →
    (u.link l).peer1 = some w1 → (u.link l).peerSeen = true ∨ bitAt w 51 = true →
    k = { u.link l with peer0 := some w, peerSeen := (u.link l).peerSeen || bitAt w 51 } →
    (u.setLink l k).agree l w = some (v, strong, mask) →
    ∃ t, exec (.linkParamReceive l) s = .next t ∧ (t.link l).step = 4 ∧ (t.link l).tcMask = mask) ∧
  (∀ (l : Fin 256) s u m q, s.takeByp l [0x05] = (some (m, q), u) → u.lstate l ≠ LS.disabled → u.lstate l ≠ LS.down →
    (bits m 52 4 = 1 → exec (.linkStateReceive l) s = .next (u.linkDown l 0x0A)) ∧
    (bits m 52 4 = 0 → bits m 44 8 ≠ 0x07 → exec (.linkStateReceive l) s = .next (u.linkDown l 0x04))) ∧
  (∀ (l : Fin 256) s, (s.link l).step = 3 ∨ (s.link l).step = 4 → (s.link l).echoSent < 16 →
    ∃ t, exec (.echoReqSend l) s = .next t ∧ (t.link l).echoSent = (s.link l).echoSent + 1 ∧ (t.link l).byp = (s.link l).byp ++ [bypMsg 0x06 0]) ∧
  (∀ (l : Fin 256) s u m q, s.takeByp l [0x06] = (some (m, q), u) → ∃ t, exec (.echoReqReceive l) s = .next t ∧
    (t.link l).byp = (u.link l).byp ++ [bypMsg 0x07 (q / 4 % 2 ^ 16 * 2 ^ 40 + bits m 0 40)]) ∧
  (∀ (l : Fin 256) s u m q, s.takeByp l [0x07] = (some (m, q), u) → (u.link l).echoClosed = false → 3 ≤ (u.link l).step → (u.link l).echoGot < 15 →
    ∃ t, exec (.echoRspReceive l) s = .next t ∧ (t.link l).echoGot = (u.link l).echoGot + 1 ∧
      (t.link l).echoMin = some (match (u.link l).echoMin with
        | some x => min x ((q / 4 % 2 ^ 40 + 2 ^ 40 + 2 ^ 40 - bits m 0 40 - bits m 40 16) % 2 ^ 40)
        | none => (q / 4 % 2 ^ 40 + 2 ^ 40 + 2 ^ 40 - bits m 0 40 - bits m 40 16) % 2 ^ 40)) ∧
  (∀ (l : Fin 256) s w, s.linkUp l = true → s.flag F.LNK_CFG_SLEEP_EN l = true → (s.link l).peer0 = some w → bitAt w 36 = true → s.v1 l = false →
    (s.link l).teardown = false → (s.link l).sleepReq = false → s.linkIdle l = true →
    ∃ t, exec (.sleepIdleExpire l) s = .next t ∧ (t.link l).sleepReq = true ∧ (t.link l).byp = (s.link l).byp ++ [bypMsg 0x08 0]) ∧
  (∀ (l : Fin 256) s u x, s.takeByp l [0x08] = (some x, u) → u.linkUp l = true →
    (u.flag F.LNK_CFG_SLEEP_EN l = true → u.linkIdle l = true → (u.link l).teardown = false →
      exec (.sleepReqReceive l) s = .next ((u.queueByp l (bypMsg 0x09 1)).quiet l)) ∧
    (u.linkIdle l = false → exec (.sleepReqReceive l) s = .next (u.queueByp l (bypMsg 0x09 0)))) ∧
  (∀ (l : Fin 256) s u m q, s.takeByp l [0x09] = (some (m, q), u) → (u.link l).sleepReq = true → bitAt m 0 = true → (u.quiet l).linkQueued l = false →
    exec (.sleepAckReceive l) s = .next (u.quiet l))

/-- Bring-up and tear-down of a link (R135, R138, R139, R140, R142, R145, R162, R163). -/
def Obligations.LinksComeUpAndGoDown : Prop :=
  (∀ (l : Fin 256) s u, s.enabled .lnk l = false → u = s.setHdr .lnk l F.HDR_CTRL_ENABLE 1 → (u.link l).downHold = false →
    u.lstate l = LS.disabled → u.mayTrain = true → exec (.linkEnable l) s = .next (u.linkStart l)) ∧
  (∀ (l : Fin 256) s u, s.enabled .lnk l = true → u = s.setHdr .lnk l F.HDR_CTRL_ENABLE 0 → u.lstate l = LS.active →
    ∃ t, exec (.linkDisable l) s = .next t ∧ (t.link l).teardown = true) ∧
  (∀ (l : Fin 256) s, s.drained l = true → (s.link l).teardown = true → exec (.teardownDrainEnd l) s =
    .next ((s.linkDown l 0x07 (some 0) (some (List.replicate 8 (linkStateMsg 0 0x07)))).releaseClaim l)) ∧
  (∀ (l : Fin 256) s, (s.link l).teardown = true → exec (.teardownTimeout l) s =
    .next ((s.linkDown l 0x07 (some 0) (some (List.replicate 8 (linkStateMsg 0 0x07)))).releaseClaim l)) ∧
  (∀ (l : Fin 256) s, 0 < (s.link l).step → (s.link l).step < 7 → exec (.bringupStepTimeout l) s =
    .next ((s.linkDown l 0x08).setLink l
      { (s.linkDown l 0x08).link l with
        paramRetry := decide ((s.link l).step = 3) && (s.link l).peer0.isNone && (s.link l).peer1.isNone && s.flag F.LNK_CFG_AUTO_RETRAIN l })) ∧
  (∀ (lane : Fin 512) s, s.claimedLane lane = true → s.flag F.SRD_OWNER_HOST lane = false → s.linkUp (s.fld F.SRD_OWNER_NUMBER lane) = true →
    exec (.laneSignalLoss lane) s =
      .next ((s.raise (320 + lane.val / 16) 0x03 (lane.val * 2 ^ 32)).linkDown (s.fld F.SRD_OWNER_NUMBER lane) 0x01)) ∧
  (∀ (l : Fin 256) s, 2 ≤ (s.link l).step → s.lstate l ≠ LS.quiet → exec (.deadTimeExpire l) s = .next (s.linkDown l 0x02)) ∧
  (∀ (l : Fin 256) s u, (s.link l).downHold = true → u = s.setLink l { s.link l with downHold := false, reEnabled := false } → u.enabled .lnk l = true →
    u.mayTrain = true → (s.link l).clockHeld = false → (s.link l).reEnabled = true → exec (.downHoldExpire l) s = .next (u.linkStart l)) ∧
  (∀ (l : Fin 256) s u, (s.link l).downHold = true → u = s.setLink l { s.link l with downHold := false, reEnabled := false } → u.enabled .lnk l = false →
    ∃ t, exec (.downHoldExpire l) s = .next t ∧ t.lstate l = LS.disabled) ∧
  (∀ (l : Fin 256) s, s.lstate l = LS.quiet → (s.link l).waking = true → exec (.linkWakeDone l) s =
    .next (((s.setLink l { s.link l with waking := false, idle := false }).linkLanes l).foldl (fun s n => s.setLane n 5)
      ((s.setLink l { s.link l with waking := false, idle := false }).setFld F.LNK_LSTATE_STATE LS.active l))) ∧
  (∀ (l : Fin 256) s, s.lstate l = LS.quiet → (s.link l).waking = true → exec (.wakeRelockTimeout l) s =
    .next ((s.raise (320 + s.linkTile l) 0x04 (s.firstLane l * 2 ^ 32)).linkDown l 0x01)) ∧
  (∀ (lane : Fin 512) s u, u = s.fld F.SRD_OWNER_NUMBER lane → s.claimedLane lane = true → s.flag F.SRD_OWNER_HOST lane = false →
    s.lstate u = LS.quiet → (s.link u).waking = false → exec (.laneWakeDetect lane) s =
      .next ((s.setLink u { s.link u with waking := true, idle := false, lockCount := 0 }).wake (Dom.tile (s.linkTile u)))) ∧
  (∀ (l : Fin 256) s, s.lstate l ≠ LS.disabled → s.lstate l ≠ LS.down → exec (.lnkInjectForceDown l) s = .next (s.linkDown l 0x01))

/-- SerDes lanes (R151–R157, R160, R166–R168, R172). -/
def Obligations.LanesTrainAndMeasure : Prop :=
  (∀ (lane : Fin 512) present s, s.lanePowered lane = true → s.trainingLink lane = none → s.claimedLane lane = false →
    ∃ t, exec (.receiverDetect lane present) s = .next t ∧ t.fld F.SRD_STATUS_PRESENT lane = if present then 1 else 0) ∧
  (∀ (tile : Fin 32) (group : Fin 2) s, s.enabled .til tile = true → s.thermalHold = false → (s.tileSt tile).ref0 = true →
    exec (.pllLock tile group) s = .next ((List.range 256).foldl (fun s l =>
      if (s.link l).lanesStep = 1 ∧ s.firstLane l / 16 = tile.val ∧ s.firstLane l % 16 / 8 = group.val then s.lanesTo l 2 1 else s)
      (s.setPll tile group false true))) ∧
  (∀ (lane : Fin 512) s l, s.trainingLink lane = some l → s.flag F.SRD_STATUS_PRESENT lane = true → (s.link l).lanesStep = 4 →
    s.flag F.SRD_CFG_TX_POL lane = false → ∃ t, exec (.trainingFrameSend lane 0#8 false) s = .next t ∧
      t = (((s.setLaneSt lane { s.laneSt lane with framesSent := (s.laneSt lane).framesSent + 1 }).emit
        (.training lane (s.trainingFrame l lane 0#8 false))).eqEnd l)) ∧
  (∀ (lane : Fin 512) raw slip loss skew s l, s.trainingLink lane = some l → 3 ≤ (s.link l).lanesStep → (s.laneSt lane).frameLock = true →
    (s.laneSt lane).runPol = false → raw.toNat / 2 ^ 224 ≠ 0xB4C32D1E → (s.laneSt lane).badFrames < 3 →
    ∃ t, exec (.trainingFrameReceive lane raw slip loss skew) s = .next t ∧ (t.laneSt lane).badFrames = (s.laneSt lane).badFrames + 1 ∧
      (t.laneSt lane).eqGot = 0 ∧ (t.laneSt lane).frameLock = true) ∧
  (∀ (lane : Fin 512) (raw : BitVec 256) slip loss skew s l x, s.trainingLink lane = some l → (s.link l).lanesStep = 4 → x = s.laneSt lane →
    x.frameLock = true → x.runPol = false → x.losses = [] → x.reqTap = 0 → raw.toNat / 2 ^ 224 = 0xB4C32D1E → raw.toNat % 2 ^ 32 = (frameCrc raw) →
    exec (.trainingFrameReceive lane raw slip loss skew) s = .next ((((s.setLaneSt lane
      { x with badFrames := 0, peerSeen := bitAt raw 211, peerType := bits raw 212 4 }).setFld
        F.SRD_STATUS_LOGICAL (bits raw 221 3) lane).setFld F.SRD_PARTNER_CAP_CAP (bits raw 144 64) lane).lanesAdvance l)) ∧
  (∀ (lane : Fin 512) errors checked s l u, s.trainingLink lane = some l → (s.link l).lanesStep = 6 → errors.toNat * 10000 < checked.toNat →
    u = (s.setFld F.SRD_ERR_ERR_EXP (errExp errors.toNat checked.toNat) lane).setLaneSt lane { s.laneSt lane with prbsDone := true } →
    (u.allLanes l (fun _ x => x.prbsDone) = false → exec (.prbsIntervalEnd lane errors checked) s = .next u) ∧
    (u.allLanes l (fun _ x => x.prbsDone) = true → exec (.prbsIntervalEnd lane errors checked) s = .next (u.lanesTo l 7 4))) ∧
  (∀ (lane : Fin 512) errors checked s l, s.trainingLink lane = some l → (s.link l).lanesStep = 6 → errors ≠ 0 → checked.toNat ≤ errors.toNat * 10000 →
    exec (.prbsIntervalEnd lane errors checked) s =
      .next ((s.setFld F.SRD_ERR_ERR_EXP (errExp errors.toNat checked.toNat) lane).laneFail l lane)) ∧
  (∀ (tile : Fin 32) (group : Fin 2) s g, g = (fun n => decide (n / 16 = tile.val) && decide (n % 16 / 8 = group.val)) →
    exec (.groupPllUnlock tile group) s = .next ((List.range 64).foldl (fun s n =>
        if g (s.fld F.HPT_CFG_FIRST_LANE n) ∧ (s.port n).claimed then s.portDown n 0x01 else s)
      ((List.range 256).foldl (fun s l =>
        if g (s.firstLane l) ∧ s.lstate l ≠ LS.disabled ∧ s.lstate l ≠ LS.down ∧ (s.link l).claimed then s.linkDown l 0x01 else s)
      ((s.setPll tile group false false).raise (320 + tile.val) 0x07 group)))) ∧
  (∀ (lane : Fin 512) (off : Fin 4096) v s a w m, off.val ∈ [0x108, 0x13C] → a = Blk.srd.addr lane off → regWordAt a = some w →
    w.rws = 0 → m = BitVec.ofNat 32 w.rw → v &&& m ≠ s.rd a &&& m →
    (s.testAllowed lane = true → ∃ t, exec (.srdTestWrite lane off v) s = .next t ∧ t.rd a = (s.rd a &&& ~~~m) ||| (v &&& m)) ∧
    (s.testAllowed lane = false → exec (.srdTestWrite lane off v) s = .next (s.raise (320 + lane.val / 16) 0x06 (lane.val * 2 ^ 32 + a)))) ∧
  (∀ (l : Fin 256) s, (s.link l).lanesStep ≠ 0 → exec (.laneTrainTimeout l) s =
    .next (s.laneFail l (((s.linkLanes l).find? (fun n => !s.flag F.SRD_STATUS_PRESENT n)).getD (s.firstLane l)))) ∧
  (∀ (lane : Fin 512) s, s.flag F.SRD_PRBS_CFG_TX_EN lane = true →
    (s.fld F.SRD_CFG_LOOP lane ≠ 1 →
      (∃ t, exec (.srdInjectBit lane) s = .next t ∧ (t.laneSt lane).inverted = (s.laneSt lane).inverted + 1) ∧
      (∃ t, exec (.srdInjectBurst lane) s = .next t ∧ (t.laneSt lane).inverted = (s.laneSt lane).inverted + (s.fld F.SRD_INJECT_BURST_LEN lane + 1)))) ∧
  (∀ (lane : Fin 512) s, s.flag F.SRD_PRBS_CFG_RX_EN lane = true →
    (∃ t, exec (.prbsCheckerLock lane true) s = .next t ∧ t.flag F.SRD_PRBS_STAT_LOCK lane = true ∧ mget false t.prbs lane = true) ∧
    (s.flag F.SRD_PRBS_STAT_LOCK lane = true → ∃ t, exec (.prbsCheckerLock lane false) s = .next t ∧ t.flag F.SRD_PRBS_STAT_LOCK lane = false ∧
      mget false t.prbs lane = false)) ∧
  (∀ (l : Fin 256) s, (s.link l).step = 4 → (s.link l).echoSent = 16 → (s.link l).echoClosed = false →
    exec (.echoWaitExpire l) s = .next (s.echoFinish l)) ∧
  (∀ (l : Fin 256) s u, (s.link l).paramRetry = true → u = s.setLink l { s.link l with paramRetry := false } → (s.link l).downHold = false →
    u.enabled .lnk l = true → u.mayTrain = true → (s.link l).claimLapsed = false → exec (.linkParamRetry l) s = .next (u.linkStart l))

/-- Fabric time (R175–R182, R197). -/
def Obligations.FabricTimeIsExchangedAndSet : Prop :=
  (∀ (l : Fin 256) s k, s.flag F.VIA_CFG_TIME_SEND = true → s.timeOn l = true → k = s.link l → ∃ t, exec (.timeExchangeStart l) s = .next t ∧
    (t.link l).timeSeq = (k.timeSeq + 1) % 16 ∧
    (t.link l).byp = k.byp ++ [bypMsg 0x10 (k.timeSeq * 2 ^ 52 + s.fld F.VIA_TIME_STATUS_STATE * 2 ^ 50),
      bypMsg 0x11 (k.timeSeq * 2 ^ 52 + s.fld F.VIA_TIME_STATUS_ROOT_ID * 2 ^ 32 + s.fld F.VIA_TIME_STATUS_DEPTH * 2 ^ 28)]) ∧
  (∀ (l : Fin 256) s u m q, s.takeByp l [0x10] = (some (m, q), u) → u.timeOn l = true → ∃ t, exec (.syncReceive l) s = .next t ∧
    (t.link l).exch = some { seq := bits m 52 4, sndState := bits m 50 2, t1 := stampOf m, t2 := q, since := u.clk }) ∧
  (∀ (l : Fin 256) s u m q e, s.takeByp l [0x11] = (some (m, q), u) → u.timeOn l = true → (u.link l).exch = some e → e.seq = bits m 52 4 →
    ∃ t, exec (.syncHiReceive l) s = .next t ∧ (t.link l).exch = some { e with hi := some (bits m 32 14, bits m 28 4) } ∧
      (t.link l).byp = (u.link l).byp ++ [bypMsg 0x12 (e.seq * 2 ^ 52)]) ∧
  (∀ (l : Fin 256) s u m q, s.takeByp l [0x12] = (some (m, q), u) → u.timeOn l = true → ∃ t, exec (.delayReqReceive l) s = .next t ∧
    (t.link l).byp = (u.link l).byp ++ [bypMsg 0x13 (bits m 52 4 * 2 ^ 52 + q % 4 * 2 ^ 48 + q / 4 % 2 ^ 48)]) ∧
  (∀ (l : Fin 256) s u m q e root depth, s.takeByp l [0x13] = (some (m, q), u) → u.timeOn l = true → (u.link l).exch = some e →
    e.hi = some (root, depth) → e.seq = bits m 52 4 →
    (u.fld F.VIA_TIME_CFG_ROLE ≠ 0 → ∃ t, exec (.delayRspReceive l) s = .next t ∧ (t.link l).exch = none) ∧
    (u.fld F.VIA_TIME_CFG_ROLE = 0 → e.sndState ≠ 0 → u.clk ≤ e.since + 4 * (max 1 (u.fld F.VIA_TIME_CFG_SYNC_PERIOD) * 100) →
      exec (.delayRspReceive l) s = .next ((u.setLink l { u.link l with exch := none }).exchTake l
        (signedOf 50 (e.t2 + 2 ^ 50 - e.t1 % 2 ^ 50)) (signedOf 50 (stampOf m + 2 ^ 50 - (u.link l).t3 % 2 ^ 50)) root depth))) ∧
  (∀ (u : State) l (d1 d2 : Int) root depth, u.via.servo.useAlt = false → l = u.fld F.VIA_TIME_CFG_PARENT → u.armed F.VIA_INJECT_TIME_ERR 0 = false →
    u.exchTake l d1 d2 root depth = u.exchangeUse l (divR ((d1 - d2) * 125 - signedOf 16 (u.fld F.VIA_ASYM_PARENT)) 250)
      (ofSigned 20 (divR (d1 + d2) 2)) root depth) ∧
  (∀ s, s.fld F.VIA_TIME_CFG_ROLE = 0 → s.via.servo.useAlt = false → s.fld F.VIA_TIME_STATUS_STATE = 1 →
    exec .exchangeTimeout s = .next (s.enterHoldover true)) ∧
  (∀ s, s.fld F.VIA_TIME_STATUS_STATE = 2 → exec .holdoverExpire s = .next (((s.setServo
    { s.via.servo with stepped := false, good := 0, rates := [] }).setFld F.VIA_TIME_STATUS_STATE 0).raise 691 0x02 (s.fld F.VIA_TIME_LIMITS_HOLD_US))) ∧
  (∀ s u, s.fld F.VIA_TIME_CFG_ROLE = 2 → s.flag F.VIA_PPS_CFG_PPS_IN_EN = true →
    u = ({ s with pwr := { s.pwr with ppsIn := true } }).setFld F.VIA_PPS_CAP_TIME s.ftime →
    exec .ppsInEdge s = .next u.ppsJudge) ∧
  (∀ u : State, (u.ftime % 10 ^ 9 ≤ 1000 → u.ppsJudge = u.servoRun) ∧ (1000 < u.ftime % 10 ^ 9 → u.ftime % 10 ^ 9 ≤ 5 * 10 ^ 8 →
    u.ppsJudge = u.timeStep (-(4 * ((u.ftime % 10 ^ 9 : Nat) : Int)) - ((u.time.frac / 2 ^ 30 : Nat) : Int)))) ∧
  (∀ ag hi s lo u, s.fld F.VIA_TIME_CFG_ROLE ≠ 0 → mfind (mget [] s.regs.staged ag.key) (F.VIA_TIME_SET_TIME.addr 0 0) = some lo →
    u = { s with regs := { s.regs with
            staged := mput [] s.regs.staged ag.key (merase (mget [] s.regs.staged ag.key) (F.VIA_TIME_SET_TIME.addr 0 0)) } } →
    exec (.timeSetWrite ag hi) s = .next (({ u with time := { now := BitVec.ofNat 64 (hi.toNat * 2 ^ 32 + lo.toNat), frac := 0 } }).raise 691 0x04
      (ofSigned 64 (((hi.toNat * 2 ^ 32 + lo.toNat : Nat) : Int) - (s.ftime : Int))))) ∧
  (∀ ns s, s.fld F.VIA_TIME_CFG_ROLE = 3 → ∃ t, exec (.timeAdjWrite ns) s = .next t ∧
    t.via.servo.slew = s.via.servo.slew + signedOf 32 ns.toNat * 2 ^ 32) ∧
  (∀ s, s.flag F.VIA_CFG_PPS_OUT_EN = true → (s.fld F.PWR_PIN_IDLE_VALID).testBit 7 = true →
    ∃ t, exec .ppsOutAssert s = .next t ∧ t.pwr.ppsOut = true) ∧
  (∀ s, ∃ t, exec .ppsOutDeassert s = .next t ∧ t.pwr.ppsOut = false)

/-- Viaducts (R188–R197). -/
def Obligations.ViaductsOpenCloseAndSetUp : Prop :=
  (∀ (l : Fin 256) (e : Fin 64) s, s.gatesOn = true → gValid (s.gateWord s.viaB l e) = true → mget false s.via.skip l = false →
    ∃ t, exec (.windowOpen l e) s = .next t ∧ mfind t.via.open? l = some (e.val, gVia (s.gateWord s.viaB l e))) ∧
  (∀ (l : Fin 256) (e : Fin 64) s, s.gatesOn = true → gValid (s.gateWord s.viaB l e) = true → mget false s.via.skip l = true →
    ∃ t, exec (.windowOpen l e) s = .next t ∧ mget false t.via.skip l = false ∧ t.via.open? = s.via.open?) ∧
  (∀ (l : Fin 256) (e : Fin 64) s, s.gatesOn = true → gValid (s.gateWord s.viaB l e) = true → (s.link l).txPkt = none →
    s.gq l (gVia (s.gateWord s.viaB l e)) = [] → exec (.windowClose l e) s =
      .next (({ s with via := { s.via with open? := merase s.via.open? l } }).setGq l (gVia (s.gateWord s.viaB l e)) []).drain) ∧
  (∀ s id rest p hdr v l w0 u, s.fwd.viaStored = id :: rest → s.pkt id = some p → hdr = slice p.bytes 0 32 → v = pVia p.bytes →
    l = wHop (pPath hdr) (wNext (pPath hdr)) → w0 = s.viaWord s.viaB (v % 4096) 0 → u = { s with fwd := { s.fwd with viaStored := rest } } →
    wDetoured (pPath hdr) = false → u.linkUsable l = true → u.gatesOn = true → v < 4096 → vValid w0 = true → mget false s.via.armed v = true →
    vRole w0 = 0 → some (vIn w0) = p.inLink → vOut w0 = l → u.boundary l = false → pBump hdr = false → pTrace hdr = false →
    exec .viaductEligible s = .next (u.gateJoin l v
      { pkt := id, hdr := sealHdr (setFlag (setPath hdr (pPath hdr + 2 ^ 10)) 2 false), slot := pSlot p.bytes } p.len)) ∧
  (∀ s d u b v w0, s.safe = false → s.awake Dom.endpoint = true → s.takeOpc 0x70 = (some d, u) → b = d.bytes → v = pVia b →
    w0 = u.vw (v % 4096) 0 → u.gatesOn = true → v < 4096 → vValid w0 = true → vRole w0 = 2 → u.viaArmed v = true → d.inLink = some (vIn w0) →
    2 ^ 31 ≤ seqDist 32 (pSlot b) (u.viaDst v).expect → exec .viaDataReceive s = .next u.drain) ∧
  (∀ s d u b v w0 y va, s.safe = false → s.awake Dom.endpoint = true → s.takeOpc 0x70 = (some d, u) → b = d.bytes → v = pVia b →
    w0 = u.vw (v % 4096) 0 → u.gatesOn = true → v < 4096 → vValid w0 = true → vRole w0 = 2 → u.viaArmed v = true → d.inLink = some (vIn w0) →
    seqDist 32 (pSlot b) (u.viaDst v).expect < 2 ^ 31 → y = (u.viaGap v (seqDist 32 (pSlot b) (u.viaDst v).expect)).viaPass v (pSlot b) →
    va = y.vw v 2 + pSlot b * vBytes w0 % 2 ^ (y.vw v 3 / 2 ^ 26 % 64) → y.viaAccess v (u.vw v 1 / 2 ^ 46) va (pPayload b).length = none →
    exec .viaDataReceive s = .next ((y.startJob
      { who := .viaDep (u.vw v 1 / 2 ^ 46) v (pSlot b), ctx := u.vw v 1 / 2 ^ 46, space := y.vw v 1 % 2 ^ 32 / 2 ^ 16, va := va,
        len := (pPayload b).length, write := true, data := pPayload b, region := some (y.vw v 3 / 2 ^ 32 % 2 ^ 20) }).viaDstCheck v).drain) ∧
  (∀ (v : Fin 4096) s, s.gatesOn = true → vValid (s.vw v 0) = true → vRole (s.vw v 0) = 1 → (s.viaSrc v).phase = 0 → s.viaArmed v = false →
    exec (.viaSetupStart v) s = .next ((s.setViaSrc v { s.viaSrc v with phase := 1, resent := 0 }).sendSetup v)) ∧
  (∀ s d u v, s.takeKept 0x71 = (some d, u) → v = pVia d.bytes → (beAt (pExt d.bytes) 4 1).testBit 7 = true →
    (beAt (pExt d.bytes) 4 1).testBit 6 = false → ((u.copyDone d.pkt).viaSrc v).phase = 1 → exec .viaSetupReceive s =
      .next (((u.copyDone d.pkt).setViaSrc v { phase := 2, ops := ((u.copyDone d.pkt).viaSrc v).ops }).setArmedVia v true).drain) ∧
  (∀ (v : Fin 4096) s, (s.viaSrc v).phase = 1 →
    ((s.viaSrc v).resent < 3 → exec (.viaSetupTimeout v) s =
      .next ((s.setViaSrc v { s.viaSrc v with resent := (s.viaSrc v).resent + 1 }).sendSetup v)) ∧
    (3 ≤ (s.viaSrc v).resent → exec (.viaSetupTimeout v) s = .next (s.viaFail v).drain)) ∧
  (∀ s d u, s.takeKept 0x72 = (some d, u) → (beAt (pExt d.bytes) 4 1).testBit 7 = false → wNext (pPath d.bytes) ≠ wCount (pPath d.bytes) →
    exec .viaTeardownReceive s = .next (u.setVia { u.via with tear := minsert u.via.tear (pVia d.bytes) d.pkt }).drain) ∧
  (∀ (v : Fin 4096) s id p u, mfind s.via.tear v = some id → u = (s.setVia { s.via with tear := merase s.via.tear v }).setArmedVia v false →
    u.pkt id = some p → exec (.viaTeardownForward v) s = .next (u.forwardPkt id p.pipe p.inLink (slice p.bytes 0 32) none).drain) ∧
  (∀ s x u, s.via.swapFrom = some x → u = ((s.applyPend 0x540).setFld F.VIA_TBL_CTRL_ACTIVE (if s.viaB then 0 else 1)).noteSwap 2 →
    (({ u with
        via := { u.via with
          armed := s.via.armed.filter (fun a => (List.range 4).all (fun w => decide (s.viaWord s.viaB a.1 w = s.viaWord (!s.viaB) a.1 w))),
          swapFrom := none,
          open? := [] } }).roleApply (s.fld F.VIA_TIME_CFG_ROLE)).gateQueues = [] →
    exec .viaTableSwap s = .next (({ u with
      via := { u.via with
        armed := s.via.armed.filter (fun a => (List.range 4).all (fun w => decide (s.viaWord s.viaB a.1 w = s.viaWord (!s.viaB) a.1 w))),
        swapFrom := none,
        open? := [] } }).roleApply (s.fld F.VIA_TIME_CFG_ROLE)).drain) ∧
  (∀ s, ∃ t, exec .viaInjectWindowSkip s = .next t ∧ ∀ l, l < 256 → mget false t.via.skip l = true)

/-- Collective packets (R206, R218, R224, R236, R239, R240, R242–R244, R246–R248): a packet whose tree serves it and that waits behind
no other of its input is dealt with, and its cells are freed; a contribution in order is added into its open window; a result, a
broadcast and a barrier's end are copied to the children and taken here; a failure notice fails what it names. -/
def Obligations.CollectivePacketsAct : Prop :=
  (∀ s u v w d, s.safe = false → s.takeColl 0x40 = (some d, u) → u.treeLookup (cTree d.bytes) d.bytes = (true, v) → v.coll.waiting = [] →
    pOpc d.bytes = 0x40 → collFormBad d.bytes = false → v.win (wKey (cTree d.bytes) (cInst d.bytes) (pChunk d.bytes)) = some w → w.ph = .open_ →
    w.inHbm = false → exec .collContribReceive s =
      .next ((v.takeContrib (wKey (cTree d.bytes) (cInst d.bytes) (pChunk d.bytes)) w d.bytes).copyDone d.pkt).drain) ∧
  (∀ s u v w d, s.safe = false → s.takeColl 0x41 = (some d, u) → u.treeLookup (cTree d.bytes) d.bytes = (true, v) → v.coll.waiting = [] →
    pOpc d.bytes = 0x41 → collFormBad d.bytes = false → v.win (wKey (cTree d.bytes) (cInst d.bytes) (pChunk d.bytes)) = some w → w.ph = .open_ →
    w.inHbm = false → exec .collPartialExactReceive s =
      .next ((v.takeContrib (wKey (cTree d.bytes) (cInst d.bytes) (pChunk d.bytes)) w d.bytes).copyDone d.pkt).drain) ∧
  (∀ s u v w d, s.safe = false → s.takeColl 0x42 = (some d, u) → u.treeLookup (cTree d.bytes) d.bytes = (true, v) → v.coll.waiting = [] →
    pOpc d.bytes = 0x42 → collFormBad d.bytes = false → v.win (wKey (cTree d.bytes) (cInst d.bytes) (pChunk d.bytes)) = some w → w.ph = .open_ →
    w.inHbm = false → exec .collPartialOrderedReceive s =
      .next ((v.takeContrib (wKey (cTree d.bytes) (cInst d.bytes) (pChunk d.bytes)) w d.bytes).copyDone d.pkt).drain) ∧
  (∀ (v : State) k w b f, fmtOf w.fmt = some f → cFmt b = w.fmt → w.contribs.contains (cContrib b) = true →
    w.complete.contains (cContrib b) = false → cFirst b = mget 0 w.next (cContrib b) → cFirst b + cCount b ≤ f.elems →
    (pLast b = true → w.count = none ∨ w.count = some (cFirst b + cCount b)) → v.takeContrib k w b = v.addContrib k w b f) ∧
  (∀ s u v d, s.safe = false → s.takeColl 0x43 = (some d, u) → u.treeLookup (cTree d.bytes) d.bytes = (true, v) →
    exec .collResultReceive s = .next (((v.replicate d (cTree d.bytes)).takeResult d.bytes).copyDone d.pkt).drain) ∧
  (∀ s u v d i, s.safe = false → s.takeColl 0x44 = (some d, u) → u.treeLookup (cTree d.bytes) d.bytes = (true, v) → s.treeRoot (cTree d.bytes) = false →
    firstIdx s.fwd.dlv (fun d => decide (pOpc d.bytes = 0x44) && s.awake (Dom.slice (cTree d.bytes % 16))) = some (i, d) →
    exec .collBcastReceive s = .next (((v.replicate d (cTree d.bytes)).takeBcast d.bytes).copyDone d.pkt).drain) ∧
  (∀ s u v d, s.safe = false → s.takeColl 0x45 = (some d, u) → u.treeLookup (cTree d.bytes) d.bytes = (true, v) → v.coll.waiting = [] →
    pOpc d.bytes = 0x45 → v.treeRoot (cTree d.bytes) = false → exec .collGatherReceive s =
      .next (((v.tryGather d.bytes).2.copyDone d.pkt).drain)) ∧
  (∀ s u v d x, s.safe = false → s.takeColl 0x46 = (some d, u) → u.treeLookup (cTree d.bytes) d.bytes = (true, v) → v.coll.waiting = [] →
    pOpc d.bytes = 0x46 → v.bar (bKey (cTree d.bytes) (cInst d.bytes)) = some x → exec .barrierUpReceive s =
      .next ((v.barTake (bKey (cTree d.bytes) (cInst d.bytes)) (cTree d.bytes) (cInst d.bytes) x (cContrib d.bytes)).copyDone d.pkt).drain) ∧
  (∀ s u v d, s.safe = false → s.takeColl 0x47 = (some d, u) → u.treeLookup (cTree d.bytes) d.bytes = (true, v) →
    exec .barrierDownReceive s = .next (((v.replicate d (cTree d.bytes)).takeBarDown d.bytes).copyDone d.pkt).drain) ∧
  (∀ s u v w d, s.safe = false → s.takeColl 0x48 = (some d, u) → u.treeLookup (cTree d.bytes) d.bytes = (true, v) → v.coll.waiting = [] →
    pOpc d.bytes = 0x48 → v.tryRepull d.bytes = (true, w) → exec .collRepullReceive s = .next (w.copyDone d.pkt).drain) ∧
  (∀ s u v d, s.safe = false → s.takeColl 0x64 = (some d, u) → u.treeLookup (cTree d.bytes) d.bytes = (true, v) →
    exec .abacusCtrlReceive s = .next ((v.takeFail d.bytes).copyDone d.pkt).drain)

/-- Windows and re-pulls (R224, R225, R239, R240, R242, R244, R246, R247): a fill ends, waiting packets try again, a stall is told once,
an OPEN window or barrier is re-pulled up to the limit and then fails, a member asks the root again, retained chunks and tombstones
lapse, and a source or a gather's sender finishes or sends again. -/
def Obligations.WindowsAreFilledRepulledAndFreed : Prop :=
  (∀ (t : Fin 4096) inst (c : Fin 65536) s u w k, k = wKey t inst.toNat c → s.win k = some w → w.inHbm = true → w.filling = true →
    s.makeRoom (t % 16) w.units k = some u → ((u.touchWin k { w with
        inHbm := false,
        filling := false }).count F.ABC_CNT_FILL_COUNT (t % 16)).armed F.ABC_INJECT_FILL_ECC (t % 16) = false →
    exec (.windowFillDone t inst c) s = .next (((u.touchWin k { w with
        inHbm := false,
        filling := false }).count F.ABC_CNT_FILL_COUNT (t % 16)).retryWaiting (t % 16)).drain) ∧
  (∀ (n : Fin 16) s, s.coll.waiting = [] → exec (.windowSpaceFree n) s = .next s.drain) ∧
  (∀ (t : Fin 4096) inst (c : Fin 65536) s, s.coll.waiting.any (fun x => decide (x.1 = wKey t inst.toNat c)) = true →
    s.coll.stalled.contains (wKey t inst.toNat c) = false → exec (.windowStallTimeout t inst c) s =
      .next (({ s with coll := { s.coll with stalled := s.coll.stalled ++ [wKey t inst.toNat c] } }).raise (416 + t % 16) 0x04
        (t * 2 ^ 48 + c * 2 ^ 32 + (sliceUnits - unitsOf (s.sliceWins (t % 16)) false)))) ∧
  (∀ (t : Fin 4096) inst (c : Fin 65536) s w, s.win (wKey t inst.toNat c) = some w → w.ph = .open_ → w.progress = false →
    (s.repullLimit t ≤ w.repulls → exec (.repullTimeout t inst c false) s = .next (s.failWin t inst.toNat c none).drain) ∧
    (w.repulls < s.repullLimit t → exec (.repullTimeout t inst c false) s =
      .next ((s.setWin (wKey t inst.toNat c) { w with
          repulls := w.repulls + 1,
          progress := false }).repullAll { w with
            repulls := w.repulls + 1,
            progress := false }).drain)) ∧
  (∀ (t : Fin 4096) inst (c : Fin 65536) s x, s.bar (bKey t inst.toNat) = some x → x.ph = .open_ → x.progress = false →
    s.repullLimit t ≤ x.repulls → exec (.repullTimeout t inst c true) s = .next (s.failBar t inst.toNat none).drain) ∧
  (∀ (t : Fin 4096) inst (c : Fin 65536) s w, s.treeRoot t = false → s.win (wKey t inst.toNat c) = some w → w.ph = WPh.sent →
    (s.repullLimit t ≤ w.repulls → exec (.resultRepullTimeout t inst c false) s = .next (s.failWin t inst.toNat c none).drain) ∧
    (w.repulls < s.repullLimit t → ∀ u, u = s.setWin (wKey t inst.toNat c) { w with repulls := w.repulls + 1 } →
      exec (.resultRepullTimeout t inst c false) s = .next ((u.count F.TRE_CNT_REPULL_TX_COUNT 0).sendRouted
        (u.repullPkt t (u.treeRootId t) inst.toNat c 8 0) (slicePipe t) 0).drain)) ∧
  (∀ (t : Fin 4096) inst (c : Fin 65536) s w, s.treeRoot t = true → s.win (wKey t inst.toNat c) = some w → w.ph = WPh.sent →
    exec (.retainExpire t inst c false) s = .next (s.tombWin (wKey t inst.toNat c) w .tomb)) ∧
  (∀ (t : Fin 4096) inst (c : Fin 65536) s x, s.bar (bKey t inst.toNat) = some x → x.ph = .tomb →
    ∃ u, exec (.tombstoneExpire t inst c true) s = .next u ∧ u.bar (bKey t inst.toNat) = none) ∧
  (∀ (tag : Fin 65536) s o, s.op tag = some o → o.opc = 0x41 → o.srcFlag = true → o.started = true → o.segs ≤ o.built →
    exec (.bcastSourceComplete tag) s = .next (s.finishOp tag 0 (o.dByte 32 4) 0 0).drain) ∧
  (∀ (tag c : Fin 65536) s o, s.op tag = some o → o.opc = 0x42 → o.started = true → o.chunk 0 ≤ c.val → c.val - o.chunk 0 < s.opChunks o →
    ((o.done.filter (fun x => decide (x / 8192 / 4096 = c.val))).map (fun x => x % 8192)).sum < 4096 →
    (s.repullLimit o.tree ≤ mget 0 o.resent (c.val - o.chunk 0) → exec (.gatherResendTimeout tag c) s = .next (s.finishOp tag 0x09 0 0 0).drain) ∧
    (mget 0 o.resent (c.val - o.chunk 0) < s.repullLimit o.tree → exec (.gatherResendTimeout tag c) s =
      .next ((s.setOp tag { o with resent := minsert o.resent (c.val - o.chunk 0) (mget 0 o.resent (c.val - o.chunk 0) + 1) }).restage tag
        (c.val - o.chunk 0) 0).drain))

/-- Host ports (R254, R256, R257, R259–R261, R263, R265): enabling and restarting start bring-up, a training timeout and a fault take
the port down with their reasons, a frame with a good FCS is classified, PFC and PAUSE set and end timers, a held queue repeats XOFF,
a staged key becomes an SA, and a stamp leaves the FIFO. -/
def Obligations.HostPortsAct : Prop :=
  (∀ (n : Fin 64) s, s.enabled .hpt n = false → exec (.hostPortEnable n) s = .next ((s.setHdr .hpt n F.HDR_CTRL_ENABLE 1).portStart n)) ∧
  (∀ (n : Fin 65) cr s u, n ≠ 64 → (s.pstate n = PS.an ∨ s.pstate n = PS.training ∨ s.pstate n = PS.align) →
    u = (s.portLanes n).foldl (fun s m => s.setLane m 5) s → exec (.hostPortActive n cr) s =
      .next ((((u.setFld F.HPT_PSTATE_STATE PS.active n).setFld F.HPT_PSTATE_CR
        (if (if u.flag F.HPT_CFG_AN_EN n then cr else u.flag F.HPT_CFG_MEDIA n) then 1 else 0) n).pierPortUp n).drain)) ∧
  (∀ cr s u, s.pstate 64 ≠ PS.active → s.pwr.inReset = none → u = s.applyPortCommits 64 → exec (.hostPortActive 64 cr) s =
      .next ((((u.setFld F.HPT_PSTATE_STATE PS.active 64).setFld F.HPT_PSTATE_CR
        (if (if u.flag F.HPT_CFG_AN_EN 64 then cr else u.flag F.HPT_CFG_MEDIA 64) then 1 else 0) 64).pierPortUp 64).drain)) ∧
  (∀ (n : Fin 64) neg s, s.pstate n = PS.an → exec (.hostPortTrainTimeout n neg) s =
    .next ((s.portDown n (if neg then 0x03 else 0x02)).raise (portSrc n) 0x02 ((if neg then 0x03 else 0x02) * 2 ^ 56 + s.pstate n))) ∧
  (∀ (n : Fin 64) neg s, s.pstate n = PS.training ∨ s.pstate n = PS.align → exec (.hostPortTrainTimeout n neg) s =
    .next ((s.portDown n 0x03).raise (portSrc n) 0x02 (0x03 * 2 ^ 56 + s.pstate n))) ∧
  (∀ (n : Fin 64) s, s.pstate n = PS.down → (s.port n).restart = true → s.enabled .hpt n = true → (s.port n).claimed = true → s.thermalHold = false →
    exec (.hostPortRestart n) s = .next (s.portStart n)) ∧
  (∀ (n : Fin 65) rem s, s.portUp n = true → exec (.hostPortFault n rem) s = .next (s.portDown n (if rem then 0x04 else 0x01))) ∧
  (∀ (n : Fin 65) (fr b : List Byte) s, s.portUp n = true → b = fr.take (fr.length - 4) → 64 ≤ fr.length → fr.length ≤ s.maxFrame n →
    fr.drop (fr.length - 4) = fcsOf b → (s.count F.HPT_CNT_RX_COUNT n).macsecOn n = false →
    (beAt b 12 2 ≠ 0x8808 → exec (.ethFrameReceive n fr) s = .next (((s.count F.HPT_CNT_RX_COUNT n).classify n b false).pushPtp n).drain) ∧
    (beAt b 12 2 = 0x8808 → exec (.ethFrameReceive n fr) s = .next (((s.count F.HPT_CNT_RX_COUNT n).setPort n
      { (s.count F.HPT_CNT_RX_COUNT n).port n with control := ((s.count F.HPT_CNT_RX_COUNT n).port n).control ++ [b] }).pushPtp n).drain)) ∧
  (∀ (n : Fin 65) s i f p hit, n ≠ 64 → firstIdx (s.port n).control (fun f => decide (beAt f 14 2 = 0x0101)) = some (i, f) →
    p = { s.port n with control := (s.port n).control.eraseIdx i } →
    hit = (List.range 8).filter (fun k => (beAt f 16 2).testBit k && (s.fld F.HPT_FC_CFG_PFC_RX_EN n).testBit k) → hit ≠ [] →
    exec (.pfcFrameReceive n) s = .next (((s.setPort n
      { p with paused := hit.foldl (fun m k => mput false m k (decide (beAt f (18 + 2 * k) 2 ≠ 0))) p.paused }).count F.HPT_CNT_PFC_RX_COUNT n).drainPaused n)) ∧
  (∀ (n : Fin 65) s i f p, firstIdx (s.port n).control (fun f => decide (beAt f 14 2 = 0x0001)) = some (i, f) →
    p = { s.port n with control := (s.port n).control.eraseIdx i } → s.flag F.HPT_FC_CFG_PAUSE_RX_EN n = true →
    exec (.pauseFrameReceive n) s = .next (((s.setPort n { p with paused := mput false p.paused 8 (decide (beAt f 16 2 ≠ 0)) }).count
      F.HPT_CNT_PFC_RX_COUNT n).drainPaused n)) ∧
  (∀ (n : Fin 65) (k : Fin 9) s u, u = s.setPort n { s.port n with paused := mput false (s.port n).paused k false } →
    mget false (u.port n).paused k = false ∧ exec (.pauseTimerExpire n k) s = .next (u.drainPaused n)) ∧
  (∀ (n : Fin 64) s, (s.port n).xoff = true → s.fld F.HPT_PFC_THRESH_XON n * 1024 < (s.pier n).bufBytes →
    exec (.pfcXoffRepeat n) s = .next (s.sendPfc n 0xFFFF)) ∧
  (∀ (n : Fin 65) s, s.flag F.HPT_SA_CTRL_DIR n = true → ∃ t, exec (.saInstall n) s = .next t ∧ (t.port n).sak = 0 ∧ (t.port n).salt = 0 ∧
    (t.port n).ssci = 0 ∧ mfind (t.port n).rxSa (s.fld F.HPT_SA_CTRL_AN n) =
      some { key := (s.port n).sak, salt := (s.port n).salt, ssci := (s.port n).ssci }) ∧
  (∀ (n : Fin 65) s e q x rest u, (s.port n).stamps = e :: (q, x) :: rest → u = s.setPort n { s.port n with stamps := (q, x) :: rest } →
    exec (.tsTimePop n) s = .next (((u.setFld F.HPT_TS_STAT_VALID 1 n).setFld F.HPT_TS_STAT_SEQUENCE_ID q n).setFld F.HPT_TS_TIME_TIME x n))

/-- Span sessions (R272, R273, R275–R279): in OPEN a sequenced frame is taken in order, an ACK names what is received and a NAK asks again;
a session synchronises, is enabled and resynchronised, and its timers send again, answer or give up. -/
def Obligations.SpanSessionsAct : Prop :=
  (∀ (n : Fin 65) s f u, s.takeRx n (fun f => decide (f.op ≠ 0x3E) && decide (f.op ≠ 0x3F)) = (some f, u) → u.session n = SS.open_ →
    (u.armed F.SPN_INJECT_DROP_RX n = false → exec (.spanFrameReceive n) s = .next (u.seqReceive n f)) ∧
    (u.armed F.SPN_INJECT_DROP_RX n = true → exec (.spanFrameReceive n) s = .next (u.setArmed F.SPN_INJECT_DROP_RX n false))) ∧
  (∀ (u v : State) n f, v = u.takeAseq n f.aseq none → seqDist 16 f.tseq (u.fld F.SPN_RX_STATE_EXPECTED n) = 0 → (v.deliverSpan n f |>.pier n).held = [] →
    (((v.deliverSpan n f).releaseHeld n 0).pier n).held = [] → u.seqReceive n f =
      ((((v.deliverSpan n f).releaseHeld n 0).setPier n { ((v.deliverSpan n f).releaseHeld n 0).pier n with nakAt := none }).ackPolicy n
        (f.flags.testBit 1)).bufUpdate n) ∧
  (∀ (n : Fin 65) s f u, s.takeRx n (fun f => decide (f.op = 0x3F)) = (some f, u) → u.session n = SS.open_ → f.flags.testBit 3 = false →
    exec (.spanAck n) s = .next (u.takeAseq n f.aseq (if f.payload = [] then some [] else some f.payload)).drain) ∧
  (∀ (n : Fin 65) s f u v t, s.takeRx n (fun f => decide (f.op = 0x3E)) = (some f, u) → u.session n = SS.open_ → f.opspec % 256 = 0x01 →
    v = (u.count F.SPN_CNT_NAK_RX_COUNT n).takeAseq n f.aseq (some f.payload) →
    (v.pier n).tx.find? (fun t => decide (t.f.tseq = f.target % 65536)) = some t → t.resentAt = none →
    exec (.spanNak n) s = .next (v.resend n (f.target % 65536) true).drain) ∧
  (∀ (n : Fin 64) s u, u = s.setHdr .spn n F.HDR_CTRL_ENABLE 1 → u.session n = SS.down → u.portUp n = true →
    exec (.spnEnableWrite n true) s = .next (u.enterSync n).drain) ∧
  (∀ (n : Fin 64) s u, u = s.setHdr .spn n F.HDR_CTRL_ENABLE 0 → u.session n ≠ SS.down →
    exec (.spnEnableWrite n false) s = .next (u.lossToDown n 6).drain) ∧
  (∀ (n : Fin 65) s, (s.session n = SS.open_ → exec (.sessionResync n) s = .next (s.lossAndSync n 1).drain) ∧
    (s.session n = SS.syncing → exec (.sessionResync n) s = .next (s.enterSync n).drain) ∧
    (s.session n = SS.held → exec (.sessionResync n) s = .next (s.lossToDown n 1).drain)) ∧
  (∀ (n : Fin 65) s, s.session n = SS.syncing → (s.pier n).answered = false →
    exec (.syncResend n) s = .next (s.spanOut n { flags := 8, op := 0x3F, tseq := (s.pier n).t, aseq := s.aseq n })) ∧
  (∀ (n : Fin 65) (q : W16) s t, s.session n = SS.open_ → s.portUp n = true → (s.pier n).tx.find? (fun t => decide (t.f.tseq = q.toNat)) = some t →
    t.held = false → (t.retries < max 1 (s.fld F.SPN_TIMERS_RETRY_LIMIT n) → exec (.spanRtoExpire n q) s = .next (s.resend n q.toNat true).drain) ∧
    (max 1 (s.fld F.SPN_TIMERS_RETRY_LIMIT n) ≤ t.retries →
      exec (.spanRtoExpire n q) s = .next ((s.raise (portSrc n) 0x11 q.toNat).lossAndSync n 3).drain)) ∧
  (∀ (n : Fin 65) s, (s.pier n).sinceAck ≠ 0 → s.session n = SS.open_ → exec (.spanAckDelay n) s = .next (s.ackNow n))

/-- Span operations (R280, R281, R284, R302, R303): doorbells reach their contexts, data and acknowledgements end reads and writes of host
memory, register requests are served word by word, and a read never answered fails with 0x22. -/
def Obligations.SpanOperationsAct : Prop :=
  (∀ (n : Fin 65) s f u, s.awake Dom.endpoint = true → s.takeDelivered n [0x01] = (some f, u) → u.safe = false → u.ctxPort f.target = n.val →
    u.takesDoorbells f.target = true → f.op = 0x01 → exec (.doorbell n) s = .next (u.doorbell f.target f.opspec []).drain) ∧
  (∀ (n : Fin 65) s f u, s.awake Dom.endpoint = true → s.takeDelivered n [0x02] = (some f, u) → u.safe = false → u.ctxPort f.target = n.val →
    u.takesDoorbells f.target = true → f.payload.length = 16 * seqDist 32 f.opspec (u.ctx f.target).cmdTail →
    exec (.doorbellInline n) s = .next (u.doorbell f.target f.opspec f.payload).drain) ∧
  (∀ (n : Fin 65) s f u i r, s.takeDelivered n [0x11] = (some f, u) → f.opspec / 2 ^ 24 = 0 → f.flags.testBit 0 = true →
    firstIdx (u.pier n).reads (fun r => decide (r.id = f.target) && r.seq.isSome) = some (i, r) → f.opspec % 2 ^ 24 = r.got.length →
    r.got.length + f.payload.length = r.len → exec (.memRdData n) s = .next (u.endRead n i r 0 (r.got ++ f.payload)).drain) ∧
  (∀ (n : Fin 65) s f u w, s.takeDelivered n [0x13] = (some f, u) → f.opspec / 2 ^ 24 ≠ 0 →
    (u.pier n).writes.find? (fun w => decide (w.seq = f.target % 2 ^ 16)) = some w → exec (.memWrAck n) s =
      .next ((u.raise (portSrc n) 0x18 (f.opspec / 2 ^ 24 * 2 ^ 56 + f.target % 2 ^ 16 * 2 ^ 32 + tagDetail w.tag)).refuseWr n (f.target % 2 ^ 16)
        (f.opspec / 2 ^ 24)).drain) ∧
  (∀ (n : Fin 65) s f u, s.takeDelivered n [0x13] = (some f, u) → f.opspec / 2 ^ 24 = 0 → (u.pier n).writes = [] →
    seqDist 16 (f.target % 2 ^ 16) (u.fld F.SPN_RX_STATE_LANDED n) < 2 ^ 15 →
    exec (.memWrAck n) s = .next ((u.setPier n { u.pier n with writes := [] }).setFld F.SPN_RX_STATE_LANDED (f.target % 2 ^ 16) n).drain) ∧
  (∀ (n : Fin 65) s f u, (s.pier n).reg = none → s.takeDelivered n [0x20] = (some f, u) →
    u.regStatus (pierAgent n) false f.target f.regWords (f.secure || !u.flag F.SPN_PRIV_REQUIRE_MACSEC n) = 0 →
    exec (.regRd n) s = .next ((u.setPier n { u.pier n with reg := some (f, []) }).regPresent n)) ∧
  (∀ (n : Fin 65) s f u, (s.pier n).reg = none → s.takeDelivered n [0x22] = (some f, u) →
    u.regStatus (pierAgent n) true f.target f.regWords (f.secure || !u.flag F.SPN_PRIV_REQUIRE_MACSEC n) = 0 →
    exec (.regWr n) s = .next ((u.setPier n { u.pier n with reg := some (f, []) }).regPresent n)) ∧
  (∀ (n : Fin 65) (id : W32) s i r, firstIdx (s.pier n).reads (fun r => decide (r.id = id.toNat) && r.seq.isSome) = some (i, r) →
    exec (.memRdTimeout n id) s = .next (((s.count F.SPN_CNT_RD_TIMEOUT_COUNT n).raise (portSrc n) 0x12
      (id.toNat * 2 ^ 32 + tagDetail r.tag)).endRead n i r 0x22 []).drain)

/-- Timers of piers, the EVENT frame and the management ring's switch (R281, R287, R291, R298). -/
def Obligations.PiersGiveUpReportAndSwitch : Prop :=
  (∀ (n : Fin 65) (q : W16) s, (s.pier n).writes.any (fun w => decide (w.seq = q.toNat) && w.acked) = true →
    ((s.raise (portSrc n) 0x13 q.toNat).portUp n = true →
      exec (.landingTimeout n q) s = .next ((s.raise (portSrc n) 0x13 q.toNat).lossAndSync n 4).drain) ∧
    ((s.raise (portSrc n) 0x13 q.toNat).portUp n = false →
      exec (.landingTimeout n q) s = .next ((s.raise (portSrc n) 0x13 q.toNat).lossToDown n 4).drain)) ∧
  (∀ (n : Fin 65) s, s.session n = SS.held → exec (.sessionHoldExpire n) s = .next (s.lossToDown n 5).drain) ∧
  (∀ s g, g = s.kst.gather.take 64 → g ≠ [] → s.session 64 = SS.open_ → exec .eventGatherSend s =
    .next (({ s with kst := { s.kst with gather := s.kst.gather.drop 64 } }).queueSpan 64
      { f := { op := 0x30, target := 1, opspec := g.length, payload := g.flatMap KRec.bytes } }).drain) ∧
  (∀ s u, s.flag F.CTG_MRING_CTRL_ENABLE = true → u = s.setCtxState 0 CS.disabled → exec (.mringEnable false) s =
    .next (((s.setFld F.CTG_MRING_CTRL_ENABLE 0).setCtxState 0 CS.disabled).setCtx 0 { u.ctx 0 with
      fetched := [],
      inline_ := [],
      fetching := none }).drain) ∧
  (∀ s, s.flag F.CTG_MRING_CTRL_ENABLE = false → (s.ctxPort 0 < 64 → s.fld F.SPN_PRIV_LEVEL (s.ctxPort 0) = 3) →
    6 ≤ s.fld F.CTG_MRING_CFG_CMD_LOG2 → s.fld F.CTG_MRING_CFG_CMD_LOG2 ≤ 20 → 6 ≤ s.fld F.CTG_MRING_CFG_CQ_LOG2 → s.fld F.CTG_MRING_CFG_CQ_LOG2 ≤ 20 →
    exec (.mringEnable true) s = .next (((s.setFld F.CTG_MRING_CTRL_ENABLE 1).setCtx 0 {
      state := (s.ctx 0).state,
      port := s.ctxPort 0,
      flags := s.fld F.CTG_MRING_CFG_CMD_IN_HBM * 128 + s.fld F.CTG_MRING_CFG_CQ_IN_HBM * 64,
      cmdLog2 := s.fld F.CTG_MRING_CFG_CMD_LOG2,
      cqLog2 := s.fld F.CTG_MRING_CFG_CQ_LOG2,
      cmdBase := s.fld F.CTG_MRING_BASE_ADDR,
      cqBase := s.fld F.CTG_MCQ_BASE_ADDR,
      cqTailAddr := s.fld F.CTG_MCQ_TAIL_ADDR_ADDR,
      cqHeadAddr := s.fld F.CTG_MCQ_HEAD_ADDR_ADDR,
      cqReserved := (s.ctx 0).cqReserved,
      tagsHeld := (s.ctx 0).tagsHeld }).setCtxState 0 CS.enabled).drain)

/-- Rings and operations (R191, R245–R248, R299, R301, R305, R307, R309, R326, R334, R335, R347, R349, R350): descriptors are fetched, the
completion head polled, PADs passed, and each operation that is ready is carried out. -/
def Obligations.RingsAndOperationsAct : Prop :=
  (∀ (c : Fin 262144) s x left u n k, x = s.ctx c → left = seqDist 32 x.cmdTail x.nextFetch → left ≠ 0 → left < 2 ^ 31 → s.mayTake c = true → s.cqStopped c = false →
    x.fetching = none → x.inline_ = [] → n = min (max 1 (s.fld F.CTG_CFG_FETCH_MAX (ctxGroup c))) (min left (2 ^ x.cmdLog2 - x.nextFetch % 2 ^ x.cmdLog2)) →
    n ≠ 0 → u = (s.touchCtx c).count F.CTG_CNT_FETCH_COUNT (ctxGroup c) → k = u.setCtx c { u.ctx c with fetching := some (x.nextFetch, n) } →
    k.armed F.CTG_INJECT_FETCH_ERR (ctxGroup c) = false → exec (.descriptorFetch c) s = .next (k.ringRead c x.cmdHbm
      (x.cmdBase + 16 * (x.nextFetch % 2 ^ x.cmdLog2)) (16 * n) (.fetch c x.nextFetch n)).drain) ∧
  (∀ (c : Fin 262144) s, s.takesDoorbells c = true → s.cqStopped c = true → s.safe = false → (s.ctx c).polling = false → exec (.cqHeadPoll c) s =
    .next ((s.setCtx c { s.ctx c with polling := true }).ringRead c (s.ctx c).cqHbm (s.ctx c).cqHeadAddr 8 (.cqHead c)).drain) ∧
  (∀ (c : Fin 262144) s n d, s.mayTake c = true → s.front c = .ok 0x00 n d → exec (.pad c) s = .next (s.setCtx c { s.ctx c with
      cmdHead := ((s.ctx c).cmdHead + n) % 2 ^ 32,
      fetched := (s.ctx c).fetched.drop n }).drain) ∧
  (∀ (tag : Fin 65536) s o, s.opReady tag 0x01 = some o → exec (.nop tag) s = .next (s.finishOp tag 0 0 0 0).drain) ∧
  (∀ (tag : Fin 65536) s o, s.opReady tag 0x10 = some o → exec (.send tag) s = .next ((if o.rdv then (s.begun tag o 1).injectOp tag
    else s.sendOpData tag o).drain)) ∧
  (∀ (tag : Fin 65536) s o u, s.opReady tag 0x11 = some o → s.hookBlocked o.ctx = false → (s.begun tag o 0).post (recvPost tag o) = (true, u) →
    exec (.recv tag) s = .next u.drain) ∧
  (∀ (tag : Fin 65536) s o, s.opReady tag 0x20 = some o → exec (.put tag) s = .next (s.sendOpData tag o).drain) ∧
  (∀ (tag : Fin 65536) s o, s.opReady tag 0x21 = some o → exec (.putNotify tag) s = .next (s.sendOpData tag o).drain) ∧
  (∀ (s : State) tag o, (o.inl = true ∨ o.len = 0) → s.sendOpData tag o =
    (s.begun tag { o with ready := [(0, slice o.desc 64 o.len)] } (segsOf o.len)).injectOp tag) ∧
  (∀ (tag : Fin 65536) s o, s.opReady tag 0x22 = some o → (o.len = 0 → exec (.get tag) s = .next ((s.begun tag o 0).opCheck tag).drain) ∧
    (o.len ≠ 0 → exec (.get tag) s = .next ((s.begun tag o (segsOf o.len)).injectOp tag).drain)) ∧
  (∀ (tag : Fin 65536) s o, s.opReady tag 0x24 = some o → exec (.atomic tag) s = .next ((s.begun tag o 1).injectOp tag).drain) ∧
  (∀ (tag : Fin 65536) s o, s.opReady tag 0x40 = some o → exec (.collReduce tag) s = .next (s.collStart tag o).drain) ∧
  (∀ (tag : Fin 65536) s o, s.opReady tag 0x41 = some o → exec (.collBcast tag) s = .next (s.collStart tag o).drain) ∧
  (∀ (tag : Fin 65536) s o, s.opReady tag 0x42 = some o → exec (.collGather tag) s = .next (s.collStart tag o).drain) ∧
  (∀ (tag : Fin 65536) s o slot, s.opReady tag 0x43 = some o → s.slotOf o.tree o.ctx = some slot → ∃ b, exec (.barrier tag) s =
    .next ((s.begun tag { o with ready := [(0, b)] } 1).injectOp tag).drain ∧ b = mkPacket { s.treeHead o.tree s.routerId 0x46 (s.upTc o.tree) tag.val 0 with
      first := true,
      last := true } (collExt 0 o.tree 0 0 o.inst slot 0 0 0) []) ∧
  (∀ (tag : Fin 65536) s o v n, s.opReady tag 0x70 = some o → v = o.dByte 24 2 % 4096 → s.viaSource v = true → n = o.len / max 1 (vBytes (s.vw v 0)) →
    exec (.viaduct tag) s = .next ((List.range n).foldl (fun u k => u.localJob {
        who := .viaRead tag.val k,
        ctx := o.ctx,
        space := 0,
        va := o.laddr + max 1 (vBytes (s.vw v 0)) * k,
        len := max 1 (vBytes (s.vw v 0)),
        write := false })
      ((s.begun tag o n).setViaSrc v { s.viaSrc v with ops := (s.viaSrc v).ops ++ [tag.val] })).drain)

/-- Management operations (R316–R318, R352, R371, R375, R376, R392–R394): contexts are written, enabled, disabled, reset and read, spaces
and regions are set and revoked, and translations invalidated. -/
def Obligations.ManagementOperationsAct : Prop :=
  (∀ (tag : Fin 65536) s o, s.opReady tag 0xC0 = some o → o.dest < 2 ^ 18 → o.dest ≠ 0 → (s.ctx o.dest).state = CS.disabled →
    exec (.ctxInit tag) s = .next ((s.setCtx o.dest { s.ctx o.dest with
      port := o.dByte 18 1,
      flags := o.dByte 19 1,
      pd := o.dByte 20 2,
      space := o.dByte 22 2,
      key := o.dByte 24 4,
      tcMask := o.dByte 28 1,
      cmdLog2 := o.dByte 29 1,
      cqLog2 := o.dByte 30 1,
      maxOps := o.dByte 31 1,
      cmdBase := o.dByte 32 8,
      cqBase := o.dByte 40 8,
      cqTailAddr := o.dByte 48 8,
      cqHeadAddr := o.dByte 56 8,
      cmdTail := 0,
      cmdHead := 0,
      cqWritten := 0,
      cqHeadSeen := 0,
      cqReserved := 0,
      tagsHeld := 0,
      parked := 0,
      haltSlot := 0,
      overflow := 0 }).finishOp tag 0 0 0 0).drain) ∧
  (∀ (tag : Fin 65536) s o, s.opReady tag 0xC1 = some o → o.dest < 2 ^ 18 → o.dest ≠ 0 → (s.ctx o.dest).state = CS.halted →
    seqDist 32 (o.dByte 16 4) (s.ctx o.dest).haltSlot ≤ seqDist 32 (s.ctx o.dest).cmdTail (s.ctx o.dest).haltSlot → exec (.ctxEnable tag) s =
      .next (((s.setCtx o.dest { s.ctx o.dest with
        cmdHead := o.dByte 16 4,
        haltCause := 0 }).setCtxState o.dest CS.enabled).finishOp tag 0 0 0 0).drain) ∧
  (∀ (tag : Fin 65536) s o, s.opReady tag 0xC1 = some o → o.dest < 2 ^ 18 → o.dest ≠ 0 → (s.ctx o.dest).state = CS.disabled → o.dByte 16 4 = 0 →
    (s.ctx o.dest).tagsHeld = 0 → exec (.ctxEnable tag) s = .next (((s.setCtx o.dest { s.ctx o.dest with
      cmdTail := 0,
      cmdHead := 0,
      cqWritten := 0,
      cqHeadSeen := 0,
      overflow := 0,
      haltCause := 0,
      sinceEvent := 0,
      fetched := [],
      inline_ := [] }).setCtxState o.dest CS.enabled).finishOp tag 0 0 0 0).drain) ∧
  (∀ (tag : Fin 65536) s o, s.opReady tag 0xC2 = some o → o.dest < 2 ^ 18 → o.dest ≠ 0 → (s.ctx o.dest).state = CS.enabled ∨ (s.ctx o.dest).state = CS.halted →
    exec (.ctxDisable tag) s = .next (((s.begun tag o 0).setCtx o.dest { s.ctx o.dest with
      closing := some tag.val,
      fetched := [],
      inline_ := [] }).cancelPosts o.dest).drain) ∧
  (∀ (tag : Fin 65536) s o, s.opReady tag 0xC3 = some o → o.dest < 2 ^ 18 → o.dest ≠ 0 → (s.ctx o.dest).state ≠ CS.resetting →
    exec (.ctxReset tag) s = .next ((((s.begun tag o 0).setCtx o.dest { s.ctx o.dest with
      closing := some tag.val,
      mute := true,
      fetched := [],
      inline_ := [] }).setCtxState o.dest CS.resetting).resetCtx o.dest).drain) ∧
  (∀ (c : Fin 262144) s m, (s.ctx c).state = CS.resetting → (s.ctx c).closing = some m → (s.ctx c).tagsHeld ≠ 0 →
    s.ep.msg = [] → exec (.ctxResetTimeout c) s =
      .next (((s.opsWhere (fun o => decide (o.ctx = c.val))).foldl (fun s e => s.releaseTag e.1) s).closeCtx c (s.ctx c).tagsHeld).drain) ∧
  (∀ (tag : Fin 65536) s o, s.opReady tag 0xC4 = some o → o.dest < 2 ^ 18 → o.dest ≠ 0 → exec (.ctxRead tag) s =
    .next ((s.ringWrite 0 (s.ctx 0).cqHbm (o.dByte 16 8) (s.ctxImage o.dest) none).finishOp tag 0 0 0 0).drain) ∧
  (∀ (tag : Fin 65536) s o a key root, s.opReady tag 0xC8 = some o → o.dest < 2 ^ 18 → a = o.dByte 16 2 → key = o.dByte 20 4 → root = o.dByte 24 8 →
    key / 2 ^ 16 = a → key ≠ 0xFFFFFFFF → o.dByte 18 2 ≤ 16383 → root / 4 % 2 ^ 10 = 0 → root.testBit 0 = false → (s.space a).root.testBit 0 = false →
    exec (.spaceSet tag) s = .next (((s.begun tag o 0).setEp { (s.begun tag o 0).ep with space := mput {} (s.begun tag o 0).ep.space a { s.space a with
        pd := o.dByte 18 2,
        key := key,
        root := root } }).invIssue (a % 32) { scope := 1, space := a, resume := true, tag := some tag.val, spaceSet := true }).drain) ∧
  (∀ (tag : Fin 65536) s o i key, s.opReady tag 0xC9 = some o → o.dest < 2 ^ 18 → i = o.dByte 16 4 → i < 2 ^ 20 → (s.region i).valid = false →
    o.dByte 20 2 ≤ 16383 → key = o.dByte 40 4 → s.keyValid key = true → (s.space (key / 2 ^ 16)).pd = o.dByte 20 2 → o.dByte 22 2 < 8 → o.dByte 32 8 ≠ 0 →
    o.dByte 24 8 + o.dByte 32 8 ≤ 2 ^ 48 → exec (.regionSet tag) s =
      .next ((s.setEp { s.ep with region := mput {} s.ep.region i { s.region i with
        valid := true,
        pd := o.dByte 20 2,
        rights := o.dByte 22 2,
        base := o.dByte 24 8,
        len := o.dByte 32 8,
        key := key } }).finishOp tag 0 ((s.region i).gen * 2 ^ 20 + i) 0 0).drain) ∧
  (∀ (tag : Fin 65536) s o, s.opReady tag 0xCA = some o → o.dest < 2 ^ 18 → o.dByte 16 4 < 2 ^ 20 → (s.region (o.dByte 16 4)).valid = true →
    s.ep.revoke = none → exec (.regionRevoke tag) s = .next ((s.begun tag o 0).revokeBegin (o.dByte 16 4) tag).drain) ∧
  (∀ s r, s.ep.revoke = some r → s.ep.job = [] → exec .revokeComplete s =
    .next ((((s.takeFree.2.setEp { s.takeFree.2.ep with revoke := none }).showRevoke.finishOp r.tag 0 r.refused 0 r.at_).raise
      (656 + Config.choice s.takeFree.1 % 16) 0x0C (r.refused * 2 ^ 32 + r.region)).drain)) ∧
  (∀ (tag : Fin 65536) s o, s.opReady tag 0xCB = some o → o.dest < 2 ^ 18 → o.dByte 16 1 = 0 → o.dByte 32 4 ≤ 2 ^ 20 → exec (.xltInval tag) s =
    .next ((s.begun tag o 0).invIssue (o.dByte 18 2 % 32) {
      scope := 0,
      space := o.dByte 18 2,
      va := o.dByte 24 8 / 4096 * 4096,
      pages := max 1 (o.dByte 32 4),
      resume := (o.dByte 17 1).testBit 0,
      abandon := (o.dByte 17 1).testBit 1,
      tag := some tag.val }).drain) ∧
  (∀ (tag : Fin 65536) s o, s.opReady tag 0xCB = some o → o.dest < 2 ^ 18 → o.dByte 16 1 = 2 → exec (.xltInval tag) s =
    .next ((s.begun tag o 0).invIssue 0 {
      scope := 2,
      space := o.dByte 18 2,
      va := o.dByte 24 8 / 4096 * 4096,
      pages := max 1 (o.dByte 32 4),
      resume := (o.dByte 17 1).testBit 0,
      abandon := (o.dByte 17 1).testBit 1,
      tag := some tag.val }).drain)

/-- Channel packets (R329, R335, R337, R350, R353, R354, R356, R363): a new packet within the window that need not wait at a fence is passed
to its consumer; one seen already is a duplicate. -/
def Obligations.ChannelPacketsReachTheirConsumers : Prop :=
  ∀ (i : Instr) (opc : Nat), (i, opc) ∈ [(Instr.sendEagerReceive, 0x00), (.sendRtsReceive, 0x01), (.sendFinReceive, 0x02), (.sendCancelReceive, 0x03),
      (.putReceive, 0x20), (.putNotifyReceive, 0x21), (.getReqReceive, 0x22), (.atomicReceive, 0x24)] →
    ∀ s d u p v c, s.safe = false → s.awake Dom.endpoint = true →
      s.takeDlv (fun b => decide (pOpc b = opc) && !(decide (opc ≤ 0x01) && s.hookBlocked (ctxOf (pDst b)))) = (some d, u) →
      (u.touchCtx (ctxOf (pDst d.bytes))).openChan (ctxOf (pDst d.bytes)) (pSrc d.bytes) = (some p, v) →
      v.armed F.REL_INJECT_DROP_RX (p % 16) = false → v.chan p = some c →
      (c.seen (pSeq d.bytes) = false → c.holdOf (pSeq d.bytes) = none → seqDist 32 (pSeq d.bytes) c.e < 4096 → pFence d.bytes = false →
        exec i s = .next ((v.setChan p { c with rxFresh := false }).passRx p d.bytes (u.dlvPipe d)).drain) ∧
      (c.seen (pSeq d.bytes) = true →
        exec i s = .next ((v.setChan p { c with rxFresh := false }).duplicate p { c with rxFresh := false } d.bytes (u.dlvPipe d)).drain)

/-- Answers, timers and halves of channels, and matching (R326, R343, R354, R357–R361, R363, R364, R366–R369). -/
def Obligations.ChannelsAnswerRetryAndReset : Prop :=
  (∀ s d u, s.safe = false → s.awake Dom.endpoint = true → (s.takeOpc 0x23 = (some d, u) → exec .getRspReceive s = .next (u.takeRsp d.bytes).drain) ∧
    (s.takeOpc 0x25 = (some d, u) → exec .atomicRspReceive s = .next (u.takeRsp d.bytes).drain) ∧
    (s.takeOpc 0x26 = (some d, u) → exec .accessNakReceive s = .next (u.takeNak d.bytes).drain) ∧
    (s.takeOpc 0x60 = (some d, u) → exec .ackReceive s = .next (u.takeAck d.bytes).drain)) ∧
  (∀ (u : State) b p c t, u.answerChan b = some p → u.chan p = some c → c.tx (pSeq b) = some t → beAt (pExt b) 4 1 = 0x10 → u.takeNak b =
    u.setChan p { c with unret := c.unret.map (fun x => if x.seq = t.seq then { x with suspended := true } else x) }) ∧
  (∀ (n : Fin 16) s, (s.mat n).waiting = [] → exec (.postedReceiveRoom n) s = .next s.drain) ∧
  (∀ (n : Fin 16) s tag rest o u, (s.mat n).waiting = [tag] → s.op tag = some o → s.post (recvPost tag o) = (true, u) → rest = ([] : List Nat) →
    exec (.postedReceiveRoom n) s = .next (u.setMat n { u.mat n with waiting := rest }).drain) ∧
  (∀ (n : Fin 16) s e rest, (s.mat n).hooks = e :: rest → s.qValid (s.fld F.MAT_HOOK_CFG_QUEUE n) = true → s.qFull (s.fld F.MAT_HOOK_CFG_QUEUE n) = false →
    exec (.hookRecordPush n) s = .next ((s.setMat n { s.mat n with hooks := rest }).qAppend (s.fld F.MAT_HOOK_CFG_QUEUE n) e.2).drain) ∧
  (∀ (p : Fin 65536) s c, s.chan p = some c → c.sinceAck ≠ 0 → exec (.relAckDelay p) s = .next (s.sendRelAck p)) ∧
  (∀ (p : Fin 65536) (q : W32) s c t, s.chan p = some c → c.tx q.toNat = some t → t.suspended = false → t.queued = false →
    max 1 (s.fld F.REL_RTX_RETRY_LIMIT (p % 16)) ≤ t.retries → exec (.retransmitTimeout p q) s = .next (s.chanFail p).drain) ∧
  (∀ (p : Fin 65536) (q : W32) s c t o u, s.chan p = some c → c.tx q.toNat = some t → t.suspended = false → t.queued = false →
    t.retries < max 1 (s.fld F.REL_RTX_RETRY_LIMIT (p % 16)) → t.cand = none → u = s.count F.REL_CNT_RETX_COUNT (p % 16) → t.tag.bind u.op = some o →
    u.chan p = some c → exec (.retransmitTimeout p q) s = .next ((u.setChan p { c with unret := c.unret.map (fun x => if x.seq = q.toNat then { x with
        retries := x.retries + 1,
        queued := true } else x) }).injectRetx (u.opKey o) p q.toNat).drain) ∧
  (∀ s, s.ep.chanWait = [] → exec .channelEntryFree s = .next s.drain) ∧
  (∀ (p : Fin 65536) s c, s.chan p = some c → c.unret = [] → c.txFresh = false → s.ep.op = [] → exec (.sendHalfReset p) s =
    .next ((s.setChan p { c with
      next := 0,
      mseq := 0,
      txFresh := true }).freeChan p).retryChans.drain) ∧
  (∀ (p : Fin 65536) s c u, s.chan p = some c → c.rxFresh = false → s.ep.msg = [] → u = s.setChan p { c with
      e := 0,
      nextMatch := 0,
      marks := [],
      rx := [],
      notify := [],
      sinceAck := 0,
      ce := false,
      rxFresh := true } → ((u.setEp { u.ep with resp := u.ep.resp.filter (fun (e : Nat × Resp) => decide (e.1 / 2 ^ 32 ≠ p.val)) }).showRel (p % 16)).ep.msg = [] →
    exec (.receiveHalfReset p) s = .next ((((u.setEp { u.ep with
      resp := u.ep.resp.filter (fun (e : Nat × Resp) => decide (e.1 / 2 ^ 32 ≠ p.val)) }).showRel (p % 16)).freeChan p).retryChans).drain) ∧
  (∀ (p : Fin 65536) (q : W32) s, exec (.respHoldExpire p q) s =
    .next ((s.setEp { s.ep with resp := merase s.ep.resp (respKey p q.toNat) }).showRel (p % 16))) ∧
  (∀ (p : Fin 65536) (q : W32) s c x k sq b pipe, s.chan p = some c → c.holdOf q.toNat = some x → x = { seq := sq, hold := .refused k, bytes := b, pipe := pipe } →
    exec (.refuseHoldExpire p q) s = .next (s.unholdRx p q.toNat).drain) ∧
  (∀ (n : Fin 16) (slot : Fin 4096) s id j,
    s.ep.job.find? (fun (e : Nat × Job) => decide (e.2.slot = some slot.val) && decide (s.jobRel e.2 = n.val)) = some (id, j) →
    exec (.parkTimeout n slot) s = .next ((s.raise (656 + s.jobRel j) 0x06 (j.slot.getD 0 * 2 ^ 48 + (s.jobChan j).getD 0 * 2 ^ 32 + j.ctx)).refuseJob id j
      0x0D 0x06 (j.va + j.next)).drain) ∧
  (∀ (p : Fin 65536) (q : W32) s c t, s.chan p = some c → c.tx q.toNat = some t → t.suspended = true →
    exec (.suspendLimitExpire p q) s = .next (s.chanFail p).drain)

/-- Translation (R381, R384, R388, R392–R394, R396): a walk's read descends, ends at a leaf or faults; a held access is given up;
invalidations start and complete; entries are stored and read. -/
def Obligations.TranslationActs : Prop :=
  (∀ (n i : Fin 32) s w a u v b p, (s.xlt n).walks[i.val]? = some w → a = w.table + 8 * (w.va / 2 ^ (12 + 9 * w.level) % 512) → a < hbmBytes →
    s.armed F.XLT_INJECT_WALK_ERR n = false → s.memRead a 8 = (some b, u) → p = BitVec.ofNat 64 (leNat b) → pteBit p 0 = true →
    pteMalformed p w.level = false → v = u.setXlt n { u.xlt n with walks := (u.xlt n).walks.eraseIdx i } →
    (pteLeaf p = true → exec (.walkStepRead n i) s = .next ((v.fillLeaf n
      { space := w.space, level := w.level, vpn := w.va / pageSize w.level, pte := p }).walkLeaf n w p).drain) ∧
    (pteLeaf p = false → exec (.walkStepRead n i) s = .next ((u.setXlt n { u.xlt n with walks := (u.xlt n).walks.set i { w with
        level := w.level - 1,
        table := ptePpn p * 4096 } }).fillWalk n
      { space := w.space, level := w.level - 1, pre := w.va / 2 ^ (12 + 9 * w.level), table := ptePpn p * 4096 }).drain)) ∧
  (∀ (tag : Fin 65536) s id j, s.ep.job.find? (fun (e : Nat × Job) => e.2.fault.isSome && decide (e.2.who.tag = some tag.val)) = some (id, j) →
    exec (.localTimeoutExpire tag) s = .next ((s.localTimeout j tag).tellJob id .unresolved).drain) ∧
  (∀ (n : Fin 32) s, (s.flag F.XLT_INV_CTRL_BUSY n = true → exec (.xltInvStart n) s = .next (s.xltRaise n 0x06 (s.fld F.XLT_INV_CTRL_SPACE n))) ∧
    (s.flag F.XLT_INV_CTRL_BUSY n = false → s.fld F.XLT_INV_PAGES_COUNT n ≤ 2 ^ 20 → exec (.xltInvStart n) s = .next (s.invIssue n {
      scope := min 2 (s.fld F.XLT_INV_CTRL_SCOPE n),
      space := s.fld F.XLT_INV_CTRL_SPACE n,
      va := s.fld F.XLT_INV_ADDR_ADDR n / 4096 * 4096,
      pages := max 1 (s.fld F.XLT_INV_PAGES_COUNT n),
      resume := s.flag F.XLT_INV_CTRL_RESUME n,
      abandon := s.flag F.XLT_INV_CTRL_ABANDON n }))) ∧
  (∀ (n : Fin 32) s v u w, (s.xlt n).inv = some v → s.invReady v = true → v.spaceSet = false → v.tag = none → u = s.invRetry v →
    w = (u.setXlt n { u.xlt n with inv := none }).setFld F.XLT_INV_CTRL_BUSY 0 n →
    ((w.setFld F.XLT_INV_SEQ_COUNT (w.fld F.XLT_INV_SEQ_COUNT n + 1) n).xlt n).invQ = [] → exec (.invalidationComplete n) s =
      .next (w.setFld F.XLT_INV_SEQ_COUNT (w.fld F.XLT_INV_SEQ_COUNT n + 1) n).drain) ∧
  (∀ ag (n : Fin 32) hi s lo u, s.takeStaged ag (F.XLT_PTE_DATA_DATA.addr n 0) = (lo, u) → apertureOk (s.fld F.XLT_PTE_ADDR_ADDR n) = true →
    exec (.pteStore ag n hi) s = .next (u.memWrite (s.fld F.XLT_PTE_ADDR_ADDR n) (leBytes 4 lo.toNat ++ leBytes 4 hi.toNat))) ∧
  (∀ ag (n : Fin 32) s b u, apertureOk (s.fld F.XLT_PTE_ADDR_ADDR n) = true → s.memRead (s.fld F.XLT_PTE_ADDR_ADDR n) 8 = (some b, u) →
    ∃ t, exec (.pteDataRead ag n) s = .next t ∧ t.rd64 (F.XLT_PTE_DATA_DATA.addr n 0) = BitVec.ofNat 64 (leNat b) ∧
      mfind t.regs.latch ag.key = some (F.XLT_PTE_DATA_DATA.addr n 0 + 4, BitVec.ofNat 32 (leNat b / 2 ^ 32)))

/-- Hart instructions (R400, R404, R405, R407, R414, R416, R418, R423, R432, R433, R435, R437, R438): a hart that may run, that no interrupt
holds and whose fetched instruction is one of the command's carries it out. -/
def Obligations.HartInstructionsRun : Prop :=
  ∀ (h : Fin 4096) (i : Instr) (k : Cls), (i, k) ∈ [(Instr.hartInstruction h, Cls.base), (.fence h, .fence), (.lr h, .lr), (.sc h, .sc), (.amo h, .amo),
      (.deviceAccess h, .device), (.hostAccess h, .host), (.lq h, .lq), (.sq h, .sq), (.lkacq h, .lkacq), (.lkacqTry h, .lkacqTry), (.lkrel h, .lkrel),
      (.qpushD h, .qpushD), (.qpushQ h, .qpushQ), (.qpop h, .qpop), (.mprb h, .mprb), (.waitq h, .waitq), (.fenceEp h, .fenceEp), (.evsig h, .evsig),
      (.hret h, .hret)] →
    ∀ s t w, s.canRun h = true → s.irqOf h = none → s.fetch32 h = (.ok w, t) → t.clsOf h (decodeRv w) = k →
      t.armed F.ENG_INJECT_STATE_ECC (clusterOf h) = false → exec i s = .next (((t.doInstr h (decodeRv w) w).invoke h).drain)

/-- What base instructions, EVSIG and HRET compute, and an exception's entry and return (R400, R416, R418, R419): results go to rd, the pc
advances by the instruction's length or goes where a jump or branch says; ECALL saves pc, cause and status and goes to the trap vector;
MRET restores them; x0 discards what is written to it. -/
def Obligations.InstructionsCompute : Prop :=
  (∀ (s : State) h w x npc, x = s.hart h → npc = x.pc + BitVec.ofNat 64 (rvLen w) →
    (∀ rd imm, s.doInstr h (.lui rd imm) w = s.setHart h ((x.wx rd imm).retire npc)) ∧
    (∀ op rd r1 r2, s.doInstr h (.alu op rd r1 r2) w = s.setHart h ((x.wx rd (op.run (x.rx r1) (x.rx r2))).retire npc)) ∧
    (∀ op rd r1 imm, s.doInstr h (.alui op rd r1 imm) w = s.setHart h ((x.wx rd (op.run (x.rx r1) imm)).retire npc)) ∧
    (∀ rd off, s.doInstr h (.jal rd off) w = s.setHart h ((x.wx rd npc).retire (x.pc + off))) ∧
    (∀ rd r1 off, s.doInstr h (.jalr rd r1 off) w = s.setHart h ((x.wx rd npc).retire ((x.rx r1 + off) &&& ~~~1#64))) ∧
    (∀ c r1 r2 off, s.doInstr h (.branch c r1 r2 off) w = s.setHart h (x.retire (if taken c (x.rx r1) (x.rx r2) then x.pc + off else npc))) ∧
    (∀ r1 r2, s.doInstr h (.evsig r1 r2) w = (s.setHart h (x.retire npc)).signal (bits (x.rx r1) 0 12) (bits (x.rx r2) 0 5)) ∧
    (∀ f rest, x.frames = f :: rest → x.priv ≠ 0 → s.doInstr h .hret w = s.setHart h { x.retire f.pc with
      priv := f.priv,
      frames := rest,
      run := if rest = [] then 0 else f.prio })) ∧
  (∀ (s : State) h w, (s.hart h).priv = 3 → ∃ t, s.doInstr h .ecall w = t ∧ (t.hart h).c 0x341 = (s.hart h).pc ∧ (t.hart h).c 0x342 = 11 ∧
    (t.hart h).priv = 3 ∧ (t.hart h).pc = (s.hart h).c 0x305 &&& ~~~3#64 ∧ (t.hart h).resv = none) ∧
  (∀ (s : State) h w, (s.hart h).priv = 3 → ((s.doInstr h .mret w).hart h).pc = (s.hart h).c 0x341 ∧
    ((s.doInstr h .mret w).hart h).priv = bits ((s.hart h).c CSR.mstatus) 11 2) ∧
  (∀ (x : Hart) v r, x.wx 0 v = x ∧ x.rx 0 = 0 ∧ (r ≠ 0 → (x.wx r v).rx r = v) ∧ ∀ q, q ≠ r → (x.wx r v).rx q = x.rx q)

/-- Resets, events and the run switch of engines (R416, R420, R421, R424). -/
def Obligations.EnginesResetAndRun : Prop :=
  (∀ (h : Fin 4096) s, (s.hart h).ftDone = false → ((s.hart h).c CSR.ftcmp).toNat ≤ s.ftime →
    exec (.ftcmpEvent h) s = .next ((s.setHart h { s.hart h with ftDone := true }).signal h 32)) ∧
  (∀ (c : Fin 32) (hart : Fin 128) s, s.creset c = none → s.armed F.ENG_INJECT_DRAIN_STALL c = false →
    exec (.hartWarmReset c hart) s = .next (s.beginReset c { kind := 1, hart := hart, stall := false }).drain ∧
    exec (.clusterWarmReset c) s = .next (s.beginReset c { kind := 2, hart := 0, stall := false }).drain ∧
    exec (.clusterFaultReset c) s = .next (s.beginFault c).drain) ∧
  (∀ (c : Fin 32) s r, s.creset c = some r → s.resetDrained c r = true → exec (.resetDrainDone c) s = .next (s.endReset c r).drain) ∧
  (∀ (c : Fin 32) s r, s.creset c = some r → r.kind ≠ 3 → exec (.drainTimeout c) s =
    .next ((s.raise (352 + 2 * c) 0x03 (if r.kind = 1 then r.hart else 0x7F)).beginFault c).drain) ∧
  (∀ (c : Fin 32) (i : Fin 4) v s u, s.fld F.ENG_HART_RUN_RUN c i = 0 → u = (s.setFld F.ENG_HART_RUN_RUN (BitVec.toNat v) c i).wake (Dom.cluster c) →
    exec (.hartRunWrite c i v) s = .next ((((List.range 32).filter (fun j => v.getLsbD j)).foldl (fun s j => s.startHart (128 * c + 32 * i + j)) u).showCluster c).drain)

/-- The memory protocol (R427–R430, R437): an agent's ask reaches its line's home, and each message in flight is delivered where it is the
oldest of its agent and line. -/
def Obligations.MemoryMessagesAreDelivered : Prop :=
  (∀ (c : Fin 32) (l : Fin hbmLines) s w u, (s.l2 c l).st = .i → (s.l2 c l).retiring = false → s.chooseWay c l = (w, u) →
    exec (.fetchSh c l) s = .next ((u.setL2 c l { way := w }).ask l { code := .fetchSh, agent := c, way := w }) ∧
    exec (.fetchEx c l) s = .next ((u.setL2 c l { way := w }).ask l { code := .fetchEx, agent := c, way := w })) ∧
  (∀ (c : Fin 32) (l : Fin hbmLines) s, ((s.l2 c l).st = .s ∨ (s.l2 c l).st = .o) → (s.l2 c l).retiring = false →
    exec (.promote c l) s = .next (s.ask l { code := .promote, agent := c, way := (s.l2 c l).way })) ∧
  (∀ (c : Fin 32) (l : Fin hbmLines) s, ((s.l2 c l).st = .m ∨ (s.l2 c l).st = .o) → (s.l2 c l).retiring = false →
    exec (.retire c l) s = .next (((s.dropResv c l).setL2 c l { s.l2 c l with retiring := true }).ask l { code := .retire, agent := c })) ∧
  (∀ (p : Fin 64) (l : Fin hbmLines) s, exec (.ioRead p l) s = .next (s.ask l { code := .ioRead, agent := 32 + p })) ∧
  (∀ (p : Fin 64) (l : Fin hbmLines) (off : Fin 64) d s, d.length + off.val ≤ 64 →
    exec (.ioWrite p l off d) s = .next (s.ask l { code := .ioWrite, agent := 32 + p, off := off, data := d })) ∧
  (∀ (l : Fin hbmLines) (a : Fin 96) (i : Instr) (k : CCode) s n m, (i, k) ∈ [(Instr.fill a l, CCode.fill), (.grant a l, .grant)] →
    s.eng.net.findIdx? (fun m => decide (m.agent = a.val) && decide (m.line = l.val)) = some n → s.eng.net[n]? = some m → m.code = k →
    exec i s = .next ((s.setEng { s.eng with net := s.eng.net.eraseIdx n }).takeFill m)) ∧
  (∀ (l : Fin hbmLines) (c : Fin 32) (i : Instr) (k : CCode) s n m, (i, k) ∈ [(Instr.probeSh c l, CCode.probeSh), (.probeEx c l, .probeEx),
      (.probeKill c l, .probeKill)] → s.deferred c l = false →
    s.eng.net.findIdx? (fun m => decide (m.agent = c.val) && decide (m.line = l.val)) = some n → s.eng.net[n]? = some m → m.code = k →
    exec i s = .next ((s.setEng { s.eng with net := s.eng.net.eraseIdx n }).takeProbe m)) ∧
  (∀ (l : Fin hbmLines) (c : Fin 32) (i : Instr) (k : CCode) s n m, (i, k) ∈ [(Instr.none c l, CCode.none), (.probeAck c l, .ack), (.clean c l, .clean),
      (.dirty c l, .dirty)] →
    s.eng.net.findIdx? (fun m => decide (m.agent = c.val) && decide (m.line = l.val)) = some n → s.eng.net[n]? = some m → m.code = k →
    exec i s = .next ((s.setEng { s.eng with net := s.eng.net.eraseIdx n }).takeAnswer m)) ∧
  (∀ (h : Fin 4096) s l b, (s.hart h).resv = some (l, b) →
    ∃ t, exec (.reservationDeferEnd h) s = .next t ∧ (t.hart h).resv = some (l, false))

/-- Poison, scrubbing, locks' marks and self-refresh (R440, R441, R445, R447, R448, R523). -/
def Obligations.MemoryIsMarkedScrubbedAndRefreshed : Prop :=
  (∀ (h : Fin 8) s l, l = s.fld F.HOM_POISON_ADDR_ADDR h / 64 → l < hbmLines → homeOf l = h → s.fld F.HOM_POISON_CTRL_BUSY h = 0 →
    exec (.poisonCtrlMark h) s = .next ((s.markPoison l).setFld F.HOM_POISON_CTRL_BUSY 1 h) ∧
    exec (.poisonCtrlClear h) s = .next (((s.killCopies l).hbmWrite l (List.replicate 64 0#8) false).setFld F.HOM_POISON_CTRL_BUSY 1 h)) ∧
  (∀ (h : Fin 8) s, s.fld F.HOM_POISON_CTRL_BUSY h = 1 → ∃ t, exec (.poisonCtrlDone h) s = .next t ∧ t.fld F.HOM_POISON_CTRL_BUSY h = 0) ∧
  (∀ s l, s.lock (s.fld F.LCK_CLR_ADDR_ADDR % 2 ^ 56) = some l → l.holder = none → l.abandoned = true →
    exec .lckClrGo s = .next (s.dropLock (s.fld F.LCK_CLR_ADDR_ADDR % 2 ^ 56))) ∧
  (∀ (n : Fin 4) (l : Fin hbmLines) s, s.flag F.HBM_CFG_SCRUB_EN n = true → stackOf l = n → s.fld F.HBM_STATUS_STATE n = 1 →
    (s.armed F.HBM_INJECT_CORR n = false → exec (.hbmScrub n l) s = .next (s.hbmRead l).2) ∧
    (s.armed F.HBM_INJECT_CORR n = true → exec (.hbmScrub n l) s = .next (((s.setArmed F.HBM_INJECT_CORR n false).count
      F.HBM_CNT_SCRUB_FIX_COUNT n).raise (432 + 4 * n + groupOf l) 0x02 (64 * l)))) ∧
  (∀ (n : Fin 4) s, (∀ d, d < 80 → (s.dom d).st = .asleep) → s.fld F.HBM_STATUS_STATE n = 1 → ∃ t, exec (.selfRefreshEntry n) s = .next t ∧
    mget false t.pwr.hbmSr n = true ∧ t.fld F.HBM_STATUS_STATE n = 2) ∧
  (∀ (n : Fin 4) s, mget false s.pwr.hbmSr n = true → ∃ t, exec (.selfRefreshExit n false) s = .next t ∧
    mget false t.pwr.hbmSr n = false ∧ t.fld F.HBM_STATUS_STATE n = 1) ∧
  (∀ (n : Fin 4) s, mget false s.pwr.hbmSr n = true → ∃ u : State, exec (.selfRefreshExit n true) s = .next (u.raise (432 + 4 * n) 0x03 3) ∧
    mget false u.pwr.hbmSr n = false ∧ u.fld F.HBM_STATUS_STATE n = 3)

/-- Placement and handlers (R454–R457, R459, R460): scores are shown, balancing runs where enabled, a migration is made or refused, a hint
moves its context, and a handler's end releases or cancels its operation. -/
def Obligations.PlacementActs : Prop :=
  (∀ s, exec .scoreSample s = .next ((List.range 32).foldl (fun s c => (((s.setFld F.PLC_LOAD_SCORE (min (s.scoreNow c) 65535) 0 c).setFld F.PLC_LOAD_AWAKE
      (if s.awake (Dom.cluster c) then 1 else 0) 0 c)).timeLow c (min (s.scoreNow c) 65535)) s)) ∧
  (∀ s, s.flag F.PLC_CFG_MIG_EN = true → s.balance.flag F.PLC_CFG_CONSOLIDATE_EN = false → exec .migrationCheck s = .next s.balance) ∧
  (∀ s, s.flag F.PLC_CFG_MIG_EN = true → s.balance.flag F.PLC_CFG_CONSOLIDATE_EN = true →
    exec .migrationCheck s = .next ((List.range 32).foldl State.consolidate s.balance)) ∧
  (∀ (c : Fin 262144) (cl : Fin 32) s u, s.flag F.PLC_MIG_STATUS_PENDING = false → (s.ctx c).state ≠ CS.disabled → (s.ctx c).state ≠ CS.resetting →
    u = (s.setFld F.PLC_MIG_STATUS_CONTEXT c).setFld F.PLC_MIG_STATUS_PENDING 0 → cl.val ∈ allowedSet (u.hint c) → u.oldEpoch c = false →
    exec (.migrate c cl) s = .next (((u.setFld F.PLC_MIG_STATUS_REFUSED 0).count F.PLC_CNT_MIG_SW_COUNT 0).migrate c cl)) ∧
  (∀ ag (c : Fin 262144) hi s lo u, mfind (mget [] s.regs.staged ag.key) (0x3000000 + 8 * c) = some lo →
    u = ((({ s with regs := { s.regs with staged := mput [] s.regs.staged ag.key (merase (mget [] s.regs.staged ag.key) (0x3000000 + 8 * c)) } } : State).wr (0x3000000 + 8 * c) lo).wr (0x3000000 + 8 * c + 4) (hi &&& 0xFFFC0000#32)) →
    ((u.ctx c).steered = false → exec (.hintApply ag c hi) s = .next u) ∧
    ((u.ctx c).steered = true → (u.ctx c).cluster ∉ allowedSet (u.hint c) →
      exec (.hintApply ag c hi) s = .next (u.softMigrate c (u.chooseCluster (allowedSet (u.hint c)))))) ∧
  (∀ (tag : Fin 65536) s o, s.op tag = some o → o.handler ∈ [1, 3, 4] → exec (.handlerDone tag true) s = .next (s.finishOp tag 0x05 0 0 0).drain ∧
    exec (.handlerDone tag false) s = .next (s.setOp tag { o with handler := 2 }).drain) ∧
  (∀ (tag : Fin 65536) s o, s.op tag = some o → o.handler = 1 ∨ o.handler = 4 → exec (.handlerTimeout tag) s =
    .next (((s.finishOp tag 0x05 0 0 0).count F.PLC_CNT_HTIMEOUT_COUNT 0).raise 688 0x03 (tag.val * 2 ^ 32 + o.ctx)).drain)

/-- Refills and the register arbiter (R477–R481, R486–R488, R490, R492): every shaper and policer of a pipeline is refilled up to its burst;
the winning request leaves its queue and is performed; a request that waits is told once. -/
def Obligations.SchedulersRefillAndTheArbiterGrants : Prop :=
  (∀ (k : Fin 16) s, exec (.shaperRefill k) s = .next ((List.range 32).foldl (fun s i => s.refillShaper k i) s)) ∧
  (∀ (s : State) k i, min (s.tokens k i + s.fld F.SCH_SHAPER_RATE k i) (max 4396 (s.fld F.SCH_SHAPER_BURST k i) : Nat) ≠ s.tokens k i →
    s.refillShaper k i = s.setTokens k i (min (s.tokens k i + s.fld F.SCH_SHAPER_RATE k i) (max 4396 (s.fld F.SCH_SHAPER_BURST k i) : Nat))) ∧
  (∀ (k : Fin 16) s, exec (.policerRefill k) s = .next ((List.range 32).foldl (fun s i => s.refillPolicer k i) s)) ∧
  (∀ (s : State) k i p, p = mget {} s.sch.pol (k * 32 + i) → ∃ t, s.refillPolicer k i = t ∧
    (mget {} t.sch.pol (k * 32 + i)).tc = min (p.tc + s.fld F.SCH_POLICER_CIR k i) (max 4396 (s.fld F.SCH_POLICER_CBS k i)) ∧
    (mget {} t.sch.pol (k * 32 + i)).tp =
      min (p.tp + max (s.fld F.SCH_POLICER_CIR k i) (s.fld F.SCH_POLICER_PIR k i)) (max 4396 (s.fld F.SCH_POLICER_PBS k i))) ∧
  (∀ s r q u, s.rfa.sitOut = [] → s.rfaPresentNow = [(r, q)] → u = ({ s with rfa := { s.rfa with sitOut := [] } } : State).rfaTake r q →
    (q.write = true → exec .rfaGrant s = .next ((u.busWrite q.agent q.addr q.data).rfaAnswer q 0).drain) ∧
    (q.write = false → exec .rfaGrant s = .next ((u.busRead q.agent q.addr).2.rfaAnswer q (u.busRead q.agent q.addr).1).drain)) ∧
  (∀ (r : Fin 98) s q rest, mget [] s.rfa.req r = q :: rest → q.warned = false → s.fld F.RFA_WAIT_WARN_US ≠ 0 → exec (.rfaWaitWarn r) s =
    .next (({ s with rfa := { s.rfa with req := mput [] s.rfa.req r ({ q with warned := true } :: rest) } }).raise 753 0x01 (r * 2 ^ 32 + q.addr))) ∧
  (∀ (r : Fin 98) s q rest, mget [] s.rfa.req r = q :: rest → q.heldWarned = false → mget false s.regs.softReset (q.addr / 0x1000) = true →
    exec (.rfaHoldWarn r) s =
      .next (({ s with rfa := { s.rfa with req := mput [] s.rfa.req r ({ q with heldWarned := true } :: rest) } }).raise 753 0x02 (r * 2 ^ 32 + q.addr)))

/-- Keystone (R503–R514, R516, R520): a source's event is recorded with the severity of its window, the reaction timer's end and the
key enter the safe state, beats and stalls are watched, and the log and the severity window are written as their rules allow. -/
def Obligations.KeystoneActs : Prop :=
  (∀ (src : Fin 768) (k : Byte) d s, reports src = true → k ≠ 0 → src ≠ 752 → exec (.keystoneEvent src k d) s =
    .next (s.raiseSev src k.toNat (s.severity src k.toNat) d)) ∧
  (∀ s t, s.kst.react = some t → t ≤ 10 * s.clk → exec .reactionTimerExpire s =
    .next (({ s with kst := { s.kst with react := none } }).enterSafe 1 (BitVec.ofNat 64 s.kst.reactSlot) 0)) ∧
  (∀ (src : Fin 768) s, ∃ t, exec (.heartbeat src) s = .next t ∧ mget 0 t.kst.beatsMissed src = 0) ∧
  (∀ (src : Fin 768) odd s, reports src = true → src ≠ 752 → s.beatExempt src = false → exec (.heartbeatLost src odd) s =
    .next ((s.setBeats src (min (mget 0 s.kst.beatsMissed src + 8) 65535)).raise src 0xF0
      ((if srcBlk src = SrcBlk.xlt ∧ odd = true then 2 ^ 63 else 0) + min (mget 0 s.kst.beatsMissed src + 8) 65535))) ∧
  (∀ (p : Fin 5) (u : Fin 256) (i : Fin 262144) s src x head, s.watched p u i = some (src, some x, head) →
    mget 0 s.kst.stalled ((src * 8 + p) * 2 ^ 18 + i) ≠ head + 1 → exec (.progressStall p u i) s =
      .next ((({ s with kst := { s.kst with stalled := mput 0 s.kst.stalled ((src * 8 + p) * 2 ^ 18 + i) (head + 1) } }).raise src 0xF1
        ((if srcBlk src = SrcBlk.xlt ∧ src % 2 = 1 then 2 ^ 63 else 0) + p * 2 ^ 56 + x % 256 * 2 ^ 48 +
          ({ s with kst := { s.kst with stalled := mput 0 s.kst.stalled ((src * 8 + p) * 2 ^ 18 + i) (head + 1) } } : State).progUs)).containStall p u i).drain) ∧
  (∀ ag v s, 3 ≤ s.agentLevel ag → s.reactDue = false → seqDist 32 (BitVec.toNat v) (s.fld F.KST_LOG_HEAD_COUNT) ≤ s.logLive →
    ∃ t, exec (.logHeadWrite ag v) s = .next t ∧ t.fld F.KST_LOG_HEAD_COUNT = BitVec.toNat v) ∧
  (∀ ag (slot : Fin 1024) s ws, s.armed F.KST_INJECT_LOG_ECC 0 = false → ws = (mget {} s.kst.log slot).words → ∃ t, exec (.logRead ag slot) s = .next t ∧
    mfind t.kst.latch ag.key = some (slot.val, ws.getD 1 0, ws.getD 2 0, ws.getD 3 0)) ∧
  (∀ ag (src : Fin 768) (w : Fin 16) v s a, 3 ≤ s.agentLevel ag → a = 0x3400000 + 64 * src.val + 4 * w.val → exec (.severityWrite ag src w v) s =
    .next (s.wr a (BitVec.ofNat 32 (((List.range 16).map (fun j =>
      severityTaken src (16 * w + j) (bits (s.rd a) (2 * j) 2) (bits v (2 * j) 2) * 4 ^ j)).sum)))) ∧
  (∀ ag s, 3 ≤ s.agentLevel ag → exec (.safeCtrlWrite ag 0x5AFE0001#32) s = .next (s.enterSafe 3 0 ag.requestor)) ∧
  (∀ ag key s, s.agentLevel ag < 3 ∨ key ≠ 0x5AFE0001#32 → exec (.safeCtrlWrite ag key) s = .next s) ∧
  (∀ v s u, u = (s.setFld F.KST_TEST_EVENT_SOURCE (bits v 20 10)).setFld F.KST_TEST_EVENT_KIND (bits v 12 8) →
    (bitAt v 31 = true → bits v 12 8 ≠ 0 → reports (bits v 20 10) = true → exec (.testEvent v) s = .next (u.raise (bits v 20 10) (bits v 12 8) 0)) ∧
    (bitAt v 31 = false → exec (.testEvent v) s = .next u)) ∧
  (∀ (c : Fin 4) (loc : Fin 65536) s, exec (.keystoneSelfFault c loc true) s =
    .next ((s.keyEvent 752 (if c.val + 1 = 2 ∨ c.val + 1 = 3 then 0x02 else 0x03) 3 (BitVec.ofNat 64 ((c.val + 1) * 2 ^ 56 + loc % 65536)) false).enterSafe 2
      (BitVec.ofNat 64 ((c.val + 1) * 2 ^ 56 + loc % 65536)) 0)) ∧
  (∀ s, exec .kstInjectLockstep s =
    .next ((s.keyEvent 752 0x03 3 (BitVec.ofNat 64 (2 ^ 56)) false).enterSafe 2 (BitVec.ofNat 64 (2 ^ 56)) 0))

/-- Power (R27, R522, R526, R527, R533, R534, R536, R606): idle domains fall asleep, wake and are told late, clocks are lost and return,
sensors are shown and checked. -/
def Obligations.PowerActs : Prop :=
  (∀ (d : Fin 113) s, s.awake d = true → s.flag F.PWR_CFG_SLEEP_EN = true → s.sleepAllowed d = true → s.domIdle d = true →
    exec (.sleepEntryStart d) s = .next ((if d.val < 32 then (List.range 128).foldl (fun s i => s.drainSb (128 * d + i)) s else s).setDom d
      { st := .entering })) ∧
  (∀ (d : Fin 113) s, 32 ≤ d.val → (s.dom d).st = .entering →
    ((s.dom d).wakeWaiting = false → (s.setDom d { st := .asleep }).sleepAllowed d = true →
      exec (.sleepEntryDone d) s = .next (s.setDom d { st := .asleep }).drain) ∧
    ((s.dom d).wakeWaiting = true → exec (.sleepEntryDone d) s = .next ((s.setDom d { st := .asleep }).wake d).drain)) ∧
  (∀ (d : Fin 113) s u, 32 ≤ d.val → (s.dom d).st = .waking → s.thermalHold = false → s.pwr.inReset = none → u = s.setDom d { st := .awake } →
    exec (.domainWakeDone d) s = .next ({ u with pwr := { u.pwr with wakeLate := mput false u.pwr.wakeLate d false } }).drain) ∧
  (∀ (d : Fin 113) s, (s.dom d).st = .waking → mget false s.pwr.wakeLate d = false → exec (.wakeTimeout d) s =
    .next (({ s with pwr := { s.pwr with wakeLate := mput false s.pwr.wakeLate d true } }).raise 704 0x01
      ((Config.domainTypeCode (domType d).1).toNat * 256 + (domType d).2))) ∧
  (∀ ppm s, exec (.refclkLoss 0 ppm) s = .next ((((((s.setFld F.CLK_PPM_OFFSET (BitVec.toNat ppm) 0 0).count F.CLK_CNT_LOSS_COUNT 0).setFld
    F.CLK_STATUS_REF0_OK 0).setFld F.CLK_STATUS_ON_OSC 1).raise 705 0x01 (BitVec.toNat ppm)))) ∧
  (∀ ppm s u, s.til = [] → u = ((s.setFld F.CLK_PPM_OFFSET (BitVec.toNat ppm) 0 1).count F.CLK_CNT_LOSS_COUNT 0).setFld F.CLK_STATUS_REF1_OK 0 →
    ((s.setFld F.CLK_PPM_OFFSET (BitVec.toNat ppm) 0 1).count F.CLK_CNT_LOSS_COUNT 0).til = [] →
    exec (.refclkLoss 1 ppm) s = .next (({ u with pwr := { u.pwr with ref1Lost := true } }).raise 705 0x02 (BitVec.toNat ppm))) ∧
  (∀ ppm s, exec (.refclkReturn 0 ppm) s =
    .next (((s.setFld F.CLK_PPM_OFFSET (BitVec.toNat ppm) 0 0).setFld F.CLK_STATUS_REF0_OK 1).setFld F.CLK_STATUS_ON_OSC 0)) ∧
  (∀ (p : Fin 3) s, exec (.corePllUnlock p) s = .next (s.raise 705 0x03 p)) ∧
  (∀ (mv : Fin 801) s, 650 ≤ mv.val → mv.val % 5 = 0 → (∀ t, s.pwr.avsAt = some t → t + 100000 ≤ s.clk) → ∃ t, exec (.avsTargetChange mv) s = .next t ∧
    t.fld F.PWR_AVS_TARGET_MV = mv ∧ t.pwr.avsOld = s.fld F.PWR_AVS_TARGET_MV ∧ t.pwr.avsAt = some s.clk) ∧
  (∀ (r : List Byte) s h, tempTies r = [h] → s.pwr.inReset = none → (s.tempPut r h (tempTop r)).pwr.inReset = none →
    exec (.tempSample r) s = .next ((s.tempPut r h (tempTop r)).tempCheck h (tempTop r))) ∧
  (∀ (r : Fin 8) mv da s u, r ≠ 7 → u = (s.setFld F.SNS_SUPPLY_MV (BitVec.toNat mv) 0 r).setFld F.SNS_SUPPLY_CUR_DA
      (if r.val ∈ [0, 1, 3, 5] then BitVec.toNat da else 0) 0 r → u.supplyOk r (BitVec.toNat mv) = true →
    exec (.supplySample r mv da) s = .next { u with pwr := { u.pwr with supplyBad := mput 0 u.pwr.supplyBad r 0 } }) ∧
  (∀ s, ∃ t, exec .snsInjectSupplyOor s = .next t ∧ t.pwr.oorLeft = 4) ∧
  (∀ (n : Fin 4) (c : Byte) s, signedOf 8 (BitVec.toNat c) ≤ 95 → ∃ t, exec (.hbmTempChange n c) s = .next t ∧ t.fld F.HBM_STATUS_TEMP_C n = BitVec.toNat c ∧
    mget false t.pwr.hbmFast n = decide (85 < signedOf 8 (BitVec.toNat c)))

/-- Resets (R528–R533, R545, R602): their pins and keys, the reset that begins, and the end of the hold, from which the boot starts. -/
def Obligations.ResetsBeginAndEnd : Prop :=
  (∀ down up s, exec (.powerOnReset down up) s = .next (((({ s with pwr := { s.pwr with pwrok := false } }).powerOn).setFld F.PWR_PIN_IDLE_VALID
    (BitVec.toNat (~~~(down ^^^ up)))).setFld F.PWR_PIN_IDLE_LEVEL (BitVec.toNat (down &&& up)))) ∧
  (∀ s, ∃ t, exec .pwrokRise s = .next t ∧ t.pwr.pwrok = true ∧ t.pwr.resetN = s.pwr.resetN) ∧
  (∀ s, s.pwr.inReset ≠ some .powerOn → exec .resetNAssert s = .next (({ s with pwr := { s.pwr with resetN := false } }).coldReset .resetN)) ∧
  (∀ s, ∃ t, exec .resetNRelease s = .next t ∧ t.pwr.resetN = true ∧ t.pwr.pwrok = s.pwr.pwrok) ∧
  (∀ ag s, s.devOpen ag = true → ∃ t, exec (.coldResetCmd ag) s = .next t ∧ t.pwr.resetPending = some .coldCmd) ∧
  (∀ ag s, s.devOpen ag = true → s.thermalHold = false → s.safe = false → s.pwr.resetPending = none →
    ∃ t, exec (.warmResetCmd ag) s = .next t ∧ t.pwr.resetPending = some .warmCmd) ∧
  (∀ s, s.pwr.resetPending = some .coldCmd → exec .resetBegin s = .next (s.coldReset .coldCmd)) ∧
  (∀ s u, s.pwr.resetPending = some .warmCmd → s.thermalHold = false → s.safe = false → u = { s with pwr := { s.pwr with resetPending := none } } →
    exec .resetBegin s = .next u.warmReset) ∧
  (∀ (sel : Fin 4) mgt f s u, s.pwr.inReset.isSome = true → s.pwr.pwrok = true → s.pwr.resetN = true → s.pwr.coldWaitsTemp = false →
    u = ((({ s with pwr := { s.pwr with inReset := none } }).setFld F.PWR_STATE_THERMAL_HOLD 0).setFld F.DEV_BOOT_BOOT_SEL sel).setFld F.DEV_BOOT_MGT_MODE
      (if mgt then 1 else 0) →
    (((u.wr 0x44100 (setBits (u.rd 0x44100) 0 1 (if mgt then 1 else 0))).seedPipes).raise 704 0x04
      (((u.wr 0x44100 (setBits (u.rd 0x44100) 0 1 (if mgt then 1 else 0))).seedPipes).fld F.PWR_RESET_STAT_LAST * 2 ^ 24)).portUp 64 = false →
    exec (.resetHoldEnd sel mgt f) s = .next (((((u.wr 0x44100 (setBits (u.rd 0x44100) 0 1 (if mgt then 1 else 0))).seedPipes).raise 704 0x04
      (((u.wr 0x44100 (setBits (u.rd 0x44100) 0 1 (if mgt then 1 else 0))).seedPipes).fld F.PWR_RESET_STAT_LAST * 2 ^ 24)).bootStart f)).drain)

/-- Boot and configuration (R541, R545, R546, R549): each stage's end starts the next, and each configuration entry does what its operation
says or fails the block. -/
def Obligations.BootStagesAndConfigurationAct : Prop :=
  (∀ s f u, s.booting = true → s.sec.bootStep = 1 → s.bodyCheck 0 f = (0, u) → exec (.bootStageComplete f) s = .next u.bootKeeper) ∧
  (∀ s f, s.booting = true → s.sec.bootStep = 2 → exec (.bootStageComplete f) s = .next s.bootHbm) ∧
  (∀ s f u, s.booting = true → s.sec.bootStep = 3 → s.flag F.SEC_IMG_LOADED 0 3 = true → s.bodyCheck 3 f = (0, u) →
    exec (.bootStageComplete f) s = .next u.bootChain) ∧
  (∀ s f u, s.booting = true → s.sec.bootStep = 5 → s.sec.cfgOn = false → s.flag F.SEC_IMG_LOADED 0 2 = true → s.bodyCheck 2 f = (0, u) →
    exec (.bootStageComplete f) s = .next u.cfgStart) ∧
  (∀ s f, s.booting = true → s.sec.bootStep = 6 → exec (.bootStageComplete f) s = .next s.bootRun.drain) ∧
  (∀ s, s.cfgAt 0 = true → exec .configEnd s = .next s.bootIdentity) ∧
  (∀ s, s.cfgAt 1 = true → s.cfgBadRead s.cfgA = false → s.pageBlocked (s.cfgA / 0x1000) = false →
    (s.cfgBadWrite s.cfgA (BitVec.ofNat 32 s.cfgB) = false → exec .configWrite s =
      .next ((s.cfgGrant.busWrite .boot s.cfgA (BitVec.ofNat 32 s.cfgB)).cfgNext 16).drain) ∧
    (s.cfgBadWrite s.cfgA (BitVec.ofNat 32 s.cfgB) = true → exec .configWrite s = .next s.cfgFail)) ∧
  (∀ s, s.cfgAt 2 = true → s.cfgBadRead s.cfgA = false → s.pageBlocked (s.cfgA / 0x1000) = false →
    (s.cfgGrant.busRead .boot s.cfgA).1 &&& BitVec.ofNat 32 s.cfgB = BitVec.ofNat 32 s.cfgC →
    exec .configPoll s = .next ((s.cfgGrant.busRead .boot s.cfgA).2.cfgNext 16).drain) ∧
  (∀ s, s.cfgAt 2 = true → exec .configPollTimeout s = .next s.cfgFail) ∧
  (∀ s, s.cfgAt 3 = true → exec .configWait s = .next (s.cfgNext 16)) ∧
  (∀ s u, s.cfgAt 4 = true → s.cfgB % 4 = 0 → 16 + s.cfgB ≤ s.sec.cfgBody.length → s.pageBlocked (s.cfgA / 0x1000) = false →
    s.fillWords s.cfgA (s.sec.cfgBody.drop 16) (s.cfgB / 4) = (true, u) → exec .configFill s = .next (u.cfgNext (16 + roundUp 16 s.cfgB)).drain) ∧
  (∀ s, s.bootHold = false → s.pwr.inReset = none → ∃ t, exec .bootDone s = .next t ∧ t.pwr.ready = true)

/-- Fuses, the flash, attestation and measurement (R543, R544, R547, R552, R554, R558): a command joins those in progress or starts, and its
end does what it names and reports the result. -/
def Obligations.SecurityCommandsAct : Prop :=
  (∀ (a : Fin 16) (i : Instr) op s, (i, op) ∈ [(Instr.fuseProgramSlot a, 1), (.fuseRevokeSlot a, 2), (.svnCommit a, 3)] → ∃ t, exec i s = .next t ∧
    t.sec.fuseOps = s.sec.fuseOps ++ [{ op := op, arg := a.val, data := s.sec.fuseData }] ∧ t.fld F.SEC_FUSE_CMD_BUSY = 1) ∧
  (∀ s rest a d, s.sec.fuseOps = { op := 1, arg := a, data := d } :: rest → a < 4 → (s.keySlot a).programmed = false → (s.keySlot a).partly = false →
    ∃ t, exec (.fuseCmdDone false) s = .next t ∧ mget {} t.sec.slots a = { s.keySlot a with
      programmed := true,
      hash := d } ∧ t.sec.fuseOps = rest) ∧
  (∀ s rest a d, s.sec.fuseOps = { op := 2, arg := a, data := d } :: rest → a < 4 → ∃ t, exec (.fuseCmdDone false) s = .next t ∧
    mget {} t.sec.slots a = { s.keySlot a with revoked := true } ∧ t.sec.fuseOps = rest) ∧
  (∀ (i : Instr) op s, (i, op) ∈ [(Instr.flashRead, 1), (.flashProgram, 2), (.flashErase, 3), (.flashVerify, 4)] → s.flag F.SEC_FLASH_CMD_BUSY = false →
    ∃ t, exec i s = .next t ∧ t.sec.flashOp = some { op := op, addr := s.fld F.SEC_FLASH_ADDR_ADDR } ∧ t.fld F.SEC_FLASH_CMD_BUSY = 1) ∧
  (∀ s a, s.sec.flashOp = some { op := 3, addr := a } → a % 65536 = 0 → s.flashProtected a 65536 = false → ∀ u d, d = List.replicate 65536 0xFF#8 →
    u = s.flashPut a d → exec (.flashCmdDone false) s =
    .next (((u.setSec { u.sec with flashOp := none }).setFld F.SEC_FLASH_CMD_RESULT 0).setFld F.SEC_FLASH_CMD_BUSY 0)) ∧
  (∀ s, s.flag F.SEC_ATTEST_BUSY = false → ∃ t, exec .attest s = .next t ∧ t.sec.attestBody = s.reportBody ∧ t.sec.attestVoid = 0) ∧
  (∀ s, s.flag F.SEC_ATTEST_BUSY = true → ∃ t, exec .attestDone s = .next t ∧ t.sec.attestBody = [] ∧ t.fld F.SEC_ATTEST_DONE = 1) ∧
  (∀ s, s.flag F.SEC_EXTEND_BUSY = false → ∃ t, exec .extend s = .next t ∧ t.sec.extendRun = some s.sec.extendData ∧ t.fld F.SEC_EXTEND_BUSY = 1) ∧
  (∀ s d, s.sec.extendRun = some d → exec .extendDone s =
    .next (((s.setMeas 3 (sha256 (s.meas 3 ++ leBytes 32 (BitVec.toNat d)))).setSec { (s.setMeas 3 (sha256 (s.meas 3 ++ leBytes 32 (BitVec.toNat d)))).sec with
      extendRun := none }).setFld F.SEC_EXTEND_BUSY 0))

/-- Tallies and the test access port (R567, R569, R570, R599): a bank is latched with the fabric time or cleared, a due dump starts and its
end is recorded, the port is reset and the boundary register is updated. -/
def Obligations.TalliesAndTheTapAct : Prop :=
  (∀ b s, exec (.talSnap b) s = .next (s.talLatch (BitVec.toNat b))) ∧
  (∀ (s : State) b u, u = s.talLatch b → ∃ v : State, u = v.setFld F.TAL_SNAP_TIME_TIME s.ftime b ∧
    v.tal.snap = (List.range 256).foldl (fun m sl => mput 0#64 m (b * 256 + sl) (s.talLive b sl)) s.tal.snap) ∧
  (∀ (b : Byte) s, ∃ t, exec (.talClear b) s = .next t ∧ (∀ e ∈ t.tal.live, e.1 / 256 ≠ b.toNat) ∧ (∀ e ∈ s.tal.live, e.1 / 256 ≠ b.toNat → e ∈ t.tal.live)) ∧
  (∀ s, s.dumpDue = true → (s.dumpSkips = false → exec .tallyDump s = .next s.dumpStart) ∧
    (s.dumpSkips = true → exec .tallyDump s = .next (s.count F.TAL_CNT_SKIP_COUNT 0))) ∧
  (∀ s d u v, s.tal.dump = some d → d.dest = 0 → d.base + d.offset + d.record.length ≤ hbmBytes → u = { s with tal := { s.tal with dump := none } } →
    v = (u.memWrite (d.base + d.offset + 64) (d.record.drop 64)).memWrite (d.base + d.offset) (d.record.take 64) → exec .tallyDumpDone s =
      .next (({ v with tal := { v.tal with ringNext := roundUp 4096 (d.offset + d.record.length) } }).setFld F.TAL_LAST_OFF_OFFSET d.offset).drain) ∧
  (∀ s d, s.tal.dump = some d → d.dest ≠ 0 → (s.pier d.port).wait.any (fun t => decide (t.f.op = 0x31) && decide (t.f.target = d.seq)) = false →
    ∃ t, exec .tallyDumpDone s = .next t ∧ t.tal.dump = none) ∧
  (∀ s, ∃ t, exec .tapReset s = .next t ∧ t.tap = {} ∧ mfind t.rfa.req 1 = none ∧ ∀ r, r ≠ 1 → mfind t.rfa.req r = mfind s.rfa.req r) ∧
  (∀ v s, ∃ t, exec (.boundaryScanUpdate v) s = .next t ∧ t.tap.boundary = v ∧ t.tap.extest = s.extestDrives)

/-- Injections (R64, R101, R102, R144, R197, R228, R252, R266, R294, R320, R344, R373, R397, R424, R447–R449, R468, R493, R519): an
injection command arms its own bit and nothing else; a bit that is already armed stays as it is. -/
def Obligations.InjectionsAreArmed : Prop :=
  ∀ (t : Fin 32) (n : Fin 16) (l : Fin 256) (p : Fin 65) (g : Fin 128) (h : Fin 8) (m : Fin 4) (i : Instr) (f : Fld) (k : Nat), (i, f, k) ∈
      ([
        (.viaInjectTimeErr, F.VIA_INJECT_TIME_ERR, 0), (.rouInjectTblEcc, F.ROU_INJECT_TBL_ECC, 0),
        (.treInjectTblEcc, F.TRE_INJECT_TBL_ECC, 0), (.engInjectStateEcc t, F.ENG_INJECT_STATE_ECC, t.val),
        (.engInjectDrainStall t, F.ENG_INJECT_DRAIN_STALL, t.val), (.lckInjectEntryEcc, F.LCK_INJECT_ENTRY_ECC, 0),
        (.matInjectStateEcc n, F.MAT_INJECT_STATE_ECC, n.val), (.relInjectRespEcc n, F.REL_INJECT_RESP_ECC, n.val),
        (.relInjectDropAck n, F.REL_INJECT_DROP_ACK, n.val), (.relInjectDropRx n, F.REL_INJECT_DROP_RX, n.val),
        (.homInjectSfEcc h, F.HOM_INJECT_SF_ECC, h.val), (.hbmInjectCorr m, F.HBM_INJECT_CORR, m.val),
        (.hbmInjectUncorr m, F.HBM_INJECT_UNCORR, m.val), (.kstInjectLogEcc, F.KST_INJECT_LOG_ECC, 0),
        (.spnInjectDropAck p, F.SPN_INJECT_DROP_ACK, p.val), (.spnInjectDropRx p, F.SPN_INJECT_DROP_RX, p.val),
        (.spnInjectDropTx p, F.SPN_INJECT_DROP_TX, p.val), (.lnkInjectBadFlit l, F.LNK_INJECT_BAD_FLIT, l.val),
        (.lnkInjectSymbol l, F.LNK_INJECT_SYMBOL, l.val), (.xltInjectTcacheEcc t, F.XLT_INJECT_TCACHE_ECC, t.val),
        (.xltInjectWalkErr t, F.XLT_INJECT_WALK_ERR, t.val), (.fwdInjectBufEcc t, F.FWD_INJECT_BUF_ECC, t.val),
        (.fwdInjectHchk t, F.FWD_INJECT_HCHK, t.val), (.ctgInjectFetchErr g, F.CTG_INJECT_FETCH_ERR, g.val),
        (.ctgInjectMalformed g, F.CTG_INJECT_MALFORMED, g.val), (.schInjectQstateEcc n, F.SCH_INJECT_QSTATE_ECC, n.val),
        (.plcInjectSteerEcc, F.PLC_INJECT_STEER_ECC, 0), (.hptInjectFecSymbol p, F.HPT_INJECT_FEC_SYMBOL, p.val),
        (.hptInjectFcs p, F.HPT_INJECT_FCS, p.val), (.abcInjectFillEcc n, F.ABC_INJECT_FILL_ECC, n.val),
        (.abcInjectBeadEcc n, F.ABC_INJECT_BEAD_ECC, n.val), (.abcInjectResidue n, F.ABC_INJECT_RESIDUE, n.val),
        (.treCollInjectDropUp, F.TRE_COLL_INJECT_DROP_UP, 0), (.fwdInjectE2e t, F.FWD_INJECT_E2E, t.val)
      ] : List (Instr × Fld × Nat)) →
    ∀ s, ∃ u, exec i s = .next u ∧ u.armed f k = true ∧ u = { s with regs := { s.regs with inj := u.regs.inj } } ∧
      (∀ (f' : Fld) (k' : Nat), f'.lo < 32 → f'.addr k' 0 ≠ f.addr k 0 ∨ f'.lo ≠ f.lo → u.armed f' k' = s.armed f' k')

/-- A step takes the command at the front of the queue and runs it with the queue's rest. -/
def Obligations.AStepRunsTheFrontCommand : Prop :=
  (∀ c rest s, s.pending = c :: rest → step s = exec c { s with pending := rest }) ∧
  (∀ c s, step { s with pending := c :: s.pending } = exec c s)

/-- The model's choice (log 9): with no command waiting, a step is a nanosecond of the device's time, which answers a next state and leaves
the queue, the fuses and the flash as they are; where no checker, hart or awake cluster counts, nothing moves but local and fabric time. -/
def Obligations.WithNoCommandTimePasses : Prop :=
  (∀ s, s.pending = [] → step s = .next s.idleTick ∧ s.idleTick.pending = [] ∧ s.idleTick.sec.slots = s.sec.slots ∧
    s.idleTick.sec.svnMin = s.sec.svnMin ∧ s.idleTick.sec.flash = s.sec.flash) ∧
  (∀ s : State, s.prbs = [] → s.eng.hart = [] → (∀ c, c < 32 → s.awake (Dom.cluster c) = false) → slewStep s.via.servo.slew = 0 →
    s.idleTick = { s with
      clk := s.clk + 1,
      time := {
        now := BitVec.ofNat 64 (s.time.now.toNat + ((2 ^ 32 + s.rateNow + s.time.frac) / 2 ^ 32).toNat),
        frac := ((2 ^ 32 + s.rateNow + s.time.frac) % 2 ^ 32).toNat } })

/-- No command and no step ends in a fault or a refusal: each answers a next state, and a command leaves what waits behind it in the queue. -/
def Obligations.EveryCommandAnswersANextState : Prop :=
  (∀ c s, ∃ t, exec c s = .next t ∧ t.pending = s.pending) ∧ (∀ s, Sys2Proof.Safety.Goes s) ∧ (∀ n s, Sys2Proof.Safety.GoesFor n s)

/-- Only the end of a fuse command changes a fuse, and only the end of a flash command a byte of the flash (R543, R544, R552, R554). -/
def Obligations.OnlyTheirCommandsChangeFusesAndFlash : Prop :=
  (∀ c s t, exec c s = .next t → (∀ b, c ≠ .fuseCmdDone b) → t.sec.slots = s.sec.slots ∧ t.sec.svnMin = s.sec.svnMin) ∧
  (∀ c s t, exec c s = .next t → (∀ b, c ≠ .flashCmdDone b) → t.sec.flash = s.sec.flash)

/-- No step undoes a fuse (R543, R544): from any state, a programmed key slot stays programmed with the same hash, a revoked one stays
revoked, and no type's minimum security version falls. -/
def Obligations.NoStepUndoesAFuse : Prop :=
  ∀ s t, step s = .next t →
    (∀ i, (mget {} s.sec.slots i).programmed = true →
      (mget {} t.sec.slots i).programmed = true ∧ (mget {} t.sec.slots i).hash = (mget {} s.sec.slots i).hash) ∧
    (∀ i, (mget {} s.sec.slots i).revoked = true → (mget {} t.sec.slots i).revoked = true) ∧
    (∀ i, mget 0 s.sec.svnMin i ≤ mget 0 t.sec.svnMin i)

/-- The stored form of the fuses and of the flash is canonical: keys rise, and no entry holds what an unlisted key reads as. -/
def Sys2Proof.StoreWf (s : State) : Prop :=
  mwf (fun _ => {}) s.sec.slots = true ∧ mwf (fun _ => 0) s.sec.svnMin = true ∧ mwf (fun _ => 0xFF#8) s.sec.flash = true

/-- Every step keeps the canonical form of the fuses and of the boot flash. -/
def Obligations.EveryStepKeepsTheCanonicalForm : Prop := ∀ s t, StoreWf s → step s = .next t → StoreWf t

/-- After reset the memories have their canonical form, and no command waits. -/
def Obligations.ResetHasTheCanonicalForm : Prop :=
  StoreWf State.reset ∧ Memory.wf State.reset.eng.mem = true ∧ State.reset.pending = []

/-- HBM and the boot flash: a byte that is written reads as written, every other byte as before, and a write keeps the canonical form. -/
def Obligations.MemoriesReadAsWritten : Prop :=
  (∀ (s : State) a (d : List Byte) k, mget 0#8 (s.hbmPut a d).eng.mem k = if a ≤ k ∧ k < a + d.length then d.getD (k - a) 0#8 else mget 0#8 s.eng.mem k) ∧
  (∀ (s : State) a (d : List Byte) k, mget 0xFF#8 (s.flashPut a d).sec.flash k =
    if a ≤ k ∧ k < a + d.length then d.getD (k - a) 0#8 else mget 0xFF#8 s.sec.flash k) ∧
  (∀ (s : State) a (d : List Byte), Memory.wf s.eng.mem = true → Memory.wf (s.hbmPut a d).eng.mem = true) ∧
  (∀ (s : State) a (d : List Byte), mwf (fun _ => 0xFF#8) s.sec.flash = true → mwf (fun _ => 0xFF#8) (s.flashPut a d).sec.flash = true)

/-- A register field that is written reads as what was written, cut to its width; a field of another word, and a field beside it in the
same word, reads as before (R8, R582). -/
def Obligations.FieldsReadAsWritten : Prop :=
  (∀ (s : State) (f : Fld) v n i, f.lo + f.w ≤ 32 → (s.setFld f v n i).fld f n i = v % 2 ^ f.w) ∧
  (∀ (s : State) (f g : Fld) v n i m j, f.w ≤ 32 → g.w ≤ 32 → g.addr m j ≠ f.addr n i ∨ f.lo + f.w ≤ g.lo ∨ g.lo + g.w ≤ f.lo →
    (s.setFld f v n i).fld g m j = s.fld g m j)

/-- Among the requests present the arbiter grants one of the highest level, and among equal levels the requestor that follows the last one
granted at that level in ascending order, cyclically (R487). -/
def Obligations.TheArbiterGrantsTheHighestInTurn : Prop :=
  ∀ (s : State) (rs : List (Nat × RegReq)) r q, rs.Pairwise (fun a b => a.1 < b.1) → s.rfaWinner rs = some (r, q) →
    (r, q) ∈ rs ∧ (∀ e ∈ rs, s.rfaPrio e.1 ≤ s.rfaPrio r) ∧
    (∀ e ∈ rs, s.rfaPrio e.1 = s.rfaPrio r → e.1 ≠ r → match mfind s.rfa.lastAt (s.rfaPrio r) with
      | none => r < e.1
      | some l => (l < r ∧ (e.1 ≤ l ∨ r < e.1)) ∨ (r ≤ l ∧ r < e.1 ∧ e.1 ≤ l))

/-- R327: a message fits a posted receive when its communicator is the receive's, its source is the receive's or the receive takes any, and
the tag bits that the receive does not ignore are equal; a receive that ignores every tag bit fits every tag. -/
def Obligations.AMessageFitsByTheMatchRule : Prop :=
  (∀ (p : Post) (m : Msg), p.fits m = true ↔ m.comm = p.comm ∧ (p.anySrc = true ∨ m.src = p.src) ∧
    ∀ i, p.ignore.testBit i = false → (m.tag ^^^ p.tag).testBit i = false) ∧
  (∀ (p : Post) (m : Msg) (t : W64), p.ignore = 2 ^ 64 - 1 → p.tag < 2 ^ 64 → m.comm = p.comm → p.anySrc = true ∨ m.src = p.src →
    p.fits { m with tag := t.toNat } = true)

/-- R379 and Table 1: a page-table entry is malformed when W is set and R is clear, when a bit that its kind reserves is set, when it is a
non-leaf at level 0, or when it is a leaf above level 0 whose PPN's low 9 × level bits are not 0. -/
def Obligations.MalformedEntries : Prop :=
  ∀ (p : W64) (level : Nat), pteMalformed p level = true ↔
    (p.getLsbD 2 = true ∧ p.getLsbD 1 = false) ∨ p.extractLsb' 60 4 ≠ 0#4 ∨
    ((p.getLsbD 1 || p.getLsbD 2 || p.getLsbD 3) = false ∧
      (p.extractLsb' 54 6 ≠ 0#6 ∨ p.getLsbD 7 = true ∨ p.getLsbD 6 = true ∨ p.getLsbD 4 = true ∨ level = 0)) ∨
    ((p.getLsbD 1 || p.getLsbD 2 || p.getLsbD 3) = true ∧ 0 < level ∧ (p.extractLsb' 10 44).toNat % 2 ^ (9 * level) ≠ 0)

/-- R213: the sign of a sum whose V is 0, in a floating-point format: minus where ZNEG is set, plus where ZPOS is, and where neither is set
minus under rounding mode 3 and plus under every other. -/
def Obligations.TheSignOfAZeroSum : Prop :=
  ∀ (a : Acc) (f g : Fmt) (mode : Nat), g.isInt = false → a.v = 0 → a.nan = false → a.pinf = false → a.ninf = false →
    (a.zneg = true → (a.round f g mode).1 = 2 ^ (g.eb + g.mb)) ∧
    (a.zneg = false → a.zpos = true → (a.round f g mode).1 = 0) ∧
    (a.zneg = false → a.zpos = false → mode = 3 → (a.round f g mode).1 = 2 ^ (g.eb + g.mb)) ∧
    (a.zneg = false → a.zpos = false → mode ≠ 3 → (a.round f g mode).1 = 0)

/-- R119: a transmitter's LIMIT is replaced by a received CREDIT_LIMIT, unless the value is behind the held one, when it is ignored, or
would make more than 2^20 credits available, when the link goes down with reason 0x05. `m` is the message that the command takes. -/
def Obligations.CreditLimitsAreTakenUnlessBehindOrTooFar : Prop :=
  ∀ (l : Fin 256) s u m q pool v, s.takeByp l [0x01] = (some (m, q), u) → pool = bits m 49 7 → v = bits m 0 24 → pool ∈ u.pools l →
    6 ≤ (u.link l).step →
    (2 ^ 23 ≤ seqDist 24 v (mget 0 (u.link l).limit pool) → exec (.creditLimitReceive l) s = .next u) ∧
    (seqDist 24 v (mget 0 (u.link l).limit pool) < 2 ^ 23 → 2 ^ 20 < seqDist 24 v (mget 0 (u.link l).used pool) →
      exec (.creditLimitReceive l) s = .next ((u.raise l 0x05 (pool * 2 ^ 49 + v)).linkDown l 0x05)) ∧
    (seqDist 24 v (mget 0 (u.link l).limit pool) < 2 ^ 23 → seqDist 24 v (mget 0 (u.link l).used pool) ≤ 2 ^ 20 →
      (7 ≤ (u.link l).step → ∃ t, exec (.creditLimitReceive l) s = .next t ∧ mget 0 (t.link l).limit pool = v ∧
        (∀ p, p ≠ pool → mget 0 (t.link l).limit p = mget 0 (u.link l).limit p) ∧ ∀ k, k ≠ l.val → t.link k = u.link k) ∧
      ∃ w : State, mget 0 (w.link l).limit pool = v ∧ exec (.creditLimitReceive l) s = .next (w.linkActive l))

/-- What reset leaves in the header of every block page (R579, R580): the type and instance, the revision, ENABLE 0 on LNK, SRD, TIL, HPT
and SPN pages and 1 on every other, no kind pending or enabled, no commit counted. -/
def Obligations.ResetLeavesThePageHeaders : Prop :=
  ∀ p b n, blockOfPage p = some (b, n) →
    State.reset.rd (p * 0x1000) = BitVec.ofNat 32 (b.typeCode * 0x10000 + n) ∧ State.reset.rd (p * 0x1000 + 4) = 0x100#32 ∧
    (State.reset.rd (p * 0x1000 + 8)).getLsbD 0 = !decide (b ∈ [Blk.lnk, .srd, .til, .hpt, .spn]) ∧
    (∀ o ∈ [0x10, 0x14, 0x18, 0x24, 0x28, 0x2C], State.reset.rd (p * 0x1000 + o) = 0#32)

/-- A write of a register word acts by the access types of its bits (R582, R583): an RW bit takes the value written (a bit that reads 1
always stays 1), a W1C bit is cleared where 1 is written, an RWS bit's shadow takes the value and its active value stays, every other bit
stays, and so does every other word. -/
def Obligations.WritesActByAccessType : Prop :=
  ∀ (s : State) a (v : W32) w, regWordAt a = some w →
    (∀ i, i < 32 → w.rw.testBit i = true → ((s.plainWrite a v).rd a).getLsbD i = (v.getLsbD i || w.ones.testBit i)) ∧
    (∀ i, i < 32 → w.w1c.testBit i = true → ((s.plainWrite a v).rd a).getLsbD i = ((s.rd a).getLsbD i && !v.getLsbD i)) ∧
    (∀ i, i < 32 → w.rws.testBit i = true → ((s.plainWrite a v).rdShadow a).getLsbD i = v.getLsbD i) ∧
    (∀ i, i < 32 → w.rw.testBit i = false → w.w1c.testBit i = false → ((s.plainWrite a v).rd a).getLsbD i = (s.rd a).getLsbD i) ∧
    (∀ i, i < 32 → w.rws.testBit i = false → ((s.plainWrite a v).rdShadow a).getLsbD i = (s.rdShadow a).getLsbD i) ∧
    (∀ b, b ≠ a → (s.plainWrite a v).rd b = s.rd b ∧ (s.plainWrite a v).rdShadow b = s.rdShadow b)


/-- The number that an accumulator's input stands for, in units of 2^L of its format. -/
def Sys2Proof.inUnits (f : Fmt) (v : Val) : ℚ :=
  match v with
  | .fin neg m x => (if neg then -1 else 1) * (m : ℚ) * (2 : ℚ) ^ (x - f.lsb)
  | _ => 0

/-- The accumulator of a format to which values have been added, in the order in which they arrive. -/
def Sys2Proof.sumOf (f : Fmt) (vs : List Val) : Acc := vs.foldl (fun a v => a.addVal f.lsb v) (Acc.empty f.beads)

/-- The sum of the Abacus is exact (R202, R204, R205, R208): whatever finite values, infinities and NaNs of Table 1's formats an
accumulator can take are added, and in whatever order, V is the sum of the finite ones, RES is V's residue, ADDS counts them, and the
result that finalising rounds is the same for every order. -/
def Obligations.SumsAreExactInEveryOrder : Prop :=
  ∀ (c : Nat) (f : Fmt) (vs : List Val), fmtOf c = some f →
    (∀ v ∈ vs, valBad f v = false ∧ ∃ d g x, fmtOf d = some g ∧ x < 256 ^ g.bytes ∧ v = g.val x) →
    ((sumOf f vs).v : ℚ) = (vs.map (inUnits f)).sum ∧ (sumOf f vs).res = resOf (sumOf f vs).v ∧ (sumOf f vs).adds = vs.length ∧
    ∀ ws : List Val, ws.Perm vs → ∀ g mode, (sumOf f ws).round f g mode = (sumOf f vs).round f g mode
end

