-- ==== Sys2Proof/Laws/Maps.lean ====
section
/-!
SUPPORT. The laws of sparse maps: what a key reads as after an insertion, a removal or a write, and that each keeps the canonical form.
-/
namespace Sys2Proof.Machine

variable {α : Type}

/-! ## Reading after writing -/

theorem mfind_minsert_self (m : SMap α) (j : Nat) (x : α) : mfind (minsert m j x) j = some x := by
  induction m with
  | nil => simp [minsert, mfind]
  | cons e m ih =>
    obtain ⟨k, v⟩ := e
    simp only [minsert]
    split
    · simp [mfind]
    · split
      · simp [mfind]
      · simp [mfind, *]

theorem mfind_minsert_ne (m : SMap α) {i j : Nat} (x : α) (h : i ≠ j) : mfind (minsert m j x) i = mfind m i := by
  induction m with
  | nil => simp [minsert, mfind, h]
  | cons e m ih =>
    obtain ⟨k, v⟩ := e
    simp only [minsert]
    split
    · subst_vars; simp [mfind, h]
    · split
      · simp only [mfind, if_neg h]
      · simp only [mfind, ih]

theorem mfind_merase_self (m : SMap α) (j : Nat) : mfind (merase m j) j = none := by
  induction m with
  | nil => rfl
  | cons e m ih =>
    obtain ⟨k, v⟩ := e
    simp only [merase]
    split
    · exact ih
    · rename_i h
      simp only [mfind, if_neg h, ih]

theorem mfind_merase_ne (m : SMap α) {i j : Nat} (h : i ≠ j) : mfind (merase m j) i = mfind m i := by
  induction m with
  | nil => rfl
  | cons e m ih =>
    obtain ⟨k, v⟩ := e
    simp only [merase]
    split
    · subst_vars; simp only [mfind, if_neg h, ih]
    · simp only [mfind, ih]

theorem mget_minsert_self (d : α) (m : SMap α) (j : Nat) (x : α) : mget d (minsert m j x) j = x := by
  simp [mget, mfind_minsert_self]

theorem mget_minsert_ne (d : α) (m : SMap α) {i j : Nat} (x : α) (h : i ≠ j) : mget d (minsert m j x) i = mget d m i := by
  simp [mget, mfind_minsert_ne m x h]

variable [DecidableEq α]

/-- A key that is written reads as what was written, whatever the map. -/
theorem mget_mput_self (d : α) (m : SMap α) (j : Nat) (x : α) : mget d (mput d m j x) j = x := by
  unfold mput
  split
  · subst_vars; simp [mget, mfind_merase_self]
  · exact mget_minsert_self ..

/-- Every other key reads as before, whatever the map. -/
theorem mget_mput_ne (d d' : α) (m : SMap α) {i j : Nat} (x : α) (h : i ≠ j) : mget d' (mput d m j x) i = mget d' m i := by
  unfold mput
  split
  · simp only [mget, mfind_merase_ne m h]
  · exact mget_minsert_ne _ _ _ h

/-! ## The canonical form -/

theorem mwfFrom_mono (d : Nat → α) {lo lo' : Nat} {m : SMap α} (hl : lo' ≤ lo) (h : mwfFrom d lo m = true) : mwfFrom d lo' m = true := by
  cases m with
  | nil => rfl
  | cons e m =>
    obtain ⟨k, v⟩ := e
    simp only [mwfFrom, Bool.and_eq_true, decide_eq_true_eq] at h ⊢
    exact ⟨⟨by omega, h.1.2⟩, h.2⟩

theorem minsert_wfFrom (d : Nat → α) (m : SMap α) (lo j : Nat) (x : α) (h : mwfFrom d lo m = true) (hj : lo ≤ j) (hx : x ≠ d j) :
    mwfFrom d lo (minsert m j x) = true := by
  induction m generalizing lo with
  | nil => simp [minsert, mwfFrom, hj, hx]
  | cons e m ih =>
    obtain ⟨k, v⟩ := e
    simp only [mwfFrom, Bool.and_eq_true, decide_eq_true_eq] at h
    simp only [minsert]
    split
    · subst_vars; simp [mwfFrom, hj, hx, h.2]
    · split
      · simp only [mwfFrom, Bool.and_eq_true, decide_eq_true_eq]
        exact ⟨⟨hj, hx⟩, ⟨by omega, h.1.2⟩, h.2⟩
      · simp only [mwfFrom, Bool.and_eq_true, decide_eq_true_eq]
        exact ⟨h.1, ih _ h.2 (by omega)⟩

theorem merase_wfFrom (d : Nat → α) (m : SMap α) (lo j : Nat) (h : mwfFrom d lo m = true) : mwfFrom d lo (merase m j) = true := by
  induction m generalizing lo with
  | nil => rfl
  | cons e m ih =>
    obtain ⟨k, v⟩ := e
    simp only [mwfFrom, Bool.and_eq_true, decide_eq_true_eq] at h
    simp only [merase]
    split
    · exact ih _ (mwfFrom_mono d (by omega) h.2)
    · simp only [mwfFrom, Bool.and_eq_true, decide_eq_true_eq]
      exact ⟨h.1, ih _ h.2⟩

/-- A write keeps the canonical form. -/
theorem mput_wf (d : Nat → α) (m : SMap α) (j : Nat) (x : α) (h : mwf d m = true) : mwf d (mput (d j) m j x) = true := by
  unfold mput
  split
  · exact merase_wfFrom d m 0 j h
  · rename_i hx
    exact minsert_wfFrom d m 0 j x h (by omega) hx

end Sys2Proof.Machine
end

