-- ==== Sys2Proof/Laws/Regs.lean ====
section
/-!
SUPPORT. The laws of registers: what a word and a field read as after a write.
-/
namespace Sys2Proof.Machine

theorem bits_lt {n : Nat} (x : BitVec n) (lo w : Nat) : bits x lo w < 2 ^ w := Nat.mod_lt _ (Nat.two_pow_pos w)

/-- A field that is written reads as what was written, cut to its width. -/
theorem bits_setBits_self {n : Nat} (x : BitVec n) {lo w : Nat} (v : Nat) (h : lo + w ≤ n) : bits (setBits x lo w v) lo w = v % 2 ^ w := by
  apply Nat.eq_of_testBit_eq
  intro i
  unfold bits setBits
  simp only [Nat.testBit_mod_two_pow, Nat.testBit_shiftRight, BitVec.testBit_toNat, BitVec.getLsbD_or, BitVec.getLsbD_and, BitVec.getLsbD_not,
    BitVec.getLsbD_ofNat, Nat.testBit_shiftLeft, Nat.testBit_two_pow_sub_one]
  by_cases hi : i < w
  · have h1 : lo + i < n := by omega
    have h2 : lo + i ≥ lo := by omega
    simp [hi, h1]
  · simp [hi]

/-- A field apart from the one written reads as before. -/
theorem bits_setBits_ne {n : Nat} (x : BitVec n) {lo w lo' w' : Nat} (v : Nat) (h : lo + w ≤ lo' ∨ lo' + w' ≤ lo) :
    bits (setBits x lo w v) lo' w' = bits x lo' w' := by
  apply Nat.eq_of_testBit_eq
  intro i
  unfold bits setBits
  simp only [Nat.testBit_mod_two_pow, Nat.testBit_shiftRight, BitVec.testBit_toNat, BitVec.getLsbD_or, BitVec.getLsbD_and, BitVec.getLsbD_not,
    BitVec.getLsbD_ofNat, Nat.testBit_shiftLeft, Nat.testBit_two_pow_sub_one]
  by_cases hi : i < w'
  · by_cases h1 : lo' + i < n
    · have h3 : lo' + i ≥ lo → ¬ lo' + i - lo < w := by omega
      by_cases h4 : lo' + i ≥ lo
      · simp [hi, h1, h3 h4]
      · simp [hi, h1, h4]
    · simp [hi, h1, BitVec.getLsbD_of_ge x (lo' + i) (by omega)]
  · simp [hi]

/-- The word written reads as what was written. -/
theorem State.rd_wr_self (s : State) (a : Nat) (v : W32) : (s.wr a v).rd a = v := mget_mput_self ..

/-- Every other word reads as before. -/
theorem State.rd_wr_ne (s : State) {a b : Nat} (v : W32) (h : b ≠ a) : (s.wr a v).rd b = s.rd b := mget_mput_ne _ _ _ _ h

theorem State.rdShadow_wr (s : State) (a b : Nat) (v : W32) : (s.wr a v).rdShadow b = s.rdShadow b := rfl

theorem State.rdShadow_wrShadow_self (s : State) (a : Nat) (v : W32) : (s.wrShadow a v).rdShadow a = v := mget_mput_self ..

theorem State.rdShadow_wrShadow_ne (s : State) {a b : Nat} (v : W32) (h : b ≠ a) : (s.wrShadow a v).rdShadow b = s.rdShadow b :=
  mget_mput_ne _ _ _ _ h

theorem State.rd_wrShadow (s : State) (a b : Nat) (v : W32) : (s.wrShadow a v).rd b = s.rd b := rfl

/-- A field of at most 32 bits that is written reads as what was written, cut to its width. -/
theorem State.fld_setFld_self (s : State) (f : Fld) (v n i : Nat) (h : f.lo + f.w ≤ 32) : (s.setFld f v n i).fld f n i = v % 2 ^ f.w := by
  have hw : f.w ≤ 32 := by omega
  simp only [State.setFld, State.fld, if_pos hw, State.rd_wr_self, bits_setBits_self _ _ h]

/-- A field in another word than the one written reads as before. -/
theorem State.fld_setFld_ne (s : State) (f g : Fld) (v n i m j : Nat) (hf : f.w ≤ 32) (hg : g.w ≤ 32) (h : g.addr m j ≠ f.addr n i) :
    (s.setFld f v n i).fld g m j = s.fld g m j := by
  simp only [State.setFld, State.fld, if_pos hf, if_pos hg, State.rd_wr_ne _ _ h]

/-- A field in the same word beside the one written reads as before. -/
theorem State.fld_setFld_beside (s : State) (f g : Fld) (v n i m j : Nat) (hf : f.w ≤ 32) (hg : g.w ≤ 32) (h : g.addr m j = f.addr n i)
    (hb : f.lo + f.w ≤ g.lo ∨ g.lo + g.w ≤ f.lo) : (s.setFld f v n i).fld g m j = s.fld g m j := by
  simp only [State.setFld, State.fld, if_pos hf, if_pos hg, h, State.rd_wr_self, bits_setBits_ne _ _ hb]

/-- A write of a field of at most 32 bits is a write of its word. -/
theorem State.setFld_word (s : State) (f : Fld) (v n i : Nat) (h : f.w ≤ 32) :
    s.setFld f v n i = s.wr (f.addr n i) (setBits (s.rd (f.addr n i)) f.lo f.w v) := by
  simp only [State.setFld, if_pos h]

/-- An injection that is armed is armed, and one that is used up is not. -/
theorem State.armed_setArmed_self (s : State) (f : Fld) (n : Nat) (on : Bool) (h : f.lo < 32) : (s.setArmed f n on).armed f n = on := by
  have hb := bits_setBits_self (mget 0#32 s.regs.inj (f.addr n 0)) (lo := f.lo) (w := 1) (if on then 1 else 0) (by omega)
  simp only [State.armed, State.setArmed, mget_mput_self]
  generalize setBits (mget 0#32 s.regs.inj (f.addr n 0)) f.lo 1 (if on then 1 else 0) = x at hb ⊢
  simp only [bits, bitAt, Nat.pow_one] at hb ⊢
  rw [← BitVec.testBit_toNat, Nat.testBit_eq_decide_div_mod_eq, ← Nat.shiftRight_eq_div_pow, hb]
  cases on <;> rfl

end Sys2Proof.Machine
end

