-- ==== Sys2Proof/Laws/State.lean ====
section
/-!
SUPPORT. What each field of the state is after each plain update of it.
-/
namespace Sys2Proof.Machine

/-! ### setEng -/

@[simp] theorem State.setEng_pending (s : State) (x : Eng) : (s.setEng x).pending = s.pending := rfl
@[simp] theorem State.setEng_out (s : State) (x : Eng) : (s.setEng x).out = s.out := rfl
@[simp] theorem State.setEng_clk (s : State) (x : Eng) : (s.setEng x).clk = s.clk := rfl
@[simp] theorem State.setEng_free (s : State) (x : Eng) : (s.setEng x).free = s.free := rfl
@[simp] theorem State.setEng_time (s : State) (x : Eng) : (s.setEng x).time = s.time := rfl
@[simp] theorem State.setEng_regs (s : State) (x : Eng) : (s.setEng x).regs = s.regs := rfl
@[simp] theorem State.setEng_kst (s : State) (x : Eng) : (s.setEng x).kst = s.kst := rfl
@[simp] theorem State.setEng_pwr (s : State) (x : Eng) : (s.setEng x).pwr = s.pwr := rfl
@[simp] theorem State.setEng_sec (s : State) (x : Eng) : (s.setEng x).sec = s.sec := rfl
@[simp] theorem State.setEng_rfa (s : State) (x : Eng) : (s.setEng x).rfa = s.rfa := rfl
@[simp] theorem State.setEng_tap (s : State) (x : Eng) : (s.setEng x).tap = s.tap := rfl
@[simp] theorem State.setEng_tal (s : State) (x : Eng) : (s.setEng x).tal = s.tal := rfl
@[simp] theorem State.setEng_lnk (s : State) (x : Eng) : (s.setEng x).lnk = s.lnk := rfl
@[simp] theorem State.setEng_srd (s : State) (x : Eng) : (s.setEng x).srd = s.srd := rfl
@[simp] theorem State.setEng_prbs (s : State) (x : Eng) : (s.setEng x).prbs = s.prbs := rfl
@[simp] theorem State.setEng_til (s : State) (x : Eng) : (s.setEng x).til = s.til := rfl
@[simp] theorem State.setEng_hpt (s : State) (x : Eng) : (s.setEng x).hpt = s.hpt := rfl
@[simp] theorem State.setEng_spn (s : State) (x : Eng) : (s.setEng x).spn = s.spn := rfl
@[simp] theorem State.setEng_ended (s : State) (x : Eng) : (s.setEng x).ended = s.ended := rfl
@[simp] theorem State.setEng_fwd (s : State) (x : Eng) : (s.setEng x).fwd = s.fwd := rfl
@[simp] theorem State.setEng_rou (s : State) (x : Eng) : (s.setEng x).rou = s.rou := rfl
@[simp] theorem State.setEng_sch (s : State) (x : Eng) : (s.setEng x).sch = s.sch := rfl
@[simp] theorem State.setEng_via (s : State) (x : Eng) : (s.setEng x).via = s.via := rfl
@[simp] theorem State.setEng_eng (s : State) (x : Eng) : (s.setEng x).eng = x := rfl
@[simp] theorem State.setEng_ep (s : State) (x : Eng) : (s.setEng x).ep = s.ep := rfl
@[simp] theorem State.setEng_coll (s : State) (x : Eng) : (s.setEng x).coll = s.coll := rfl
@[simp] theorem State.setEng_evt (s : State) (x : Eng) : (s.setEng x).evt = s.evt := rfl

/-! ### setEp -/

@[simp] theorem State.setEp_pending (s : State) (x : Ep) : (s.setEp x).pending = s.pending := rfl
@[simp] theorem State.setEp_out (s : State) (x : Ep) : (s.setEp x).out = s.out := rfl
@[simp] theorem State.setEp_clk (s : State) (x : Ep) : (s.setEp x).clk = s.clk := rfl
@[simp] theorem State.setEp_free (s : State) (x : Ep) : (s.setEp x).free = s.free := rfl
@[simp] theorem State.setEp_time (s : State) (x : Ep) : (s.setEp x).time = s.time := rfl
@[simp] theorem State.setEp_regs (s : State) (x : Ep) : (s.setEp x).regs = s.regs := rfl
@[simp] theorem State.setEp_kst (s : State) (x : Ep) : (s.setEp x).kst = s.kst := rfl
@[simp] theorem State.setEp_pwr (s : State) (x : Ep) : (s.setEp x).pwr = s.pwr := rfl
@[simp] theorem State.setEp_sec (s : State) (x : Ep) : (s.setEp x).sec = s.sec := rfl
@[simp] theorem State.setEp_rfa (s : State) (x : Ep) : (s.setEp x).rfa = s.rfa := rfl
@[simp] theorem State.setEp_tap (s : State) (x : Ep) : (s.setEp x).tap = s.tap := rfl
@[simp] theorem State.setEp_tal (s : State) (x : Ep) : (s.setEp x).tal = s.tal := rfl
@[simp] theorem State.setEp_lnk (s : State) (x : Ep) : (s.setEp x).lnk = s.lnk := rfl
@[simp] theorem State.setEp_srd (s : State) (x : Ep) : (s.setEp x).srd = s.srd := rfl
@[simp] theorem State.setEp_prbs (s : State) (x : Ep) : (s.setEp x).prbs = s.prbs := rfl
@[simp] theorem State.setEp_til (s : State) (x : Ep) : (s.setEp x).til = s.til := rfl
@[simp] theorem State.setEp_hpt (s : State) (x : Ep) : (s.setEp x).hpt = s.hpt := rfl
@[simp] theorem State.setEp_spn (s : State) (x : Ep) : (s.setEp x).spn = s.spn := rfl
@[simp] theorem State.setEp_ended (s : State) (x : Ep) : (s.setEp x).ended = s.ended := rfl
@[simp] theorem State.setEp_fwd (s : State) (x : Ep) : (s.setEp x).fwd = s.fwd := rfl
@[simp] theorem State.setEp_rou (s : State) (x : Ep) : (s.setEp x).rou = s.rou := rfl
@[simp] theorem State.setEp_sch (s : State) (x : Ep) : (s.setEp x).sch = s.sch := rfl
@[simp] theorem State.setEp_via (s : State) (x : Ep) : (s.setEp x).via = s.via := rfl
@[simp] theorem State.setEp_eng (s : State) (x : Ep) : (s.setEp x).eng = s.eng := rfl
@[simp] theorem State.setEp_ep (s : State) (x : Ep) : (s.setEp x).ep = x := rfl
@[simp] theorem State.setEp_coll (s : State) (x : Ep) : (s.setEp x).coll = s.coll := rfl
@[simp] theorem State.setEp_evt (s : State) (x : Ep) : (s.setEp x).evt = s.evt := rfl

/-! ### setSec -/

@[simp] theorem State.setSec_pending (s : State) (x : Sec) : (s.setSec x).pending = s.pending := rfl
@[simp] theorem State.setSec_out (s : State) (x : Sec) : (s.setSec x).out = s.out := rfl
@[simp] theorem State.setSec_clk (s : State) (x : Sec) : (s.setSec x).clk = s.clk := rfl
@[simp] theorem State.setSec_free (s : State) (x : Sec) : (s.setSec x).free = s.free := rfl
@[simp] theorem State.setSec_time (s : State) (x : Sec) : (s.setSec x).time = s.time := rfl
@[simp] theorem State.setSec_regs (s : State) (x : Sec) : (s.setSec x).regs = s.regs := rfl
@[simp] theorem State.setSec_kst (s : State) (x : Sec) : (s.setSec x).kst = s.kst := rfl
@[simp] theorem State.setSec_pwr (s : State) (x : Sec) : (s.setSec x).pwr = s.pwr := rfl
@[simp] theorem State.setSec_sec (s : State) (x : Sec) : (s.setSec x).sec = x := rfl
@[simp] theorem State.setSec_rfa (s : State) (x : Sec) : (s.setSec x).rfa = s.rfa := rfl
@[simp] theorem State.setSec_tap (s : State) (x : Sec) : (s.setSec x).tap = s.tap := rfl
@[simp] theorem State.setSec_tal (s : State) (x : Sec) : (s.setSec x).tal = s.tal := rfl
@[simp] theorem State.setSec_lnk (s : State) (x : Sec) : (s.setSec x).lnk = s.lnk := rfl
@[simp] theorem State.setSec_srd (s : State) (x : Sec) : (s.setSec x).srd = s.srd := rfl
@[simp] theorem State.setSec_prbs (s : State) (x : Sec) : (s.setSec x).prbs = s.prbs := rfl
@[simp] theorem State.setSec_til (s : State) (x : Sec) : (s.setSec x).til = s.til := rfl
@[simp] theorem State.setSec_hpt (s : State) (x : Sec) : (s.setSec x).hpt = s.hpt := rfl
@[simp] theorem State.setSec_spn (s : State) (x : Sec) : (s.setSec x).spn = s.spn := rfl
@[simp] theorem State.setSec_ended (s : State) (x : Sec) : (s.setSec x).ended = s.ended := rfl
@[simp] theorem State.setSec_fwd (s : State) (x : Sec) : (s.setSec x).fwd = s.fwd := rfl
@[simp] theorem State.setSec_rou (s : State) (x : Sec) : (s.setSec x).rou = s.rou := rfl
@[simp] theorem State.setSec_sch (s : State) (x : Sec) : (s.setSec x).sch = s.sch := rfl
@[simp] theorem State.setSec_via (s : State) (x : Sec) : (s.setSec x).via = s.via := rfl
@[simp] theorem State.setSec_eng (s : State) (x : Sec) : (s.setSec x).eng = s.eng := rfl
@[simp] theorem State.setSec_ep (s : State) (x : Sec) : (s.setSec x).ep = s.ep := rfl
@[simp] theorem State.setSec_coll (s : State) (x : Sec) : (s.setSec x).coll = s.coll := rfl
@[simp] theorem State.setSec_evt (s : State) (x : Sec) : (s.setSec x).evt = s.evt := rfl

/-! ### setVia -/

@[simp] theorem State.setVia_pending (s : State) (x : Via) : (s.setVia x).pending = s.pending := rfl
@[simp] theorem State.setVia_out (s : State) (x : Via) : (s.setVia x).out = s.out := rfl
@[simp] theorem State.setVia_clk (s : State) (x : Via) : (s.setVia x).clk = s.clk := rfl
@[simp] theorem State.setVia_free (s : State) (x : Via) : (s.setVia x).free = s.free := rfl
@[simp] theorem State.setVia_time (s : State) (x : Via) : (s.setVia x).time = s.time := rfl
@[simp] theorem State.setVia_regs (s : State) (x : Via) : (s.setVia x).regs = s.regs := rfl
@[simp] theorem State.setVia_kst (s : State) (x : Via) : (s.setVia x).kst = s.kst := rfl
@[simp] theorem State.setVia_pwr (s : State) (x : Via) : (s.setVia x).pwr = s.pwr := rfl
@[simp] theorem State.setVia_sec (s : State) (x : Via) : (s.setVia x).sec = s.sec := rfl
@[simp] theorem State.setVia_rfa (s : State) (x : Via) : (s.setVia x).rfa = s.rfa := rfl
@[simp] theorem State.setVia_tap (s : State) (x : Via) : (s.setVia x).tap = s.tap := rfl
@[simp] theorem State.setVia_tal (s : State) (x : Via) : (s.setVia x).tal = s.tal := rfl
@[simp] theorem State.setVia_lnk (s : State) (x : Via) : (s.setVia x).lnk = s.lnk := rfl
@[simp] theorem State.setVia_srd (s : State) (x : Via) : (s.setVia x).srd = s.srd := rfl
@[simp] theorem State.setVia_prbs (s : State) (x : Via) : (s.setVia x).prbs = s.prbs := rfl
@[simp] theorem State.setVia_til (s : State) (x : Via) : (s.setVia x).til = s.til := rfl
@[simp] theorem State.setVia_hpt (s : State) (x : Via) : (s.setVia x).hpt = s.hpt := rfl
@[simp] theorem State.setVia_spn (s : State) (x : Via) : (s.setVia x).spn = s.spn := rfl
@[simp] theorem State.setVia_ended (s : State) (x : Via) : (s.setVia x).ended = s.ended := rfl
@[simp] theorem State.setVia_fwd (s : State) (x : Via) : (s.setVia x).fwd = s.fwd := rfl
@[simp] theorem State.setVia_rou (s : State) (x : Via) : (s.setVia x).rou = s.rou := rfl
@[simp] theorem State.setVia_sch (s : State) (x : Via) : (s.setVia x).sch = s.sch := rfl
@[simp] theorem State.setVia_via (s : State) (x : Via) : (s.setVia x).via = x := rfl
@[simp] theorem State.setVia_eng (s : State) (x : Via) : (s.setVia x).eng = s.eng := rfl
@[simp] theorem State.setVia_ep (s : State) (x : Via) : (s.setVia x).ep = s.ep := rfl
@[simp] theorem State.setVia_coll (s : State) (x : Via) : (s.setVia x).coll = s.coll := rfl
@[simp] theorem State.setVia_evt (s : State) (x : Via) : (s.setVia x).evt = s.evt := rfl

/-! ### wr -/

@[simp] theorem State.wr_pending (s : State) (a : Nat) (v : W32) : (s.wr a v).pending = s.pending := rfl
@[simp] theorem State.wr_out (s : State) (a : Nat) (v : W32) : (s.wr a v).out = s.out := rfl
@[simp] theorem State.wr_clk (s : State) (a : Nat) (v : W32) : (s.wr a v).clk = s.clk := rfl
@[simp] theorem State.wr_free (s : State) (a : Nat) (v : W32) : (s.wr a v).free = s.free := rfl
@[simp] theorem State.wr_time (s : State) (a : Nat) (v : W32) : (s.wr a v).time = s.time := rfl
@[simp] theorem State.wr_kst (s : State) (a : Nat) (v : W32) : (s.wr a v).kst = s.kst := rfl
@[simp] theorem State.wr_pwr (s : State) (a : Nat) (v : W32) : (s.wr a v).pwr = s.pwr := rfl
@[simp] theorem State.wr_sec (s : State) (a : Nat) (v : W32) : (s.wr a v).sec = s.sec := rfl
@[simp] theorem State.wr_rfa (s : State) (a : Nat) (v : W32) : (s.wr a v).rfa = s.rfa := rfl
@[simp] theorem State.wr_tap (s : State) (a : Nat) (v : W32) : (s.wr a v).tap = s.tap := rfl
@[simp] theorem State.wr_tal (s : State) (a : Nat) (v : W32) : (s.wr a v).tal = s.tal := rfl
@[simp] theorem State.wr_lnk (s : State) (a : Nat) (v : W32) : (s.wr a v).lnk = s.lnk := rfl
@[simp] theorem State.wr_srd (s : State) (a : Nat) (v : W32) : (s.wr a v).srd = s.srd := rfl
@[simp] theorem State.wr_prbs (s : State) (a : Nat) (v : W32) : (s.wr a v).prbs = s.prbs := rfl
@[simp] theorem State.wr_til (s : State) (a : Nat) (v : W32) : (s.wr a v).til = s.til := rfl
@[simp] theorem State.wr_hpt (s : State) (a : Nat) (v : W32) : (s.wr a v).hpt = s.hpt := rfl
@[simp] theorem State.wr_spn (s : State) (a : Nat) (v : W32) : (s.wr a v).spn = s.spn := rfl
@[simp] theorem State.wr_ended (s : State) (a : Nat) (v : W32) : (s.wr a v).ended = s.ended := rfl
@[simp] theorem State.wr_fwd (s : State) (a : Nat) (v : W32) : (s.wr a v).fwd = s.fwd := rfl
@[simp] theorem State.wr_rou (s : State) (a : Nat) (v : W32) : (s.wr a v).rou = s.rou := rfl
@[simp] theorem State.wr_sch (s : State) (a : Nat) (v : W32) : (s.wr a v).sch = s.sch := rfl
@[simp] theorem State.wr_via (s : State) (a : Nat) (v : W32) : (s.wr a v).via = s.via := rfl
@[simp] theorem State.wr_eng (s : State) (a : Nat) (v : W32) : (s.wr a v).eng = s.eng := rfl
@[simp] theorem State.wr_ep (s : State) (a : Nat) (v : W32) : (s.wr a v).ep = s.ep := rfl
@[simp] theorem State.wr_coll (s : State) (a : Nat) (v : W32) : (s.wr a v).coll = s.coll := rfl
@[simp] theorem State.wr_evt (s : State) (a : Nat) (v : W32) : (s.wr a v).evt = s.evt := rfl

/-! ### wrShadow -/

@[simp] theorem State.wrShadow_pending (s : State) (a : Nat) (v : W32) : (s.wrShadow a v).pending = s.pending := rfl
@[simp] theorem State.wrShadow_out (s : State) (a : Nat) (v : W32) : (s.wrShadow a v).out = s.out := rfl
@[simp] theorem State.wrShadow_clk (s : State) (a : Nat) (v : W32) : (s.wrShadow a v).clk = s.clk := rfl
@[simp] theorem State.wrShadow_free (s : State) (a : Nat) (v : W32) : (s.wrShadow a v).free = s.free := rfl
@[simp] theorem State.wrShadow_time (s : State) (a : Nat) (v : W32) : (s.wrShadow a v).time = s.time := rfl
@[simp] theorem State.wrShadow_kst (s : State) (a : Nat) (v : W32) : (s.wrShadow a v).kst = s.kst := rfl
@[simp] theorem State.wrShadow_pwr (s : State) (a : Nat) (v : W32) : (s.wrShadow a v).pwr = s.pwr := rfl
@[simp] theorem State.wrShadow_sec (s : State) (a : Nat) (v : W32) : (s.wrShadow a v).sec = s.sec := rfl
@[simp] theorem State.wrShadow_rfa (s : State) (a : Nat) (v : W32) : (s.wrShadow a v).rfa = s.rfa := rfl
@[simp] theorem State.wrShadow_tap (s : State) (a : Nat) (v : W32) : (s.wrShadow a v).tap = s.tap := rfl
@[simp] theorem State.wrShadow_tal (s : State) (a : Nat) (v : W32) : (s.wrShadow a v).tal = s.tal := rfl
@[simp] theorem State.wrShadow_lnk (s : State) (a : Nat) (v : W32) : (s.wrShadow a v).lnk = s.lnk := rfl
@[simp] theorem State.wrShadow_srd (s : State) (a : Nat) (v : W32) : (s.wrShadow a v).srd = s.srd := rfl
@[simp] theorem State.wrShadow_prbs (s : State) (a : Nat) (v : W32) : (s.wrShadow a v).prbs = s.prbs := rfl
@[simp] theorem State.wrShadow_til (s : State) (a : Nat) (v : W32) : (s.wrShadow a v).til = s.til := rfl
@[simp] theorem State.wrShadow_hpt (s : State) (a : Nat) (v : W32) : (s.wrShadow a v).hpt = s.hpt := rfl
@[simp] theorem State.wrShadow_spn (s : State) (a : Nat) (v : W32) : (s.wrShadow a v).spn = s.spn := rfl
@[simp] theorem State.wrShadow_ended (s : State) (a : Nat) (v : W32) : (s.wrShadow a v).ended = s.ended := rfl
@[simp] theorem State.wrShadow_fwd (s : State) (a : Nat) (v : W32) : (s.wrShadow a v).fwd = s.fwd := rfl
@[simp] theorem State.wrShadow_rou (s : State) (a : Nat) (v : W32) : (s.wrShadow a v).rou = s.rou := rfl
@[simp] theorem State.wrShadow_sch (s : State) (a : Nat) (v : W32) : (s.wrShadow a v).sch = s.sch := rfl
@[simp] theorem State.wrShadow_via (s : State) (a : Nat) (v : W32) : (s.wrShadow a v).via = s.via := rfl
@[simp] theorem State.wrShadow_eng (s : State) (a : Nat) (v : W32) : (s.wrShadow a v).eng = s.eng := rfl
@[simp] theorem State.wrShadow_ep (s : State) (a : Nat) (v : W32) : (s.wrShadow a v).ep = s.ep := rfl
@[simp] theorem State.wrShadow_coll (s : State) (a : Nat) (v : W32) : (s.wrShadow a v).coll = s.coll := rfl
@[simp] theorem State.wrShadow_evt (s : State) (a : Nat) (v : W32) : (s.wrShadow a v).evt = s.evt := rfl

/-! ### setArmed -/

@[simp] theorem State.setArmed_pending (s : State) (f : Fld) (n : Nat) (on : Bool) : (s.setArmed f n on).pending = s.pending := rfl
@[simp] theorem State.setArmed_out (s : State) (f : Fld) (n : Nat) (on : Bool) : (s.setArmed f n on).out = s.out := rfl
@[simp] theorem State.setArmed_clk (s : State) (f : Fld) (n : Nat) (on : Bool) : (s.setArmed f n on).clk = s.clk := rfl
@[simp] theorem State.setArmed_free (s : State) (f : Fld) (n : Nat) (on : Bool) : (s.setArmed f n on).free = s.free := rfl
@[simp] theorem State.setArmed_time (s : State) (f : Fld) (n : Nat) (on : Bool) : (s.setArmed f n on).time = s.time := rfl
@[simp] theorem State.setArmed_kst (s : State) (f : Fld) (n : Nat) (on : Bool) : (s.setArmed f n on).kst = s.kst := rfl
@[simp] theorem State.setArmed_pwr (s : State) (f : Fld) (n : Nat) (on : Bool) : (s.setArmed f n on).pwr = s.pwr := rfl
@[simp] theorem State.setArmed_sec (s : State) (f : Fld) (n : Nat) (on : Bool) : (s.setArmed f n on).sec = s.sec := rfl
@[simp] theorem State.setArmed_rfa (s : State) (f : Fld) (n : Nat) (on : Bool) : (s.setArmed f n on).rfa = s.rfa := rfl
@[simp] theorem State.setArmed_tap (s : State) (f : Fld) (n : Nat) (on : Bool) : (s.setArmed f n on).tap = s.tap := rfl
@[simp] theorem State.setArmed_tal (s : State) (f : Fld) (n : Nat) (on : Bool) : (s.setArmed f n on).tal = s.tal := rfl
@[simp] theorem State.setArmed_lnk (s : State) (f : Fld) (n : Nat) (on : Bool) : (s.setArmed f n on).lnk = s.lnk := rfl
@[simp] theorem State.setArmed_srd (s : State) (f : Fld) (n : Nat) (on : Bool) : (s.setArmed f n on).srd = s.srd := rfl
@[simp] theorem State.setArmed_prbs (s : State) (f : Fld) (n : Nat) (on : Bool) : (s.setArmed f n on).prbs = s.prbs := rfl
@[simp] theorem State.setArmed_til (s : State) (f : Fld) (n : Nat) (on : Bool) : (s.setArmed f n on).til = s.til := rfl
@[simp] theorem State.setArmed_hpt (s : State) (f : Fld) (n : Nat) (on : Bool) : (s.setArmed f n on).hpt = s.hpt := rfl
@[simp] theorem State.setArmed_spn (s : State) (f : Fld) (n : Nat) (on : Bool) : (s.setArmed f n on).spn = s.spn := rfl
@[simp] theorem State.setArmed_ended (s : State) (f : Fld) (n : Nat) (on : Bool) : (s.setArmed f n on).ended = s.ended := rfl
@[simp] theorem State.setArmed_fwd (s : State) (f : Fld) (n : Nat) (on : Bool) : (s.setArmed f n on).fwd = s.fwd := rfl
@[simp] theorem State.setArmed_rou (s : State) (f : Fld) (n : Nat) (on : Bool) : (s.setArmed f n on).rou = s.rou := rfl
@[simp] theorem State.setArmed_sch (s : State) (f : Fld) (n : Nat) (on : Bool) : (s.setArmed f n on).sch = s.sch := rfl
@[simp] theorem State.setArmed_via (s : State) (f : Fld) (n : Nat) (on : Bool) : (s.setArmed f n on).via = s.via := rfl
@[simp] theorem State.setArmed_eng (s : State) (f : Fld) (n : Nat) (on : Bool) : (s.setArmed f n on).eng = s.eng := rfl
@[simp] theorem State.setArmed_ep (s : State) (f : Fld) (n : Nat) (on : Bool) : (s.setArmed f n on).ep = s.ep := rfl
@[simp] theorem State.setArmed_coll (s : State) (f : Fld) (n : Nat) (on : Bool) : (s.setArmed f n on).coll = s.coll := rfl
@[simp] theorem State.setArmed_evt (s : State) (f : Fld) (n : Nat) (on : Bool) : (s.setArmed f n on).evt = s.evt := rfl

/-! ### setLink -/

@[simp] theorem State.setLink_pending (s : State) (l : Nat) (x : Link) : (s.setLink l x).pending = s.pending := rfl
@[simp] theorem State.setLink_out (s : State) (l : Nat) (x : Link) : (s.setLink l x).out = s.out := rfl
@[simp] theorem State.setLink_clk (s : State) (l : Nat) (x : Link) : (s.setLink l x).clk = s.clk := rfl
@[simp] theorem State.setLink_free (s : State) (l : Nat) (x : Link) : (s.setLink l x).free = s.free := rfl
@[simp] theorem State.setLink_time (s : State) (l : Nat) (x : Link) : (s.setLink l x).time = s.time := rfl
@[simp] theorem State.setLink_regs (s : State) (l : Nat) (x : Link) : (s.setLink l x).regs = s.regs := rfl
@[simp] theorem State.setLink_kst (s : State) (l : Nat) (x : Link) : (s.setLink l x).kst = s.kst := rfl
@[simp] theorem State.setLink_pwr (s : State) (l : Nat) (x : Link) : (s.setLink l x).pwr = s.pwr := rfl
@[simp] theorem State.setLink_sec (s : State) (l : Nat) (x : Link) : (s.setLink l x).sec = s.sec := rfl
@[simp] theorem State.setLink_rfa (s : State) (l : Nat) (x : Link) : (s.setLink l x).rfa = s.rfa := rfl
@[simp] theorem State.setLink_tap (s : State) (l : Nat) (x : Link) : (s.setLink l x).tap = s.tap := rfl
@[simp] theorem State.setLink_tal (s : State) (l : Nat) (x : Link) : (s.setLink l x).tal = s.tal := rfl
@[simp] theorem State.setLink_srd (s : State) (l : Nat) (x : Link) : (s.setLink l x).srd = s.srd := rfl
@[simp] theorem State.setLink_prbs (s : State) (l : Nat) (x : Link) : (s.setLink l x).prbs = s.prbs := rfl
@[simp] theorem State.setLink_til (s : State) (l : Nat) (x : Link) : (s.setLink l x).til = s.til := rfl
@[simp] theorem State.setLink_hpt (s : State) (l : Nat) (x : Link) : (s.setLink l x).hpt = s.hpt := rfl
@[simp] theorem State.setLink_spn (s : State) (l : Nat) (x : Link) : (s.setLink l x).spn = s.spn := rfl
@[simp] theorem State.setLink_ended (s : State) (l : Nat) (x : Link) : (s.setLink l x).ended = s.ended := rfl
@[simp] theorem State.setLink_fwd (s : State) (l : Nat) (x : Link) : (s.setLink l x).fwd = s.fwd := rfl
@[simp] theorem State.setLink_rou (s : State) (l : Nat) (x : Link) : (s.setLink l x).rou = s.rou := rfl
@[simp] theorem State.setLink_sch (s : State) (l : Nat) (x : Link) : (s.setLink l x).sch = s.sch := rfl
@[simp] theorem State.setLink_via (s : State) (l : Nat) (x : Link) : (s.setLink l x).via = s.via := rfl
@[simp] theorem State.setLink_eng (s : State) (l : Nat) (x : Link) : (s.setLink l x).eng = s.eng := rfl
@[simp] theorem State.setLink_ep (s : State) (l : Nat) (x : Link) : (s.setLink l x).ep = s.ep := rfl
@[simp] theorem State.setLink_coll (s : State) (l : Nat) (x : Link) : (s.setLink l x).coll = s.coll := rfl
@[simp] theorem State.setLink_evt (s : State) (l : Nat) (x : Link) : (s.setLink l x).evt = s.evt := rfl

/-! ### setLaneSt -/

@[simp] theorem State.setLaneSt_pending (s : State) (l : Nat) (x : Lane) : (s.setLaneSt l x).pending = s.pending := rfl
@[simp] theorem State.setLaneSt_out (s : State) (l : Nat) (x : Lane) : (s.setLaneSt l x).out = s.out := rfl
@[simp] theorem State.setLaneSt_clk (s : State) (l : Nat) (x : Lane) : (s.setLaneSt l x).clk = s.clk := rfl
@[simp] theorem State.setLaneSt_free (s : State) (l : Nat) (x : Lane) : (s.setLaneSt l x).free = s.free := rfl
@[simp] theorem State.setLaneSt_time (s : State) (l : Nat) (x : Lane) : (s.setLaneSt l x).time = s.time := rfl
@[simp] theorem State.setLaneSt_regs (s : State) (l : Nat) (x : Lane) : (s.setLaneSt l x).regs = s.regs := rfl
@[simp] theorem State.setLaneSt_kst (s : State) (l : Nat) (x : Lane) : (s.setLaneSt l x).kst = s.kst := rfl
@[simp] theorem State.setLaneSt_pwr (s : State) (l : Nat) (x : Lane) : (s.setLaneSt l x).pwr = s.pwr := rfl
@[simp] theorem State.setLaneSt_sec (s : State) (l : Nat) (x : Lane) : (s.setLaneSt l x).sec = s.sec := rfl
@[simp] theorem State.setLaneSt_rfa (s : State) (l : Nat) (x : Lane) : (s.setLaneSt l x).rfa = s.rfa := rfl
@[simp] theorem State.setLaneSt_tap (s : State) (l : Nat) (x : Lane) : (s.setLaneSt l x).tap = s.tap := rfl
@[simp] theorem State.setLaneSt_tal (s : State) (l : Nat) (x : Lane) : (s.setLaneSt l x).tal = s.tal := rfl
@[simp] theorem State.setLaneSt_lnk (s : State) (l : Nat) (x : Lane) : (s.setLaneSt l x).lnk = s.lnk := rfl
@[simp] theorem State.setLaneSt_prbs (s : State) (l : Nat) (x : Lane) : (s.setLaneSt l x).prbs = s.prbs := rfl
@[simp] theorem State.setLaneSt_til (s : State) (l : Nat) (x : Lane) : (s.setLaneSt l x).til = s.til := rfl
@[simp] theorem State.setLaneSt_hpt (s : State) (l : Nat) (x : Lane) : (s.setLaneSt l x).hpt = s.hpt := rfl
@[simp] theorem State.setLaneSt_spn (s : State) (l : Nat) (x : Lane) : (s.setLaneSt l x).spn = s.spn := rfl
@[simp] theorem State.setLaneSt_ended (s : State) (l : Nat) (x : Lane) : (s.setLaneSt l x).ended = s.ended := rfl
@[simp] theorem State.setLaneSt_fwd (s : State) (l : Nat) (x : Lane) : (s.setLaneSt l x).fwd = s.fwd := rfl
@[simp] theorem State.setLaneSt_rou (s : State) (l : Nat) (x : Lane) : (s.setLaneSt l x).rou = s.rou := rfl
@[simp] theorem State.setLaneSt_sch (s : State) (l : Nat) (x : Lane) : (s.setLaneSt l x).sch = s.sch := rfl
@[simp] theorem State.setLaneSt_via (s : State) (l : Nat) (x : Lane) : (s.setLaneSt l x).via = s.via := rfl
@[simp] theorem State.setLaneSt_eng (s : State) (l : Nat) (x : Lane) : (s.setLaneSt l x).eng = s.eng := rfl
@[simp] theorem State.setLaneSt_ep (s : State) (l : Nat) (x : Lane) : (s.setLaneSt l x).ep = s.ep := rfl
@[simp] theorem State.setLaneSt_coll (s : State) (l : Nat) (x : Lane) : (s.setLaneSt l x).coll = s.coll := rfl
@[simp] theorem State.setLaneSt_evt (s : State) (l : Nat) (x : Lane) : (s.setLaneSt l x).evt = s.evt := rfl

/-! ### setPort -/

@[simp] theorem State.setPort_pending (s : State) (n : Nat) (x : Port) : (s.setPort n x).pending = s.pending := rfl
@[simp] theorem State.setPort_out (s : State) (n : Nat) (x : Port) : (s.setPort n x).out = s.out := rfl
@[simp] theorem State.setPort_clk (s : State) (n : Nat) (x : Port) : (s.setPort n x).clk = s.clk := rfl
@[simp] theorem State.setPort_free (s : State) (n : Nat) (x : Port) : (s.setPort n x).free = s.free := rfl
@[simp] theorem State.setPort_time (s : State) (n : Nat) (x : Port) : (s.setPort n x).time = s.time := rfl
@[simp] theorem State.setPort_regs (s : State) (n : Nat) (x : Port) : (s.setPort n x).regs = s.regs := rfl
@[simp] theorem State.setPort_kst (s : State) (n : Nat) (x : Port) : (s.setPort n x).kst = s.kst := rfl
@[simp] theorem State.setPort_pwr (s : State) (n : Nat) (x : Port) : (s.setPort n x).pwr = s.pwr := rfl
@[simp] theorem State.setPort_sec (s : State) (n : Nat) (x : Port) : (s.setPort n x).sec = s.sec := rfl
@[simp] theorem State.setPort_rfa (s : State) (n : Nat) (x : Port) : (s.setPort n x).rfa = s.rfa := rfl
@[simp] theorem State.setPort_tap (s : State) (n : Nat) (x : Port) : (s.setPort n x).tap = s.tap := rfl
@[simp] theorem State.setPort_tal (s : State) (n : Nat) (x : Port) : (s.setPort n x).tal = s.tal := rfl
@[simp] theorem State.setPort_lnk (s : State) (n : Nat) (x : Port) : (s.setPort n x).lnk = s.lnk := rfl
@[simp] theorem State.setPort_srd (s : State) (n : Nat) (x : Port) : (s.setPort n x).srd = s.srd := rfl
@[simp] theorem State.setPort_prbs (s : State) (n : Nat) (x : Port) : (s.setPort n x).prbs = s.prbs := rfl
@[simp] theorem State.setPort_til (s : State) (n : Nat) (x : Port) : (s.setPort n x).til = s.til := rfl
@[simp] theorem State.setPort_spn (s : State) (n : Nat) (x : Port) : (s.setPort n x).spn = s.spn := rfl
@[simp] theorem State.setPort_ended (s : State) (n : Nat) (x : Port) : (s.setPort n x).ended = s.ended := rfl
@[simp] theorem State.setPort_fwd (s : State) (n : Nat) (x : Port) : (s.setPort n x).fwd = s.fwd := rfl
@[simp] theorem State.setPort_rou (s : State) (n : Nat) (x : Port) : (s.setPort n x).rou = s.rou := rfl
@[simp] theorem State.setPort_sch (s : State) (n : Nat) (x : Port) : (s.setPort n x).sch = s.sch := rfl
@[simp] theorem State.setPort_via (s : State) (n : Nat) (x : Port) : (s.setPort n x).via = s.via := rfl
@[simp] theorem State.setPort_eng (s : State) (n : Nat) (x : Port) : (s.setPort n x).eng = s.eng := rfl
@[simp] theorem State.setPort_ep (s : State) (n : Nat) (x : Port) : (s.setPort n x).ep = s.ep := rfl
@[simp] theorem State.setPort_coll (s : State) (n : Nat) (x : Port) : (s.setPort n x).coll = s.coll := rfl
@[simp] theorem State.setPort_evt (s : State) (n : Nat) (x : Port) : (s.setPort n x).evt = s.evt := rfl

/-! ### setPier -/

@[simp] theorem State.setPier_pending (s : State) (n : Nat) (x : Pier) : (s.setPier n x).pending = s.pending := rfl
@[simp] theorem State.setPier_out (s : State) (n : Nat) (x : Pier) : (s.setPier n x).out = s.out := rfl
@[simp] theorem State.setPier_clk (s : State) (n : Nat) (x : Pier) : (s.setPier n x).clk = s.clk := rfl
@[simp] theorem State.setPier_free (s : State) (n : Nat) (x : Pier) : (s.setPier n x).free = s.free := rfl
@[simp] theorem State.setPier_time (s : State) (n : Nat) (x : Pier) : (s.setPier n x).time = s.time := rfl
@[simp] theorem State.setPier_regs (s : State) (n : Nat) (x : Pier) : (s.setPier n x).regs = s.regs := rfl
@[simp] theorem State.setPier_kst (s : State) (n : Nat) (x : Pier) : (s.setPier n x).kst = s.kst := rfl
@[simp] theorem State.setPier_pwr (s : State) (n : Nat) (x : Pier) : (s.setPier n x).pwr = s.pwr := rfl
@[simp] theorem State.setPier_sec (s : State) (n : Nat) (x : Pier) : (s.setPier n x).sec = s.sec := rfl
@[simp] theorem State.setPier_rfa (s : State) (n : Nat) (x : Pier) : (s.setPier n x).rfa = s.rfa := rfl
@[simp] theorem State.setPier_tap (s : State) (n : Nat) (x : Pier) : (s.setPier n x).tap = s.tap := rfl
@[simp] theorem State.setPier_tal (s : State) (n : Nat) (x : Pier) : (s.setPier n x).tal = s.tal := rfl
@[simp] theorem State.setPier_lnk (s : State) (n : Nat) (x : Pier) : (s.setPier n x).lnk = s.lnk := rfl
@[simp] theorem State.setPier_srd (s : State) (n : Nat) (x : Pier) : (s.setPier n x).srd = s.srd := rfl
@[simp] theorem State.setPier_prbs (s : State) (n : Nat) (x : Pier) : (s.setPier n x).prbs = s.prbs := rfl
@[simp] theorem State.setPier_til (s : State) (n : Nat) (x : Pier) : (s.setPier n x).til = s.til := rfl
@[simp] theorem State.setPier_hpt (s : State) (n : Nat) (x : Pier) : (s.setPier n x).hpt = s.hpt := rfl
@[simp] theorem State.setPier_ended (s : State) (n : Nat) (x : Pier) : (s.setPier n x).ended = s.ended := rfl
@[simp] theorem State.setPier_fwd (s : State) (n : Nat) (x : Pier) : (s.setPier n x).fwd = s.fwd := rfl
@[simp] theorem State.setPier_rou (s : State) (n : Nat) (x : Pier) : (s.setPier n x).rou = s.rou := rfl
@[simp] theorem State.setPier_sch (s : State) (n : Nat) (x : Pier) : (s.setPier n x).sch = s.sch := rfl
@[simp] theorem State.setPier_via (s : State) (n : Nat) (x : Pier) : (s.setPier n x).via = s.via := rfl
@[simp] theorem State.setPier_eng (s : State) (n : Nat) (x : Pier) : (s.setPier n x).eng = s.eng := rfl
@[simp] theorem State.setPier_ep (s : State) (n : Nat) (x : Pier) : (s.setPier n x).ep = s.ep := rfl
@[simp] theorem State.setPier_coll (s : State) (n : Nat) (x : Pier) : (s.setPier n x).coll = s.coll := rfl
@[simp] theorem State.setPier_evt (s : State) (n : Nat) (x : Pier) : (s.setPier n x).evt = s.evt := rfl

/-! ### emit -/

@[simp] theorem State.emit_pending (s : State) (e : Emit) : (s.emit e).pending = s.pending := rfl
@[simp] theorem State.emit_out (s : State) (e : Emit) : (s.emit e).out = e :: s.out := rfl
@[simp] theorem State.emit_clk (s : State) (e : Emit) : (s.emit e).clk = s.clk := rfl
@[simp] theorem State.emit_free (s : State) (e : Emit) : (s.emit e).free = s.free := rfl
@[simp] theorem State.emit_time (s : State) (e : Emit) : (s.emit e).time = s.time := rfl
@[simp] theorem State.emit_regs (s : State) (e : Emit) : (s.emit e).regs = s.regs := rfl
@[simp] theorem State.emit_kst (s : State) (e : Emit) : (s.emit e).kst = s.kst := rfl
@[simp] theorem State.emit_pwr (s : State) (e : Emit) : (s.emit e).pwr = s.pwr := rfl
@[simp] theorem State.emit_sec (s : State) (e : Emit) : (s.emit e).sec = s.sec := rfl
@[simp] theorem State.emit_rfa (s : State) (e : Emit) : (s.emit e).rfa = s.rfa := rfl
@[simp] theorem State.emit_tap (s : State) (e : Emit) : (s.emit e).tap = s.tap := rfl
@[simp] theorem State.emit_tal (s : State) (e : Emit) : (s.emit e).tal = s.tal := rfl
@[simp] theorem State.emit_lnk (s : State) (e : Emit) : (s.emit e).lnk = s.lnk := rfl
@[simp] theorem State.emit_srd (s : State) (e : Emit) : (s.emit e).srd = s.srd := rfl
@[simp] theorem State.emit_prbs (s : State) (e : Emit) : (s.emit e).prbs = s.prbs := rfl
@[simp] theorem State.emit_til (s : State) (e : Emit) : (s.emit e).til = s.til := rfl
@[simp] theorem State.emit_hpt (s : State) (e : Emit) : (s.emit e).hpt = s.hpt := rfl
@[simp] theorem State.emit_spn (s : State) (e : Emit) : (s.emit e).spn = s.spn := rfl
@[simp] theorem State.emit_ended (s : State) (e : Emit) : (s.emit e).ended = s.ended := rfl
@[simp] theorem State.emit_fwd (s : State) (e : Emit) : (s.emit e).fwd = s.fwd := rfl
@[simp] theorem State.emit_rou (s : State) (e : Emit) : (s.emit e).rou = s.rou := rfl
@[simp] theorem State.emit_sch (s : State) (e : Emit) : (s.emit e).sch = s.sch := rfl
@[simp] theorem State.emit_via (s : State) (e : Emit) : (s.emit e).via = s.via := rfl
@[simp] theorem State.emit_eng (s : State) (e : Emit) : (s.emit e).eng = s.eng := rfl
@[simp] theorem State.emit_ep (s : State) (e : Emit) : (s.emit e).ep = s.ep := rfl
@[simp] theorem State.emit_coll (s : State) (e : Emit) : (s.emit e).coll = s.coll := rfl
@[simp] theorem State.emit_evt (s : State) (e : Emit) : (s.emit e).evt = s.evt := rfl

/-! ### setRec -/

@[simp] theorem State.setRec_pending (s : State) (c : Nat) (r : KRec) : (s.setRec c r).pending = s.pending := rfl
@[simp] theorem State.setRec_out (s : State) (c : Nat) (r : KRec) : (s.setRec c r).out = s.out := rfl
@[simp] theorem State.setRec_clk (s : State) (c : Nat) (r : KRec) : (s.setRec c r).clk = s.clk := rfl
@[simp] theorem State.setRec_free (s : State) (c : Nat) (r : KRec) : (s.setRec c r).free = s.free := rfl
@[simp] theorem State.setRec_time (s : State) (c : Nat) (r : KRec) : (s.setRec c r).time = s.time := rfl
@[simp] theorem State.setRec_regs (s : State) (c : Nat) (r : KRec) : (s.setRec c r).regs = s.regs := rfl
@[simp] theorem State.setRec_pwr (s : State) (c : Nat) (r : KRec) : (s.setRec c r).pwr = s.pwr := rfl
@[simp] theorem State.setRec_sec (s : State) (c : Nat) (r : KRec) : (s.setRec c r).sec = s.sec := rfl
@[simp] theorem State.setRec_rfa (s : State) (c : Nat) (r : KRec) : (s.setRec c r).rfa = s.rfa := rfl
@[simp] theorem State.setRec_tap (s : State) (c : Nat) (r : KRec) : (s.setRec c r).tap = s.tap := rfl
@[simp] theorem State.setRec_tal (s : State) (c : Nat) (r : KRec) : (s.setRec c r).tal = s.tal := rfl
@[simp] theorem State.setRec_lnk (s : State) (c : Nat) (r : KRec) : (s.setRec c r).lnk = s.lnk := rfl
@[simp] theorem State.setRec_srd (s : State) (c : Nat) (r : KRec) : (s.setRec c r).srd = s.srd := rfl
@[simp] theorem State.setRec_prbs (s : State) (c : Nat) (r : KRec) : (s.setRec c r).prbs = s.prbs := rfl
@[simp] theorem State.setRec_til (s : State) (c : Nat) (r : KRec) : (s.setRec c r).til = s.til := rfl
@[simp] theorem State.setRec_hpt (s : State) (c : Nat) (r : KRec) : (s.setRec c r).hpt = s.hpt := rfl
@[simp] theorem State.setRec_spn (s : State) (c : Nat) (r : KRec) : (s.setRec c r).spn = s.spn := rfl
@[simp] theorem State.setRec_ended (s : State) (c : Nat) (r : KRec) : (s.setRec c r).ended = s.ended := rfl
@[simp] theorem State.setRec_fwd (s : State) (c : Nat) (r : KRec) : (s.setRec c r).fwd = s.fwd := rfl
@[simp] theorem State.setRec_rou (s : State) (c : Nat) (r : KRec) : (s.setRec c r).rou = s.rou := rfl
@[simp] theorem State.setRec_sch (s : State) (c : Nat) (r : KRec) : (s.setRec c r).sch = s.sch := rfl
@[simp] theorem State.setRec_via (s : State) (c : Nat) (r : KRec) : (s.setRec c r).via = s.via := rfl
@[simp] theorem State.setRec_eng (s : State) (c : Nat) (r : KRec) : (s.setRec c r).eng = s.eng := rfl
@[simp] theorem State.setRec_ep (s : State) (c : Nat) (r : KRec) : (s.setRec c r).ep = s.ep := rfl
@[simp] theorem State.setRec_coll (s : State) (c : Nat) (r : KRec) : (s.setRec c r).coll = s.coll := rfl
@[simp] theorem State.setRec_evt (s : State) (c : Nat) (r : KRec) : (s.setRec c r).evt = s.evt := rfl

/-! ### setEvt -/

@[simp] theorem State.setEvt_pending (s : State) (h b : Nat) : (s.setEvt h b).pending = s.pending := rfl
@[simp] theorem State.setEvt_out (s : State) (h b : Nat) : (s.setEvt h b).out = s.out := rfl
@[simp] theorem State.setEvt_clk (s : State) (h b : Nat) : (s.setEvt h b).clk = s.clk := rfl
@[simp] theorem State.setEvt_free (s : State) (h b : Nat) : (s.setEvt h b).free = s.free := rfl
@[simp] theorem State.setEvt_time (s : State) (h b : Nat) : (s.setEvt h b).time = s.time := rfl
@[simp] theorem State.setEvt_regs (s : State) (h b : Nat) : (s.setEvt h b).regs = s.regs := rfl
@[simp] theorem State.setEvt_kst (s : State) (h b : Nat) : (s.setEvt h b).kst = s.kst := rfl
@[simp] theorem State.setEvt_pwr (s : State) (h b : Nat) : (s.setEvt h b).pwr = s.pwr := rfl
@[simp] theorem State.setEvt_sec (s : State) (h b : Nat) : (s.setEvt h b).sec = s.sec := rfl
@[simp] theorem State.setEvt_rfa (s : State) (h b : Nat) : (s.setEvt h b).rfa = s.rfa := rfl
@[simp] theorem State.setEvt_tap (s : State) (h b : Nat) : (s.setEvt h b).tap = s.tap := rfl
@[simp] theorem State.setEvt_tal (s : State) (h b : Nat) : (s.setEvt h b).tal = s.tal := rfl
@[simp] theorem State.setEvt_lnk (s : State) (h b : Nat) : (s.setEvt h b).lnk = s.lnk := rfl
@[simp] theorem State.setEvt_srd (s : State) (h b : Nat) : (s.setEvt h b).srd = s.srd := rfl
@[simp] theorem State.setEvt_prbs (s : State) (h b : Nat) : (s.setEvt h b).prbs = s.prbs := rfl
@[simp] theorem State.setEvt_til (s : State) (h b : Nat) : (s.setEvt h b).til = s.til := rfl
@[simp] theorem State.setEvt_hpt (s : State) (h b : Nat) : (s.setEvt h b).hpt = s.hpt := rfl
@[simp] theorem State.setEvt_spn (s : State) (h b : Nat) : (s.setEvt h b).spn = s.spn := rfl
@[simp] theorem State.setEvt_ended (s : State) (h b : Nat) : (s.setEvt h b).ended = s.ended := rfl
@[simp] theorem State.setEvt_fwd (s : State) (h b : Nat) : (s.setEvt h b).fwd = s.fwd := rfl
@[simp] theorem State.setEvt_rou (s : State) (h b : Nat) : (s.setEvt h b).rou = s.rou := rfl
@[simp] theorem State.setEvt_sch (s : State) (h b : Nat) : (s.setEvt h b).sch = s.sch := rfl
@[simp] theorem State.setEvt_via (s : State) (h b : Nat) : (s.setEvt h b).via = s.via := rfl
@[simp] theorem State.setEvt_eng (s : State) (h b : Nat) : (s.setEvt h b).eng = s.eng := rfl
@[simp] theorem State.setEvt_ep (s : State) (h b : Nat) : (s.setEvt h b).ep = s.ep := rfl
@[simp] theorem State.setEvt_coll (s : State) (h b : Nat) : (s.setEvt h b).coll = s.coll := rfl

/-! ### setFld -/

@[simp] theorem State.setFld_pending (s : State) (f : Fld) (v n i : Nat) : (s.setFld f v n i).pending = s.pending := by
  unfold State.setFld; dsimp only; split <;> rfl
@[simp] theorem State.setFld_out (s : State) (f : Fld) (v n i : Nat) : (s.setFld f v n i).out = s.out := by
  unfold State.setFld; dsimp only; split <;> rfl
@[simp] theorem State.setFld_clk (s : State) (f : Fld) (v n i : Nat) : (s.setFld f v n i).clk = s.clk := by
  unfold State.setFld; dsimp only; split <;> rfl
@[simp] theorem State.setFld_free (s : State) (f : Fld) (v n i : Nat) : (s.setFld f v n i).free = s.free := by
  unfold State.setFld; dsimp only; split <;> rfl
@[simp] theorem State.setFld_time (s : State) (f : Fld) (v n i : Nat) : (s.setFld f v n i).time = s.time := by
  unfold State.setFld; dsimp only; split <;> rfl
@[simp] theorem State.setFld_kst (s : State) (f : Fld) (v n i : Nat) : (s.setFld f v n i).kst = s.kst := by
  unfold State.setFld; dsimp only; split <;> rfl
@[simp] theorem State.setFld_pwr (s : State) (f : Fld) (v n i : Nat) : (s.setFld f v n i).pwr = s.pwr := by
  unfold State.setFld; dsimp only; split <;> rfl
@[simp] theorem State.setFld_sec (s : State) (f : Fld) (v n i : Nat) : (s.setFld f v n i).sec = s.sec := by
  unfold State.setFld; dsimp only; split <;> rfl
@[simp] theorem State.setFld_rfa (s : State) (f : Fld) (v n i : Nat) : (s.setFld f v n i).rfa = s.rfa := by
  unfold State.setFld; dsimp only; split <;> rfl
@[simp] theorem State.setFld_tap (s : State) (f : Fld) (v n i : Nat) : (s.setFld f v n i).tap = s.tap := by
  unfold State.setFld; dsimp only; split <;> rfl
@[simp] theorem State.setFld_tal (s : State) (f : Fld) (v n i : Nat) : (s.setFld f v n i).tal = s.tal := by
  unfold State.setFld; dsimp only; split <;> rfl
@[simp] theorem State.setFld_lnk (s : State) (f : Fld) (v n i : Nat) : (s.setFld f v n i).lnk = s.lnk := by
  unfold State.setFld; dsimp only; split <;> rfl
@[simp] theorem State.setFld_srd (s : State) (f : Fld) (v n i : Nat) : (s.setFld f v n i).srd = s.srd := by
  unfold State.setFld; dsimp only; split <;> rfl
@[simp] theorem State.setFld_prbs (s : State) (f : Fld) (v n i : Nat) : (s.setFld f v n i).prbs = s.prbs := by
  unfold State.setFld; dsimp only; split <;> rfl
@[simp] theorem State.setFld_til (s : State) (f : Fld) (v n i : Nat) : (s.setFld f v n i).til = s.til := by
  unfold State.setFld; dsimp only; split <;> rfl
@[simp] theorem State.setFld_hpt (s : State) (f : Fld) (v n i : Nat) : (s.setFld f v n i).hpt = s.hpt := by
  unfold State.setFld; dsimp only; split <;> rfl
@[simp] theorem State.setFld_spn (s : State) (f : Fld) (v n i : Nat) : (s.setFld f v n i).spn = s.spn := by
  unfold State.setFld; dsimp only; split <;> rfl
@[simp] theorem State.setFld_ended (s : State) (f : Fld) (v n i : Nat) : (s.setFld f v n i).ended = s.ended := by
  unfold State.setFld; dsimp only; split <;> rfl
@[simp] theorem State.setFld_fwd (s : State) (f : Fld) (v n i : Nat) : (s.setFld f v n i).fwd = s.fwd := by
  unfold State.setFld; dsimp only; split <;> rfl
@[simp] theorem State.setFld_rou (s : State) (f : Fld) (v n i : Nat) : (s.setFld f v n i).rou = s.rou := by
  unfold State.setFld; dsimp only; split <;> rfl
@[simp] theorem State.setFld_sch (s : State) (f : Fld) (v n i : Nat) : (s.setFld f v n i).sch = s.sch := by
  unfold State.setFld; dsimp only; split <;> rfl
@[simp] theorem State.setFld_via (s : State) (f : Fld) (v n i : Nat) : (s.setFld f v n i).via = s.via := by
  unfold State.setFld; dsimp only; split <;> rfl
@[simp] theorem State.setFld_eng (s : State) (f : Fld) (v n i : Nat) : (s.setFld f v n i).eng = s.eng := by
  unfold State.setFld; dsimp only; split <;> rfl
@[simp] theorem State.setFld_ep (s : State) (f : Fld) (v n i : Nat) : (s.setFld f v n i).ep = s.ep := by
  unfold State.setFld; dsimp only; split <;> rfl
@[simp] theorem State.setFld_coll (s : State) (f : Fld) (v n i : Nat) : (s.setFld f v n i).coll = s.coll := by
  unfold State.setFld; dsimp only; split <;> rfl
@[simp] theorem State.setFld_evt (s : State) (f : Fld) (v n i : Nat) : (s.setFld f v n i).evt = s.evt := by
  unfold State.setFld; dsimp only; split <;> rfl

/-! ### takeFree -/

@[simp] theorem State.takeFree_fst (s : State) : s.takeFree.1 = s.free := rfl
@[simp] theorem State.takeFree_pending (s : State) : s.takeFree.2.pending = s.pending := rfl
@[simp] theorem State.takeFree_out (s : State) : s.takeFree.2.out = s.out := rfl
@[simp] theorem State.takeFree_clk (s : State) : s.takeFree.2.clk = s.clk := rfl
@[simp] theorem State.takeFree_time (s : State) : s.takeFree.2.time = s.time := rfl
@[simp] theorem State.takeFree_regs (s : State) : s.takeFree.2.regs = s.regs := rfl
@[simp] theorem State.takeFree_kst (s : State) : s.takeFree.2.kst = s.kst := rfl
@[simp] theorem State.takeFree_pwr (s : State) : s.takeFree.2.pwr = s.pwr := rfl
@[simp] theorem State.takeFree_sec (s : State) : s.takeFree.2.sec = s.sec := rfl
@[simp] theorem State.takeFree_rfa (s : State) : s.takeFree.2.rfa = s.rfa := rfl
@[simp] theorem State.takeFree_tap (s : State) : s.takeFree.2.tap = s.tap := rfl
@[simp] theorem State.takeFree_tal (s : State) : s.takeFree.2.tal = s.tal := rfl
@[simp] theorem State.takeFree_lnk (s : State) : s.takeFree.2.lnk = s.lnk := rfl
@[simp] theorem State.takeFree_srd (s : State) : s.takeFree.2.srd = s.srd := rfl
@[simp] theorem State.takeFree_prbs (s : State) : s.takeFree.2.prbs = s.prbs := rfl
@[simp] theorem State.takeFree_til (s : State) : s.takeFree.2.til = s.til := rfl
@[simp] theorem State.takeFree_hpt (s : State) : s.takeFree.2.hpt = s.hpt := rfl
@[simp] theorem State.takeFree_spn (s : State) : s.takeFree.2.spn = s.spn := rfl
@[simp] theorem State.takeFree_ended (s : State) : s.takeFree.2.ended = s.ended := rfl
@[simp] theorem State.takeFree_fwd (s : State) : s.takeFree.2.fwd = s.fwd := rfl
@[simp] theorem State.takeFree_rou (s : State) : s.takeFree.2.rou = s.rou := rfl
@[simp] theorem State.takeFree_sch (s : State) : s.takeFree.2.sch = s.sch := rfl
@[simp] theorem State.takeFree_via (s : State) : s.takeFree.2.via = s.via := rfl
@[simp] theorem State.takeFree_eng (s : State) : s.takeFree.2.eng = s.eng := rfl
@[simp] theorem State.takeFree_ep (s : State) : s.takeFree.2.ep = s.ep := rfl
@[simp] theorem State.takeFree_coll (s : State) : s.takeFree.2.coll = s.coll := rfl
@[simp] theorem State.takeFree_evt (s : State) : s.takeFree.2.evt = s.evt := rfl

/-! ### What the keyed setters set -/

@[simp] theorem State.link_setLink_self (s : State) (l : Nat) (x : Link) : (s.setLink l x).link l = x := mget_mput_self ..
theorem State.link_setLink_ne (s : State) {l m : Nat} (x : Link) (h : m ≠ l) : (s.setLink l x).link m = s.link m := mget_mput_ne _ _ _ _ h
@[simp] theorem State.port_setPort_self (s : State) (n : Nat) (x : Port) : (s.setPort n x).port n = x := mget_mput_self ..
theorem State.port_setPort_ne (s : State) {n m : Nat} (x : Port) (h : m ≠ n) : (s.setPort n x).port m = s.port m := mget_mput_ne _ _ _ _ h
@[simp] theorem State.pier_setPier_self (s : State) (n : Nat) (x : Pier) : (s.setPier n x).pier n = x := mget_mput_self ..
theorem State.pier_setPier_ne (s : State) {n m : Nat} (x : Pier) (h : m ≠ n) : (s.setPier n x).pier m = s.pier m := mget_mput_ne _ _ _ _ h
@[simp] theorem State.ctx_setCtx_self (s : State) (c : Nat) (x : Ctx) : (s.setCtx c x).ctx c = x := mget_mput_self ..
theorem State.ctx_setCtx_ne (s : State) {c d : Nat} (x : Ctx) (h : d ≠ c) : (s.setCtx c x).ctx d = s.ctx d := mget_mput_ne _ _ _ _ h
@[simp] theorem State.op_setOp_self (s : State) (t : Nat) (o : Op) : (s.setOp t o).op t = some o := mfind_minsert_self ..
theorem State.op_setOp_ne (s : State) {t u : Nat} (o : Op) (h : u ≠ t) : (s.setOp t o).op u = s.op u := mfind_minsert_ne _ _ h

/-! ### Registers are not changed by the setters of other state -/

@[simp] theorem State.setEng_rd (s : State) (x : Eng) (q : Nat) : (s.setEng x).rd q = s.rd q := rfl
@[simp] theorem State.setEng_fld (s : State) (x : Eng) (f : Fld) (n i : Nat) : (s.setEng x).fld f n i = s.fld f n i := rfl
@[simp] theorem State.setEng_flag (s : State) (x : Eng) (f : Fld) (n i : Nat) : (s.setEng x).flag f n i = s.flag f n i := rfl
@[simp] theorem State.setEng_armed (s : State) (x : Eng) (f : Fld) (n : Nat) : (s.setEng x).armed f n = s.armed f n := rfl
@[simp] theorem State.setEp_rd (s : State) (x : Ep) (q : Nat) : (s.setEp x).rd q = s.rd q := rfl
@[simp] theorem State.setEp_fld (s : State) (x : Ep) (f : Fld) (n i : Nat) : (s.setEp x).fld f n i = s.fld f n i := rfl
@[simp] theorem State.setEp_flag (s : State) (x : Ep) (f : Fld) (n i : Nat) : (s.setEp x).flag f n i = s.flag f n i := rfl
@[simp] theorem State.setEp_armed (s : State) (x : Ep) (f : Fld) (n : Nat) : (s.setEp x).armed f n = s.armed f n := rfl
@[simp] theorem State.setSec_rd (s : State) (x : Sec) (q : Nat) : (s.setSec x).rd q = s.rd q := rfl
@[simp] theorem State.setSec_fld (s : State) (x : Sec) (f : Fld) (n i : Nat) : (s.setSec x).fld f n i = s.fld f n i := rfl
@[simp] theorem State.setSec_flag (s : State) (x : Sec) (f : Fld) (n i : Nat) : (s.setSec x).flag f n i = s.flag f n i := rfl
@[simp] theorem State.setSec_armed (s : State) (x : Sec) (f : Fld) (n : Nat) : (s.setSec x).armed f n = s.armed f n := rfl
@[simp] theorem State.setVia_rd (s : State) (x : Via) (q : Nat) : (s.setVia x).rd q = s.rd q := rfl
@[simp] theorem State.setVia_fld (s : State) (x : Via) (f : Fld) (n i : Nat) : (s.setVia x).fld f n i = s.fld f n i := rfl
@[simp] theorem State.setVia_flag (s : State) (x : Via) (f : Fld) (n i : Nat) : (s.setVia x).flag f n i = s.flag f n i := rfl
@[simp] theorem State.setVia_armed (s : State) (x : Via) (f : Fld) (n : Nat) : (s.setVia x).armed f n = s.armed f n := rfl
@[simp] theorem State.setLink_rd (s : State) (l : Nat) (x : Link) (q : Nat) : (s.setLink l x).rd q = s.rd q := rfl
@[simp] theorem State.setLink_fld (s : State) (l : Nat) (x : Link) (f : Fld) (n i : Nat) : (s.setLink l x).fld f n i = s.fld f n i := rfl
@[simp] theorem State.setLink_flag (s : State) (l : Nat) (x : Link) (f : Fld) (n i : Nat) : (s.setLink l x).flag f n i = s.flag f n i := rfl
@[simp] theorem State.setLink_armed (s : State) (l : Nat) (x : Link) (f : Fld) (n : Nat) : (s.setLink l x).armed f n = s.armed f n := rfl
@[simp] theorem State.setLaneSt_rd (s : State) (l : Nat) (x : Lane) (q : Nat) : (s.setLaneSt l x).rd q = s.rd q := rfl
@[simp] theorem State.setLaneSt_fld (s : State) (l : Nat) (x : Lane) (f : Fld) (n i : Nat) : (s.setLaneSt l x).fld f n i = s.fld f n i := rfl
@[simp] theorem State.setLaneSt_flag (s : State) (l : Nat) (x : Lane) (f : Fld) (n i : Nat) : (s.setLaneSt l x).flag f n i = s.flag f n i := rfl
@[simp] theorem State.setLaneSt_armed (s : State) (l : Nat) (x : Lane) (f : Fld) (n : Nat) : (s.setLaneSt l x).armed f n = s.armed f n := rfl
@[simp] theorem State.setPort_rd (s : State) (l : Nat) (x : Port) (q : Nat) : (s.setPort l x).rd q = s.rd q := rfl
@[simp] theorem State.setPort_fld (s : State) (l : Nat) (x : Port) (f : Fld) (n i : Nat) : (s.setPort l x).fld f n i = s.fld f n i := rfl
@[simp] theorem State.setPort_flag (s : State) (l : Nat) (x : Port) (f : Fld) (n i : Nat) : (s.setPort l x).flag f n i = s.flag f n i := rfl
@[simp] theorem State.setPort_armed (s : State) (l : Nat) (x : Port) (f : Fld) (n : Nat) : (s.setPort l x).armed f n = s.armed f n := rfl
@[simp] theorem State.setPier_rd (s : State) (l : Nat) (x : Pier) (q : Nat) : (s.setPier l x).rd q = s.rd q := rfl
@[simp] theorem State.setPier_fld (s : State) (l : Nat) (x : Pier) (f : Fld) (n i : Nat) : (s.setPier l x).fld f n i = s.fld f n i := rfl
@[simp] theorem State.setPier_flag (s : State) (l : Nat) (x : Pier) (f : Fld) (n i : Nat) : (s.setPier l x).flag f n i = s.flag f n i := rfl
@[simp] theorem State.setPier_armed (s : State) (l : Nat) (x : Pier) (f : Fld) (n : Nat) : (s.setPier l x).armed f n = s.armed f n := rfl
@[simp] theorem State.emit_rd (s : State) (x : Emit) (q : Nat) : (s.emit x).rd q = s.rd q := rfl
@[simp] theorem State.emit_fld (s : State) (x : Emit) (f : Fld) (n i : Nat) : (s.emit x).fld f n i = s.fld f n i := rfl
@[simp] theorem State.emit_flag (s : State) (x : Emit) (f : Fld) (n i : Nat) : (s.emit x).flag f n i = s.flag f n i := rfl
@[simp] theorem State.emit_armed (s : State) (x : Emit) (f : Fld) (n : Nat) : (s.emit x).armed f n = s.armed f n := rfl
@[simp] theorem State.setRec_rd (s : State) (l : Nat) (x : KRec) (q : Nat) : (s.setRec l x).rd q = s.rd q := rfl
@[simp] theorem State.setRec_fld (s : State) (l : Nat) (x : KRec) (f : Fld) (n i : Nat) : (s.setRec l x).fld f n i = s.fld f n i := rfl
@[simp] theorem State.setRec_flag (s : State) (l : Nat) (x : KRec) (f : Fld) (n i : Nat) : (s.setRec l x).flag f n i = s.flag f n i := rfl
@[simp] theorem State.setRec_armed (s : State) (l : Nat) (x : KRec) (f : Fld) (n : Nat) : (s.setRec l x).armed f n = s.armed f n := rfl
@[simp] theorem State.setEvt_rd (s : State) (h b : Nat) (q : Nat) : (s.setEvt h b).rd q = s.rd q := rfl
@[simp] theorem State.setEvt_fld (s : State) (h b : Nat) (f : Fld) (n i : Nat) : (s.setEvt h b).fld f n i = s.fld f n i := rfl
@[simp] theorem State.setEvt_flag (s : State) (h b : Nat) (f : Fld) (n i : Nat) : (s.setEvt h b).flag f n i = s.flag f n i := rfl
@[simp] theorem State.setEvt_armed (s : State) (h b : Nat) (f : Fld) (n : Nat) : (s.setEvt h b).armed f n = s.armed f n := rfl

end Sys2Proof.Machine
end

