-- ==== Sys2Proof/Laws/Counts.lean ====
section
/-!
SUPPORT. The laws of counters and tallies: what a count leaves in its register, and which registers it leaves alone.
-/
namespace Sys2Proof.Machine

/-! ## What counting leaves alone -/

@[simp] theorem State.tally_pending (s : State) (b sl k : Nat) : (s.tally b sl k).pending = s.pending := by
  unfold State.tally; dsimp only; split <;> rfl
@[simp] theorem State.count_pending (s : State) (f : Fld) (n k i : Nat) : (s.count f n k i).pending = s.pending := by
  unfold State.count; dsimp only; split <;> simp
@[simp] theorem State.tally_out (s : State) (b sl k : Nat) : (s.tally b sl k).out = s.out := by
  unfold State.tally; dsimp only; split <;> rfl
@[simp] theorem State.count_out (s : State) (f : Fld) (n k i : Nat) : (s.count f n k i).out = s.out := by
  unfold State.count; dsimp only; split <;> simp
@[simp] theorem State.tally_clk (s : State) (b sl k : Nat) : (s.tally b sl k).clk = s.clk := by
  unfold State.tally; dsimp only; split <;> rfl
@[simp] theorem State.count_clk (s : State) (f : Fld) (n k i : Nat) : (s.count f n k i).clk = s.clk := by
  unfold State.count; dsimp only; split <;> simp
@[simp] theorem State.tally_free (s : State) (b sl k : Nat) : (s.tally b sl k).free = s.free := by
  unfold State.tally; dsimp only; split <;> rfl
@[simp] theorem State.count_free (s : State) (f : Fld) (n k i : Nat) : (s.count f n k i).free = s.free := by
  unfold State.count; dsimp only; split <;> simp
@[simp] theorem State.tally_time (s : State) (b sl k : Nat) : (s.tally b sl k).time = s.time := by
  unfold State.tally; dsimp only; split <;> rfl
@[simp] theorem State.count_time (s : State) (f : Fld) (n k i : Nat) : (s.count f n k i).time = s.time := by
  unfold State.count; dsimp only; split <;> simp
@[simp] theorem State.tally_kst (s : State) (b sl k : Nat) : (s.tally b sl k).kst = s.kst := by
  unfold State.tally; dsimp only; split <;> rfl
@[simp] theorem State.count_kst (s : State) (f : Fld) (n k i : Nat) : (s.count f n k i).kst = s.kst := by
  unfold State.count; dsimp only; split <;> simp
@[simp] theorem State.tally_pwr (s : State) (b sl k : Nat) : (s.tally b sl k).pwr = s.pwr := by
  unfold State.tally; dsimp only; split <;> rfl
@[simp] theorem State.count_pwr (s : State) (f : Fld) (n k i : Nat) : (s.count f n k i).pwr = s.pwr := by
  unfold State.count; dsimp only; split <;> simp
@[simp] theorem State.tally_sec (s : State) (b sl k : Nat) : (s.tally b sl k).sec = s.sec := by
  unfold State.tally; dsimp only; split <;> rfl
@[simp] theorem State.count_sec (s : State) (f : Fld) (n k i : Nat) : (s.count f n k i).sec = s.sec := by
  unfold State.count; dsimp only; split <;> simp
@[simp] theorem State.tally_rfa (s : State) (b sl k : Nat) : (s.tally b sl k).rfa = s.rfa := by
  unfold State.tally; dsimp only; split <;> rfl
@[simp] theorem State.count_rfa (s : State) (f : Fld) (n k i : Nat) : (s.count f n k i).rfa = s.rfa := by
  unfold State.count; dsimp only; split <;> simp
@[simp] theorem State.tally_tap (s : State) (b sl k : Nat) : (s.tally b sl k).tap = s.tap := by
  unfold State.tally; dsimp only; split <;> rfl
@[simp] theorem State.count_tap (s : State) (f : Fld) (n k i : Nat) : (s.count f n k i).tap = s.tap := by
  unfold State.count; dsimp only; split <;> simp
@[simp] theorem State.tally_lnk (s : State) (b sl k : Nat) : (s.tally b sl k).lnk = s.lnk := by
  unfold State.tally; dsimp only; split <;> rfl
@[simp] theorem State.count_lnk (s : State) (f : Fld) (n k i : Nat) : (s.count f n k i).lnk = s.lnk := by
  unfold State.count; dsimp only; split <;> simp
@[simp] theorem State.tally_srd (s : State) (b sl k : Nat) : (s.tally b sl k).srd = s.srd := by
  unfold State.tally; dsimp only; split <;> rfl
@[simp] theorem State.count_srd (s : State) (f : Fld) (n k i : Nat) : (s.count f n k i).srd = s.srd := by
  unfold State.count; dsimp only; split <;> simp
@[simp] theorem State.tally_prbs (s : State) (b sl k : Nat) : (s.tally b sl k).prbs = s.prbs := by
  unfold State.tally; dsimp only; split <;> rfl
@[simp] theorem State.count_prbs (s : State) (f : Fld) (n k i : Nat) : (s.count f n k i).prbs = s.prbs := by
  unfold State.count; dsimp only; split <;> simp
@[simp] theorem State.tally_til (s : State) (b sl k : Nat) : (s.tally b sl k).til = s.til := by
  unfold State.tally; dsimp only; split <;> rfl
@[simp] theorem State.count_til (s : State) (f : Fld) (n k i : Nat) : (s.count f n k i).til = s.til := by
  unfold State.count; dsimp only; split <;> simp
@[simp] theorem State.tally_hpt (s : State) (b sl k : Nat) : (s.tally b sl k).hpt = s.hpt := by
  unfold State.tally; dsimp only; split <;> rfl
@[simp] theorem State.count_hpt (s : State) (f : Fld) (n k i : Nat) : (s.count f n k i).hpt = s.hpt := by
  unfold State.count; dsimp only; split <;> simp
@[simp] theorem State.tally_spn (s : State) (b sl k : Nat) : (s.tally b sl k).spn = s.spn := by
  unfold State.tally; dsimp only; split <;> rfl
@[simp] theorem State.count_spn (s : State) (f : Fld) (n k i : Nat) : (s.count f n k i).spn = s.spn := by
  unfold State.count; dsimp only; split <;> simp
@[simp] theorem State.tally_ended (s : State) (b sl k : Nat) : (s.tally b sl k).ended = s.ended := by
  unfold State.tally; dsimp only; split <;> rfl
@[simp] theorem State.count_ended (s : State) (f : Fld) (n k i : Nat) : (s.count f n k i).ended = s.ended := by
  unfold State.count; dsimp only; split <;> simp
@[simp] theorem State.tally_fwd (s : State) (b sl k : Nat) : (s.tally b sl k).fwd = s.fwd := by
  unfold State.tally; dsimp only; split <;> rfl
@[simp] theorem State.count_fwd (s : State) (f : Fld) (n k i : Nat) : (s.count f n k i).fwd = s.fwd := by
  unfold State.count; dsimp only; split <;> simp
@[simp] theorem State.tally_rou (s : State) (b sl k : Nat) : (s.tally b sl k).rou = s.rou := by
  unfold State.tally; dsimp only; split <;> rfl
@[simp] theorem State.count_rou (s : State) (f : Fld) (n k i : Nat) : (s.count f n k i).rou = s.rou := by
  unfold State.count; dsimp only; split <;> simp
@[simp] theorem State.tally_sch (s : State) (b sl k : Nat) : (s.tally b sl k).sch = s.sch := by
  unfold State.tally; dsimp only; split <;> rfl
@[simp] theorem State.count_sch (s : State) (f : Fld) (n k i : Nat) : (s.count f n k i).sch = s.sch := by
  unfold State.count; dsimp only; split <;> simp
@[simp] theorem State.tally_via (s : State) (b sl k : Nat) : (s.tally b sl k).via = s.via := by
  unfold State.tally; dsimp only; split <;> rfl
@[simp] theorem State.count_via (s : State) (f : Fld) (n k i : Nat) : (s.count f n k i).via = s.via := by
  unfold State.count; dsimp only; split <;> simp
@[simp] theorem State.tally_eng (s : State) (b sl k : Nat) : (s.tally b sl k).eng = s.eng := by
  unfold State.tally; dsimp only; split <;> rfl
@[simp] theorem State.count_eng (s : State) (f : Fld) (n k i : Nat) : (s.count f n k i).eng = s.eng := by
  unfold State.count; dsimp only; split <;> simp
@[simp] theorem State.tally_ep (s : State) (b sl k : Nat) : (s.tally b sl k).ep = s.ep := by
  unfold State.tally; dsimp only; split <;> rfl
@[simp] theorem State.count_ep (s : State) (f : Fld) (n k i : Nat) : (s.count f n k i).ep = s.ep := by
  unfold State.count; dsimp only; split <;> simp
@[simp] theorem State.tally_coll (s : State) (b sl k : Nat) : (s.tally b sl k).coll = s.coll := by
  unfold State.tally; dsimp only; split <;> rfl
@[simp] theorem State.count_coll (s : State) (f : Fld) (n k i : Nat) : (s.count f n k i).coll = s.coll := by
  unfold State.count; dsimp only; split <;> simp
@[simp] theorem State.tally_evt (s : State) (b sl k : Nat) : (s.tally b sl k).evt = s.evt := by
  unfold State.tally; dsimp only; split <;> rfl
@[simp] theorem State.count_evt (s : State) (f : Fld) (n k i : Nat) : (s.count f n k i).evt = s.evt := by
  unfold State.count; dsimp only; split <;> simp

/-- A counter whose block has no tally bank is a register alone. -/
theorem State.count_plain (s : State) (f : Fld) (n k i : Nat) (h : tallyOffsets f.blk = []) :
    s.count f n k i = s.setFld f (satAdd f.w (s.fld f n i) k) n i := by
  simp only [State.count, State.tallySlot, h, List.findIdx?_nil]

/-- A tally touches a register only where a slot's OVF bit is set. -/
theorem State.rd_tally (s : State) (b sl k a : Nat) (h : a ≠ Blk.tal.addr b (0x120 + 4 * (sl / 32))) : (s.tally b sl k).rd a = s.rd a := by
  simp only [State.tally]
  split
  · rfl
  · exact State.rd_wr_ne _ _ h

/-- The pages of the tally block, which alone a tally may write. -/
theorem State.rd_tally_page (s : State) (b sl k a : Nat) (hs : sl < 4096) (hb : b < 256) (h : a / 0x1000 < Blk.tal.page ∨ Blk.tal.page + 256 ≤ a / 0x1000) :
    (s.tally b sl k).rd a = s.rd a := by
  apply State.rd_tally
  simp only [Blk.addr]
  generalize Blk.tal.page = p at h ⊢
  omega

end Sys2Proof.Machine
end

