-- ==== Sys2Proof/Laws/Fixed.lean ====
section
/-!
SUPPORT. The command queue, the fuses and the boot flash are left alone by all but a few commands: the view of the state that holds
them, and the lemmas by which an operation is shown to leave it alone.
-/
namespace Sys2Proof.Machine

/-- The command queue, the fuses and the boot flash: state that only the fuse and flash commands' ends change. -/
def State.fixed (s : State) : List Instr × SMap KeySlot × SMap Nat × List (Nat × Byte) :=
  (s.pending, s.sec.slots, s.sec.svnMin, s.sec.flash)

/-- The fixed part of the state that an outcome goes on to. -/
def outFixed : Out → Option (List Instr × SMap KeySlot × SMap Nat × List (Nat × Byte))
  | .next t => some t.fixed
  | _ => none

theorem outFixed_next (t : State) : outFixed (.next t) = some t.fixed := rfl

theorem State.fixed_mk (s : State) (x1 x2 x3 x4 x5 x6 x7 x9 x10 x11 x12 x13 x14 x15 x16 x17 x18 x19 x20 x21 x22 x23 x24 x25 x26) :
    State.fixed { pending := s.pending, out := x1, clk := x2, free := x3, time := x4, regs := x5, kst := x6, pwr := x7, sec := s.sec, rfa := x9, tap := x10, tal := x11, lnk := x12, srd := x13, prbs := x14, til := x15, hpt := x16, spn := x17, ended := x18, fwd := x19, rou := x20, sch := x21, via := x22, eng := x23, ep := x24, coll := x25, evt := x26 } = s.fixed := rfl

/-- The fixed part of the state that comes second in a pair. -/
abbrev fixed2 {α : Type} (p : α × State) : List Instr × SMap KeySlot × SMap Nat × List (Nat × Byte) := p.2.fixed

/-- The fixed part of the state that comes third in a triple. -/
abbrev fixed3 {α β : Type} (p : α × β × State) : List Instr × SMap KeySlot × SMap Nat × List (Nat × Byte) := p.2.2.fixed

theorem outFixed_of {t : State} {k} (h : t.fixed = k) : outFixed (.next t) = some k := congrArg some h

theorem view_ite {β K : Type} {F : β → K} {c : Prop} [Decidable c] {a b : β} {k : K} (h : F a = k) (h' : F b = k) :
    F (if c then a else b) = k := by split <;> assumption

theorem view_elim {α β K : Type} {F : β → K} {o : Option α} {a : β} {f : α → β} {k : K} (h : F a = k) (h' : ∀ x, F (f x) = k) :
    F (o.elim a f) = k := by cases o <;> simp_all

theorem fixed_ite_s (c : Prop) [Decidable c] (a b : State) : (if c then a else b).fixed = if c then a.fixed else b.fixed := by
  split <;> rfl

theorem fixed2_ite_s {α : Type} (c : Prop) [Decidable c] (a b : α × State) :
    (if c then a else b).2.fixed = if c then a.2.fixed else b.2.fixed := by split <;> rfl

theorem fixed3_ite_s {α β : Type} (c : Prop) [Decidable c] (a b : α × β × State) :
    (if c then a else b).2.2.fixed = if c then a.2.2.fixed else b.2.2.fixed := by split <;> rfl

theorem outFixed_ite_s (c : Prop) [Decidable c] (a b : Out) : outFixed (if c then a else b) = if c then outFixed a else outFixed b := by
  split <;> rfl

theorem fixed_elim_s {α : Type} (o : Option α) (a : State) (f : α → State) :
    (o.elim a f).fixed = o.elim a.fixed (fun x => (f x).fixed) := by cases o <;> rfl

theorem outFixed_elim_s {α : Type} (o : Option α) (a : Out) (f : α → Out) :
    outFixed (o.elim a f) = o.elim (outFixed a) (fun x => outFixed (f x)) := by cases o <;> rfl

theorem elim_same {α β : Type} (o : Option α) (b : β) : o.elim b (fun _ => b) = b := by cases o <;> rfl

theorem view_pair {α : Type} {P : Prop} {p : α × State} {a : α} {t : State} {k} (h : p = (a, t)) (h1 : p.2.fixed = k)
    (h2 : t.fixed = k → P) : P := h2 (by rw [← h1, h])

theorem view_triple {α β : Type} {P : Prop} {p : α × β × State} {a : α} {b : β} {t : State} {k} (h : p = (a, b, t)) (h1 : p.2.2.fixed = k)
    (h2 : t.fixed = k → P) : P := h2 (by rw [← h1, h])

/-- The state that an outcome with a state goes on to, where there is one, has this fixed part. -/
def optFixed (o : Option State) (k : List Instr × SMap KeySlot × SMap Nat × List (Nat × Byte)) : Prop := ∀ t, o = some t → t.fixed = k

/-- The same of an outcome with a value and a state. -/
def optFixed2 {α : Type} (o : Option (α × State)) (k : List Instr × SMap KeySlot × SMap Nat × List (Nat × Byte)) : Prop :=
  ∀ t, o = some t → t.2.fixed = k

theorem optFixed_none (k) : optFixed none k := fun _ h => nomatch h
theorem optFixed_some {t : State} {k} (h : t.fixed = k) : optFixed (some t) k := fun _ e => Option.some.inj e ▸ h
theorem optFixed2_none {α : Type} (k) : optFixed2 (none : Option (α × State)) k := fun _ h => nomatch h
theorem optFixed2_some {α : Type} {t : α × State} {k} (h : t.2.fixed = k) : optFixed2 (some t) k := fun _ e => Option.some.inj e ▸ h

theorem snd_fixed_of {α : Type} {p : α × State} {a : α} {t : State} {k} (h : p = (a, t)) (h1 : p.2.fixed = k) : t.fixed = k := by
  rw [← h1, h]

theorem foldl_fixed {α : Type} (g : State → α → State) (h : ∀ s x, (g s x).fixed = s.fixed) (l : List α) (s : State) :
    (l.foldl g s).fixed = s.fixed := by
  induction l generalizing s with
  | nil => rfl
  | cons x l ih => exact (ih _).trans (h s x)

theorem foldl_fixed2 {α β : Type} (g : β × State → α → β × State) (h : ∀ p x, (g p x).2.fixed = p.2.fixed) (l : List α)
    (p : β × State) : (l.foldl g p).2.fixed = p.2.fixed := by
  induction l generalizing p with
  | nil => rfl
  | cons x l ih => exact (ih _).trans (h p x)

theorem foldl_fixed3 {α β γ : Type} (g : β × γ × State → α → β × γ × State) (h : ∀ p x, (g p x).2.2.fixed = p.2.2.fixed) (l : List α)
    (p : β × γ × State) : (l.foldl g p).2.2.fixed = p.2.2.fixed := by
  induction l generalizing p with
  | nil => rfl
  | cons x l ih => exact (ih _).trans (h p x)

theorem Out.state_fixed (s : State) (o : Out) (h : outFixed o = some s.fixed) : (Out.state s o).fixed = s.fixed := by
  cases o <;> simp_all [Out.state, outFixed]

theorem State.thenDo_fixed (s : State) (c : Bool) (f : State → Out) (h : outFixed (f s) = some s.fixed) : (s.thenDo c f).fixed = s.fixed := by
  unfold State.thenDo
  split
  · exact Out.state_fixed s _ h
  · rfl

theorem State.setSec_fixed (s : State) (c : Sec) (h1 : c.slots = s.sec.slots) (h2 : c.svnMin = s.sec.svnMin) (h3 : c.flash = s.sec.flash) :
    (s.setSec c).fixed = s.fixed := by
  simp only [State.fixed, State.setSec, h1, h2, h3]

end Sys2Proof.Machine
end

