-- ==== Sys2Proof/Laws/Fixed1.lean ====
section
/-!
SUPPORT. The operations and meanings of Machine/Ops.lean, Machine/Memory.lean, Machine/Queues.lean, Machine/Placement.lean, Machine/Routing.lean, Machine/Forward.lean
leave the queue, the fuses and the flash alone.
-/
namespace Sys2Proof.Machine

set_option linter.all false

/-! ## Machine/Ops.lean -/

theorem State.wr_fixed (s : State) (a : Nat) (v : W32) : (State.wr s a v).fixed = s.fixed := (Eq.refl _).trans rfl

theorem State.wrShadow_fixed (s : State) (a : Nat) (v : W32) : (State.wrShadow s a v).fixed = s.fixed := (Eq.refl _).trans rfl

theorem State.setFld_fixed (s : State) (f : Fld) (v : Nat) (n : optParam Nat 0) (i : optParam Nat 0) : (State.setFld s f v n i).fixed = s.fixed := by simp only [State.setFld, State.wr_fixed, fixed_ite_s, ite_self]

theorem State.setHdr_fixed (s : State) (b : Blk) (n : Nat) (f : HFld) (v : Nat) : (State.setHdr s b n f v).fixed = s.fixed := by simp only [State.setHdr, State.wr_fixed]

theorem State.wr64_fixed (s : State) (a : Nat) (v : W64) : (State.wr64 s a v).fixed = s.fixed := by simp only [State.wr64, State.wr_fixed]

theorem State.takeFree_fixed (s : State) : (State.takeFree s).2.fixed = s.fixed := (Eq.refl _).trans rfl

theorem State.emit_fixed (s : State) (e : Emit) : (State.emit s e).fixed = s.fixed := (Eq.refl _).trans rfl

theorem State.tally_fixed (s : State) (bank : Nat) (slot : Nat) (k : Nat) : (State.tally s bank slot k).fixed = s.fixed := by simp only [State.tally, State.fixed_mk, State.wr_fixed, fixed_ite_s, ite_self]

theorem State.count_fixed (s : State) (f : Fld) (n : Nat) (k : optParam Nat 1) (i : optParam Nat 0) : (State.count s f n k i).fixed = s.fixed := by
  unfold State.count
  repeat' (first | with_reducible rfl | (simp only [*, State.fixed_mk, State.setFld_fixed, State.tally_fixed]; done) | (split <;> (try (rename_i h; have h2 := congrArg (fun p => State.fixed (Prod.snd p)) h; simp only [State.fixed_mk, State.setFld_fixed, State.tally_fixed] at h2))) | (simp only [State.fixed_mk, State.setFld_fixed, State.tally_fixed]; fail_if_success done) | (simp only [*, State.fixed_mk, State.setFld_fixed, State.tally_fixed]; fail_if_success done) | intro _)

theorem State.setArmed_fixed (s : State) (f : Fld) (n : Nat) (on : Bool) : (State.setArmed s f n on).fixed = s.fixed := (Eq.refl _).trans rfl

theorem State.setRec_fixed (s : State) (c : Nat) (r : KRec) : (State.setRec s c r).fixed = s.fixed := (Eq.refl _).trans rfl

theorem State.setEvt_fixed (s : State) (hart : Nat) (bit : Nat) : (State.setEvt s hart bit).fixed = s.fixed := (Eq.refl _).trans rfl

theorem State.notifyRec_fixed (s : State) (c : Nat) : (State.notifyRec s c).fixed = s.fixed := by simp only [State.notifyRec, State.fixed_mk, State.setEvt_fixed, fixed_ite_s, ite_self]

theorem State.startReaction_fixed (s : State) (c : Nat) : (State.startReaction s c).fixed = s.fixed := by
  unfold State.startReaction
  repeat' first | rfl | split

theorem State.writeRec_fixed (s : State) (r : KRec) (timer : Bool) : (State.writeRec s r timer).fixed = s.fixed := by simp only [State.writeRec, State.count_fixed, State.notifyRec_fixed, State.setFld_fixed, State.setRec_fixed, State.startReaction_fixed, fixed_ite_s, ite_self]

theorem State.mergeRec_fixed (s : State) (c : Nat) (kind : Nat) (sev : Nat) (detail : W64) (timer : Bool) : (State.mergeRec s c kind sev detail timer).fixed = s.fixed := by simp only [State.mergeRec, State.count_fixed, State.setRec_fixed, State.startReaction_fixed, fixed_ite_s, ite_self]

theorem State.retireOldest_fixed (s : State) : (State.retireOldest s).fixed = s.fixed := by simp only [State.retireOldest, State.setFld_fixed]

theorem State.logOverflow_fixed (s : State) (timer : Bool) : (State.logOverflow s timer).fixed = s.fixed := by simp only [State.logOverflow, State.count_fixed, State.mergeRec_fixed, State.setRec_fixed, State.writeRec_fixed, elim_same, fixed_elim_s, fixed_ite_s, ite_self]

theorem State.pend_fixed (s : State) (src : Nat) (kind : Nat) : (State.pend s src kind).fixed = s.fixed := by
  unfold State.pend
  split <;> simp only [State.wr_fixed]

theorem State.keyEvent_fixed (s : State) (src : Nat) (kind : Nat) (sev : Nat) (detail : W64) (timer : Bool) : (State.keyEvent s src kind sev detail timer).fixed = s.fixed := by simp only [State.keyEvent, State.count_fixed, State.logOverflow_fixed, State.mergeRec_fixed, State.pend_fixed, State.retireOldest_fixed, State.writeRec_fixed, elim_same, fixed_elim_s, fixed_ite_s, ite_self]

theorem State.setLink_fixed (s : State) (l : Nat) (k : Link) : (State.setLink s l k).fixed = s.fixed := (Eq.refl _).trans rfl

theorem State.setServo_fixed (s : State) (v : Servo) : (State.setServo s v).fixed = s.fixed := (Eq.refl _).trans rfl

theorem State.backToParent_fixed (s : State) : (State.backToParent s).fixed = s.fixed := by simp only [State.backToParent, State.setFld_fixed, State.setServo_fixed, fixed_ite_s, ite_self]

theorem State.enterHoldover_fixed (s : State) (timer : Bool) : (State.enterHoldover s timer).fixed = s.fixed := by simp only [State.enterHoldover, State.keyEvent_fixed, State.setFld_fixed, State.setServo_fixed, fixed_ite_s, ite_self]

theorem State.timeLinkDown_fixed (s : State) (l : Nat) (timer : Bool) : (State.timeLinkDown s l timer).fixed = s.fixed := by simp only [State.timeLinkDown, State.backToParent_fixed, State.enterHoldover_fixed, State.setServo_fixed, fixed_ite_s, ite_self]

theorem State.linkDownRegs_fixed (s : State) (l : Nat) (reason : Nat) (sev : Option Nat) (timer : Bool) : (State.linkDownRegs s l reason sev timer).fixed = s.fixed := by simp only [State.linkDownRegs, State.count_fixed, State.keyEvent_fixed, State.setFld_fixed, State.timeLinkDown_fixed]

theorem State.fenceLinks_fixed (s : State) (fence : Bool) : (State.fenceLinks s fence).fixed = s.fixed := by simp only [State.fenceLinks, State.linkDownRegs_fixed, State.setLink_fixed, foldl_fixed, implies_true]

theorem State.dropQueued_fixed (s : State) : (State.dropQueued s).fixed = s.fixed := (Eq.refl _).trans rfl

theorem State.stopAllHarts_fixed (s : State) : (State.stopAllHarts s).fixed = s.fixed := by simp only [State.stopAllHarts, State.setFld_fixed, foldl_fixed, implies_true]

theorem State.enterSafe_fixed (s : State) (cause : Nat) (detail : W64) (requestor : Nat) : (State.enterSafe s cause detail requestor).fixed = s.fixed := by simp only [State.enterSafe, State.dropQueued_fixed, State.fenceLinks_fixed, State.keyEvent_fixed, State.setFld_fixed, State.stopAllHarts_fixed, fixed_ite_s, ite_self]

theorem State.raiseSev_fixed (s : State) (src : Nat) (kind : Nat) (sev : Nat) (detail : W64) : (State.raiseSev s src kind sev detail).fixed = s.fixed := by
  unfold State.raiseSev
  extract_lets running s1
  have h : s1.fixed = s.fixed := State.keyEvent_fixed ..
  clear_value s1
  rw [fixed_ite_s, State.enterSafe_fixed, State.fixed_mk, ite_self, h]

theorem State.raise_fixed (s : State) (src : Nat) (kind : Nat) (detail : Nat) : (State.raise s src kind detail).fixed = s.fixed := by simp only [State.raise, State.raiseSev_fixed]

theorem State.setDom_fixed (s : State) (d : Nat) (x : Dom) : (State.setDom s d x).fixed = s.fixed := by simp only [State.setDom, State.fixed_mk, State.setFld_fixed]

theorem State.wakeOne_fixed (s : State) (d : Nat) : (State.wakeOne s d).fixed = s.fixed := by
  unfold State.wakeOne
  repeat' split
  all_goals simp only [State.setDom_fixed]

theorem State.wake_fixed (s : State) (d : Nat) : (State.wake s d).fixed = s.fixed := by simp only [State.wake, State.fixed_mk, State.wakeOne_fixed, fixed_ite_s, ite_self]

theorem State.wakePage_fixed (s : State) (p : Nat) : (State.wakePage s p).fixed = s.fixed := by
  unfold State.wakePage
  split <;> simp only [State.wake_fixed]

theorem State.freshParity_fixed (s : State) (page : Nat) (part : Nat) : (State.freshParity s page part).fixed = s.fixed := (Eq.refl _).trans rfl

theorem State.commitRequest_fixed (s : State) (page : Nat) : (State.commitRequest s page).fixed = s.fixed := by simp only [State.commitRequest, State.fixed_mk, State.freshParity_fixed]

theorem State.dropPend_fixed (s : State) (page : Nat) : (State.dropPend s page).fixed = s.fixed := (Eq.refl _).trans rfl

theorem State.bumpSeq_fixed (s : State) (page : Nat) : (State.bumpSeq s page).fixed = s.fixed := by simp only [State.bumpSeq, State.wr_fixed]

theorem State.freshActive_fixed (s : State) (page : Nat) : (State.freshActive s page).fixed = s.fixed := (Eq.refl _).trans rfl

theorem State.applyVals_fixed (s : State) (page : Nat) : (State.applyVals s page).fixed = s.fixed := by
  unfold State.applyVals
  split <;> simp only [State.dropPend_fixed, State.freshActive_fixed, State.wr_fixed, foldl_fixed, implies_true]

theorem State.noteSwap_fixed (s : State) (t : Nat) : (State.noteSwap s t).fixed = s.fixed := by
  unfold State.noteSwap; split <;> rfl

theorem State.applyPend_fixed (s : State) (page : Nat) : (State.applyPend s page).fixed = s.fixed := by simp only [State.applyPend, State.applyVals_fixed, State.bumpSeq_fixed, fixed_ite_s, ite_self]

/-! ## Machine/Memory.lean -/

theorem State.setEng_fixed (s : State) (e : Eng) : (State.setEng s e).fixed = s.fixed := (Eq.refl _).trans rfl

theorem State.hbmPut_fixed (s : State) (a : Nat) (d : List Byte) : (State.hbmPut s a d).fixed = s.fixed := by simp only [State.hbmPut, State.setEng_fixed]

theorem State.setPoison_fixed (s : State) (line : Nat) (on : Bool) : (State.setPoison s line on).fixed = s.fixed := by simp only [State.setPoison, State.setEng_fixed]

theorem State.hbmWake_fixed (s : State) (n : Nat) : (State.hbmWake s n).fixed = s.fixed := by simp only [State.hbmWake, State.fixed_mk, State.setFld_fixed, fixed_ite_s, ite_self]

theorem State.hbmRead_fixed (s : State) (line : Nat) : (State.hbmRead s line).2.fixed = s.fixed := by simp only [State.hbmRead, State.count_fixed, State.hbmWake_fixed, State.raise_fixed, State.setArmed_fixed, State.setFld_fixed, State.setPoison_fixed, fixed_ite_s, ite_self]

theorem State.hbmWrite_fixed (s : State) (line : Nat) (d : List Byte) (poison : Bool) : (State.hbmWrite s line d poison).fixed = s.fixed := by simp only [State.hbmWrite, State.hbmPut_fixed, State.hbmWake_fixed, State.setPoison_fixed]

theorem State.poisonRead_fixed (s : State) (line : Nat) (who : Nat) : (State.poisonRead s line who).fixed = s.fixed := by simp only [State.poisonRead, State.count_fixed, State.raise_fixed]

theorem State.setL2_fixed (s : State) (c : Nat) (line : Nat) (l : L2Line) : (State.setL2 s c line l).fixed = s.fixed := by simp only [State.setL2, State.setEng_fixed]

theorem State.putHart_fixed (s : State) (h : Nat) (x : Hart) : (State.putHart s h x).fixed = s.fixed := by simp only [State.putHart, State.setEng_fixed]

theorem State.setHart_fixed (s : State) (h : Nat) (x : Hart) : (State.setHart s h x).fixed = s.fixed := by simp only [State.setHart, State.putHart_fixed, State.tally_fixed, fixed_ite_s, ite_self]

theorem State.dropResv_fixed (s : State) (c : Nat) (line : Nat) : (State.dropResv s c line).fixed = s.fixed := by simp only [State.dropResv, State.setHart_fixed, foldl_fixed, implies_true]

theorem State.endDefer_fixed (s : State) (c : Nat) (line : Nat) : (State.endDefer s c line).fixed = s.fixed := by simp only [State.endDefer, State.setHart_fixed, foldl_fixed, implies_true]

theorem State.sfFill_fixed (s : State) (c : Nat) (line : Nat) (way : Nat) : (State.sfFill s c line way).fixed = s.fixed := by simp only [State.sfFill, State.setEng_fixed]

theorem State.sfClear_fixed (s : State) (c : Nat) (line : Nat) : (State.sfClear s c line).fixed = s.fixed := by simp only [State.sfClear, State.setEng_fixed]

theorem State.send_fixed (s : State) (m : CMsg) : (State.send s m).fixed = s.fixed := by simp only [State.send, State.setEng_fixed]

theorem State.showTrackers_fixed (s : State) (h : Nat) : (State.showTrackers s h).fixed = s.fixed := by simp only [State.showTrackers, State.setFld_fixed]

theorem State.finishTx_fixed (s : State) (line : Nat) (t : CTx) : (State.finishTx s line t).fixed = s.fixed := by
  unfold State.finishTx
  repeat' split
  all_goals simp only [State.hbmRead_fixed, State.hbmWrite_fixed, State.poisonRead_fixed, State.send_fixed, State.setEng_fixed, State.sfClear_fixed, fixed_ite_s, ite_self]

theorem State.startAsk_fixed (s : State) (line : Nat) (a : CAsk) : (State.startAsk s line a).fixed = s.fixed := by simp only [State.startAsk, State.count_fixed, State.finishTx_fixed, State.raise_fixed, State.send_fixed, State.setArmed_fixed, State.setEng_fixed, fixed_ite_s, foldl_fixed, implies_true, ite_self]

theorem State.nextAskN_fixed (s : State) (line : Nat) (a0 : Nat) : (State.nextAskN s line a0).fixed = s.fixed := by
  induction a0 generalizing s line with
  | zero => unfold State.nextAskN; repeat' (first | with_reducible rfl | (simp only [*, State.fixed_mk, State.setEng_fixed, State.startAsk_fixed]; done) | (split <;> (try (rename_i h; have h2 := congrArg (fun p => State.fixed (Prod.snd p)) h; simp only [State.fixed_mk, State.setEng_fixed, State.startAsk_fixed] at h2))))
  | succ _ ih => unfold State.nextAskN; repeat' (first | with_reducible rfl | (simp only [*, State.fixed_mk, State.setEng_fixed, State.startAsk_fixed]; done) | (split <;> (try (rename_i h; have h2 := congrArg (fun p => State.fixed (Prod.snd p)) h; simp only [State.fixed_mk, State.setEng_fixed, State.startAsk_fixed] at h2))))

theorem State.ask_fixed (s : State) (line : Nat) (a : CAsk) : (State.ask s line a).fixed = s.fixed := by simp only [State.ask, State.nextAskN_fixed, State.setEng_fixed, State.showTrackers_fixed]

theorem State.takeProbe_fixed (s : State) (m : CMsg) : (State.takeProbe s m).fixed = s.fixed := by simp only [State.takeProbe, State.dropResv_fixed, State.send_fixed, State.setL2_fixed, fixed_ite_s, ite_self]

theorem State.takeAnswer_fixed (s : State) (m : CMsg) : (State.takeAnswer s m).fixed = s.fixed := by
  unfold State.takeAnswer
  repeat' (first | with_reducible rfl | (simp only [*, State.fixed_mk, State.count_fixed, State.finishTx_fixed, State.nextAskN_fixed, State.setEng_fixed, State.sfClear_fixed, State.showTrackers_fixed, fixed_ite_s, ite_self]; done) | (split <;> (try (rename_i h; have h2 := congrArg (fun p => State.fixed (Prod.snd p)) h; simp only [State.fixed_mk, State.count_fixed, State.finishTx_fixed, State.nextAskN_fixed, State.setEng_fixed, State.sfClear_fixed, State.showTrackers_fixed, fixed_ite_s, ite_self] at h2))) | (simp only [State.fixed_mk, State.count_fixed, State.finishTx_fixed, State.nextAskN_fixed, State.setEng_fixed, State.sfClear_fixed, State.showTrackers_fixed, fixed_ite_s, ite_self]; fail_if_success done) | (simp only [*, State.fixed_mk, State.count_fixed, State.finishTx_fixed, State.nextAskN_fixed, State.setEng_fixed, State.sfClear_fixed, State.showTrackers_fixed, fixed_ite_s, ite_self]; fail_if_success done) | intro _)

theorem State.takeFill_fixed (s : State) (m : CMsg) : (State.takeFill s m).fixed = s.fixed := by simp only [State.takeFill, State.setEng_fixed, State.setL2_fixed, State.sfFill_fixed, fixed_ite_s, ite_self]

theorem State.deliverMsg_fixed (s : State) (k : CCode) (agent : Nat) (line : Nat) : (State.deliverMsg s k agent line).fixed = s.fixed := by
  unfold State.deliverMsg
  repeat' split
  all_goals simp only [State.setEng_fixed, State.takeAnswer_fixed, State.takeFill_fixed, State.takeProbe_fixed, fixed_ite_s, ite_self]

theorem State.settleLine_fixed (s : State) (line : Nat) (a0 : Nat) : (State.settleLine s line a0).fixed = s.fixed := by
  induction a0 generalizing s line with
  | zero => unfold State.settleLine; repeat' (first | with_reducible rfl | (simp only [*, State.fixed_mk, State.deliverMsg_fixed, State.endDefer_fixed]; done) | (split <;> (try (rename_i h; have h2 := congrArg (fun p => State.fixed (Prod.snd p)) h; simp only [State.fixed_mk, State.deliverMsg_fixed, State.endDefer_fixed] at h2))))
  | succ _ ih => unfold State.settleLine; repeat' (first | with_reducible rfl | (simp only [*, State.fixed_mk, State.deliverMsg_fixed, State.endDefer_fixed]; done) | (split <;> (try (rename_i h; have h2 := congrArg (fun p => State.fixed (Prod.snd p)) h; simp only [State.fixed_mk, State.deliverMsg_fixed, State.endDefer_fixed] at h2))))

theorem State.runAsk_fixed (s : State) (line : Nat) (a : CAsk) : (State.runAsk s line a).fixed = s.fixed := by simp only [State.runAsk, State.ask_fixed, State.settleLine_fixed]

theorem State.ioReadLine_fixed (s : State) (line : Nat) : (State.ioReadLine s line).2.fixed = s.fixed := by simp only [State.ioReadLine, State.runAsk_fixed, State.setEng_fixed, State.settleLine_fixed]

theorem State.memRead_fixed (s : State) (a : Nat) (len : Nat) : (State.memRead s a len).2.fixed = s.fixed := by simp only [State.memRead, State.ioReadLine_fixed, foldl_fixed3, implies_true]

theorem State.memWrite_fixed (s : State) (a : Nat) (d : List Byte) : (State.memWrite s a d).fixed = s.fixed := by simp only [State.memWrite, State.runAsk_fixed, State.settleLine_fixed, foldl_fixed, implies_true]

theorem State.chooseWay_fixed (s : State) (c : Nat) (line : Nat) : (State.chooseWay s c line).2.fixed = s.fixed := by
  unfold State.chooseWay
  repeat' (first | with_reducible rfl | (simp only [*, State.fixed_mk, State.dropResv_fixed, State.runAsk_fixed, State.setEng_fixed, State.setL2_fixed, State.takeFree_fixed, fixed2_ite_s, ite_self]; done) | (split <;> (try (rename_i h; have h2 := congrArg (fun p => State.fixed (Prod.snd p)) h; simp only [State.fixed_mk, State.dropResv_fixed, State.runAsk_fixed, State.setEng_fixed, State.setL2_fixed, State.takeFree_fixed, fixed2_ite_s, ite_self] at h2))) | (simp only [State.fixed_mk, State.dropResv_fixed, State.runAsk_fixed, State.setEng_fixed, State.setL2_fixed, State.takeFree_fixed, fixed2_ite_s, ite_self]; fail_if_success done) | (simp only [*, State.fixed_mk, State.dropResv_fixed, State.runAsk_fixed, State.setEng_fixed, State.setL2_fixed, State.takeFree_fixed, fixed2_ite_s, ite_self]; fail_if_success done) | intro _)

theorem State.l2Get_fixed (s : State) (c : Nat) (line : Nat) (excl : Bool) : (State.l2Get s c line excl).fixed = s.fixed := by
  unfold State.l2Get
  repeat' (first | with_reducible rfl | (simp only [*, State.fixed_mk, State.chooseWay_fixed, State.runAsk_fixed, State.setL2_fixed, State.settleLine_fixed]; done) | (split <;> (try (rename_i h; have h2 := congrArg (fun p => State.fixed (Prod.snd p)) h; simp only [State.fixed_mk, State.chooseWay_fixed, State.runAsk_fixed, State.setL2_fixed, State.settleLine_fixed] at h2))) | (simp only [State.fixed_mk, State.chooseWay_fixed, State.runAsk_fixed, State.setL2_fixed, State.settleLine_fixed]; fail_if_success done) | (simp only [*, State.fixed_mk, State.chooseWay_fixed, State.runAsk_fixed, State.setL2_fixed, State.settleLine_fixed]; fail_if_success done) | intro _)

theorem State.l2Read_fixed (s : State) (c : Nat) (a : Nat) (len : Nat) : (State.l2Read s c a len).2.fixed = s.fixed := by simp only [State.l2Read, State.l2Get_fixed, State.poisonRead_fixed, fixed_ite_s, ite_self]

theorem State.l2Write_fixed (s : State) (c : Nat) (a : Nat) (d : List Byte) : (State.l2Write s c a d).fixed = s.fixed := by simp only [State.l2Write, State.l2Get_fixed, State.setL2_fixed]

theorem State.askFetch_fixed (s : State) (c : Nat) (line : Nat) (excl : Bool) : (State.askFetch s c line excl).fixed = s.fixed := by simp only [State.askFetch, State.ask_fixed, State.chooseWay_fixed, State.setL2_fixed, fixed_ite_s, ite_self]

theorem execFetchSh_fixed (c : Fin 32) (line : Fin hbmLines) (s : State) : outFixed (execFetchSh c line s) = some s.fixed := by simp only [execFetchSh, outFixed_next, State.askFetch_fixed]

theorem execFetchEx_fixed (c : Fin 32) (line : Fin hbmLines) (s : State) : outFixed (execFetchEx c line s) = some s.fixed := by simp only [execFetchEx, outFixed_next, State.askFetch_fixed]

theorem execPromote_fixed (c : Fin 32) (line : Fin hbmLines) (s : State) : outFixed (execPromote c line s) = some s.fixed := by simp only [execPromote, outFixed_next, State.ask_fixed, ite_self, outFixed_ite_s]

theorem execRetire_fixed (c : Fin 32) (line : Fin hbmLines) (s : State) : outFixed (execRetire c line s) = some s.fixed := by simp only [execRetire, outFixed_next, State.ask_fixed, State.dropResv_fixed, State.setL2_fixed, ite_self, outFixed_ite_s]

theorem execIoRead_fixed (p : Fin 64) (line : Fin hbmLines) (s : State) : outFixed (execIoRead p line s) = some s.fixed := by simp only [execIoRead, outFixed_next, State.ask_fixed]

theorem execIoWrite_fixed (p : Fin 64) (line : Fin hbmLines) (off : Fin 64) (data : List Byte) (s : State) : outFixed (execIoWrite p line off data s) = some s.fixed := by simp only [execIoWrite, outFixed_next, State.ask_fixed]

theorem execProbeSh_fixed (c : Fin 32) (line : Fin hbmLines) (s : State) : outFixed (execProbeSh c line s) = some s.fixed := by simp only [execProbeSh, outFixed_next, State.deliverMsg_fixed]

theorem execProbeEx_fixed (c : Fin 32) (line : Fin hbmLines) (s : State) : outFixed (execProbeEx c line s) = some s.fixed := by simp only [execProbeEx, outFixed_next, State.deliverMsg_fixed]

theorem execProbeKill_fixed (c : Fin 32) (line : Fin hbmLines) (s : State) : outFixed (execProbeKill c line s) = some s.fixed := by simp only [execProbeKill, outFixed_next, State.deliverMsg_fixed]

theorem execFill_fixed (agent : Fin 96) (line : Fin hbmLines) (s : State) : outFixed (execFill agent line s) = some s.fixed := by simp only [execFill, outFixed_next, State.deliverMsg_fixed]

theorem execGrant_fixed (agent : Fin 96) (line : Fin hbmLines) (s : State) : outFixed (execGrant agent line s) = some s.fixed := by simp only [execGrant, outFixed_next, State.deliverMsg_fixed]

theorem execNone_fixed (c : Fin 32) (line : Fin hbmLines) (s : State) : outFixed (execNone c line s) = some s.fixed := by simp only [execNone, outFixed_next, State.deliverMsg_fixed]

theorem execProbeAck_fixed (c : Fin 32) (line : Fin hbmLines) (s : State) : outFixed (execProbeAck c line s) = some s.fixed := by simp only [execProbeAck, outFixed_next, State.deliverMsg_fixed]

theorem execClean_fixed (c : Fin 32) (line : Fin hbmLines) (s : State) : outFixed (execClean c line s) = some s.fixed := by simp only [execClean, outFixed_next, State.deliverMsg_fixed]

theorem execDirty_fixed (c : Fin 32) (line : Fin hbmLines) (s : State) : outFixed (execDirty c line s) = some s.fixed := by simp only [execDirty, outFixed_next, State.deliverMsg_fixed]

theorem execReservationDeferEnd_fixed (h : Fin 4096) (s : State) : outFixed (execReservationDeferEnd h s) = some s.fixed := by
  unfold execReservationDeferEnd
  split <;> simp only [outFixed_next, State.setHart_fixed]

theorem State.killCopies_fixed (s : State) (line : Nat) : (State.killCopies s line).fixed = s.fixed := by simp only [State.killCopies, State.dropResv_fixed, State.setL2_fixed, State.settleLine_fixed, State.sfClear_fixed, fixed_ite_s, foldl_fixed, implies_true, ite_self]

theorem State.markPoison_fixed (s : State) (line : Nat) : (State.markPoison s line).fixed = s.fixed := by simp only [State.markPoison, State.count_fixed, State.killCopies_fixed, State.setPoison_fixed]

theorem execPoisonCtrlMark_fixed (h : Fin 8) (s : State) : outFixed (execPoisonCtrlMark h s) = some s.fixed := by simp only [execPoisonCtrlMark, outFixed_next, State.markPoison_fixed, State.setFld_fixed, elim_same, outFixed_elim_s]

theorem execPoisonCtrlClear_fixed (h : Fin 8) (s : State) : outFixed (execPoisonCtrlClear h s) = some s.fixed := by simp only [execPoisonCtrlClear, outFixed_next, State.hbmWrite_fixed, State.killCopies_fixed, State.setFld_fixed, elim_same, outFixed_elim_s]

theorem execPoisonCtrlDone_fixed (h : Fin 8) (s : State) : outFixed (execPoisonCtrlDone h s) = some s.fixed := by simp only [execPoisonCtrlDone, outFixed_next, State.setFld_fixed]

theorem execHbmScrub_fixed (n : Fin 4) (line : Fin hbmLines) (s : State) : outFixed (execHbmScrub n line s) = some s.fixed := by simp only [execHbmScrub, outFixed_next, State.count_fixed, State.hbmRead_fixed, State.raise_fixed, State.setArmed_fixed, ite_self, outFixed_ite_s]

theorem execHomInjectSfEcc_fixed (h : Fin 8) (s : State) : outFixed (execHomInjectSfEcc h s) = some s.fixed := by simp only [execHomInjectSfEcc, outFixed_next, State.setArmed_fixed]

theorem execHbmInjectCorr_fixed (n : Fin 4) (s : State) : outFixed (execHbmInjectCorr n s) = some s.fixed := by simp only [execHbmInjectCorr, outFixed_next, State.setArmed_fixed]

theorem execHbmInjectUncorr_fixed (n : Fin 4) (s : State) : outFixed (execHbmInjectUncorr n s) = some s.fixed := by simp only [execHbmInjectUncorr, outFixed_next, State.setArmed_fixed]

/-! ## Machine/Queues.lean -/

theorem State.setStopped_fixed (s : State) (h : Nat) (on : Bool) : (State.setStopped s h on).fixed = s.fixed := by simp only [State.setStopped, State.setFld_fixed]

theorem State.showCluster_fixed (s : State) (c : Nat) : (State.showCluster s c).fixed = s.fixed := by simp only [State.showCluster, State.setFld_fixed]

theorem State.setQueue_fixed (s : State) (q : Nat) (x : HwQ) : (State.setQueue s q x).fixed = s.fixed := by simp only [State.setQueue, State.setEng_fixed]

theorem State.invoke_fixed (s : State) (h : Nat) : (State.invoke s h).fixed = s.fixed := by
  unfold State.invoke
  split <;> simp only [State.count_fixed, State.setHart_fixed, State.showCluster_fixed, fixed_ite_s, ite_self]

theorem State.wakeWaiters_fixed (s : State) (q : Nat) : (State.wakeWaiters s q).fixed = s.fixed := by
  unfold State.wakeWaiters
  repeat' (first | with_reducible rfl | (simp only [*, State.fixed_mk, State.setHart_fixed, State.showCluster_fixed, foldl_fixed]; done) | (split <;> (try (rename_i h; have h2 := congrArg (fun p => State.fixed (Prod.snd p)) h; simp only [State.fixed_mk, State.setHart_fixed, State.showCluster_fixed, foldl_fixed] at h2))) | (refine (foldl_fixed _ ?_ _ _).trans ?_) | (simp only [State.fixed_mk, State.setHart_fixed, State.showCluster_fixed, foldl_fixed]; fail_if_success done) | (simp only [*, State.fixed_mk, State.setHart_fixed, State.showCluster_fixed, foldl_fixed]; fail_if_success done) | intro _)

theorem State.wakeEvent_fixed (s : State) (h : Nat) : (State.wakeEvent s h).fixed = s.fixed := by
  unfold State.wakeEvent
  repeat' (first | with_reducible rfl | (simp only [*, State.fixed_mk, State.setHart_fixed, State.showCluster_fixed]; done) | (split <;> (try (rename_i h; have h2 := congrArg (fun p => State.fixed (Prod.snd p)) h; simp only [State.fixed_mk, State.setHart_fixed, State.showCluster_fixed] at h2))) | (simp only [State.fixed_mk, State.setHart_fixed, State.showCluster_fixed]; fail_if_success done) | (simp only [*, State.fixed_mk, State.setHart_fixed, State.showCluster_fixed]; fail_if_success done) | intro _)

theorem State.qAppend_fixed (s : State) (q : Nat) (e : List Byte) : (State.qAppend s q e).fixed = s.fixed := by simp only [State.qAppend, State.invoke_fixed, State.memWrite_fixed, State.setQueue_fixed, State.wakeWaiters_fixed, State.wake_fixed, fixed_ite_s, ite_self]

theorem State.devPush_fixed (s : State) (q : Nat) (e : List Byte) : (State.devPush s q e).2.fixed = s.fixed := by simp only [State.devPush, State.qAppend_fixed, fixed2_ite_s, ite_self]

theorem State.ptpPush_fixed (s : State) (q : Nat) (port : Nat) (stampNs : Nat) (frame : List Byte) : (State.ptpPush s q port stampNs frame).fixed = s.fixed := by simp only [State.ptpPush, State.count_fixed, State.memWrite_fixed, State.qAppend_fixed, State.raise_fixed, fixed_ite_s, ite_self]

theorem State.signal_fixed (s : State) (h : Nat) (bit : Nat) : (State.signal s h bit).fixed = s.fixed := by simp only [State.signal, State.setEvt_fixed, State.wakeEvent_fixed, State.wake_fixed, fixed_ite_s, ite_self]

/-! ## Machine/Placement.lean -/

theorem State.setEp_fixed (s : State) (e : Ep) : (State.setEp s e).fixed = s.fixed := (Eq.refl _).trans rfl

theorem State.setCtx_fixed (s : State) (c : Nat) (x : Ctx) : (State.setCtx s c x).fixed = s.fixed := by simp only [State.setCtx, State.setEp_fixed]

theorem State.setOp_fixed (s : State) (t : Nat) (o : Op) : (State.setOp s t o).fixed = s.fixed := by simp only [State.setOp, State.setEp_fixed]

theorem State.pickTie_fixed (s : State) (l : List Nat) : (State.pickTie s l).2.fixed = s.fixed := by
  unfold State.pickTie
  split <;> simp only [State.takeFree_fixed]

theorem State.freshId_fixed (s : State) (n : Nat) (used : Nat → Bool) : (State.freshId s n used).2.fixed = s.fixed := by simp only [State.freshId, State.takeFree_fixed]

theorem State.migrate_fixed (s : State) (c : Nat) (cl : Nat) : (State.migrate s c cl).fixed = s.fixed := by simp only [State.migrate, State.raise_fixed, State.setCtx_fixed]

theorem State.softMigrate_fixed (s : State) (c : Nat) (cl : Nat) : (State.softMigrate s c cl).fixed = s.fixed := by simp only [State.softMigrate, State.count_fixed, State.migrate_fixed, State.raise_fixed, State.setFld_fixed, fixed_ite_s, ite_self]

theorem State.autoMigrate_fixed (s : State) (c : Nat) (cl : Nat) : (State.autoMigrate s c cl).fixed = s.fixed := by simp only [State.autoMigrate, State.count_fixed, State.migrate_fixed, State.setEp_fixed, fixed_ite_s, ite_self]

theorem State.balance_fixed (s : State) : (State.balance s).fixed = s.fixed := by
  unfold State.balance
  repeat' (first | with_reducible rfl | (simp only [*, State.fixed_mk, State.autoMigrate_fixed, State.pickTie_fixed]; done) | (split <;> (try (rename_i h; have h2 := congrArg (fun p => State.fixed (Prod.snd p)) h; simp only [State.fixed_mk, State.autoMigrate_fixed, State.pickTie_fixed] at h2))) | (simp only [State.fixed_mk, State.autoMigrate_fixed, State.pickTie_fixed]; fail_if_success done) | (simp only [*, State.fixed_mk, State.autoMigrate_fixed, State.pickTie_fixed]; fail_if_success done) | intro _)

theorem State.consolidate_fixed (s : State) (cl : Nat) : (State.consolidate s cl).fixed = s.fixed := by
  unfold State.consolidate
  repeat' (first | with_reducible rfl | (simp only [*, State.fixed_mk, State.autoMigrate_fixed, State.pickTie_fixed]; done) | (split <;> (try (rename_i h; have h2 := congrArg (fun p => State.fixed (Prod.snd p)) h; simp only [State.fixed_mk, State.autoMigrate_fixed, State.pickTie_fixed] at h2))) | (simp only [State.fixed_mk, State.autoMigrate_fixed, State.pickTie_fixed]; fail_if_success done) | (simp only [*, State.fixed_mk, State.autoMigrate_fixed, State.pickTie_fixed]; fail_if_success done) | intro _)

theorem State.steer_fixed (s : State) (c : Nat) : (State.steer s c).fixed = s.fixed := by simp only [State.steer, State.migrate_fixed, State.raise_fixed, State.setArmed_fixed, fixed_ite_s, ite_self]

theorem State.firstSteer_fixed (s : State) (c : Nat) : (State.firstSteer s c).fixed = s.fixed := by simp only [State.firstSteer, State.setCtx_fixed, fixed_ite_s, ite_self]

theorem State.stageDecide_fixed (s : State) (c : Nat) (len : Nat) : (State.stageDecide s c len).2.fixed = s.fixed := by simp only [State.stageDecide, State.count_fixed, State.setEp_fixed, fixed_ite_s, ite_self]

theorem State.timeLow_fixed (s : State) (c v : Nat) : (State.timeLow s c v).fixed = s.fixed := by simp only [State.timeLow, State.setEp_fixed]

theorem execScoreSample_fixed (s : State) : outFixed (execScoreSample s) = some s.fixed := by simp only [execScoreSample, outFixed_next, State.timeLow_fixed, State.setFld_fixed, foldl_fixed, implies_true]

theorem execMigrationCheck_fixed (s : State) : outFixed (execMigrationCheck s) = some s.fixed := by simp only [execMigrationCheck, outFixed_next, State.balance_fixed, State.consolidate_fixed, fixed_ite_s, foldl_fixed, implies_true, ite_self, outFixed_ite_s]

theorem execMigrate_fixed (ctx : Fin 262144) (cluster : Fin 32) (s : State) : outFixed (execMigrate ctx cluster s) = some s.fixed := by simp only [execMigrate, outFixed_next, State.softMigrate_fixed, ite_self, outFixed_ite_s]

theorem execHintApply_fixed (ag : Agent) (ctx : Fin 262144) (hi : W32) (s : State) : outFixed (execHintApply ag ctx hi s) = some s.fixed := by simp only [execHintApply, outFixed_next, State.fixed_mk, State.softMigrate_fixed, State.wr_fixed, ite_self, outFixed_ite_s]

theorem execPlcInjectSteerEcc_fixed (s : State) : outFixed (execPlcInjectSteerEcc s) = some s.fixed := by simp only [execPlcInjectSteerEcc, outFixed_next, State.setArmed_fixed]

/-! ## Machine/Routing.lean -/

theorem State.setPkt_fixed (s : State) (id : Nat) (p : Pkt) : (State.setPkt s id p).fixed = s.fixed := (Eq.refl _).trans rfl

theorem State.addPkt_fixed (s : State) (p : Pkt) : (State.addPkt s p).2.fixed = s.fixed := (Eq.refl _).trans rfl

theorem State.setOutQ_fixed (s : State) (l : Nat) (tc : Nat) (vc : Nat) (q : List QEnt) : (State.setOutQ s l tc vc q).fixed = s.fixed := (Eq.refl _).trans rfl

theorem State.routeLookup_fixed (s : State) (dest : Nat) (pipe : Nat) : (State.routeLookup s dest pipe).fixed = s.fixed := by simp only [State.routeLookup, State.raise_fixed, State.setArmed_fixed, fixed_ite_s, ite_self]

theorem State.genStep_fixed (s : State) (p : Nat) : (State.genStep s p).2.fixed = s.fixed := (Eq.refl _).trans rfl

theorem State.pick2_fixed (s : State) (p : Nat) (set : List (Nat × Nat)) : (State.pick2 s p set).2.fixed = s.fixed := by
  unfold State.pick2
  repeat' (first | with_reducible rfl | (simp only [*, State.fixed_mk, State.genStep_fixed]; done) | (split <;> (try (rename_i h; have h2 := congrArg (fun p => State.fixed (Prod.snd p)) h; simp only [State.fixed_mk, State.genStep_fixed] at h2))))

theorem State.allFailed_fixed (s : State) (dest : Nat) (tag : Nat) : (State.allFailed s dest tag).fixed = s.fixed := by simp only [State.allFailed, State.fixed_mk, State.raise_fixed, fixed_ite_s, ite_self]

theorem State.chooseAmong_fixed (s : State) (pipe : Nat) (mins : List (Nat × Nat)) (vals : List (Nat × Nat)) : (State.chooseAmong s pipe mins vals).2.fixed = s.fixed := by simp only [State.chooseAmong, State.genStep_fixed, State.pick2_fixed, fixed2_ite_s, ite_self]

theorem State.choose_fixed (s : State) (dest : Nat) (tc : Nat) (pipe : Nat) (tag : Nat) : (State.choose s dest tc pipe tag).2.fixed = s.fixed := by simp only [State.choose, State.allFailed_fixed, State.chooseAmong_fixed, State.routeLookup_fixed, fixed2_ite_s, fixed_ite_s, ite_self]

theorem State.chooseFresh_fixed (s : State) (dest : Nat) (tc : Nat) (pipe : Nat) (tag : Nat) : (State.chooseFresh s dest tc pipe tag).2.fixed = s.fixed := by
  have e := State.choose_fixed s dest tc pipe tag
  unfold State.chooseFresh
  generalize s.choose dest tc pipe tag = p at e ⊢
  rcases p with ⟨c, s1⟩
  cases c with
  | none => exact e
  | some x =>
    dsimp only [Option.elim] at e ⊢
    split
    · exact e
    · exact e

theorem State.chooseFor_fixed (s : State) (dest : Nat) (tc : Nat) (pipe : Nat) (tag : Nat) : (State.chooseFor s dest tc pipe tag).2.fixed = s.fixed := by
  unfold State.chooseFor
  repeat' first | rfl | (simp only [State.chooseFresh_fixed, fixed2_ite_s, ite_self]; done) | split

theorem State.markFailed_fixed (s : State) (dest : Nat) (i : Nat) : (State.markFailed s dest i).fixed = s.fixed := by simp only [State.markFailed, State.fixed_mk, State.count_fixed, fixed_ite_s, ite_self]

theorem State.markMatching_fixed (s : State) (dest : Nat) (w : Nat) : (State.markMatching s dest w).fixed = s.fixed := by simp only [State.markMatching, State.markFailed_fixed, fixed_ite_s, foldl_fixed, implies_true, ite_self]

/-! ## Machine/Forward.lean -/

theorem State.queueByp_fixed (s : State) (l : Nat) (m : BitVec 62) : (State.queueByp s l m).fixed = s.fixed := by simp only [State.queueByp, State.setLink_fixed]

theorem State.raiseLimit_fixed (s : State) (l : Nat) (pool : Nat) (n : Nat) : (State.raiseLimit s l pool n).fixed = s.fixed := by simp only [State.raiseLimit, State.queueByp_fixed, State.setLink_fixed]

theorem State.freePkt_fixed (s : State) (id : Nat) : (State.freePkt s id).fixed = s.fixed := by
  unfold State.freePkt
  repeat' split
  all_goals simp only [State.fixed_mk, State.raiseLimit_fixed, fixed_ite_s, ite_self]

theorem State.copyDone_fixed (s : State) (id : Nat) : (State.copyDone s id).fixed = s.fixed := by
  unfold State.copyDone
  split <;> simp only [State.freePkt_fixed, State.setPkt_fixed, fixed_ite_s, ite_self]

theorem State.discardPkt_fixed (s : State) (id : Nat) : (State.discardPkt s id).fixed = s.fixed := by
  unfold State.discardPkt
  split <;> simp only [State.copyDone_fixed, State.setPkt_fixed, fixed_ite_s, ite_self]

theorem State.hopError_fixed (s : State) (pipe : Nat) (kind : Nat) (reason : Nat) (inLink : Option Nat) (hdr : List Byte) (cnt : Fld) : (State.hopError s pipe kind reason inLink hdr cnt).fixed = s.fixed := by simp only [State.hopError, State.count_fixed, State.raise_fixed]

theorem State.enqueue_fixed (s : State) (l : Nat) (pipe : Nat) (id : Nat) (hdr0 : List Byte) (hdr : List Byte) (crc : Option W32) : (State.enqueue s l pipe id hdr0 hdr crc).fixed = s.fixed := by simp only [State.enqueue, State.setLink_fixed, State.setOutQ_fixed, State.wake_fixed, fixed_ite_s, ite_self]

theorem State.queueHop_fixed (s : State) (pipe : Nat) (inLink : Option Nat) (id : Nat) (hdr : List Byte) (crc : Option W32) (t : State)
    (h : s.queueHop pipe inLink id hdr crc = .ok t) : t.fixed = s.fixed := by
  unfold State.queueHop at h
  extract_lets w dead route at h
  generalize route = r at h
  rcases r with - | ⟨w', bump, detoured⟩
  · simp only [reduceCtorEq] at h
  · dsimp only at h
    split at h
    · simp only [reduceCtorEq] at h
    · simp only [Except.ok.injEq] at h
      rw [← h, State.enqueue_fixed]
      simp only [fixed_ite_s, State.raise_fixed, State.count_fixed, ite_self]

theorem State.sendBuilt_fixed (s : State) (bytes : List Byte) (path : Nat) (pipe : Nat) : (State.sendBuilt s bytes path pipe).fixed = s.fixed := by
  unfold State.sendBuilt
  split
  · rfl
  extract_lets h b
  split
  rename_i id s1 h1
  have e1 : s1.fixed = s.fixed := snd_fixed_of h1 (State.addPkt_fixed ..)
  clear_value h b
  split
  · simp only [fixed_ite_s, State.wake_fixed, State.fixed_mk, ite_self, e1]
  · split
    · rename_i h2
      exact (State.queueHop_fixed _ _ _ _ _ _ _ h2).trans e1
    · exact (State.discardPkt_fixed ..).trans ((State.hopError_fixed ..).trans e1)
    · exact (State.discardPkt_fixed ..).trans ((State.hopError_fixed ..).trans e1)

theorem State.routeError_fixed (s : State) (pipe : Nat) (hdr : List Byte) (reason : Nat) : (State.routeError s pipe hdr reason).fixed = s.fixed := by
  unfold State.routeError
  repeat' (first | with_reducible rfl | (simp only [*, State.fixed_mk, State.count_fixed, State.sendBuilt_fixed, fixed_ite_s]; done) | (split <;> (try (rename_i h; have h2 := congrArg (fun p => State.fixed (Prod.snd p)) h; simp only [State.fixed_mk, State.count_fixed, State.sendBuilt_fixed, fixed_ite_s] at h2))) | (simp only [State.fixed_mk, State.count_fixed, State.sendBuilt_fixed, fixed_ite_s]; fail_if_success done) | (simp only [*, State.fixed_mk, State.count_fixed, State.sendBuilt_fixed, fixed_ite_s]; fail_if_success done) | intro _)

theorem State.failHop_fixed (s : State) (id : Nat) (pipe : Nat) (kind : Nat) (reason : Nat) (inLink : Option Nat) (hdr : List Byte) (cnt : Fld) : (State.failHop s id pipe kind reason inLink hdr cnt).fixed = s.fixed := by simp only [State.failHop, State.discardPkt_fixed, State.hopError_fixed, State.routeError_fixed]

theorem State.forwardPkt_fixed (s : State) (id : Nat) (pipe : Nat) (inLink : Option Nat) (hdr : List Byte) (crc : Option W32) : (State.forwardPkt s id pipe inLink hdr crc).fixed = s.fixed := by
  unfold State.forwardPkt
  split
  · rename_i h2
    exact State.queueHop_fixed _ _ _ _ _ _ _ h2
  · exact State.failHop_fixed ..
  · exact State.failHop_fixed ..

theorem State.police_fixed (s : State) (l : Nat) (hdr : List Byte) (len : Nat) : (State.police s l hdr len).2.fixed = s.fixed := by
  unfold State.police
  repeat' (first | with_reducible rfl | (simp only [*, State.fixed_mk, State.count_fixed, State.raise_fixed, State.setFld_fixed, State.tally_fixed, fixed2_ite_s, ite_self]; done) | (split <;> (try (rename_i h; have h2 := congrArg (fun p => State.fixed (Prod.snd p)) h; simp only [State.fixed_mk, State.count_fixed, State.raise_fixed, State.setFld_fixed, State.tally_fixed, fixed2_ite_s, ite_self] at h2))) | (simp only [State.fixed_mk, State.count_fixed, State.raise_fixed, State.setFld_fixed, State.tally_fixed, fixed2_ite_s, ite_self]; fail_if_success done) | (simp only [*, State.fixed_mk, State.count_fixed, State.raise_fixed, State.setFld_fixed, State.tally_fixed, fixed2_ite_s, ite_self]; fail_if_success done) | intro _)

theorem State.resolve_fixed (s : State) (id : Nat) (p : Pkt) : (State.resolve s id p).fixed = s.fixed := by
  unfold State.resolve
  extract_lets hdr fail
  have hf : ∀ a b c, (fail a b c).fixed = s.fixed := fun a b c => State.failHop_fixed ..
  clear_value fail hdr
  split
  · exact (State.discardPkt_fixed ..).trans ((State.raise_fixed ..).trans (State.count_fixed ..))
  split
  · exact hf ..
  split
  · exact hf ..
  split
  · exact hf ..
  split
  · exact State.setPkt_fixed ..
  split
  · exact State.setPkt_fixed ..
  · exact State.forwardPkt_fixed ..

theorem State.headerArrive_fixed (s : State) (l : Nat) : (State.headerArrive s l).fixed = s.fixed := by
  unfold State.headerArrive
  repeat' (first | with_reducible rfl | (simp only [*, State.fixed_mk, State.addPkt_fixed, State.discardPkt_fixed, State.police_fixed, State.resolve_fixed, State.setLink_fixed, State.setPkt_fixed]; done) | (split <;> (try (rename_i h; have h2 := congrArg (fun p => State.fixed (Prod.snd p)) h; simp only [State.fixed_mk, State.addPkt_fixed, State.discardPkt_fixed, State.police_fixed, State.resolve_fixed, State.setLink_fixed, State.setPkt_fixed] at h2))) | (simp only [State.fixed_mk, State.addPkt_fixed, State.discardPkt_fixed, State.police_fixed, State.resolve_fixed, State.setLink_fixed, State.setPkt_fixed]; fail_if_success done) | (simp only [*, State.fixed_mk, State.addPkt_fixed, State.discardPkt_fixed, State.police_fixed, State.resolve_fixed, State.setLink_fixed, State.setPkt_fixed]; fail_if_success done) | intro _)

theorem State.abortPkt_fixed (s : State) (id : Nat) (pipe : Nat) : (State.abortPkt s id pipe).fixed = s.fixed := by
  unfold State.abortPkt
  repeat' (first | with_reducible rfl | (simp only [*, State.fixed_mk, State.count_fixed, State.freePkt_fixed, State.setPkt_fixed, fixed_ite_s, ite_self]; done) | (split <;> (try (rename_i h; have h2 := congrArg (fun p => State.fixed (Prod.snd p)) h; simp only [State.fixed_mk, State.count_fixed, State.freePkt_fixed, State.setPkt_fixed, fixed_ite_s, ite_self] at h2))) | (simp only [State.fixed_mk, State.count_fixed, State.freePkt_fixed, State.setPkt_fixed, fixed_ite_s, ite_self]; fail_if_success done) | (simp only [*, State.fixed_mk, State.count_fixed, State.freePkt_fixed, State.setPkt_fixed, fixed_ite_s, ite_self]; fail_if_success done) | intro _)

theorem State.tallyOpcode_fixed (s : State) (hdr : List Byte) : (State.tallyOpcode s hdr).fixed = s.fixed := by simp only [State.tallyOpcode, State.tally_fixed]

theorem State.deliver_fixed (s : State) (id : Nat) (p : Pkt) : (State.deliver s id p).fixed = s.fixed := by simp only [State.deliver, State.fixed_mk, State.count_fixed, State.freePkt_fixed, State.raise_fixed, State.setArmed_fixed, State.tallyOpcode_fixed, State.wake_fixed, fixed_ite_s, ite_self]

theorem State.tailArrive_fixed (s : State) (l : Nat) : (State.tailArrive s l).fixed = s.fixed := by
  unfold State.tailArrive
  repeat' (first | with_reducible rfl | (simp only [*, State.fixed_mk, State.abortPkt_fixed, State.count_fixed, State.deliver_fixed, State.forwardPkt_fixed, State.freePkt_fixed, State.raise_fixed, State.setLink_fixed, State.setPkt_fixed, fixed_ite_s, ite_self]; done) | (split <;> (try (rename_i h; have h2 := congrArg (fun p => State.fixed (Prod.snd p)) h; simp only [State.fixed_mk, State.abortPkt_fixed, State.count_fixed, State.deliver_fixed, State.forwardPkt_fixed, State.freePkt_fixed, State.raise_fixed, State.setLink_fixed, State.setPkt_fixed, fixed_ite_s, ite_self] at h2))) | (simp only [State.fixed_mk, State.abortPkt_fixed, State.count_fixed, State.deliver_fixed, State.forwardPkt_fixed, State.freePkt_fixed, State.raise_fixed, State.setLink_fixed, State.setPkt_fixed, fixed_ite_s, ite_self]; fail_if_success done) | (simp only [*, State.fixed_mk, State.abortPkt_fixed, State.count_fixed, State.deliver_fixed, State.forwardPkt_fixed, State.freePkt_fixed, State.raise_fixed, State.setLink_fixed, State.setPkt_fixed, fixed_ite_s, ite_self]; fail_if_success done) | intro _)

theorem State.spillRecompute_fixed (s : State) : (State.spillRecompute s).fixed = s.fixed := by simp only [State.spillRecompute, State.raise_fixed, State.setFld_fixed, fixed_ite_s, foldl_fixed, implies_true, ite_self]

theorem State.setLane_fixed (s : State) (n : Nat) (code : Nat) : (State.setLane s n code).fixed = s.fixed := by simp only [State.setLane, State.setFld_fixed]

theorem State.takeQueued_fixed (s : State) (l : Nat) : (State.takeQueued s l).2.fixed = s.fixed := by simp only [State.takeQueued, State.setOutQ_fixed, foldl_fixed, implies_true]

theorem State.takeGated_fixed (s : State) (l : Nat) : (State.takeGated s l).2.fixed = s.fixed := (Eq.refl _).trans rfl

theorem State.dropPartial_fixed (s : State) (r : RxPkt) : (State.dropPartial s r).fixed = s.fixed := by
  unfold State.dropPartial
  repeat' split
  all_goals simp only [State.abortPkt_fixed, State.freePkt_fixed, State.setPkt_fixed]

theorem State.linkDown_fixed (s : State) (l : Nat) (reason : Nat) (sev : optParam (Option Nat) Option.none) (msgs : optParam (Option (List (BitVec 62))) Option.none) : (State.linkDown s l reason sev msgs).fixed = s.fixed := by
  unfold State.linkDown
  extract_lets k up out s1 s2 s3 s4 s5
  have h1 : s1.fixed = s.fixed := State.linkDownRegs_fixed ..
  have h2 : s2.fixed = s.fixed := (State.setLink_fixed ..).trans h1
  have h3 : s3.fixed = s.fixed := (foldl_fixed _ (fun s x => State.setLane_fixed ..) _ _).trans h2
  have h4 : s4.fixed = s.fixed := by
    simp only [s4]
    split
    · exact (State.copyDone_fixed ..).trans h3
    · exact h3
  have h5 : s5.fixed = s.fixed := (foldl_fixed _ State.dropPartial_fixed _ _).trans h4
  clear_value k up out s1 s2 s3 s4 s5
  split
  rename_i es s6 e6
  split
  rename_i gs s7 e7
  have h6 := snd_fixed_of e6 ((State.takeQueued_fixed ..).trans h5)
  have h7 := snd_fixed_of e7 ((State.takeGated_fixed ..).trans h6)
  extract_lets s8
  have h8 : s8.fixed = s.fixed := by
    refine (foldl_fixed _ ?_ _ _).trans h7
    intro s e
    split
    · exact State.forwardPkt_fixed ..
    · rfl
  clear_value s8
  refine (State.spillRecompute_fixed ..).trans ((foldl_fixed _ ?_ _ _).trans h8)
  intro s e
  split
  · exact State.forwardPkt_fixed ..
  · rfl

theorem State.takeDlv_fixed (s : State) (t : List Byte → Bool) : (State.takeDlv s t).2.fixed = s.fixed := by
  unfold State.takeDlv
  split <;> simp only [State.fixed_mk, State.copyDone_fixed]

theorem State.takeOpc_fixed (s : State) (o : Nat) : (State.takeOpc s o).2.fixed = s.fixed := by simp only [State.takeOpc, State.takeDlv_fixed]

theorem execPacketHeaderArrive_fixed (l : Fin 256) (s : State) : outFixed (execPacketHeaderArrive l s) = some s.fixed := by simp only [execPacketHeaderArrive, outFixed_next, State.headerArrive_fixed]

theorem execPacketTailArrive_fixed (l : Fin 256) (s : State) : outFixed (execPacketTailArrive l s) = some s.fixed := by simp only [execPacketTailArrive, outFixed_next, State.tailArrive_fixed]

theorem execFwdInjectBufEcc_fixed (t : Fin 32) (s : State) : outFixed (execFwdInjectBufEcc t s) = some s.fixed := by simp only [execFwdInjectBufEcc, outFixed_next, State.setArmed_fixed]

theorem execFwdInjectE2e_fixed (t : Fin 32) (s : State) : outFixed (execFwdInjectE2e t s) = some s.fixed := by simp only [execFwdInjectE2e, outFixed_next, State.setArmed_fixed]

theorem execFwdInjectHchk_fixed (t : Fin 32) (s : State) : outFixed (execFwdInjectHchk t s) = some s.fixed := by simp only [execFwdInjectHchk, outFixed_next, State.setArmed_fixed]

end Sys2Proof.Machine
end

