-- ==== Sys2Proof/Laws/Fixed2.lean ====
section
/-!
SUPPORT. The operations and meanings of Machine/Link.lean, Machine/Time.lean, Machine/Gates.lean, Machine/Transmit.lean, Machine/LinkCmds.lean
leave the queue, the fuses and the flash alone.
-/
namespace Sys2Proof.Machine

set_option linter.all false

/-! ## Machine/Link.lean -/

theorem State.spillRefill_fixed (s : State) (l : Nat) : (State.spillRefill s l).fixed = s.fixed := by simp only [State.spillRefill, State.setLink_fixed, fixed_ite_s, ite_self]

theorem State.spillExhausted_fixed (s : State) (l : Nat) : (State.spillExhausted s l).fixed = s.fixed := by
  unfold State.spillExhausted
  repeat' (first | with_reducible rfl | (simp only [*, State.fixed_mk, State.raise_fixed, State.setLink_fixed, fixed_ite_s, ite_self]; done) | (split <;> (try (rename_i h; have h2 := congrArg (fun p => State.fixed (Prod.snd p)) h; simp only [State.fixed_mk, State.raise_fixed, State.setLink_fixed, fixed_ite_s, ite_self] at h2))) | (simp only [State.fixed_mk, State.raise_fixed, State.setLink_fixed, fixed_ite_s, ite_self]; fail_if_success done) | (simp only [*, State.fixed_mk, State.raise_fixed, State.setLink_fixed, fixed_ite_s, ite_self]; fail_if_success done) | intro _)

theorem State.putFlit_fixed (s : State) (l : Nat) (isData : Bool) (b : List Byte) : (State.putFlit s l isData b).fixed = s.fixed := by simp only [State.putFlit, State.emit_fixed, State.setArmed_fixed, fixed_ite_s, ite_self]

theorem State.replayRoom_fixed (s : State) (l : Nat) (t : State) (h : s.replayRoom l = some t) : t.fixed = s.fixed := by
  unfold State.replayRoom at h
  extract_lets k grant at h
  split at h
  · cases h; rfl
  split at h
  · cases h
  rename_i s1 k1 _ _
  have e1 : s1.fixed = s.fixed := State.spillRefill_fixed ..
  clear_value k grant s1 k1
  split at h
  · cases h
  split at h
  · cases h
  · cases h
    exact (State.count_fixed ..).trans ((State.setLink_fixed ..).trans e1)

theorem State.sendNull_fixed (s : State) (l : Nat) : (State.sendNull s l).fixed = s.fixed := by
  unfold State.sendNull
  generalize (s.link l).takeByp s.stampQ = p
  exact (State.putFlit_fixed ..).trans (State.setLink_fixed ..)

theorem State.sendData_fixed (s : State) (l : Nat) : (State.sendData s l).fixed = s.fixed := by
  unfold State.sendData
  generalize (s.link l).takeByp s.stampQ = p
  exact (State.putFlit_fixed ..).trans (State.setLink_fixed ..)

theorem State.replayEcc_fixed (s : State) (l : Nat) (r : RepFlit) : (State.replayEcc s l r).fixed = s.fixed := by simp only [State.replayEcc, State.linkDown_fixed, State.raise_fixed]

theorem State.sendReplay_fixed (s : State) (l : Nat) (q : Nat) : (State.sendReplay s l q).fixed = s.fixed := by
  unfold State.sendReplay
  extract_lets k
  split
  · exact State.sendNull_fixed ..
  · split
    · exact State.replayEcc_fixed ..
    · split
      · exact State.sendNull_fixed ..
      · generalize k.takeByp s.stampQ = p
        exact (State.count_fixed ..).trans ((State.putFlit_fixed ..).trans (State.setLink_fixed ..))

theorem State.settle_fixed (s : State) (l : Nat) : (State.settle s l).fixed = s.fixed := by simp only [State.settle, State.setLink_fixed, fixed_ite_s, ite_self]

theorem State.supply_fixed (s : State) (l : Nat) : (State.supply s l).fixed = s.fixed := by
  unfold State.supply
  repeat' (first | with_reducible rfl | (simp only [*, State.fixed_mk, State.setLink_fixed, fixed_ite_s, ite_self]; done) | (split <;> (try (rename_i h; have h2 := congrArg (fun p => State.fixed (Prod.snd p)) h; simp only [State.fixed_mk, State.setLink_fixed, fixed_ite_s, ite_self] at h2))) | (simp only [State.fixed_mk, State.setLink_fixed, fixed_ite_s, ite_self]; fail_if_success done) | (simp only [*, State.fixed_mk, State.setLink_fixed, fixed_ite_s, ite_self]; fail_if_success done) | intro _)

theorem State.flitSend_fixed (s : State) (l : Nat) : (State.flitSend s l).fixed = s.fixed := by
  unfold State.flitSend
  extract_lets s1 k
  have h1 : s1.fixed = s.fixed := State.supply_fixed ..
  clear_value s1 k
  split
  · exact h1
  split
  · exact (State.sendReplay_fixed ..).trans h1
  split
  · split
    · rename_i h
      exact (State.sendData_fixed ..).trans ((State.replayRoom_fixed _ _ _ h).trans h1)
    · refine (State.sendNull_fixed ..).trans ?_
      simp only [fixed_ite_s, State.spillExhausted_fixed, ite_self, h1]
  · exact (State.settle_fixed ..).trans ((State.sendNull_fixed ..).trans h1)

theorem State.sendAck_fixed (s : State) (l : Nat) : (State.sendAck s l).fixed = s.fixed := by simp only [State.sendAck, State.queueByp_fixed, State.setLink_fixed]

theorem State.sendReplayReq_fixed (s : State) (l : Nat) : (State.sendReplayReq s l).fixed = s.fixed := by simp only [State.sendReplayReq, State.queueByp_fixed, State.sendAck_fixed]

theorem State.replayWaitEntry_fixed (s : State) (l : Nat) : (State.replayWaitEntry s l).fixed = s.fixed := by simp only [State.replayWaitEntry, State.sendReplayReq_fixed, State.setLink_fixed, fixed_ite_s, ite_self]

theorem State.flitLock_fixed (s : State) (l : Nat) : (State.flitLock s l).fixed = s.fixed := by simp only [State.flitLock, State.setFld_fixed, State.setLink_fixed, fixed_ite_s, ite_self]

theorem State.flitReceive_fixed (s : State) (l : Nat) (b : List Byte) (corr : Nat) (uncorr : Bool) : (State.flitReceive s l b corr uncorr).fixed = s.fixed := by simp only [State.flitReceive, State.count_fixed, State.flitLock_fixed, State.replayWaitEntry_fixed, State.sendAck_fixed, State.setLink_fixed, fixed_ite_s, ite_self]

theorem State.takeByp_fixed (s : State) (l : Nat) (types : List Nat) : (State.takeByp s l types).2.fixed = s.fixed := by
  unfold State.takeByp
  repeat' (first | with_reducible rfl | (simp only [*, State.fixed_mk, State.setLink_fixed]; done) | (split <;> (try (rename_i h; have h2 := congrArg (fun p => State.fixed (Prod.snd p)) h; simp only [State.fixed_mk, State.setLink_fixed] at h2))) | (simp only [State.fixed_mk, State.setLink_fixed]; fail_if_success done) | (simp only [*, State.fixed_mk, State.setLink_fixed]; fail_if_success done) | intro _)

theorem State.linkAck_fixed (s : State) (l : Nat) (q : Nat) : (State.linkAck s l q).fixed = s.fixed := by simp only [State.linkAck, State.setLink_fixed, fixed_ite_s, ite_self]

theorem State.startReplay_fixed (s : State) (l : Nat) (q : Nat) : (State.startReplay s l q).fixed = s.fixed := by simp only [State.startReplay, State.count_fixed, State.linkDown_fixed, State.raise_fixed, State.setLink_fixed, fixed_ite_s, ite_self]

theorem State.replayReq_fixed (s : State) (l : Nat) (q : Nat) : (State.replayReq s l q).fixed = s.fixed := by simp only [State.replayReq, State.startReplay_fixed, fixed_ite_s, ite_self]

theorem State.linkActive_fixed (s : State) (l : Nat) : (State.linkActive s l).fixed = s.fixed := by
  unfold State.linkActive
  repeat' (first | with_reducible rfl | (simp only [*, State.fixed_mk, State.raise_fixed, State.setFld_fixed, State.setLane_fixed, State.setLink_fixed, fixed_ite_s, foldl_fixed, implies_true, ite_self]; done) | (split <;> (try (rename_i h; have h2 := congrArg (fun p => State.fixed (Prod.snd p)) h; simp only [State.fixed_mk, State.raise_fixed, State.setFld_fixed, State.setLane_fixed, State.setLink_fixed, fixed_ite_s, foldl_fixed, implies_true, ite_self] at h2))) | (refine (foldl_fixed _ ?_ _ _).trans ?_) | (simp only [State.fixed_mk, State.raise_fixed, State.setFld_fixed, State.setLane_fixed, State.setLink_fixed, fixed_ite_s, foldl_fixed, implies_true, ite_self]; fail_if_success done) | (simp only [*, State.fixed_mk, State.raise_fixed, State.setFld_fixed, State.setLane_fixed, State.setLink_fixed, fixed_ite_s, foldl_fixed, implies_true, ite_self]; fail_if_success done) | intro _)

theorem State.creditLimit_fixed (s : State) (l : Nat) (pool : Nat) (v : Nat) : (State.creditLimit s l pool v).fixed = s.fixed := by simp only [State.creditLimit, State.linkActive_fixed, State.linkDown_fixed, State.raise_fixed, State.setLink_fixed, fixed_ite_s, ite_self]

theorem State.paramSend_fixed (s : State) (l : Nat) : (State.paramSend s l).fixed = s.fixed := by simp only [State.paramSend, State.queueByp_fixed, State.raise_fixed, State.setLink_fixed, fixed_ite_s, ite_self]

theorem State.paramMismatch_fixed (s : State) (l : Nat) (w : BitVec 56) : (State.paramMismatch s l w).fixed = s.fixed := by simp only [State.paramMismatch, State.linkDown_fixed, State.raise_fixed]

theorem State.paramReceive_fixed (s : State) (l : Nat) (w : BitVec 56) : (State.paramReceive s l w).fixed = s.fixed := by
  unfold State.paramReceive
  repeat' (first | with_reducible rfl | (simp only [*, State.fixed_mk, State.paramMismatch_fixed, State.setFld_fixed, State.setLink_fixed, fixed_ite_s, ite_self]; done) | (split <;> (try (rename_i h; have h2 := congrArg (fun p => State.fixed (Prod.snd p)) h; simp only [State.fixed_mk, State.paramMismatch_fixed, State.setFld_fixed, State.setLink_fixed, fixed_ite_s, ite_self] at h2))) | (simp only [State.fixed_mk, State.paramMismatch_fixed, State.setFld_fixed, State.setLink_fixed, fixed_ite_s, ite_self]; fail_if_success done) | (simp only [*, State.fixed_mk, State.paramMismatch_fixed, State.setFld_fixed, State.setLink_fixed, fixed_ite_s, ite_self]; fail_if_success done) | intro _)

theorem State.replayGrant_fixed (s : State) (l : Nat) : (State.replayGrant s l).fixed = s.fixed := by
  unfold State.replayGrant
  extract_lets rtt ft need links used grant
  clear_value rtt ft need links used grant
  simp only [State.spillRecompute_fixed, State.setFld_fixed]

theorem State.creditInit_fixed (s : State) (l : Nat) : (State.creditInit s l).fixed = s.fixed := by simp only [State.creditInit, State.queueByp_fixed, State.setLink_fixed, foldl_fixed, implies_true]

theorem State.echoFinish_fixed (s : State) (l : Nat) : (State.echoFinish s l).fixed = s.fixed := by
  unfold State.echoFinish
  repeat' (first | with_reducible rfl | (simp only [*, State.fixed_mk, State.creditInit_fixed, State.linkDown_fixed, State.replayGrant_fixed, State.setFld_fixed, State.setLink_fixed, fixed_ite_s, ite_self]; done) | (split <;> (try (rename_i h; have h2 := congrArg (fun p => State.fixed (Prod.snd p)) h; simp only [State.fixed_mk, State.creditInit_fixed, State.linkDown_fixed, State.replayGrant_fixed, State.setFld_fixed, State.setLink_fixed, fixed_ite_s, ite_self] at h2))) | (simp only [State.fixed_mk, State.creditInit_fixed, State.linkDown_fixed, State.replayGrant_fixed, State.setFld_fixed, State.setLink_fixed, fixed_ite_s, ite_self]; fail_if_success done) | (simp only [*, State.fixed_mk, State.creditInit_fixed, State.linkDown_fixed, State.replayGrant_fixed, State.setFld_fixed, State.setLink_fixed, fixed_ite_s, ite_self]; fail_if_success done) | intro _)

theorem State.echoRsp_fixed (s : State) (l : Nat) (m : BitVec 62) (stamp : Nat) : (State.echoRsp s l m stamp).fixed = s.fixed := by simp only [State.echoRsp, State.echoFinish_fixed, State.setLink_fixed, fixed_ite_s, ite_self]

theorem State.setOwner_fixed (s : State) (first : Nat) (w : Nat) (valid : Bool) (host : Bool) (num : Nat) : (State.setOwner s first w valid host num).fixed = s.fixed := by simp only [State.setOwner, State.setFld_fixed, fixed_ite_s, foldl_fixed, implies_true, ite_self]

theorem State.claimRefused_fixed (s : State) (host : Bool) (num : Nat) (first : Nat) : (State.claimRefused s host num first).fixed = s.fixed := by simp only [State.claimRefused, State.raise_fixed]

theorem State.lanesStart_fixed (s : State) (first : Nat) (w : Nat) (mode : Nat) : (State.lanesStart s first w mode).fixed = s.fixed := by
  unfold State.lanesStart
  refine foldl_fixed _ ?_ _ _
  intro s i
  extract_lets n s1 s2
  have h1 : s1.fixed = s.fixed := by simp only [s1, State.setFld_fixed]
  have h2 : s2.fixed = s1.fixed := by simp only [s2, State.setFld_fixed, State.setLane_fixed]
  clear_value s1 s2
  exact (State.fixed_mk ..).trans (h2.trans h1)

theorem State.showLaneRef_fixed (s : State) : (State.showLaneRef s).fixed = s.fixed := by simp only [State.showLaneRef, State.setFld_fixed]

theorem State.setPll_fixed (s : State) (t : Nat) (group : Nat) (starting : Bool) (locked : Bool) : (State.setPll s t group starting locked).fixed = s.fixed := by simp only [State.setPll, State.fixed_mk, State.showLaneRef_fixed]

theorem State.bringUp_fixed (s : State) (l : Nat) : (State.bringUp s l).fixed = s.fixed := by simp only [State.bringUp, State.lanesStart_fixed, State.setFld_fixed, State.setLink_fixed, State.setPll_fixed, State.wake_fixed, fixed_ite_s, ite_self]

/-! ## Machine/Time.lean -/

theorem State.tick_fixed (s : State) : (State.tick s).fixed = s.fixed := by simp only [State.tick, State.fixed_mk, State.setServo_fixed, fixed_ite_s, ite_self]

theorem State.timeStep_fixed (s : State) (dq : Int) : (State.timeStep s dq).fixed = s.fixed := by simp only [State.timeStep, State.fixed_mk, State.raise_fixed]

theorem State.exchangeStart_fixed (s : State) (l : Nat) : (State.exchangeStart s l).fixed = s.fixed := by simp only [State.exchangeStart, State.queueByp_fixed, State.setLink_fixed, fixed_ite_s, ite_self]

theorem State.timeBad_fixed (s : State) : (State.timeBad s).fixed = s.fixed := by simp only [State.timeBad, State.count_fixed]

theorem State.syncReceive_fixed (s : State) (l : Nat) (m : BitVec 62) (q : Nat) : (State.syncReceive s l m q).fixed = s.fixed := by simp only [State.syncReceive, State.setLink_fixed, State.timeBad_fixed, fixed_ite_s, ite_self]

theorem State.syncHiReceive_fixed (s : State) (l : Nat) (m : BitVec 62) : (State.syncHiReceive s l m).fixed = s.fixed := by
  unfold State.syncHiReceive
  repeat' (first | with_reducible rfl | (simp only [*, State.fixed_mk, State.queueByp_fixed, State.setLink_fixed, State.timeBad_fixed, fixed_ite_s, ite_self]; done) | (split <;> (try (rename_i h; have h2 := congrArg (fun p => State.fixed (Prod.snd p)) h; simp only [State.fixed_mk, State.queueByp_fixed, State.setLink_fixed, State.timeBad_fixed, fixed_ite_s, ite_self] at h2))) | (simp only [State.fixed_mk, State.queueByp_fixed, State.setLink_fixed, State.timeBad_fixed, fixed_ite_s, ite_self]; fail_if_success done) | (simp only [*, State.fixed_mk, State.queueByp_fixed, State.setLink_fixed, State.timeBad_fixed, fixed_ite_s, ite_self]; fail_if_success done) | intro _)

theorem State.delayReqReceive_fixed (s : State) (l : Nat) (m : BitVec 62) (q : Nat) : (State.delayReqReceive s l m q).fixed = s.fixed := by simp only [State.delayReqReceive, State.queueByp_fixed, State.timeBad_fixed, fixed_ite_s, ite_self]

theorem State.servoRun_fixed (s : State) : (State.servoRun s).fixed = s.fixed := by simp only [State.servoRun, State.setServo_fixed, State.takeFree_fixed]

theorem State.timeLock_fixed (s : State) : (State.timeLock s).fixed = s.fixed := by simp only [State.timeLock, State.raise_fixed, State.setFld_fixed, fixed_ite_s, ite_self]

theorem State.timeUnlock_fixed (s : State) : (State.timeUnlock s).fixed = s.fixed := by simp only [State.timeUnlock, State.setFld_fixed, State.setServo_fixed]

theorem State.exchangeUse_fixed (s : State) (l : Nat) (off : Int) (path : Nat) (root : Nat) (depth : Nat) : (State.exchangeUse s l off path root depth).fixed = s.fixed := by simp only [State.exchangeUse, State.raise_fixed, State.servoRun_fixed, State.setFld_fixed, State.setServo_fixed, State.timeLock_fixed, State.timeStep_fixed, State.timeUnlock_fixed, fixed_ite_s, ite_self]

theorem State.exchTake_fixed (s : State) (l : Nat) (d1 d2 : Int) (root depth : Nat) : (State.exchTake s l d1 d2 root depth).fixed = s.fixed := by
  unfold State.exchTake
  repeat' (first | with_reducible rfl | (simp only [*, State.fixed_mk, State.backToParent_fixed, State.exchangeUse_fixed, State.setArmed_fixed, State.setLink_fixed, State.setServo_fixed, State.timeBad_fixed, fixed_ite_s, ite_self]; done) | (split <;> (try (rename_i h; have h2 := congrArg (fun p => State.fixed (Prod.snd p)) h; simp only [State.fixed_mk, State.backToParent_fixed, State.exchangeUse_fixed, State.setArmed_fixed, State.setLink_fixed, State.setServo_fixed, State.timeBad_fixed, fixed_ite_s, ite_self] at h2))) | (simp only [State.fixed_mk, State.backToParent_fixed, State.exchangeUse_fixed, State.setArmed_fixed, State.setLink_fixed, State.setServo_fixed, State.timeBad_fixed, fixed_ite_s, ite_self]; fail_if_success done) | (simp only [*, State.fixed_mk, State.backToParent_fixed, State.exchangeUse_fixed, State.setArmed_fixed, State.setLink_fixed, State.setServo_fixed, State.timeBad_fixed, fixed_ite_s, ite_self]; fail_if_success done) | intro _)

theorem State.delayRspReceive_fixed (s : State) (l : Nat) (m : BitVec 62) : (State.delayRspReceive s l m).fixed = s.fixed := by
  unfold State.delayRspReceive
  repeat' (first | with_reducible rfl | (simp only [*, State.fixed_mk, State.backToParent_fixed, State.exchangeUse_fixed, State.setArmed_fixed, State.setLink_fixed, State.setServo_fixed, State.exchTake_fixed, State.timeBad_fixed, fixed_ite_s, ite_self]; done) | (split <;> (try (rename_i h; have h2 := congrArg (fun p => State.fixed (Prod.snd p)) h; simp only [State.fixed_mk, State.backToParent_fixed, State.exchangeUse_fixed, State.setArmed_fixed, State.setLink_fixed, State.setServo_fixed, State.exchTake_fixed, State.timeBad_fixed, fixed_ite_s, ite_self] at h2))) | (simp only [State.fixed_mk, State.backToParent_fixed, State.exchangeUse_fixed, State.setArmed_fixed, State.setLink_fixed, State.setServo_fixed, State.exchTake_fixed, State.timeBad_fixed, fixed_ite_s, ite_self]; fail_if_success done) | (simp only [*, State.fixed_mk, State.backToParent_fixed, State.exchangeUse_fixed, State.setArmed_fixed, State.setLink_fixed, State.setServo_fixed, State.exchTake_fixed, State.timeBad_fixed, fixed_ite_s, ite_self]; fail_if_success done) | intro _)

theorem State.exchangeTimeout_fixed (s : State) : (State.exchangeTimeout s).fixed = s.fixed := by simp only [State.exchangeTimeout, State.backToParent_fixed, State.enterHoldover_fixed, State.setServo_fixed, fixed_ite_s, ite_self]

theorem State.holdoverExpire_fixed (s : State) : (State.holdoverExpire s).fixed = s.fixed := by simp only [State.holdoverExpire, State.raise_fixed, State.timeUnlock_fixed, fixed_ite_s, ite_self]

theorem State.roleApply_fixed (s : State) (old : Nat) : (State.roleApply s old).fixed = s.fixed := by simp only [State.roleApply, State.setFld_fixed, State.setServo_fixed, fixed_ite_s, ite_self]

theorem State.ppsJudge_fixed (s : State) : (State.ppsJudge s).fixed = s.fixed := by simp only [State.ppsJudge, State.servoRun_fixed, State.timeStep_fixed, fixed_ite_s, ite_self]

theorem State.ppsInEdge_fixed (s : State) : (State.ppsInEdge s).fixed = s.fixed := by simp only [State.ppsInEdge, State.fixed_mk, State.ppsJudge_fixed, State.setFld_fixed, fixed_ite_s, ite_self]

theorem State.timeSet_fixed (s : State) (ag : Agent) (hi : W32) : (State.timeSet s ag hi).fixed = s.fixed := by
  have key : ∀ (t : State) (c : Prop) [Decidable c] (k1 k2 d1 d2 : Nat) (x : TimeSt), t.fixed = s.fixed →
      (if c then t.raise 691 k1 d1 else State.raise { t with time := x } 691 k2 d2).fixed = s.fixed := by
    intro t c _ k1 k2 d1 d2 x h
    split
    · exact (State.raise_fixed ..).trans h
    · exact (State.raise_fixed ..).trans h
  unfold State.timeSet
  exact key _ _ _ _ _ _ _ rfl

theorem State.timeAdj_fixed (s : State) (ns : W32) : (State.timeAdj s ns).fixed = s.fixed := by simp only [State.timeAdj, State.setServo_fixed, fixed_ite_s, ite_self]

theorem execTimeExchangeStart_fixed (l : Fin 256) (s : State) : outFixed (execTimeExchangeStart l s) = some s.fixed := by simp only [execTimeExchangeStart, outFixed_next, State.exchangeStart_fixed]

theorem execSyncReceive_fixed (l : Fin 256) (s : State) : outFixed (execSyncReceive l s) = some s.fixed := by
  unfold execSyncReceive
  repeat' (first | with_reducible rfl | (simp only [*, outFixed_next, State.fixed_mk, State.syncReceive_fixed, State.takeByp_fixed]; done) | (split <;> (try (rename_i h; have h2 := congrArg (fun p => State.fixed (Prod.snd p)) h; simp only [outFixed_next, State.fixed_mk, State.syncReceive_fixed, State.takeByp_fixed] at h2))))

theorem execSyncHiReceive_fixed (l : Fin 256) (s : State) : outFixed (execSyncHiReceive l s) = some s.fixed := by
  unfold execSyncHiReceive
  repeat' (first | with_reducible rfl | (simp only [*, outFixed_next, State.fixed_mk, State.syncHiReceive_fixed, State.takeByp_fixed]; done) | (split <;> (try (rename_i h; have h2 := congrArg (fun p => State.fixed (Prod.snd p)) h; simp only [outFixed_next, State.fixed_mk, State.syncHiReceive_fixed, State.takeByp_fixed] at h2))))

theorem execDelayReqReceive_fixed (l : Fin 256) (s : State) : outFixed (execDelayReqReceive l s) = some s.fixed := by
  unfold execDelayReqReceive
  repeat' (first | with_reducible rfl | (simp only [*, outFixed_next, State.fixed_mk, State.delayReqReceive_fixed, State.takeByp_fixed]; done) | (split <;> (try (rename_i h; have h2 := congrArg (fun p => State.fixed (Prod.snd p)) h; simp only [outFixed_next, State.fixed_mk, State.delayReqReceive_fixed, State.takeByp_fixed] at h2))))

theorem execDelayRspReceive_fixed (l : Fin 256) (s : State) : outFixed (execDelayRspReceive l s) = some s.fixed := by
  unfold execDelayRspReceive
  repeat' (first | with_reducible rfl | (simp only [*, outFixed_next, State.fixed_mk, State.delayRspReceive_fixed, State.takeByp_fixed]; done) | (split <;> (try (rename_i h; have h2 := congrArg (fun p => State.fixed (Prod.snd p)) h; simp only [outFixed_next, State.fixed_mk, State.delayRspReceive_fixed, State.takeByp_fixed] at h2))))

theorem execExchangeTimeout_fixed (s : State) : outFixed (execExchangeTimeout s) = some s.fixed := by simp only [execExchangeTimeout, outFixed_next, State.exchangeTimeout_fixed]

theorem execHoldoverExpire_fixed (s : State) : outFixed (execHoldoverExpire s) = some s.fixed := by simp only [execHoldoverExpire, outFixed_next, State.holdoverExpire_fixed]

theorem execPpsInEdge_fixed (s : State) : outFixed (execPpsInEdge s) = some s.fixed := by simp only [execPpsInEdge, outFixed_next, State.ppsInEdge_fixed]

theorem execTimeSetWrite_fixed (ag : Agent) (hi : W32) (s : State) : outFixed (execTimeSetWrite ag hi s) = some s.fixed := by simp only [execTimeSetWrite, outFixed_next, State.timeSet_fixed]

theorem execTimeAdjWrite_fixed (ns : W32) (s : State) : outFixed (execTimeAdjWrite ns s) = some s.fixed := by simp only [execTimeAdjWrite, outFixed_next, State.timeAdj_fixed]

theorem execPpsOutAssert_fixed (s : State) : outFixed (execPpsOutAssert s) = some s.fixed := by simp only [execPpsOutAssert, outFixed_next, State.fixed_mk, ite_self, outFixed_ite_s]

theorem execPpsOutDeassert_fixed (s : State) : outFixed (execPpsOutDeassert s) = some s.fixed := (Eq.refl _).trans rfl

theorem execViaInjectTimeErr_fixed (s : State) : outFixed (execViaInjectTimeErr s) = some s.fixed := by simp only [execViaInjectTimeErr, outFixed_next, State.setArmed_fixed]

/-! ## Machine/Gates.lean -/

theorem State.setGq_fixed (s : State) (l : Nat) (v : Nat) (q : List GateEnt) : (State.setGq s l v q).fixed = s.fixed := (Eq.refl _).trans rfl

theorem State.viaMissed_fixed (s : State) (v : Nat) (slot : Nat) : (State.viaMissed s v slot).fixed = s.fixed := by simp only [State.viaMissed, State.count_fixed, State.raise_fixed]

theorem State.missWindow_fixed (s : State) (l : Nat) (v : Nat) (e : GateEnt) : (State.missWindow s l v e).2.fixed = s.fixed := by simp only [State.missWindow, State.copyDone_fixed, State.count_fixed, State.viaMissed_fixed, fixed2_ite_s, ite_self]

theorem State.gateJoin_fixed (s : State) (l : Nat) (v : Nat) (e : GateEnt) (len : Nat) : (State.gateJoin s l v e len).fixed = s.fixed := by
  unfold State.gateJoin
  repeat' (first | with_reducible rfl | (simp only [*, State.fixed_mk, State.copyDone_fixed, State.missWindow_fixed, State.setGq_fixed, State.viaMissed_fixed, fixed_ite_s, ite_self]; done) | (split <;> (try (rename_i h; have h2 := congrArg (fun p => State.fixed (Prod.snd p)) h; simp only [State.fixed_mk, State.copyDone_fixed, State.missWindow_fixed, State.setGq_fixed, State.viaMissed_fixed, fixed_ite_s, ite_self] at h2))))

theorem State.viaEligible_fixed (s : State) : (State.viaEligible s).fixed = s.fixed := by
  unfold State.viaEligible
  repeat' (first | with_reducible rfl | (simp only [*, State.fixed_mk, State.count_fixed, State.failHop_fixed, State.forwardPkt_fixed, State.freePkt_fixed, State.gateJoin_fixed, State.raise_fixed, State.viaMissed_fixed, fixed_ite_s, ite_self]; done) | (split <;> (try (rename_i h; have h2 := congrArg (fun p => State.fixed (Prod.snd p)) h; simp only [State.fixed_mk, State.count_fixed, State.failHop_fixed, State.forwardPkt_fixed, State.freePkt_fixed, State.gateJoin_fixed, State.raise_fixed, State.viaMissed_fixed, fixed_ite_s, ite_self] at h2))) | (simp only [State.fixed_mk, State.count_fixed, State.failHop_fixed, State.forwardPkt_fixed, State.freePkt_fixed, State.gateJoin_fixed, State.raise_fixed, State.viaMissed_fixed, fixed_ite_s, ite_self]; fail_if_success done) | (simp only [*, State.fixed_mk, State.count_fixed, State.failHop_fixed, State.forwardPkt_fixed, State.freePkt_fixed, State.gateJoin_fixed, State.raise_fixed, State.viaMissed_fixed, fixed_ite_s, ite_self]; fail_if_success done) | intro _)

theorem State.windowOpen_fixed (s : State) (l : Nat) (e : Nat) : (State.windowOpen s l e).fixed = s.fixed := by simp only [State.windowOpen, State.fixed_mk, fixed_ite_s, ite_self]

theorem State.windowClose_fixed (s : State) (l : Nat) (e : Nat) : (State.windowClose s l e).fixed = s.fixed := by
  unfold State.windowClose
  repeat' (first | with_reducible rfl | (simp only [*, State.fixed_mk, State.count_fixed, State.missWindow_fixed, State.raise_fixed, State.setGq_fixed, fixed_ite_s, foldl_fixed]; done) | (split <;> (try (rename_i h; have h2 := congrArg (fun p => State.fixed (Prod.snd p)) h; simp only [State.fixed_mk, State.count_fixed, State.missWindow_fixed, State.raise_fixed, State.setGq_fixed, fixed_ite_s, foldl_fixed] at h2))) | (refine (foldl_fixed _ ?_ _ _).trans ?_) | (simp only [State.fixed_mk, State.count_fixed, State.missWindow_fixed, State.raise_fixed, State.setGq_fixed, fixed_ite_s, foldl_fixed]; fail_if_success done) | (simp only [*, State.fixed_mk, State.count_fixed, State.missWindow_fixed, State.raise_fixed, State.setGq_fixed, fixed_ite_s, foldl_fixed]; fail_if_success done) | intro _)

theorem State.viaSwap_fixed (s : State) : (State.viaSwap s).fixed = s.fixed := by
  unfold State.viaSwap
  split <;> simp only [State.fixed_mk, State.applyPend_fixed, State.copyDone_fixed, State.noteSwap_fixed, State.roleApply_fixed, State.setFld_fixed, State.setGq_fixed, State.viaMissed_fixed, fixed_ite_s, foldl_fixed, implies_true, ite_self]

theorem execWindowOpen_fixed (l : Fin 256) (e : Fin 64) (s : State) : outFixed (execWindowOpen l e s) = some s.fixed := by simp only [execWindowOpen, outFixed_next, State.windowOpen_fixed]

theorem execViaductEligible_fixed (s : State) : outFixed (execViaductEligible s) = some s.fixed := by simp only [execViaductEligible, outFixed_next, State.viaEligible_fixed]

theorem execViaInjectWindowSkip_fixed (s : State) : outFixed (execViaInjectWindowSkip s) = some s.fixed := (Eq.refl _).trans rfl

/-! ## Machine/Transmit.lean -/

theorem State.spend_fixed (s : State) (l : Nat) (tc : Nat) (vc : Nat) (len : Nat) (shared : Bool) : (State.spend s l tc vc len shared).fixed = s.fixed := by simp only [State.spend, State.setLink_fixed]

theorem State.chooseOut_fixed (s : State) (l : Nat) (room : Option Nat) : (State.chooseOut s l room).2.fixed = s.fixed := by
  unfold State.chooseOut
  extract_lets k strict
  split
  · rfl
  split
  · rfl
  · split
    rfl

theorem State.startCopy_fixed (s : State) (l : Nat) (id : Nat) (hdr : List Byte) (crc : Option W32) (via : Option Nat) : (State.startCopy s l id hdr crc via).fixed = s.fixed := by
  unfold State.startCopy
  split <;> simp only [State.count_fixed, State.raise_fixed, State.setArmed_fixed, State.setLink_fixed, State.spend_fixed, State.supply_fixed, fixed_ite_s, ite_self]

theorem State.transmitStart_fixed (s : State) (l : Nat) : (State.transmitStart s l).fixed = s.fixed := by
  unfold State.transmitStart
  repeat' (first | with_reducible rfl | (simp only [*, State.fixed_mk, State.chooseOut_fixed, State.count_fixed, State.setGq_fixed, State.setOutQ_fixed, State.startCopy_fixed, fixed_ite_s, ite_self]; done) | (split <;> (try (rename_i h; have h2 := congrArg (fun p => State.fixed (Prod.snd p)) h; simp only [State.fixed_mk, State.chooseOut_fixed, State.count_fixed, State.setGq_fixed, State.setOutQ_fixed, State.startCopy_fixed, fixed_ite_s, ite_self] at h2))) | (simp only [State.fixed_mk, State.chooseOut_fixed, State.count_fixed, State.setGq_fixed, State.setOutQ_fixed, State.startCopy_fixed, fixed_ite_s, ite_self]; fail_if_success done) | (simp only [*, State.fixed_mk, State.chooseOut_fixed, State.count_fixed, State.setGq_fixed, State.setOutQ_fixed, State.startCopy_fixed, fixed_ite_s, ite_self]; fail_if_success done) | intro _)

theorem State.abortTx_fixed (s : State) (l : Nat) (t : TxPkt) (len : Nat) : (State.abortTx s l t len).fixed = s.fixed := by simp only [State.abortTx, State.copyDone_fixed, State.setLink_fixed]

theorem State.transmitEnd_fixed (s : State) (l : Nat) : (State.transmitEnd s l).fixed = s.fixed := by
  unfold State.transmitEnd
  repeat' (first | with_reducible rfl | (simp only [*, State.fixed_mk, State.abortTx_fixed, State.copyDone_fixed, State.setLink_fixed, State.supply_fixed, fixed_ite_s, ite_self]; done) | (split <;> (try (rename_i h; have h2 := congrArg (fun p => State.fixed (Prod.snd p)) h; simp only [State.fixed_mk, State.abortTx_fixed, State.copyDone_fixed, State.setLink_fixed, State.supply_fixed, fixed_ite_s, ite_self] at h2))) | (simp only [State.fixed_mk, State.abortTx_fixed, State.copyDone_fixed, State.setLink_fixed, State.supply_fixed, fixed_ite_s, ite_self]; fail_if_success done) | (simp only [*, State.fixed_mk, State.abortTx_fixed, State.copyDone_fixed, State.setLink_fixed, State.supply_fixed, fixed_ite_s, ite_self]; fail_if_success done) | intro _)

theorem execPacketTransmitStart_fixed (l : Fin 256) (s : State) : outFixed (execPacketTransmitStart l s) = some s.fixed := by simp only [execPacketTransmitStart, outFixed_next, State.transmitStart_fixed]

theorem execCtStallExpire_fixed (l : Fin 256) (s : State) : outFixed (execCtStallExpire l s) = some s.fixed := by
  unfold execCtStallExpire
  repeat' (first | with_reducible rfl | (simp only [*, outFixed_next, State.fixed_mk, State.abortTx_fixed, State.count_fixed, State.supply_fixed, ite_self, outFixed_ite_s]; done) | (split <;> (try (rename_i h; have h2 := congrArg (fun p => State.fixed (Prod.snd p)) h; simp only [outFixed_next, State.fixed_mk, State.abortTx_fixed, State.count_fixed, State.supply_fixed, ite_self, outFixed_ite_s] at h2))) | (simp only [outFixed_next, State.fixed_mk, State.abortTx_fixed, State.count_fixed, State.supply_fixed, ite_self, outFixed_ite_s]; fail_if_success done) | (simp only [*, outFixed_next, State.fixed_mk, State.abortTx_fixed, State.count_fixed, State.supply_fixed, ite_self, outFixed_ite_s]; fail_if_success done) | intro _)

/-! ## Machine/LinkCmds.lean -/

theorem State.replayTimeout_fixed (s : State) (l : Nat) : (State.replayTimeout s l).fixed = s.fixed := by simp only [State.replayTimeout, State.startReplay_fixed, fixed_ite_s, ite_self]

theorem State.spillReadDone_fixed (s : State) (l : Nat) : (State.spillReadDone s l).fixed = s.fixed := by
  unfold State.spillReadDone
  repeat' (first | with_reducible rfl | (simp only [*, State.fixed_mk, State.setLink_fixed]; done) | (split <;> (try (rename_i h; have h2 := congrArg (fun p => State.fixed (Prod.snd p)) h; simp only [State.fixed_mk, State.setLink_fixed] at h2))) | (simp only [State.fixed_mk, State.setLink_fixed]; fail_if_success done) | (simp only [*, State.fixed_mk, State.setLink_fixed]; fail_if_success done) | intro _)

theorem State.creditRefresh_fixed (s : State) (l : Nat) : (State.creditRefresh s l).fixed = s.fixed := by simp only [State.creditRefresh, State.queueByp_fixed, fixed_ite_s, foldl_fixed, implies_true, ite_self]

theorem State.creditStall_fixed (s : State) (l : Nat) (pool : Nat) : (State.creditStall s l pool).fixed = s.fixed := by simp only [State.creditStall, State.raise_fixed, State.setLink_fixed, fixed_ite_s, ite_self]

theorem State.quiet_fixed (s : State) (l : Nat) : (State.quiet s l).fixed = s.fixed := by simp only [State.quiet, State.setFld_fixed, State.setLane_fixed, State.setLink_fixed, foldl_fixed, implies_true]

theorem State.linkWake_fixed (s : State) (l : Nat) : (State.linkWake s l).fixed = s.fixed := by simp only [State.linkWake, State.setLink_fixed, State.wake_fixed, fixed_ite_s, ite_self]

theorem State.linkWakeDone_fixed (s : State) (l : Nat) : (State.linkWakeDone s l).fixed = s.fixed := by simp only [State.linkWakeDone, State.setFld_fixed, State.setLane_fixed, State.setLink_fixed, fixed_ite_s, foldl_fixed, implies_true, ite_self]

theorem State.applyLinkCommits_fixed (s : State) (l : Nat) : (State.applyLinkCommits s l).fixed = s.fixed := by simp only [State.applyLinkCommits, State.applyPend_fixed, fixed_ite_s, foldl_fixed, implies_true, ite_self]

theorem State.releaseClaim_fixed (s : State) (l : Nat) : (State.releaseClaim s l).fixed = s.fixed := by simp only [State.releaseClaim, State.setLink_fixed, State.setOwner_fixed, fixed_ite_s, ite_self]

theorem State.linkStart_fixed (s : State) (l : Nat) : (State.linkStart s l).fixed = s.fixed := by simp only [State.linkStart, State.applyLinkCommits_fixed, State.bringUp_fixed, State.claimRefused_fixed, State.releaseClaim_fixed, State.setFld_fixed, State.setOwner_fixed, fixed_ite_s, ite_self]

theorem State.linkEnable_fixed (s : State) (l : Nat) : (State.linkEnable s l).fixed = s.fixed := by simp only [State.linkEnable, State.linkStart_fixed, State.setHdr_fixed, State.setLink_fixed, fixed_ite_s, ite_self]

theorem State.linkDisable_fixed (s : State) (l : Nat) : (State.linkDisable s l).fixed = s.fixed := by simp only [State.linkDisable, State.linkDown_fixed, State.releaseClaim_fixed, State.setFld_fixed, State.setHdr_fixed, State.setLink_fixed, fixed_ite_s, ite_self]

theorem State.teardownEnd_fixed (s : State) (l : Nat) : (State.teardownEnd s l).fixed = s.fixed := by simp only [State.teardownEnd, State.linkDown_fixed, State.releaseClaim_fixed, fixed_ite_s, ite_self]

theorem State.downHoldExpire_fixed (s : State) (l : Nat) : (State.downHoldExpire s l).fixed = s.fixed := by simp only [State.downHoldExpire, State.linkStart_fixed, State.releaseClaim_fixed, State.setFld_fixed, State.setLink_fixed, fixed_ite_s, ite_self]

theorem State.bringupTimeout_fixed (s : State) (l : Nat) : (State.bringupTimeout s l).fixed = s.fixed := by simp only [State.bringupTimeout, State.linkDown_fixed, State.setLink_fixed, fixed_ite_s, ite_self]

theorem State.paramRetry_fixed (s : State) (l : Nat) : (State.paramRetry s l).fixed = s.fixed := by simp only [State.paramRetry, State.linkStart_fixed, State.setLink_fixed, fixed_ite_s, ite_self]

theorem execFlitSend_fixed (l : Fin 256) (s : State) : outFixed (execFlitSend l s) = some s.fixed := by simp only [execFlitSend, outFixed_next, State.flitSend_fixed]

theorem execFlitReceive_fixed (l : Fin 256) (content : List Byte) (corrected : Fin 9) (uncorrectable : Bool) (s : State) : outFixed (execFlitReceive l content corrected uncorrectable s) = some s.fixed := by simp only [execFlitReceive, outFixed_next, State.flitReceive_fixed]

theorem execLinkAckTimer_fixed (l : Fin 256) (s : State) : outFixed (execLinkAckTimer l s) = some s.fixed := by simp only [execLinkAckTimer, outFixed_next, State.sendAck_fixed, fixed_ite_s, ite_self]

theorem execLinkAckReceive_fixed (l : Fin 256) (s : State) : outFixed (execLinkAckReceive l s) = some s.fixed := by
  unfold execLinkAckReceive
  repeat' (first | with_reducible rfl | (simp only [*, outFixed_next, State.fixed_mk, State.linkAck_fixed, State.takeByp_fixed]; done) | (split <;> (try (rename_i h; have h2 := congrArg (fun p => State.fixed (Prod.snd p)) h; simp only [outFixed_next, State.fixed_mk, State.linkAck_fixed, State.takeByp_fixed] at h2))))

theorem execReplayReqReceive_fixed (l : Fin 256) (s : State) : outFixed (execReplayReqReceive l s) = some s.fixed := by
  unfold execReplayReqReceive
  repeat' (first | with_reducible rfl | (simp only [*, outFixed_next, State.fixed_mk, State.replayReq_fixed, State.takeByp_fixed]; done) | (split <;> (try (rename_i h; have h2 := congrArg (fun p => State.fixed (Prod.snd p)) h; simp only [outFixed_next, State.fixed_mk, State.replayReq_fixed, State.takeByp_fixed] at h2))))

theorem execReplayWaitTimeout_fixed (l : Fin 256) (s : State) : outFixed (execReplayWaitTimeout l s) = some s.fixed := by simp only [execReplayWaitTimeout, outFixed_next, State.sendReplayReq_fixed, fixed_ite_s, ite_self]

theorem execReplayTimeout_fixed (l : Fin 256) (s : State) : outFixed (execReplayTimeout l s) = some s.fixed := by simp only [execReplayTimeout, outFixed_next, State.replayTimeout_fixed]

theorem execSpillReadDone_fixed (l : Fin 256) (s : State) : outFixed (execSpillReadDone l s) = some s.fixed := by simp only [execSpillReadDone, outFixed_next, State.spillReadDone_fixed]

theorem execCreditLimitReceive_fixed (l : Fin 256) (s : State) : outFixed (execCreditLimitReceive l s) = some s.fixed := by
  unfold execCreditLimitReceive
  repeat' (first | with_reducible rfl | (simp only [*, outFixed_next, State.fixed_mk, State.creditLimit_fixed, State.takeByp_fixed]; done) | (split <;> (try (rename_i h; have h2 := congrArg (fun p => State.fixed (Prod.snd p)) h; simp only [outFixed_next, State.fixed_mk, State.creditLimit_fixed, State.takeByp_fixed] at h2))))

theorem execCreditRefresh_fixed (l : Fin 256) (s : State) : outFixed (execCreditRefresh l s) = some s.fixed := by simp only [execCreditRefresh, outFixed_next, State.creditRefresh_fixed]

theorem execCreditStall_fixed (l : Fin 256) (pool : Fin 128) (s : State) : outFixed (execCreditStall l pool s) = some s.fixed := by simp only [execCreditStall, outFixed_next, State.creditStall_fixed]

theorem execLinkParamSend_fixed (l : Fin 256) (s : State) : outFixed (execLinkParamSend l s) = some s.fixed := by simp only [execLinkParamSend, outFixed_next, State.paramSend_fixed]

theorem execLinkParamReceive_fixed (l : Fin 256) (s : State) : outFixed (execLinkParamReceive l s) = some s.fixed := by
  unfold execLinkParamReceive
  repeat' (first | with_reducible rfl | (simp only [*, outFixed_next, State.fixed_mk, State.paramReceive_fixed, State.takeByp_fixed]; done) | (split <;> (try (rename_i h; have h2 := congrArg (fun p => State.fixed (Prod.snd p)) h; simp only [outFixed_next, State.fixed_mk, State.paramReceive_fixed, State.takeByp_fixed] at h2))))

theorem execLinkStateReceive_fixed (l : Fin 256) (s : State) : outFixed (execLinkStateReceive l s) = some s.fixed := by
  unfold execLinkStateReceive
  repeat' (first | with_reducible rfl | (simp only [*, outFixed_next, State.fixed_mk, State.linkDown_fixed, State.takeByp_fixed, ite_self, outFixed_ite_s]; done) | (split <;> (try (rename_i h; have h2 := congrArg (fun p => State.fixed (Prod.snd p)) h; simp only [outFixed_next, State.fixed_mk, State.linkDown_fixed, State.takeByp_fixed, ite_self, outFixed_ite_s] at h2))))

theorem execEchoReqSend_fixed (l : Fin 256) (s : State) : outFixed (execEchoReqSend l s) = some s.fixed := by simp only [execEchoReqSend, outFixed_next, State.queueByp_fixed, State.setLink_fixed, ite_self, outFixed_ite_s]

theorem execEchoReqReceive_fixed (l : Fin 256) (s : State) : outFixed (execEchoReqReceive l s) = some s.fixed := by
  unfold execEchoReqReceive
  repeat' (first | with_reducible rfl | (simp only [*, outFixed_next, State.fixed_mk, State.queueByp_fixed, State.takeByp_fixed]; done) | (split <;> (try (rename_i h; have h2 := congrArg (fun p => State.fixed (Prod.snd p)) h; simp only [outFixed_next, State.fixed_mk, State.queueByp_fixed, State.takeByp_fixed] at h2))))

theorem execEchoRspReceive_fixed (l : Fin 256) (s : State) : outFixed (execEchoRspReceive l s) = some s.fixed := by
  unfold execEchoRspReceive
  repeat' (first | with_reducible rfl | (simp only [*, outFixed_next, State.fixed_mk, State.echoRsp_fixed, State.takeByp_fixed]; done) | (split <;> (try (rename_i h; have h2 := congrArg (fun p => State.fixed (Prod.snd p)) h; simp only [outFixed_next, State.fixed_mk, State.echoRsp_fixed, State.takeByp_fixed] at h2))))

theorem execEchoWaitExpire_fixed (l : Fin 256) (s : State) : outFixed (execEchoWaitExpire l s) = some s.fixed := by simp only [execEchoWaitExpire, outFixed_next, State.echoFinish_fixed, ite_self, outFixed_ite_s]

theorem execSleepIdleExpire_fixed (l : Fin 256) (s : State) : outFixed (execSleepIdleExpire l s) = some s.fixed := by simp only [execSleepIdleExpire, outFixed_next, State.queueByp_fixed, State.setLink_fixed, ite_self, outFixed_ite_s]

theorem execSleepReqReceive_fixed (l : Fin 256) (s : State) : outFixed (execSleepReqReceive l s) = some s.fixed := by
  unfold execSleepReqReceive
  repeat' (first | with_reducible rfl | (simp only [*, outFixed_next, State.fixed_mk, State.queueByp_fixed, State.quiet_fixed, State.takeByp_fixed, ite_self, outFixed_ite_s]; done) | (split <;> (try (rename_i h; have h2 := congrArg (fun p => State.fixed (Prod.snd p)) h; simp only [outFixed_next, State.fixed_mk, State.queueByp_fixed, State.quiet_fixed, State.takeByp_fixed, ite_self, outFixed_ite_s] at h2))))

theorem execSleepAckReceive_fixed (l : Fin 256) (s : State) : outFixed (execSleepAckReceive l s) = some s.fixed := by
  unfold execSleepAckReceive
  repeat' (first | with_reducible rfl | (simp only [*, outFixed_next, State.fixed_mk, State.linkWake_fixed, State.quiet_fixed, State.setLink_fixed, State.takeByp_fixed, fixed_ite_s, ite_self, outFixed_ite_s]; done) | (split <;> (try (rename_i h; have h2 := congrArg (fun p => State.fixed (Prod.snd p)) h; simp only [outFixed_next, State.fixed_mk, State.linkWake_fixed, State.quiet_fixed, State.setLink_fixed, State.takeByp_fixed, fixed_ite_s, ite_self, outFixed_ite_s] at h2))))

theorem execLinkEnable_fixed (l : Fin 256) (s : State) : outFixed (execLinkEnable l s) = some s.fixed := by simp only [execLinkEnable, outFixed_next, State.linkEnable_fixed]

theorem execLinkDisable_fixed (l : Fin 256) (s : State) : outFixed (execLinkDisable l s) = some s.fixed := by simp only [execLinkDisable, outFixed_next, State.linkDisable_fixed]

theorem execTeardownDrainEnd_fixed (l : Fin 256) (s : State) : outFixed (execTeardownDrainEnd l s) = some s.fixed := by simp only [execTeardownDrainEnd, outFixed_next, State.teardownEnd_fixed, fixed_ite_s, ite_self]

theorem execTeardownTimeout_fixed (l : Fin 256) (s : State) : outFixed (execTeardownTimeout l s) = some s.fixed := by simp only [execTeardownTimeout, outFixed_next, State.teardownEnd_fixed]

theorem execBringupStepTimeout_fixed (l : Fin 256) (s : State) : outFixed (execBringupStepTimeout l s) = some s.fixed := by simp only [execBringupStepTimeout, outFixed_next, State.bringupTimeout_fixed]

theorem execLaneSignalLoss_fixed (lane : Fin 512) (s : State) : outFixed (execLaneSignalLoss lane s) = some s.fixed := by simp only [execLaneSignalLoss, outFixed_next, State.linkDown_fixed, State.raise_fixed, ite_self, outFixed_ite_s]

theorem execDeadTimeExpire_fixed (l : Fin 256) (s : State) : outFixed (execDeadTimeExpire l s) = some s.fixed := by simp only [execDeadTimeExpire, outFixed_next, State.linkDown_fixed, ite_self, outFixed_ite_s]

theorem execDownHoldExpire_fixed (l : Fin 256) (s : State) : outFixed (execDownHoldExpire l s) = some s.fixed := by simp only [execDownHoldExpire, outFixed_next, State.downHoldExpire_fixed]

theorem execLinkWakeDone_fixed (l : Fin 256) (s : State) : outFixed (execLinkWakeDone l s) = some s.fixed := by simp only [execLinkWakeDone, outFixed_next, State.linkWakeDone_fixed]

theorem execWakeRelockTimeout_fixed (l : Fin 256) (s : State) : outFixed (execWakeRelockTimeout l s) = some s.fixed := by simp only [execWakeRelockTimeout, outFixed_next, State.linkDown_fixed, State.raise_fixed, ite_self, outFixed_ite_s]

theorem execLaneWakeDetect_fixed (lane : Fin 512) (s : State) : outFixed (execLaneWakeDetect lane s) = some s.fixed := by simp only [execLaneWakeDetect, outFixed_next, State.linkWake_fixed, ite_self, outFixed_ite_s]

theorem execLnkInjectForceDown_fixed (l : Fin 256) (s : State) : outFixed (execLnkInjectForceDown l s) = some s.fixed := by simp only [execLnkInjectForceDown, outFixed_next, State.linkDown_fixed, ite_self, outFixed_ite_s]

theorem execLnkInjectBadFlit_fixed (l : Fin 256) (s : State) : outFixed (execLnkInjectBadFlit l s) = some s.fixed := by simp only [execLnkInjectBadFlit, outFixed_next, State.setArmed_fixed]

theorem execLnkInjectSymbol_fixed (l : Fin 256) (s : State) : outFixed (execLnkInjectSymbol l s) = some s.fixed := by simp only [execLnkInjectSymbol, outFixed_next, State.setArmed_fixed]

theorem execLinkParamRetry_fixed (l : Fin 256) (s : State) : outFixed (execLinkParamRetry l s) = some s.fixed := by simp only [execLinkParamRetry, outFixed_next, State.paramRetry_fixed]

end Sys2Proof.Machine
end

