-- ==== Sys2Proof/Laws/Fixed3.lean ====
section
/-!
SUPPORT. The operations and meanings of Machine/Lanes.lean, Machine/Ports.lean, Machine/Span.lean, Machine/Translate.lean
leave the queue, the fuses and the flash alone.
-/
namespace Sys2Proof.Machine

set_option linter.all false

/-! ## Machine/Lanes.lean -/

theorem State.setLaneSt_fixed (s : State) (n : Nat) (x : Lane) : (State.setLaneSt s n x).fixed = s.fixed := (Eq.refl _).trans rfl

theorem State.laneFail_fixed (s : State) (l : Nat) (n : Nat) : (State.laneFail s l n).fixed = s.fixed := by simp only [State.laneFail, State.linkDown_fixed, State.raise_fixed]

theorem State.lanesTo_fixed (s : State) (l : Nat) (step : Nat) (code : Nat) : (State.lanesTo s l step code).fixed = s.fixed := by simp only [State.lanesTo, State.setLane_fixed, State.setLink_fixed, foldl_fixed, implies_true]

theorem State.pllLock_fixed (s : State) (t : Nat) (g : Nat) : (State.pllLock s t g).fixed = s.fixed := by simp only [State.pllLock, State.lanesTo_fixed, State.setPll_fixed, fixed_ite_s, foldl_fixed, implies_true, ite_self]

theorem State.receiverDetect_fixed (s : State) (n : Nat) (present : Bool) : (State.receiverDetect s n present).fixed = s.fixed := by
  unfold State.receiverDetect
  repeat' split
  all_goals simp only [State.lanesTo_fixed, State.setFld_fixed, fixed_ite_s, ite_self]

theorem State.flitStart_fixed (s : State) (l : Nat) : (State.flitStart s l).fixed = s.fixed := by simp only [State.flitStart, State.setLink_fixed, fixed_ite_s, ite_self]

theorem State.eqEnd_fixed (s : State) (l : Nat) : (State.eqEnd s l).fixed = s.fixed := by simp only [State.eqEnd, State.lanesTo_fixed, fixed_ite_s, ite_self]

theorem State.frameSend_fixed (s : State) (n : Nat) (req : BitVec 8) (adapted : Bool) : (State.frameSend s n req adapted).fixed = s.fixed := by
  unfold State.frameSend
  split <;> simp only [State.emit_fixed, State.eqEnd_fixed, State.flitStart_fixed, State.setLaneSt_fixed, fixed_ite_s, ite_self]

theorem State.eqServe_fixed (s : State) (n : Nat) (tap : Nat) (act : Nat) (preset : Nat) : (State.eqServe s n tap act preset).2.fixed = s.fixed := by simp only [State.eqServe, State.setFld_fixed, fixed2_ite_s, foldl_fixed, implies_true, ite_self]

theorem State.frameSearch_fixed (s : State) (n : Nat) (raw : BitVec 256) (slip : Nat) : (State.frameSearch s n raw slip).fixed = s.fixed := by simp only [State.frameSearch, State.setFld_fixed, State.setLaneSt_fixed, fixed_ite_s, ite_self]

theorem State.lanesAdvance_fixed (s : State) (l : Nat) : (State.lanesAdvance s l).fixed = s.fixed := by
  unfold State.lanesAdvance
  repeat' split
  all_goals simp only [State.eqEnd_fixed, State.laneFail_fixed, State.lanesTo_fixed, fixed_ite_s, ite_self]

theorem State.laneOrder_fixed (s : State) (l : Nat) (n : Nat) (skew : Bool) : (State.laneOrder s l n skew).fixed = s.fixed := by simp only [State.laneOrder, State.laneFail_fixed, fixed_ite_s, ite_self]

theorem State.frameReceive_fixed (s : State) (n : Nat) (raw : BitVec 256) (slip : Nat) (loss : Option Nat) (skew : Bool) : (State.frameReceive s n raw slip loss skew).fixed = s.fixed := by
  unfold State.frameReceive
  split <;> simp only [State.eqServe_fixed, State.frameSearch_fixed, State.laneOrder_fixed, State.lanesAdvance_fixed, State.setFld_fixed, State.setLaneSt_fixed, fixed2_ite_s, fixed_ite_s, ite_self]

theorem State.prbsEnd_fixed (s : State) (n : Nat) (errors : Nat) (bits_ : Nat) : (State.prbsEnd s n errors bits_).fixed = s.fixed := by
  unfold State.prbsEnd
  split <;> simp only [State.laneFail_fixed, State.lanesTo_fixed, State.setFld_fixed, State.setLaneSt_fixed, fixed_ite_s, ite_self]

theorem State.laneTrainTimeout_fixed (s : State) (l : Nat) : (State.laneTrainTimeout s l).fixed = s.fixed := by simp only [State.laneTrainTimeout, State.laneFail_fixed, fixed_ite_s, ite_self]

theorem State.setPrbsLock_fixed (s : State) (n : Nat) (on : Bool) : (State.setPrbsLock s n on).fixed = s.fixed := by simp only [State.setPrbsLock, State.fixed_mk, State.setFld_fixed]

theorem State.testWrite_fixed (s : State) (n : Nat) (off : Nat) (v : W32) : (State.testWrite s n off v).fixed = s.fixed := by
  unfold State.testWrite
  repeat' (first | with_reducible rfl | (simp only [*, State.fixed_mk, State.raise_fixed, State.setPrbsLock_fixed, State.wrShadow_fixed, State.wr_fixed, fixed_ite_s, ite_self]; done) | (split <;> (try (rename_i h; have h2 := congrArg (fun p => State.fixed (Prod.snd p)) h; simp only [State.fixed_mk, State.raise_fixed, State.setPrbsLock_fixed, State.wrShadow_fixed, State.wr_fixed, fixed_ite_s, ite_self] at h2))) | (simp only [State.fixed_mk, State.raise_fixed, State.setPrbsLock_fixed, State.wrShadow_fixed, State.wr_fixed, fixed_ite_s, ite_self]; fail_if_success done) | (simp only [*, State.fixed_mk, State.raise_fixed, State.setPrbsLock_fixed, State.wrShadow_fixed, State.wr_fixed, fixed_ite_s, ite_self]; fail_if_success done) | intro _)

theorem State.invertBits_fixed (s : State) (n : Nat) (k : Nat) : (State.invertBits s n k).fixed = s.fixed := by simp only [State.invertBits, State.setFld_fixed, State.setLaneSt_fixed, fixed_ite_s, ite_self]

theorem State.prbsTick_fixed (s : State) (n : Nat) : (State.prbsTick s n).fixed = s.fixed := by simp only [State.prbsTick, State.setFld_fixed, State.setLaneSt_fixed, fixed_ite_s, ite_self]

theorem execReceiverDetect_fixed (lane : Fin 512) (present : Bool) (s : State) : outFixed (execReceiverDetect lane present s) = some s.fixed := by simp only [execReceiverDetect, outFixed_next, State.receiverDetect_fixed]

theorem execPllLock_fixed (tile : Fin 32) (group : Fin 2) (s : State) : outFixed (execPllLock tile group s) = some s.fixed := by simp only [execPllLock, outFixed_next, State.pllLock_fixed]

theorem execTrainingFrameSend_fixed (lane : Fin 512) (req : BitVec 8) (adapted : Bool) (s : State) : outFixed (execTrainingFrameSend lane req adapted s) = some s.fixed := by simp only [execTrainingFrameSend, outFixed_next, State.frameSend_fixed]

theorem execTrainingFrameReceive_fixed (lane : Fin 512) (raw : BitVec 256) (slip : Fin 256) (loss : Option (Fin 65536)) (skew : Bool) (s : State) : outFixed (execTrainingFrameReceive lane raw slip loss skew s) = some s.fixed := by simp only [execTrainingFrameReceive, outFixed_next, State.frameReceive_fixed]

theorem execPrbsIntervalEnd_fixed (lane : Fin 512) (errors : W64) (checked : W64) (s : State) : outFixed (execPrbsIntervalEnd lane errors checked s) = some s.fixed := by simp only [execPrbsIntervalEnd, outFixed_next, State.prbsEnd_fixed]

theorem execLaneTrainTimeout_fixed (l : Fin 256) (s : State) : outFixed (execLaneTrainTimeout l s) = some s.fixed := by simp only [execLaneTrainTimeout, outFixed_next, State.laneTrainTimeout_fixed]

theorem execSrdTestWrite_fixed (lane : Fin 512) (off : Fin 4096) (v : W32) (s : State) : outFixed (execSrdTestWrite lane off v s) = some s.fixed := by simp only [execSrdTestWrite, outFixed_next, State.testWrite_fixed, fixed_ite_s, ite_self]

theorem execSrdInjectBit_fixed (lane : Fin 512) (s : State) : outFixed (execSrdInjectBit lane s) = some s.fixed := by simp only [execSrdInjectBit, outFixed_next, State.invertBits_fixed]

theorem execSrdInjectBurst_fixed (lane : Fin 512) (s : State) : outFixed (execSrdInjectBurst lane s) = some s.fixed := by simp only [execSrdInjectBurst, outFixed_next, State.invertBits_fixed]

theorem execPrbsCheckerLock_fixed (lane : Fin 512) (locks : Bool) (s : State) : outFixed (execPrbsCheckerLock lane locks s) = some s.fixed := by simp only [execPrbsCheckerLock, outFixed_next, State.setFld_fixed, State.setPrbsLock_fixed, ite_self, outFixed_ite_s]

/-! ## Machine/Ports.lean -/

theorem State.setPort_fixed (s : State) (n : Nat) (p : Port) : (State.setPort s n p).fixed = s.fixed := (Eq.refl _).trans rfl

theorem State.setPier_fixed (s : State) (n : Nat) (p : Pier) : (State.setPier s n p).fixed = s.fixed := (Eq.refl _).trans rfl

theorem State.protect_fixed (s : State) (n : Nat) (b : List Byte) (r : List Byte × State) (h : s.protect n b = some r) :
    r.2.fixed = s.fixed := by
  revert r
  show optFixed2 (s.protect n b) s.fixed
  unfold State.protect
  extract_lets p an
  cases mfind p.txSa an with
  | none => exact optFixed2_none _
  | some a =>
    dsimp only
    by_cases hc : 2 ^ 64 - 1 ≤ a.pn
    · rw [if_pos hc]
      exact optFixed2_none _
    · rw [if_neg hc]
      refine optFixed2_some ?_
      simp only [fixed_ite_s, State.raise_fixed, State.setFld_fixed, State.setPort_fixed, ite_self]

theorem State.verify_fixed (s : State) (n : Nat) (b : List Byte) (r : List Byte × State) (h : s.verify n b = some r) :
    r.2.fixed = s.fixed := by
  revert r
  show optFixed2 (s.verify n b) s.fixed
  unfold State.verify
  extract_lets p tci sc an hlen
  clear_value tci sc an hlen
  cases mfind p.rxSa an with
  | none => exact optFixed2_none _
  | some a =>
    dsimp only
    repeat' (refine iteInduction (motive := fun o => optFixed2 o s.fixed) (fun _ => ?_) (fun _ => ?_))
    all_goals first | exact optFixed2_none _ | exact optFixed2_some (State.setPort_fixed ..)

theorem State.wireFrame_fixed (s : State) (n : Nat) (body : List Byte) (exempt : Bool) : (State.wireFrame s n body exempt).fixed = s.fixed := by
  unfold State.wireFrame
  repeat' (first | with_reducible rfl | (simp only [*, State.fixed_mk, State.count_fixed, State.emit_fixed, State.protect_fixed, State.setArmed_fixed, fixed_ite_s, ite_self]; done) | (split <;> (try (first | (rename_i h; have h2 := congrArg (fun p => State.fixed (Prod.snd p)) h; simp only [State.fixed_mk, State.count_fixed, State.emit_fixed, State.protect_fixed, State.setArmed_fixed, fixed_ite_s, ite_self] at h2) | (rename_i h; have h2 := State.protect_fixed (h := h) ..; simp only [State.fixed_mk, State.count_fixed, State.emit_fixed, State.protect_fixed, State.setArmed_fixed, fixed_ite_s, ite_self] at h2)))))

theorem State.sendFrame_fixed (s : State) (n : Nat) (prio : Nat) (body : List Byte) : (State.sendFrame s n prio body).fixed = s.fixed := by simp only [State.sendFrame, State.setPort_fixed, State.wireFrame_fixed, fixed_ite_s, ite_self]

theorem State.drainPaused_fixed (s : State) (n : Nat) : (State.drainPaused s n).fixed = s.fixed := by simp only [State.drainPaused, State.setPort_fixed, State.wireFrame_fixed, foldl_fixed, implies_true]

theorem State.sendPfc_fixed (s : State) (n : Nat) (quanta : Nat) : (State.sendPfc s n quanta).fixed = s.fixed := by simp only [State.sendPfc, State.count_fixed, State.wireFrame_fixed]

theorem State.bufUpdate_fixed (s : State) (n : Nat) : (State.bufUpdate s n).fixed = s.fixed := by simp only [State.bufUpdate, State.sendPfc_fixed, State.setFld_fixed, State.setPort_fixed, fixed_ite_s, ite_self]

theorem State.spanOut_fixed (s : State) (n : Nat) (f : SFrame) : (State.spanOut s n f).fixed = s.fixed := by simp only [State.spanOut, State.sendFrame_fixed]

theorem State.applyPortCommits_fixed (s : State) (n : Nat) : (State.applyPortCommits s n).fixed = s.fixed := by simp only [State.applyPortCommits, State.applyPend_fixed, fixed_ite_s, foldl_fixed, implies_true, ite_self]

theorem State.releasePort_fixed (s : State) (n : Nat) : (State.releasePort s n).fixed = s.fixed := by simp only [State.releasePort, State.setOwner_fixed, State.setPort_fixed, fixed_ite_s, ite_self]

theorem State.portStart_fixed (s : State) (n : Nat) : (State.portStart s n).fixed = s.fixed := by simp only [State.portStart, State.applyPortCommits_fixed, State.claimRefused_fixed, State.lanesStart_fixed, State.releasePort_fixed, State.setFld_fixed, State.setOwner_fixed, State.setPll_fixed, State.setPort_fixed, State.wake_fixed, fixed_ite_s, foldl_fixed, implies_true, ite_self]

theorem State.pierPortDown_fixed (s : State) (n : Nat) : (State.pierPortDown s n).fixed = s.fixed := by simp only [State.pierPortDown, State.setFld_fixed, fixed_ite_s, ite_self]

theorem State.portDown_fixed (s : State) (n : Nat) (reason : Nat) : (State.portDown s n reason).fixed = s.fixed := by simp only [State.portDown, State.pierPortDown_fixed, State.raiseSev_fixed, State.setFld_fixed, State.setLane_fixed, State.setPort_fixed, fixed_ite_s, foldl_fixed, implies_true, ite_self]

theorem State.portEnable_fixed (s : State) (n : Nat) : (State.portEnable s n).fixed = s.fixed := by simp only [State.portEnable, State.portStart_fixed, State.setHdr_fixed, fixed_ite_s, ite_self]

theorem State.portDisable_fixed (s : State) (n : Nat) : (State.portDisable s n).fixed = s.fixed := by simp only [State.portDisable, State.portDown_fixed, State.releasePort_fixed, State.setHdr_fixed, State.setPort_fixed, fixed_ite_s, ite_self]

theorem State.pllUnlock_fixed (s : State) (t : Nat) (g : Nat) : (State.pllUnlock s t g).fixed = s.fixed := by simp only [State.pllUnlock, State.linkDown_fixed, State.portDown_fixed, State.raise_fixed, State.setPll_fixed, fixed_ite_s, foldl_fixed, implies_true, ite_self]

theorem execHostPortEnable_fixed (n : Fin 64) (s : State) : outFixed (execHostPortEnable n s) = some s.fixed := by simp only [execHostPortEnable, outFixed_next, State.portEnable_fixed]

theorem execHostPortTrainTimeout_fixed (n : Fin 64) (negotiated : Bool) (s : State) : outFixed (execHostPortTrainTimeout n negotiated s) = some s.fixed := by simp only [execHostPortTrainTimeout, outFixed_next, State.portDown_fixed, State.raise_fixed, ite_self, outFixed_ite_s]

theorem execHostPortRestart_fixed (n : Fin 64) (s : State) : outFixed (execHostPortRestart n s) = some s.fixed := by simp only [execHostPortRestart, outFixed_next, State.portStart_fixed, ite_self, outFixed_ite_s]

theorem execHostPortFault_fixed (n : Fin 65) (remote : Bool) (s : State) : outFixed (execHostPortFault n remote s) = some s.fixed := by simp only [execHostPortFault, outFixed_next, State.portDown_fixed, ite_self, outFixed_ite_s]

theorem execGroupPllUnlock_fixed (tile : Fin 32) (group : Fin 2) (s : State) : outFixed (execGroupPllUnlock tile group s) = some s.fixed := by simp only [execGroupPllUnlock, outFixed_next, State.pllUnlock_fixed]

theorem execPfcFrameReceive_fixed (n : Fin 65) (s : State) : outFixed (execPfcFrameReceive n s) = some s.fixed := by
  unfold execPfcFrameReceive
  repeat' (first | with_reducible rfl | (simp only [*, outFixed_next, State.fixed_mk, State.count_fixed, State.drainPaused_fixed, State.setPort_fixed, ite_self, outFixed_ite_s]; done) | (split <;> (try (rename_i h; have h2 := congrArg (fun p => State.fixed (Prod.snd p)) h; simp only [outFixed_next, State.fixed_mk, State.count_fixed, State.drainPaused_fixed, State.setPort_fixed, ite_self, outFixed_ite_s] at h2))) | (simp only [outFixed_next, State.fixed_mk, State.count_fixed, State.drainPaused_fixed, State.setPort_fixed, ite_self, outFixed_ite_s]; fail_if_success done) | (simp only [*, outFixed_next, State.fixed_mk, State.count_fixed, State.drainPaused_fixed, State.setPort_fixed, ite_self, outFixed_ite_s]; fail_if_success done) | intro _)

theorem execPauseFrameReceive_fixed (n : Fin 65) (s : State) : outFixed (execPauseFrameReceive n s) = some s.fixed := by
  unfold execPauseFrameReceive
  repeat' (first | with_reducible rfl | (simp only [*, outFixed_next, State.fixed_mk, State.count_fixed, State.drainPaused_fixed, State.setPort_fixed]; done) | (split <;> (try (rename_i h; have h2 := congrArg (fun p => State.fixed (Prod.snd p)) h; simp only [outFixed_next, State.fixed_mk, State.count_fixed, State.drainPaused_fixed, State.setPort_fixed] at h2))) | (simp only [outFixed_next, State.fixed_mk, State.count_fixed, State.drainPaused_fixed, State.setPort_fixed]; fail_if_success done) | (simp only [*, outFixed_next, State.fixed_mk, State.count_fixed, State.drainPaused_fixed, State.setPort_fixed]; fail_if_success done) | intro _)

theorem execPauseTimerExpire_fixed (n : Fin 65) (timer : Fin 9) (s : State) : outFixed (execPauseTimerExpire n timer s) = some s.fixed := by simp only [execPauseTimerExpire, outFixed_next, State.drainPaused_fixed, State.setPort_fixed]

theorem execPfcXoffRepeat_fixed (n : Fin 64) (s : State) : outFixed (execPfcXoffRepeat n s) = some s.fixed := by simp only [execPfcXoffRepeat, outFixed_next, State.sendPfc_fixed, ite_self, outFixed_ite_s]

theorem State.saInstall_fixed (s : State) (n : Nat) : (State.saInstall s n).fixed = s.fixed := by simp only [State.saInstall, State.setFld_fixed, State.setPort_fixed, fixed_ite_s, ite_self]

theorem execSaInstall_fixed (n : Fin 65) (s : State) : outFixed (execSaInstall n s) = some s.fixed := by simp only [execSaInstall, outFixed_next, State.saInstall_fixed]

theorem State.tsShow_fixed (s : State) (n : Nat) : (State.tsShow s n).fixed = s.fixed := by
  unfold State.tsShow
  split <;> simp only [State.setFld_fixed]

theorem execTsTimePop_fixed (n : Fin 65) (s : State) : outFixed (execTsTimePop n s) = some s.fixed := by simp only [execTsTimePop, outFixed_next, State.setPort_fixed, State.tsShow_fixed]

theorem execHptInjectFecSymbol_fixed (n : Fin 65) (s : State) : outFixed (execHptInjectFecSymbol n s) = some s.fixed := by simp only [execHptInjectFecSymbol, outFixed_next, State.setArmed_fixed]

theorem execHptInjectFcs_fixed (n : Fin 65) (s : State) : outFixed (execHptInjectFcs n s) = some s.fixed := by simp only [execHptInjectFcs, outFixed_next, State.setArmed_fixed]

/-! ## Machine/Span.lean -/

theorem State.showTx_fixed (s : State) (n : Nat) : (State.showTx s n).fixed = s.fixed := by simp only [State.showTx, State.setFld_fixed]

theorem State.emitSpan_fixed (s : State) (n : Nat) (f : SFrame) : (State.emitSpan s n f).fixed = s.fixed := by simp only [State.emitSpan, State.setPier_fixed, State.spanOut_fixed]

theorem State.sendSpanAck_fixed (s : State) (n : Nat) (flags : Nat) (aseq : Nat) : (State.sendSpanAck s n flags aseq).fixed = s.fixed := by simp only [State.sendSpanAck, State.setArmed_fixed, State.setPier_fixed, State.spanOut_fixed, fixed_ite_s, ite_self]

theorem State.ackNow_fixed (s : State) (n : Nat) : (State.ackNow s n).fixed = s.fixed := by simp only [State.ackNow, State.sendSpanAck_fixed]

theorem State.sendNak_fixed (s : State) (n : Nat) (seq : Nat) (reason : Nat) (map : Bool) : (State.sendNak s n seq reason map).fixed = s.fixed := by simp only [State.sendNak, State.count_fixed, State.spanOut_fixed]

theorem State.pumpN_fixed (s : State) (n : Nat) (a0 : Nat) : (State.pumpN s n a0).fixed = s.fixed := by
  induction a0 generalizing s n with
  | zero => unfold State.pumpN; repeat' (first | with_reducible rfl | (simp only [*, State.fixed_mk, State.count_fixed, State.emitSpan_fixed, State.setArmed_fixed, State.setFld_fixed, State.setPier_fixed, State.showTx_fixed, fixed_ite_s, ite_self]; done) | (split <;> (try (rename_i h; have h2 := congrArg (fun p => State.fixed (Prod.snd p)) h; simp only [State.fixed_mk, State.count_fixed, State.emitSpan_fixed, State.setArmed_fixed, State.setFld_fixed, State.setPier_fixed, State.showTx_fixed, fixed_ite_s, ite_self] at h2))) | (simp only [State.fixed_mk, State.count_fixed, State.emitSpan_fixed, State.setArmed_fixed, State.setFld_fixed, State.setPier_fixed, State.showTx_fixed, fixed_ite_s, ite_self]; fail_if_success done) | (simp only [*, State.fixed_mk, State.count_fixed, State.emitSpan_fixed, State.setArmed_fixed, State.setFld_fixed, State.setPier_fixed, State.showTx_fixed, fixed_ite_s, ite_self]; fail_if_success done) | intro _)
  | succ _ ih => unfold State.pumpN; repeat' (first | with_reducible rfl | (simp only [*, State.fixed_mk, State.count_fixed, State.emitSpan_fixed, State.setArmed_fixed, State.setFld_fixed, State.setPier_fixed, State.showTx_fixed, fixed_ite_s, ite_self]; done) | (split <;> (try (rename_i h; have h2 := congrArg (fun p => State.fixed (Prod.snd p)) h; simp only [State.fixed_mk, State.count_fixed, State.emitSpan_fixed, State.setArmed_fixed, State.setFld_fixed, State.setPier_fixed, State.showTx_fixed, fixed_ite_s, ite_self] at h2))) | (simp only [State.fixed_mk, State.count_fixed, State.emitSpan_fixed, State.setArmed_fixed, State.setFld_fixed, State.setPier_fixed, State.showTx_fixed, fixed_ite_s, ite_self]; fail_if_success done) | (simp only [*, State.fixed_mk, State.count_fixed, State.emitSpan_fixed, State.setArmed_fixed, State.setFld_fixed, State.setPier_fixed, State.showTx_fixed, fixed_ite_s, ite_self]; fail_if_success done) | intro _)

theorem State.pump_fixed (s : State) (n : Nat) : (State.pump s n).fixed = s.fixed := by simp only [State.pump, State.pumpN_fixed]

theorem State.queueSpan_fixed (s : State) (n : Nat) (t : TxFrame) : (State.queueSpan s n t).fixed = s.fixed := by simp only [State.queueSpan, State.pump_fixed, State.setPier_fixed]

theorem State.resend_fixed (s : State) (n : Nat) (seq : Nat) (counts : Bool) : (State.resend s n seq counts).fixed = s.fixed := by
  unfold State.resend
  repeat' (first | with_reducible rfl | (simp only [*, State.fixed_mk, State.count_fixed, State.emitSpan_fixed, State.setPier_fixed]; done) | (split <;> (try (rename_i h; have h2 := congrArg (fun p => State.fixed (Prod.snd p)) h; simp only [State.fixed_mk, State.count_fixed, State.emitSpan_fixed, State.setPier_fixed] at h2))) | (simp only [State.fixed_mk, State.count_fixed, State.emitSpan_fixed, State.setPier_fixed]; fail_if_success done) | (simp only [*, State.fixed_mk, State.count_fixed, State.emitSpan_fixed, State.setPier_fixed]; fail_if_success done) | intro _)

theorem State.memEnd_fixed (s : State) (w : Waiter) (status : Nat) (data : List Byte) : (State.memEnd s w status data).fixed = s.fixed := by simp only [State.memEnd, State.fixed_mk, fixed_ite_s, ite_self]

theorem State.issueReadsN_fixed (s : State) (n : Nat) (a0 : Nat) : (State.issueReadsN s n a0).fixed = s.fixed := by
  induction a0 generalizing s n with
  | zero => unfold State.issueReadsN; repeat' (first | with_reducible rfl | (simp only [*, State.fixed_mk, State.queueSpan_fixed, State.setPier_fixed, fixed_ite_s, ite_self]; done) | (split <;> (try (rename_i h; have h2 := congrArg (fun p => State.fixed (Prod.snd p)) h; simp only [State.fixed_mk, State.queueSpan_fixed, State.setPier_fixed, fixed_ite_s, ite_self] at h2))) | (simp only [State.fixed_mk, State.queueSpan_fixed, State.setPier_fixed, fixed_ite_s, ite_self]; fail_if_success done) | (simp only [*, State.fixed_mk, State.queueSpan_fixed, State.setPier_fixed, fixed_ite_s, ite_self]; fail_if_success done) | intro _)
  | succ _ ih => unfold State.issueReadsN; repeat' (first | with_reducible rfl | (simp only [*, State.fixed_mk, State.queueSpan_fixed, State.setPier_fixed, fixed_ite_s, ite_self]; done) | (split <;> (try (rename_i h; have h2 := congrArg (fun p => State.fixed (Prod.snd p)) h; simp only [State.fixed_mk, State.queueSpan_fixed, State.setPier_fixed, fixed_ite_s, ite_self] at h2))) | (simp only [State.fixed_mk, State.queueSpan_fixed, State.setPier_fixed, fixed_ite_s, ite_self]; fail_if_success done) | (simp only [*, State.fixed_mk, State.queueSpan_fixed, State.setPier_fixed, fixed_ite_s, ite_self]; fail_if_success done) | intro _)

theorem State.issueReads_fixed (s : State) (n : Nat) : (State.issueReads s n).fixed = s.fixed := by simp only [State.issueReads, State.issueReadsN_fixed]

theorem State.hostRead_fixed (s : State) (n : Nat) (addr : Nat) (len : Nat) (w : Waiter) (tag : Option Nat) : (State.hostRead s n addr len w tag).fixed = s.fixed := by simp only [State.hostRead, State.issueReads_fixed, State.setPier_fixed, fixed_ite_s, ite_self]

theorem State.hostWrite_fixed (s : State) (n : Nat) (addr : Nat) (d : List Byte) (w : Waiter) (tag : Option Nat) : (State.hostWrite s n addr d w tag).fixed = s.fixed := by simp only [State.hostWrite, State.queueSpan_fixed, fixed_ite_s, foldl_fixed, implies_true, ite_self]

theorem State.abandon_fixed (s : State) (n : Nat) : (State.abandon s n).fixed = s.fixed := by
  unfold State.abandon
  repeat' (first | with_reducible rfl | (simp only [*, State.fixed_mk, State.bufUpdate_fixed, State.count_fixed, State.memEnd_fixed, State.setPier_fixed, fixed_ite_s, foldl_fixed, implies_true, ite_self]; done) | (split <;> (try (rename_i h; have h2 := congrArg (fun p => State.fixed (Prod.snd p)) h; simp only [State.fixed_mk, State.bufUpdate_fixed, State.count_fixed, State.memEnd_fixed, State.setPier_fixed, fixed_ite_s, foldl_fixed, implies_true, ite_self] at h2))) | (refine (foldl_fixed _ ?_ _ _).trans ?_) | (simp only [State.fixed_mk, State.bufUpdate_fixed, State.count_fixed, State.memEnd_fixed, State.setPier_fixed, fixed_ite_s, foldl_fixed, implies_true, ite_self]; fail_if_success done) | (simp only [*, State.fixed_mk, State.bufUpdate_fixed, State.count_fixed, State.memEnd_fixed, State.setPier_fixed, fixed_ite_s, foldl_fixed, implies_true, ite_self]; fail_if_success done) | intro _)

theorem State.enterSync_fixed (s : State) (n : Nat) : (State.enterSync s n).fixed = s.fixed := by simp only [State.enterSync, State.abandon_fixed, State.applyPend_fixed, State.setFld_fixed, State.setPier_fixed, State.showTx_fixed, State.spanOut_fixed]

theorem State.sessionLoss_fixed (s : State) (n : Nat) (cause : Nat) : (State.sessionLoss s n cause).fixed = s.fixed := by simp only [State.sessionLoss, State.abandon_fixed, State.count_fixed, State.raise_fixed]

theorem State.tryOpen_fixed (s : State) (n : Nat) : (State.tryOpen s n).fixed = s.fixed := by simp only [State.tryOpen, State.issueReads_fixed, State.pump_fixed, State.setFld_fixed, fixed_ite_s, ite_self]

theorem State.takeSync_fixed (s : State) (n : Nat) (f : SFrame) (withOwn : Bool) : (State.takeSync s n f withOwn).fixed = s.fixed := by simp only [State.takeSync, State.setFld_fixed, State.setPier_fixed, State.spanOut_fixed]

theorem State.takeAseq_fixed (s : State) (n : Nat) (a : Nat) (map : Option (List Byte)) : (State.takeAseq s n a map).fixed = s.fixed := by
  unfold State.takeAseq
  repeat' (first | with_reducible rfl | (simp only [*, State.fixed_mk, State.pump_fixed, State.setPier_fixed, State.showTx_fixed]; done) | (split <;> (try (rename_i h; have h2 := congrArg (fun p => State.fixed (Prod.snd p)) h; simp only [State.fixed_mk, State.pump_fixed, State.setPier_fixed, State.showTx_fixed] at h2))) | (simp only [State.fixed_mk, State.pump_fixed, State.setPier_fixed, State.showTx_fixed]; fail_if_success done) | (simp only [*, State.fixed_mk, State.pump_fixed, State.setPier_fixed, State.showTx_fixed]; fail_if_success done) | intro _)

theorem State.lossAndSync_fixed (s : State) (n : Nat) (cause : Nat) : (State.lossAndSync s n cause).fixed = s.fixed := by simp only [State.lossAndSync, State.enterSync_fixed, State.sessionLoss_fixed]

theorem State.spanAck_fixed (s : State) (n : Nat) (f : SFrame) : (State.spanAck s n f).fixed = s.fixed := by simp only [State.spanAck, State.lossAndSync_fixed, State.sendSpanAck_fixed, State.setPier_fixed, State.takeAseq_fixed, State.takeSync_fixed, State.tryOpen_fixed, fixed_ite_s, ite_self]

theorem State.refuseWr_fixed (s : State) (n : Nat) (seq : Nat) (status : Nat) : (State.refuseWr s n seq status).fixed = s.fixed := by
  unfold State.refuseWr
  repeat' (first | with_reducible rfl | (simp only [*, State.fixed_mk, State.memEnd_fixed, State.setPier_fixed]; done) | (split <;> (try (rename_i h; have h2 := congrArg (fun p => State.fixed (Prod.snd p)) h; simp only [State.fixed_mk, State.memEnd_fixed, State.setPier_fixed] at h2))) | (simp only [State.fixed_mk, State.memEnd_fixed, State.setPier_fixed]; fail_if_success done) | (simp only [*, State.fixed_mk, State.memEnd_fixed, State.setPier_fixed]; fail_if_success done) | intro _)

theorem State.nakRefuse_fixed (s : State) (n : Nat) (seq : Nat) (reason : Nat) : (State.nakRefuse s n seq reason).fixed = s.fixed := by
  unfold State.nakRefuse
  repeat' (first | with_reducible rfl | (simp only [*, State.fixed_mk, State.issueReads_fixed, State.memEnd_fixed, State.pump_fixed, State.raise_fixed, State.refuseWr_fixed, State.setPier_fixed, State.showTx_fixed, fixed_ite_s, ite_self]; done) | (split <;> (try (rename_i h; have h2 := congrArg (fun p => State.fixed (Prod.snd p)) h; simp only [State.fixed_mk, State.issueReads_fixed, State.memEnd_fixed, State.pump_fixed, State.raise_fixed, State.refuseWr_fixed, State.setPier_fixed, State.showTx_fixed, fixed_ite_s, ite_self] at h2))) | (simp only [State.fixed_mk, State.issueReads_fixed, State.memEnd_fixed, State.pump_fixed, State.raise_fixed, State.refuseWr_fixed, State.setPier_fixed, State.showTx_fixed, fixed_ite_s, ite_self]; fail_if_success done) | (simp only [*, State.fixed_mk, State.issueReads_fixed, State.memEnd_fixed, State.pump_fixed, State.raise_fixed, State.refuseWr_fixed, State.setPier_fixed, State.showTx_fixed, fixed_ite_s, ite_self]; fail_if_success done) | intro _)

theorem State.spanNak_fixed (s : State) (n : Nat) (f : SFrame) : (State.spanNak s n f).fixed = s.fixed := by
  unfold State.spanNak
  repeat' (first | with_reducible rfl | (simp only [*, State.fixed_mk, State.count_fixed, State.nakRefuse_fixed, State.resend_fixed, State.takeAseq_fixed, fixed_ite_s, ite_self]; done) | (split <;> (try (rename_i h; have h2 := congrArg (fun p => State.fixed (Prod.snd p)) h; simp only [State.fixed_mk, State.count_fixed, State.nakRefuse_fixed, State.resend_fixed, State.takeAseq_fixed, fixed_ite_s, ite_self] at h2))) | (simp only [State.fixed_mk, State.count_fixed, State.nakRefuse_fixed, State.resend_fixed, State.takeAseq_fixed, fixed_ite_s, ite_self]; fail_if_success done) | (simp only [*, State.fixed_mk, State.count_fixed, State.nakRefuse_fixed, State.resend_fixed, State.takeAseq_fixed, fixed_ite_s, ite_self]; fail_if_success done) | intro _)

theorem State.rtoExpire_fixed (s : State) (n : Nat) (seq : Nat) : (State.rtoExpire s n seq).fixed = s.fixed := by
  unfold State.rtoExpire
  repeat' split
  all_goals simp only [State.lossAndSync_fixed, State.raise_fixed, State.resend_fixed, fixed_ite_s, ite_self]

theorem State.refuseFrame_fixed (s : State) (n : Nat) (seq : Nat) (reason : Nat) (kind : Option Nat) (detail : Nat) : (State.refuseFrame s n seq reason kind detail).fixed = s.fixed := by
  unfold State.refuseFrame
  split <;> simp only [State.count_fixed, State.raise_fixed, State.sendNak_fixed]

theorem State.deliverSpan_fixed (s : State) (n : Nat) (f : SFrame) : (State.deliverSpan s n f).fixed = s.fixed := by simp only [State.deliverSpan, State.count_fixed, State.refuseFrame_fixed, State.setFld_fixed, State.setPier_fixed, State.wake_fixed, fixed_ite_s, ite_self]

theorem State.releaseHeld_fixed (s : State) (n : Nat) (a0 : Nat) : (State.releaseHeld s n a0).fixed = s.fixed := by
  induction a0 generalizing s n with
  | zero => unfold State.releaseHeld; repeat' (first | with_reducible rfl | (simp only [*, State.fixed_mk, State.deliverSpan_fixed, State.setPier_fixed]; done) | (split <;> (try (rename_i h; have h2 := congrArg (fun p => State.fixed (Prod.snd p)) h; simp only [State.fixed_mk, State.deliverSpan_fixed, State.setPier_fixed] at h2))) | (simp only [State.fixed_mk, State.deliverSpan_fixed, State.setPier_fixed]; fail_if_success done) | (simp only [*, State.fixed_mk, State.deliverSpan_fixed, State.setPier_fixed]; fail_if_success done) | intro _)
  | succ _ ih => unfold State.releaseHeld; repeat' (first | with_reducible rfl | (simp only [*, State.fixed_mk, State.deliverSpan_fixed, State.setPier_fixed]; done) | (split <;> (try (rename_i h; have h2 := congrArg (fun p => State.fixed (Prod.snd p)) h; simp only [State.fixed_mk, State.deliverSpan_fixed, State.setPier_fixed] at h2))) | (simp only [State.fixed_mk, State.deliverSpan_fixed, State.setPier_fixed]; fail_if_success done) | (simp only [*, State.fixed_mk, State.deliverSpan_fixed, State.setPier_fixed]; fail_if_success done) | intro _)

theorem State.ackPolicy_fixed (s : State) (n : Nat) (req : Bool) : (State.ackPolicy s n req).fixed = s.fixed := by simp only [State.ackPolicy, State.ackNow_fixed, fixed_ite_s, ite_self]

theorem State.gapNak_fixed (s : State) (n : Nat) : (State.gapNak s n).fixed = s.fixed := by simp only [State.gapNak, State.sendNak_fixed, State.setPier_fixed, fixed_ite_s, ite_self]

theorem State.seqReceive_fixed (s : State) (n : Nat) (f : SFrame) : (State.seqReceive s n f).fixed = s.fixed := by simp only [State.seqReceive, State.ackNow_fixed, State.ackPolicy_fixed, State.bufUpdate_fixed, State.count_fixed, State.deliverSpan_fixed, State.gapNak_fixed, State.releaseHeld_fixed, State.sendNak_fixed, State.setPier_fixed, State.takeAseq_fixed, fixed_ite_s, ite_self]

theorem State.takeRx_fixed (s : State) (n : Nat) (t : SFrame → Bool) : (State.takeRx s n t).2.fixed = s.fixed := by
  unfold State.takeRx
  repeat' (first | with_reducible rfl | (simp only [*, State.fixed_mk, State.bufUpdate_fixed, State.setPier_fixed]; done) | (split <;> (try (rename_i h; have h2 := congrArg (fun p => State.fixed (Prod.snd p)) h; simp only [State.fixed_mk, State.bufUpdate_fixed, State.setPier_fixed] at h2))) | (simp only [State.fixed_mk, State.bufUpdate_fixed, State.setPier_fixed]; fail_if_success done) | (simp only [*, State.fixed_mk, State.bufUpdate_fixed, State.setPier_fixed]; fail_if_success done) | intro _)

theorem State.takeDelivered_fixed (s : State) (n : Nat) (ops : List Nat) : (State.takeDelivered s n ops).2.fixed = s.fixed := by
  unfold State.takeDelivered
  repeat' (first | with_reducible rfl | (simp only [*, State.fixed_mk, State.bufUpdate_fixed, State.setPier_fixed, fixed2_ite_s, ite_self]; done) | (split <;> (try (rename_i h; have h2 := congrArg (fun p => State.fixed (Prod.snd p)) h; simp only [State.fixed_mk, State.bufUpdate_fixed, State.setPier_fixed, fixed2_ite_s, ite_self] at h2))) | (simp only [State.fixed_mk, State.bufUpdate_fixed, State.setPier_fixed, fixed2_ite_s, ite_self]; fail_if_success done) | (simp only [*, State.fixed_mk, State.bufUpdate_fixed, State.setPier_fixed, fixed2_ite_s, ite_self]; fail_if_success done) | intro _)

theorem State.pierTake_fixed (s : State) (n : Nat) (b : List Byte) (secure : Bool) (addrOk : Bool) : (State.pierTake s n b secure addrOk).fixed = s.fixed := by simp only [State.pierTake, State.bufUpdate_fixed, State.count_fixed, State.raise_fixed, State.setPier_fixed, fixed_ite_s, ite_self]

theorem State.classify_fixed (s : State) (n : Nat) (b : List Byte) (secure : Bool) : (State.classify s n b secure).fixed = s.fixed := by simp only [State.classify, State.count_fixed, State.pierTake_fixed, State.setPort_fixed, fixed_ite_s, ite_self]

theorem State.frameIn_fixed (s : State) (n : Nat) (fr : List Byte) : (State.frameIn s n fr).fixed = s.fixed := by
  unfold State.frameIn
  repeat' (first | with_reducible rfl | (simp only [*, State.fixed_mk, State.classify_fixed, State.count_fixed, State.raise_fixed, State.setPort_fixed, State.verify_fixed, fixed_ite_s, ite_self]; done) | (split <;> (try (first | (rename_i h; have h2 := congrArg (fun p => State.fixed (Prod.snd p)) h; simp only [State.fixed_mk, State.classify_fixed, State.count_fixed, State.raise_fixed, State.setPort_fixed, State.verify_fixed, fixed_ite_s, ite_self] at h2) | (rename_i h; have h2 := State.verify_fixed (h := h) ..; simp only [State.fixed_mk, State.classify_fixed, State.count_fixed, State.raise_fixed, State.setPort_fixed, State.verify_fixed, fixed_ite_s, ite_self] at h2)))) | (simp only [State.fixed_mk, State.classify_fixed, State.count_fixed, State.raise_fixed, State.setPort_fixed, State.verify_fixed, fixed_ite_s, ite_self]; fail_if_success done) | (simp only [*, State.fixed_mk, State.classify_fixed, State.count_fixed, State.raise_fixed, State.setPort_fixed, State.verify_fixed, fixed_ite_s, ite_self]; fail_if_success done) | intro _)

theorem execSpanFrameReceive_fixed (n : Fin 65) (s : State) : outFixed (execSpanFrameReceive n s) = some s.fixed := by
  unfold execSpanFrameReceive
  repeat' (first | with_reducible rfl | (simp only [*, outFixed_next, State.fixed_mk, State.seqReceive_fixed, State.setArmed_fixed, State.takeRx_fixed, ite_self, outFixed_ite_s]; done) | (split <;> (try (rename_i h; have h2 := congrArg (fun p => State.fixed (Prod.snd p)) h; simp only [outFixed_next, State.fixed_mk, State.seqReceive_fixed, State.setArmed_fixed, State.takeRx_fixed, ite_self, outFixed_ite_s] at h2))))

theorem execSyncResend_fixed (n : Fin 65) (s : State) : outFixed (execSyncResend n s) = some s.fixed := by simp only [execSyncResend, outFixed_next, State.spanOut_fixed, ite_self, outFixed_ite_s]

theorem execSpanAckDelay_fixed (n : Fin 65) (s : State) : outFixed (execSpanAckDelay n s) = some s.fixed := by simp only [execSpanAckDelay, outFixed_next, State.ackNow_fixed, ite_self, outFixed_ite_s]

theorem execSpnInjectDropAck_fixed (n : Fin 65) (s : State) : outFixed (execSpnInjectDropAck n s) = some s.fixed := by simp only [execSpnInjectDropAck, outFixed_next, State.setArmed_fixed]

theorem execSpnInjectDropRx_fixed (n : Fin 65) (s : State) : outFixed (execSpnInjectDropRx n s) = some s.fixed := by simp only [execSpnInjectDropRx, outFixed_next, State.setArmed_fixed]

theorem execSpnInjectDropTx_fixed (n : Fin 65) (s : State) : outFixed (execSpnInjectDropTx n s) = some s.fixed := by simp only [execSpnInjectDropTx, outFixed_next, State.setArmed_fixed]

/-! ## Machine/Translate.lean -/

theorem State.ctxEvent_fixed (s : State) (port : Nat) (type : Nat) (ctx : Nat) (tag : Nat) (det16 : Nat) (det : Nat) : (State.ctxEvent s port type ctx tag det16 det).fixed = s.fixed := by simp only [State.ctxEvent, State.queueSpan_fixed]

theorem State.setJob_fixed (s : State) (id : Nat) (j : Job) : (State.setJob s id j).fixed = s.fixed := by simp only [State.setJob, State.setEp_fixed]

theorem State.dropJob_fixed (s : State) (id : Nat) : (State.dropJob s id).fixed = s.fixed := by simp only [State.dropJob, State.setEp_fixed]

theorem State.tellJob_fixed (s : State) (id : Nat) (e : JobEv) : (State.tellJob s id e).fixed = s.fixed := by simp only [State.tellJob, State.setEp_fixed]

theorem State.setXlt_fixed (s : State) (n : Nat) (x : Xlt) : (State.setXlt s n x).fixed = s.fixed := by simp only [State.setXlt, State.setEp_fixed, State.setFld_fixed]

theorem State.xltRaise_fixed (s : State) (n : Nat) (kind : Nat) (detail : Nat) : (State.xltRaise s n kind detail).fixed = s.fixed := by simp only [State.xltRaise, State.raise_fixed]

theorem State.showFault_fixed (s : State) (n : Nat) (code : Nat) (level : Nat) (space : Nat) (at_ : Nat) : (State.showFault s n code level space at_).fixed = s.fixed := by simp only [State.showFault, State.count_fixed, State.setFld_fixed, fixed_ite_s, ite_self]

theorem State.faultJob_fixed (s : State) (id : Nat) (code : Nat) (level : Nat) : (State.faultJob s id code level).fixed = s.fixed := by
  unfold State.faultJob
  split <;> simp only [State.setJob_fixed, State.tellJob_fixed]

theorem State.joinWalk_fixed (s : State) (id : Nat) (j : Job) (va : Nat) (confirm : Bool) : (State.joinWalk s id j va confirm).fixed = s.fixed := by
  unfold State.joinWalk
  repeat' (first | with_reducible rfl | (simp only [*, State.fixed_mk, State.count_fixed, State.setXlt_fixed]; done) | (split <;> (try (rename_i h; have h2 := congrArg (fun p => State.fixed (Prod.snd p)) h; simp only [State.fixed_mk, State.count_fixed, State.setXlt_fixed] at h2))) | (simp only [State.fixed_mk, State.count_fixed, State.setXlt_fixed]; fail_if_success done) | (simp only [*, State.fixed_mk, State.count_fixed, State.setXlt_fixed]; fail_if_success done) | intro _)

theorem State.issueFrag_fixed (s : State) (id : Nat) (j : Job) (p : W64) (level : Nat) : (State.issueFrag s id j p level).fixed = s.fixed := by simp only [State.issueFrag, State.hostRead_fixed, State.hostWrite_fixed, State.setJob_fixed, fixed_ite_s, foldl_fixed, implies_true, ite_self]

theorem State.jobStepN_fixed (s : State) (id : Nat) (a0 : Nat) : (State.jobStepN s id a0).fixed = s.fixed := by
  induction a0 generalizing s id with
  | zero => unfold State.jobStepN; repeat' (first | with_reducible rfl | (simp only [*, State.fixed_mk, State.count_fixed, State.faultJob_fixed, State.issueFrag_fixed, State.joinWalk_fixed, State.setArmed_fixed, State.setJob_fixed, State.setXlt_fixed, State.showFault_fixed, State.tellJob_fixed, State.xltRaise_fixed, fixed_ite_s, ite_self]; done) | (split <;> (try (rename_i h; have h2 := congrArg (fun p => State.fixed (Prod.snd p)) h; simp only [State.fixed_mk, State.count_fixed, State.faultJob_fixed, State.issueFrag_fixed, State.joinWalk_fixed, State.setArmed_fixed, State.setJob_fixed, State.setXlt_fixed, State.showFault_fixed, State.tellJob_fixed, State.xltRaise_fixed, fixed_ite_s, ite_self] at h2))) | (simp only [State.fixed_mk, State.count_fixed, State.faultJob_fixed, State.issueFrag_fixed, State.joinWalk_fixed, State.setArmed_fixed, State.setJob_fixed, State.setXlt_fixed, State.showFault_fixed, State.tellJob_fixed, State.xltRaise_fixed, fixed_ite_s, ite_self]; fail_if_success done) | (simp only [*, State.fixed_mk, State.count_fixed, State.faultJob_fixed, State.issueFrag_fixed, State.joinWalk_fixed, State.setArmed_fixed, State.setJob_fixed, State.setXlt_fixed, State.showFault_fixed, State.tellJob_fixed, State.xltRaise_fixed, fixed_ite_s, ite_self]; fail_if_success done) | intro _)
  | succ _ ih => unfold State.jobStepN; repeat' (first | with_reducible rfl | (simp only [*, State.fixed_mk, State.count_fixed, State.faultJob_fixed, State.issueFrag_fixed, State.joinWalk_fixed, State.setArmed_fixed, State.setJob_fixed, State.setXlt_fixed, State.showFault_fixed, State.tellJob_fixed, State.xltRaise_fixed, fixed_ite_s, ite_self]; done) | (split <;> (try (rename_i h; have h2 := congrArg (fun p => State.fixed (Prod.snd p)) h; simp only [State.fixed_mk, State.count_fixed, State.faultJob_fixed, State.issueFrag_fixed, State.joinWalk_fixed, State.setArmed_fixed, State.setJob_fixed, State.setXlt_fixed, State.showFault_fixed, State.tellJob_fixed, State.xltRaise_fixed, fixed_ite_s, ite_self] at h2))) | (simp only [State.fixed_mk, State.count_fixed, State.faultJob_fixed, State.issueFrag_fixed, State.joinWalk_fixed, State.setArmed_fixed, State.setJob_fixed, State.setXlt_fixed, State.showFault_fixed, State.tellJob_fixed, State.xltRaise_fixed, fixed_ite_s, ite_self]; fail_if_success done) | (simp only [*, State.fixed_mk, State.count_fixed, State.faultJob_fixed, State.issueFrag_fixed, State.joinWalk_fixed, State.setArmed_fixed, State.setJob_fixed, State.setXlt_fixed, State.showFault_fixed, State.tellJob_fixed, State.xltRaise_fixed, fixed_ite_s, ite_self]; fail_if_success done) | intro _)

theorem State.jobGo_fixed (s : State) (id : Nat) : (State.jobGo s id).fixed = s.fixed := by
  unfold State.jobGo
  split <;> simp only [State.jobStepN_fixed]

theorem State.startJob_fixed (s : State) (j : Job) : (State.startJob s j).fixed = s.fixed := by simp only [State.startJob, State.jobGo_fixed, State.setEp_fixed, State.setJob_fixed]

theorem State.localJob_fixed (s : State) (j : Job) : (State.localJob s j).fixed = s.fixed := by simp only [State.localJob, State.faultJob_fixed, State.setEp_fixed, State.setJob_fixed, State.startJob_fixed, fixed_ite_s, ite_self]

theorem State.fillLeaf_fixed (s : State) (n : Nat) (e : TEnt) : (State.fillLeaf s n e).fixed = s.fixed := by simp only [State.fillLeaf, State.setXlt_fixed, State.takeFree_fixed, fixed_ite_s, ite_self]

theorem State.fillWalk_fixed (s : State) (n : Nat) (e : WEnt) : (State.fillWalk s n e).fixed = s.fixed := by simp only [State.fillWalk, State.setXlt_fixed, State.takeFree_fixed, fixed_ite_s, ite_self]

theorem State.walkLeaf_fixed (s : State) (n : Nat) (w : Walk) (p : W64) : (State.walkLeaf s n w p).fixed = s.fixed := by
  unfold State.walkLeaf
  repeat' (first | with_reducible rfl | (simp only [*, State.fixed_mk, State.faultJob_fixed, State.issueFrag_fixed, State.jobGo_fixed, State.showFault_fixed, foldl_fixed]; done) | (split <;> (try (rename_i h; have h2 := congrArg (fun p => State.fixed (Prod.snd p)) h; simp only [State.fixed_mk, State.faultJob_fixed, State.issueFrag_fixed, State.jobGo_fixed, State.showFault_fixed, foldl_fixed] at h2))) | (refine (foldl_fixed _ ?_ _ _).trans ?_) | (simp only [State.fixed_mk, State.faultJob_fixed, State.issueFrag_fixed, State.jobGo_fixed, State.showFault_fixed, foldl_fixed]; fail_if_success done) | (simp only [*, State.fixed_mk, State.faultJob_fixed, State.issueFrag_fixed, State.jobGo_fixed, State.showFault_fixed, foldl_fixed]; fail_if_success done) | intro _)

theorem State.walkFault_fixed (s : State) (n : Nat) (w : Walk) (code : Nat) (step : Nat) : (State.walkFault s n w code step).fixed = s.fixed := by simp only [State.walkFault, State.faultJob_fixed, State.showFault_fixed, foldl_fixed, implies_true]

theorem State.walkStep_fixed (s : State) (n : Nat) (i : Nat) : (State.walkStep s n i).fixed = s.fixed := by
  unfold State.walkStep
  repeat' (first | with_reducible rfl | (simp only [*, State.fixed_mk, State.count_fixed, State.fillLeaf_fixed, State.fillWalk_fixed, State.memRead_fixed, State.setArmed_fixed, State.setXlt_fixed, State.walkFault_fixed, State.walkLeaf_fixed, State.xltRaise_fixed, fixed_ite_s, ite_self]; done) | (split <;> (try (rename_i h; have h2 := congrArg (fun p => State.fixed (Prod.snd p)) h; simp only [State.fixed_mk, State.count_fixed, State.fillLeaf_fixed, State.fillWalk_fixed, State.memRead_fixed, State.setArmed_fixed, State.setXlt_fixed, State.walkFault_fixed, State.walkLeaf_fixed, State.xltRaise_fixed, fixed_ite_s, ite_self] at h2))) | (simp only [State.fixed_mk, State.count_fixed, State.fillLeaf_fixed, State.fillWalk_fixed, State.memRead_fixed, State.setArmed_fixed, State.setXlt_fixed, State.walkFault_fixed, State.walkLeaf_fixed, State.xltRaise_fixed, fixed_ite_s, ite_self]; fail_if_success done) | (simp only [*, State.fixed_mk, State.count_fixed, State.fillLeaf_fixed, State.fillWalk_fixed, State.memRead_fixed, State.setArmed_fixed, State.setXlt_fixed, State.walkFault_fixed, State.walkLeaf_fixed, State.xltRaise_fixed, fixed_ite_s, ite_self]; fail_if_success done) | intro _)

theorem State.invBegin_fixed (s : State) (n : Nat) (v : Inval) : (State.invBegin s n v).fixed = s.fixed := by simp only [State.invBegin, State.count_fixed, State.setFld_fixed, State.setXlt_fixed, fixed_ite_s, foldl_fixed, implies_true, ite_self]

theorem State.invIssue_fixed (s : State) (n : Nat) (v : Inval) : (State.invIssue s n v).fixed = s.fixed := by
  unfold State.invIssue
  repeat' (first | with_reducible rfl | (simp only [*, State.fixed_mk, State.invBegin_fixed, State.setXlt_fixed]; done) | (split <;> (try (rename_i h; have h2 := congrArg (fun p => State.fixed (Prod.snd p)) h; simp only [State.fixed_mk, State.invBegin_fixed, State.setXlt_fixed] at h2))) | (simp only [State.fixed_mk, State.invBegin_fixed, State.setXlt_fixed]; fail_if_success done) | (simp only [*, State.fixed_mk, State.invBegin_fixed, State.setXlt_fixed]; fail_if_success done) | intro _)

theorem State.invRetry_fixed (s : State) (v : Inval) : (State.invRetry s v).fixed = s.fixed := by simp only [State.invRetry, State.count_fixed, State.jobGo_fixed, State.setJob_fixed, State.tellJob_fixed, fixed_ite_s, foldl_fixed, implies_true, ite_self]

theorem execXltInvStart_fixed (n : Fin 32) (s : State) : outFixed (execXltInvStart n s) = some s.fixed := by simp only [execXltInvStart, outFixed_next, State.invIssue_fixed, State.xltRaise_fixed, ite_self, outFixed_ite_s]

theorem State.takeStaged_fixed (s : State) (ag : Agent) (a : Nat) : (State.takeStaged s ag a).2.fixed = s.fixed := (Eq.refl _).trans rfl

theorem execPteStore_fixed (ag : Agent) (n : Fin 32) (hi : W32) (s : State) : outFixed (execPteStore ag n hi s) = some s.fixed := by simp only [execPteStore, outFixed_next, State.memWrite_fixed, State.takeStaged_fixed, State.xltRaise_fixed, ite_self, outFixed_ite_s]

theorem execPteDataRead_fixed (ag : Agent) (n : Fin 32) (s : State) : outFixed (execPteDataRead ag n s) = some s.fixed := by
  unfold execPteDataRead
  extract_lets a d put
  have hp : ∀ t v, (put t v).fixed = t.fixed := fun t v => (State.fixed_mk ..).trans (State.wr64_fixed ..)
  clear_value put a
  have e := State.memRead_fixed s a 8
  generalize s.memRead a 8 = p at e ⊢
  refine (view_ite (F := outFixed) ?_ ?_)
  · rcases p with ⟨b, t⟩
    cases b with
    | some b => exact congrArg some ((hp ..).trans e)
    | none => exact congrArg some ((hp ..).trans e)
  · exact congrArg some ((State.xltRaise_fixed ..).trans (hp ..))

theorem execXltInjectTcacheEcc_fixed (n : Fin 32) (s : State) : outFixed (execXltInjectTcacheEcc n s) = some s.fixed := by simp only [execXltInjectTcacheEcc, outFixed_next, State.setArmed_fixed]

theorem execXltInjectWalkErr_fixed (n : Fin 32) (s : State) : outFixed (execXltInjectWalkErr n s) = some s.fixed := by simp only [execXltInjectWalkErr, outFixed_next, State.setArmed_fixed]

end Sys2Proof.Machine
end

