-- ==== Sys2Proof/Laws/Fixed4.lean ====
section
/-!
SUPPORT. The operations and meanings of Machine/Contexts.lean, Machine/Channels.lean, Machine/Sched.lean, Machine/Match.lean, Machine/Remote.lean, Machine/Reliable.lean
leave the queue, the fuses and the flash alone.
-/
namespace Sys2Proof.Machine

set_option linter.all false

/-! ## Machine/Contexts.lean -/

theorem State.touchCtx_fixed (s : State) (c : Nat) : (State.touchCtx s c).fixed = s.fixed := by simp only [State.touchCtx, State.count_fixed, State.setEp_fixed, fixed_ite_s, ite_self]

theorem State.setCtxState_fixed (s : State) (c : Nat) (st : Nat) : (State.setCtxState s c st).fixed = s.fixed := by simp only [State.setCtxState, State.setCtx_fixed, State.setFld_fixed]

theorem State.ringRead_fixed (s : State) (c : Nat) (inHbm : Bool) (addr : Nat) (len : Nat) (w : Waiter) : (State.ringRead s c inHbm addr len w).fixed = s.fixed := by
  unfold State.ringRead
  repeat' (first | with_reducible rfl | (simp only [*, State.fixed_mk, State.hostRead_fixed, State.memEnd_fixed, State.memRead_fixed]; done) | (split <;> (try (rename_i h; have h2 := congrArg (fun p => State.fixed (Prod.snd p)) h; simp only [State.fixed_mk, State.hostRead_fixed, State.memEnd_fixed, State.memRead_fixed] at h2))))

theorem State.ringWrite_fixed (s : State) (c : Nat) (inHbm : Bool) (addr : Nat) (d : List Byte) (after : Option (Nat × Nat)) : (State.ringWrite s c inHbm addr d after).fixed = s.fixed := by simp only [State.ringWrite, State.hostWrite_fixed, State.memEnd_fixed, State.memWrite_fixed, fixed_ite_s, ite_self]

theorem State.cqEntry_fixed (s : State) (c : Nat) (e : CqEnt) (event : Bool) (after : Option (Nat × Nat)) : (State.cqEntry s c e event after).fixed = s.fixed := by simp only [State.cqEntry, State.ctxEvent_fixed, State.ringWrite_fixed, State.setCtx_fixed, fixed_ite_s, ite_self]

theorem State.inRefused_fixed (s : State) (c : Nat) (opc : Nat) : (State.inRefused s c opc).fixed = s.fixed := by simp only [State.inRefused, State.count_fixed, State.raise_fixed, State.setCtx_fixed]

theorem State.viaFlush_fixed (s : State) (c : Nat) : (State.viaFlush s c).fixed = s.fixed := by simp only [State.viaFlush, State.cqEntry_fixed, State.setCtx_fixed, fixed_ite_s, foldl_fixed, implies_true, ite_self]

theorem State.viaEntry_fixed (s : State) (c : Nat) (via : Nat) (high : Nat) (missing : Nat) : (State.viaEntry s c via high missing).fixed = s.fixed := by simp only [State.viaEntry, State.cqEntry_fixed, State.inRefused_fixed, State.setCtx_fixed, fixed_ite_s, ite_self]

theorem State.freeStage_fixed (s : State) (o : Op) : (State.freeStage s o).fixed = s.fixed := by simp only [State.freeStage, State.setEp_fixed, fixed_ite_s, ite_self]

theorem State.unqueue_fixed (s : State) (tag : Nat) : (State.unqueue s tag).fixed = s.fixed := by simp only [State.unqueue, State.fixed_mk, State.setEp_fixed]

theorem State.dropOpJobs_fixed (s : State) (tag : Nat) : (State.dropOpJobs s tag).fixed = s.fixed := by simp only [State.dropOpJobs, State.setEp_fixed]

theorem State.untieTx_fixed (s : State) (tag : Nat) : (State.untieTx s tag).fixed = s.fixed := by simp only [State.untieTx, State.setEp_fixed]

theorem State.releaseTag_fixed (s : State) (tag : Nat) : (State.releaseTag s tag).fixed = s.fixed := by
  unfold State.releaseTag
  split <;> simp only [State.fixed_mk, State.dropOpJobs_fixed, State.freeStage_fixed, State.setCtx_fixed, State.setEp_fixed, State.unqueue_fixed, State.untieTx_fixed, fixed_ite_s, ite_self]

theorem State.finishOp_fixed (s : State) (tag : Nat) (status : Nat) (len : Nat) (peer : Nat) (detail : Nat) : (State.finishOp s tag status len peer detail).fixed = s.fixed := by
  unfold State.finishOp
  split <;> simp only [State.cqEntry_fixed, State.releaseTag_fixed, State.takeFree_fixed, fixed2_ite_s, fixed_ite_s, ite_self]

theorem State.haltCtx_fixed (s : State) (c : Nat) (cause : Nat) (slot : Nat) (opc : Nat) : (State.haltCtx s c cause slot opc).fixed = s.fixed := by simp only [State.haltCtx, State.count_fixed, State.ctxEvent_fixed, State.enterSafe_fixed, State.keyEvent_fixed, State.raise_fixed, State.setCtxState_fixed, State.setCtx_fixed, State.setFld_fixed, fixed_ite_s, ite_self]

/-! ## Machine/Channels.lean -/

theorem State.countPath_fixed (s : State) (i : Nat) : (State.countPath s i).fixed = s.fixed := by simp only [State.countPath, State.count_fixed, fixed_ite_s, ite_self]

theorem State.sendVia_fixed (s : State) (b : List Byte) (pipe : Nat) (tag : Nat) : (State.sendVia s b pipe tag).2.2.fixed = s.fixed := by
  unfold State.sendVia
  repeat' (first | with_reducible rfl | (simp only [*, State.fixed_mk, State.choose_fixed, State.countPath_fixed, State.raise_fixed, State.sendBuilt_fixed, fixed3_ite_s]; done) | (split <;> (try (rename_i h; have h2 := congrArg (fun p => State.fixed (Prod.snd p)) h; simp only [State.fixed_mk, State.choose_fixed, State.countPath_fixed, State.raise_fixed, State.sendBuilt_fixed, fixed3_ite_s] at h2))) | (simp only [State.fixed_mk, State.choose_fixed, State.countPath_fixed, State.raise_fixed, State.sendBuilt_fixed, fixed3_ite_s]; fail_if_success done) | (simp only [*, State.fixed_mk, State.choose_fixed, State.countPath_fixed, State.raise_fixed, State.sendBuilt_fixed, fixed3_ite_s]; fail_if_success done) | intro _)

theorem State.sendRouted_fixed (s : State) (b : List Byte) (pipe : Nat) (tag : Nat) : (State.sendRouted s b pipe tag).fixed = s.fixed := by simp only [State.sendRouted, State.sendVia_fixed]

theorem State.setChan_fixed (s : State) (p : Nat) (c : Chan) : (State.setChan s p c).fixed = s.fixed := by simp only [State.setChan, State.setEp_fixed]

theorem State.showOpen_fixed (s : State) (n : Nat) : (State.showOpen s n).fixed = s.fixed := by simp only [State.showOpen, State.setFld_fixed]

theorem State.openChan_fixed (s : State) (ctx : Nat) (remote : Nat) : (State.openChan s ctx remote).2.fixed = s.fixed := by
  unfold State.openChan
  repeat' (first | with_reducible rfl | (simp only [*, State.fixed_mk, State.freshId_fixed, State.raise_fixed, State.setChan_fixed, State.showOpen_fixed, State.takeFree_fixed]; done) | (split <;> (try (rename_i h; have h2 := congrArg (fun p => State.fixed (Prod.snd p)) h; simp only [State.fixed_mk, State.freshId_fixed, State.raise_fixed, State.setChan_fixed, State.showOpen_fixed, State.takeFree_fixed] at h2))))

theorem State.freeChan_fixed (s : State) (p : Nat) : (State.freeChan s p).fixed = s.fixed := by
  unfold State.freeChan
  split <;> simp only [State.setEp_fixed, State.showOpen_fixed, fixed_ite_s, ite_self]

theorem State.sendRelAck_fixed (s : State) (p : Nat) : (State.sendRelAck s p).fixed = s.fixed := by
  unfold State.sendRelAck
  split <;> simp only [State.count_fixed, State.sendRouted_fixed, State.setArmed_fixed, State.setChan_fixed, fixed_ite_s, ite_self]

theorem State.nowAckable_fixed (s : State) (p : Nat) (b : List Byte) (pipe : Nat) : (State.nowAckable s p b pipe).fixed = s.fixed := by
  unfold State.nowAckable
  split <;> simp only [State.sendRelAck_fixed, State.setChan_fixed, fixed_ite_s, ite_self]

theorem State.holdRx_fixed (s : State) (p : Nat) (q : Nat) (h : Hold) (b : List Byte) (pipe : Nat) : (State.holdRx s p q h b pipe).fixed = s.fixed := by
  unfold State.holdRx
  split <;> simp only [State.setChan_fixed]

theorem State.unholdRx_fixed (s : State) (p : Nat) (q : Nat) : (State.unholdRx s p q).fixed = s.fixed := by
  unfold State.unholdRx
  repeat' split
  all_goals simp only [State.nowAckable_fixed, State.setChan_fixed]

theorem State.refuse_fixed (s : State) (p : Nat) (req : List Byte) (pipe : Nat) (reason : Nat) (addr : Nat) : (State.refuse s p req pipe reason addr).fixed = s.fixed := by
  unfold State.refuse
  repeat' (first | with_reducible rfl | (simp only [*, State.fixed_mk, State.count_fixed, State.holdRx_fixed, State.raise_fixed, State.sendRouted_fixed, State.setEp_fixed, fixed_ite_s, ite_self]; done) | (split <;> (try (rename_i h; have h2 := congrArg (fun p => State.fixed (Prod.snd p)) h; simp only [State.fixed_mk, State.count_fixed, State.holdRx_fixed, State.raise_fixed, State.sendRouted_fixed, State.setEp_fixed, fixed_ite_s, ite_self] at h2))) | (simp only [State.fixed_mk, State.count_fixed, State.holdRx_fixed, State.raise_fixed, State.sendRouted_fixed, State.setEp_fixed, fixed_ite_s, ite_self]; fail_if_success done) | (simp only [*, State.fixed_mk, State.count_fixed, State.holdRx_fixed, State.raise_fixed, State.sendRouted_fixed, State.setEp_fixed, fixed_ite_s, ite_self]; fail_if_success done) | intro _)

theorem State.opCheck_fixed (s : State) (tag : Nat) : (State.opCheck s tag).fixed = s.fixed := by
  unfold State.opCheck
  repeat' split
  all_goals simp only [State.finishOp_fixed, State.freeChan_fixed, fixed_ite_s, ite_self]

theorem State.failOp_fixed (s : State) (tag : Nat) (q : Nat) (status : Nat) (detail : Nat) : (State.failOp s tag q status detail).fixed = s.fixed := by
  unfold State.failOp
  split <;> simp only [State.opCheck_fixed, State.setOp_fixed, State.unqueue_fixed]

theorem State.dropTx_fixed (s : State) (p : Nat) (q : Nat) : (State.dropTx s p q).fixed = s.fixed := by
  unfold State.dropTx
  repeat' first | rfl | (simp only [State.setChan_fixed]; done) | split

theorem State.retire_fixed (s : State) (p : Nat) (q : Nat) : (State.retire s p q).fixed = s.fixed := by
  unfold State.retire
  repeat' (first | with_reducible rfl | (simp only [*, State.fixed_mk, State.dropTx_fixed, State.opCheck_fixed, State.setOp_fixed]; done) | (split <;> (try (rename_i h; have h2 := congrArg (fun p => State.fixed (Prod.snd p)) h; simp only [State.fixed_mk, State.dropTx_fixed, State.opCheck_fixed, State.setOp_fixed] at h2))) | (simp only [State.fixed_mk, State.dropTx_fixed, State.opCheck_fixed, State.setOp_fixed]; fail_if_success done) | (simp only [*, State.fixed_mk, State.dropTx_fixed, State.opCheck_fixed, State.setOp_fixed]; fail_if_success done) | intro _)

theorem State.chanFail_fixed (s : State) (p : Nat) : (State.chanFail s p).fixed = s.fixed := by
  unfold State.chanFail
  repeat' (first | with_reducible rfl | (simp only [*, State.fixed_mk, State.count_fixed, State.dropTx_fixed, State.opCheck_fixed, State.raise_fixed, State.setChan_fixed, State.setEp_fixed, State.setOp_fixed, State.unqueue_fixed, foldl_fixed, implies_true]; done) | (split <;> (try (rename_i h; have h2 := congrArg (fun p => State.fixed (Prod.snd p)) h; simp only [State.fixed_mk, State.count_fixed, State.dropTx_fixed, State.opCheck_fixed, State.raise_fixed, State.setChan_fixed, State.setEp_fixed, State.setOp_fixed, State.unqueue_fixed, foldl_fixed, implies_true] at h2))) | (refine (foldl_fixed _ ?_ _ _).trans ?_) | (simp only [State.fixed_mk, State.count_fixed, State.dropTx_fixed, State.opCheck_fixed, State.raise_fixed, State.setChan_fixed, State.setEp_fixed, State.setOp_fixed, State.unqueue_fixed, foldl_fixed, implies_true]; fail_if_success done) | (simp only [*, State.fixed_mk, State.count_fixed, State.dropTx_fixed, State.opCheck_fixed, State.raise_fixed, State.setChan_fixed, State.setEp_fixed, State.setOp_fixed, State.unqueue_fixed, foldl_fixed, implies_true]; fail_if_success done) | intro _)

/-! ## Machine/Sched.lean -/

theorem State.setInjQ_fixed (s : State) (key : Nat) (x : InjQ) : (State.setInjQ s key x).fixed = s.fixed := (Eq.refl _).trans rfl

theorem State.putHead_fixed (s : State) (key : Nat) (h : InjHead) : (State.putHead s key h).fixed = s.fixed := by simp only [State.putHead, State.setInjQ_fixed]

theorem State.noRoute_fixed (s : State) (dest : Nat) (tag : Nat) : (State.noRoute s dest tag).fixed = s.fixed := by simp only [State.noRoute, State.count_fixed, State.raise_fixed]

theorem State.makeHeadN_fixed (s : State) (key : Nat) (a0 : Nat) : (State.makeHeadN s key a0).fixed = s.fixed := by
  induction a0 generalizing s key with
  | zero => unfold State.makeHeadN; repeat' (first | with_reducible rfl | (simp only [*, State.fixed_mk, State.chooseFor_fixed, State.dropTx_fixed, State.failOp_fixed, State.noRoute_fixed, State.putHead_fixed, State.setInjQ_fixed]; done) | (split <;> (try (rename_i h; have h2 := congrArg (fun p => State.fixed (Prod.snd p)) h; simp only [State.fixed_mk, State.chooseFor_fixed, State.dropTx_fixed, State.failOp_fixed, State.noRoute_fixed, State.putHead_fixed, State.setInjQ_fixed] at h2))) | (simp only [State.fixed_mk, State.chooseFor_fixed, State.dropTx_fixed, State.failOp_fixed, State.noRoute_fixed, State.putHead_fixed, State.setInjQ_fixed]; fail_if_success done) | (simp only [*, State.fixed_mk, State.chooseFor_fixed, State.dropTx_fixed, State.failOp_fixed, State.noRoute_fixed, State.putHead_fixed, State.setInjQ_fixed]; fail_if_success done) | intro _)
  | succ _ ih => unfold State.makeHeadN; repeat' (first | with_reducible rfl | (simp only [*, State.fixed_mk, State.chooseFor_fixed, State.dropTx_fixed, State.failOp_fixed, State.noRoute_fixed, State.putHead_fixed, State.setInjQ_fixed]; done) | (split <;> (try (rename_i h; have h2 := congrArg (fun p => State.fixed (Prod.snd p)) h; simp only [State.fixed_mk, State.chooseFor_fixed, State.dropTx_fixed, State.failOp_fixed, State.noRoute_fixed, State.putHead_fixed, State.setInjQ_fixed] at h2))) | (simp only [State.fixed_mk, State.chooseFor_fixed, State.dropTx_fixed, State.failOp_fixed, State.noRoute_fixed, State.putHead_fixed, State.setInjQ_fixed]; fail_if_success done) | (simp only [*, State.fixed_mk, State.chooseFor_fixed, State.dropTx_fixed, State.failOp_fixed, State.noRoute_fixed, State.putHead_fixed, State.setInjQ_fixed]; fail_if_success done) | intro _)

theorem State.makeHead_fixed (s : State) (key : Nat) : (State.makeHead s key).fixed = s.fixed := by simp only [State.makeHead, State.makeHeadN_fixed]

theorem State.injectOp_fixed (s : State) (tag : Nat) : (State.injectOp s tag).fixed = s.fixed := by
  unfold State.injectOp
  split <;> simp only [State.makeHead_fixed, State.setInjQ_fixed, fixed_ite_s, ite_self]

theorem State.injectRetx_fixed (s : State) (key : Nat) (p : Nat) (q : Nat) : (State.injectRetx s key p q).fixed = s.fixed := by simp only [State.injectRetx, State.makeHead_fixed, State.setInjQ_fixed]

theorem State.setTokens_fixed (s : State) (k : Nat) (i : Nat) (v : Int) : (State.setTokens s k i v).fixed = s.fixed := by simp only [State.setTokens, State.setFld_fixed]

theorem State.rechoose_fixed (s : State) (key : Nat) : (State.rechoose s key).fixed = s.fixed := by
  unfold State.rechoose
  repeat' (first | with_reducible rfl | (simp only [*, State.fixed_mk, State.chooseFor_fixed, State.dropTx_fixed, State.failOp_fixed, State.makeHead_fixed, State.noRoute_fixed, State.setInjQ_fixed]; done) | (split <;> (try (rename_i h; have h2 := congrArg (fun p => State.fixed (Prod.snd p)) h; simp only [State.fixed_mk, State.chooseFor_fixed, State.dropTx_fixed, State.failOp_fixed, State.makeHead_fixed, State.noRoute_fixed, State.setInjQ_fixed] at h2))))

theorem State.letIn_fixed (s : State) (key : Nat) : (State.letIn s key).fixed = s.fixed := by
  unfold State.letIn
  repeat' (first | with_reducible rfl | (simp only [*, State.fixed_mk, State.countPath_fixed, State.count_fixed, State.makeHead_fixed, State.sendBuilt_fixed, State.setChan_fixed, State.setFld_fixed, State.setInjQ_fixed, State.setOp_fixed, State.setTokens_fixed, fixed_ite_s, ite_self]; done) | (split <;> (try (rename_i h; have h2 := congrArg (fun p => State.fixed (Prod.snd p)) h; simp only [State.fixed_mk, State.countPath_fixed, State.count_fixed, State.makeHead_fixed, State.sendBuilt_fixed, State.setChan_fixed, State.setFld_fixed, State.setInjQ_fixed, State.setOp_fixed, State.setTokens_fixed, fixed_ite_s, ite_self] at h2))) | (simp only [State.fixed_mk, State.countPath_fixed, State.count_fixed, State.makeHead_fixed, State.sendBuilt_fixed, State.setChan_fixed, State.setFld_fixed, State.setInjQ_fixed, State.setOp_fixed, State.setTokens_fixed, fixed_ite_s, ite_self]; fail_if_success done) | (simp only [*, State.fixed_mk, State.countPath_fixed, State.count_fixed, State.makeHead_fixed, State.sendBuilt_fixed, State.setChan_fixed, State.setFld_fixed, State.setInjQ_fixed, State.setOp_fixed, State.setTokens_fixed, fixed_ite_s, ite_self]; fail_if_success done) | intro _)

theorem State.queueStateLost_fixed (s : State) (k : Nat) : (State.queueStateLost s k).fixed = s.fixed := by
  unfold State.queueStateLost
  split <;> simp only [State.fixed_mk, State.raise_fixed, State.setArmed_fixed]

theorem execSchSelect_fixed (k : Fin 16) (s : State) : outFixed (execSchSelect k s) = some s.fixed := by
  unfold execSchSelect
  refine (view_ite (F := outFixed) rfl ?_)
  have h1 : (if s.armed F.SCH_INJECT_QSTATE_ECC k.val then s.queueStateLost k.val else s).fixed = s.fixed := by
    simp only [fixed_ite_s, State.queueStateLost_fixed, ite_self]
  generalize (if s.armed F.SCH_INJECT_QSTATE_ECC k.val then s.queueStateLost k.val else s) = s1 at h1 ⊢
  dsimp only
  have h2 := (foldl_fixed _ (fun t x => State.rechoose_fixed t x) ((s1.headOrder k.val).map (·.2)) s1).trans h1
  generalize ((s1.headOrder k.val).map (·.2)).foldl (fun t key => t.rechoose key) s1 = s2 at h2 ⊢
  refine congrArg some ((foldl_fixed2 _ ?_ _ _).trans h2)
  rintro ⟨n, t⟩ x
  dsimp only
  split
  · rfl
  split
  · rfl
  split
  · exact State.count_fixed ..
  · exact State.count_fixed ..
  · exact State.count_fixed ..
  · exact State.letIn_fixed ..

theorem State.refillShaper_fixed (s : State) (k : Nat) (i : Nat) : (State.refillShaper s k i).fixed = s.fixed := by simp only [State.refillShaper, State.setTokens_fixed, fixed_ite_s, ite_self]

theorem execShaperRefill_fixed (k : Fin 16) (s : State) : outFixed (execShaperRefill k s) = some s.fixed := by simp only [execShaperRefill, outFixed_next, State.refillShaper_fixed, foldl_fixed, implies_true]

theorem State.refillPolicer_fixed (s : State) (k : Nat) (i : Nat) : (State.refillPolicer s k i).fixed = s.fixed := (Eq.refl _).trans rfl

theorem execPolicerRefill_fixed (k : Fin 16) (s : State) : outFixed (execPolicerRefill k s) = some s.fixed := by simp only [execPolicerRefill, outFixed_next, State.refillPolicer_fixed, foldl_fixed, implies_true]

theorem execSchInjectQstateEcc_fixed (k : Fin 16) (s : State) : outFixed (execSchInjectQstateEcc k s) = some s.fixed := by simp only [execSchInjectQstateEcc, outFixed_next, State.setArmed_fixed]

/-! ## Machine/Match.lean -/

theorem State.showMat_fixed (s : State) (n : Nat) : (State.showMat s n).fixed = s.fixed := by simp only [State.showMat, State.setFld_fixed]

theorem State.setMat_fixed (s : State) (n : Nat) (m : Mat) : (State.setMat s n m).fixed = s.fixed := by simp only [State.setMat, State.setEp_fixed, State.showMat_fixed]

theorem State.setMsg_fixed (s : State) (i : Nat) (m : Msg) : (State.setMsg s i m).fixed = s.fixed := by simp only [State.setMsg, State.setEp_fixed, State.showMat_fixed]

theorem State.dropMsg_fixed (s : State) (i : Nat) : (State.dropMsg s i).fixed = s.fixed := by
  unfold State.dropMsg
  split <;> simp only [State.setEp_fixed, State.showMat_fixed]

theorem State.hook_fixed (s : State) (c : Nat) (type : Nat) (mseq : Nat) (detail : Nat) (status : Nat) (len : Nat) : (State.hook s c type mseq detail status len).fixed = s.fixed := by simp only [State.hook, State.qAppend_fixed, State.setMat_fixed, fixed_ite_s, ite_self]

theorem State.sendChan_fixed (s : State) (p : Nat) (c : Chan) (h : PktHead) (ext : List Byte) (payload : List Byte) (msg : Option (Nat × Nat)) : (State.sendChan s p c h ext payload msg).2.fixed = s.fixed := by simp only [State.sendChan, State.count_fixed, State.sendVia_fixed, State.setChan_fixed, fixed2_ite_s, ite_self]

theorem State.msgChan_fixed (s : State) (i : Nat) (m : Msg) : (State.msgChan s i m).2.fixed = s.fixed := by
  unfold State.msgChan
  repeat' (first | with_reducible rfl | (simp only [*, State.fixed_mk, State.openChan_fixed, State.setMsg_fixed]; done) | (split <;> (try (rename_i h; have h2 := congrArg (fun p => State.fixed (Prod.snd p)) h; simp only [State.fixed_mk, State.openChan_fixed, State.setMsg_fixed] at h2))))

theorem State.pullN_fixed (s : State) (i : Nat) (a0 : Nat) : (State.pullN s i a0).fixed = s.fixed := by
  induction a0 generalizing s i with
  | zero => unfold State.pullN; repeat' (first | with_reducible rfl | (simp only [*, State.fixed_mk, State.msgChan_fixed, State.sendChan_fixed, State.setMsg_fixed, fixed_ite_s, ite_self]; done) | (split <;> (try (rename_i h; have h2 := congrArg (fun p => State.fixed (Prod.snd p)) h; simp only [State.fixed_mk, State.msgChan_fixed, State.sendChan_fixed, State.setMsg_fixed, fixed_ite_s, ite_self] at h2))) | (simp only [State.fixed_mk, State.msgChan_fixed, State.sendChan_fixed, State.setMsg_fixed, fixed_ite_s, ite_self]; fail_if_success done) | (simp only [*, State.fixed_mk, State.msgChan_fixed, State.sendChan_fixed, State.setMsg_fixed, fixed_ite_s, ite_self]; fail_if_success done) | intro _)
  | succ _ ih => unfold State.pullN; repeat' (first | with_reducible rfl | (simp only [*, State.fixed_mk, State.msgChan_fixed, State.sendChan_fixed, State.setMsg_fixed, fixed_ite_s, ite_self]; done) | (split <;> (try (rename_i h; have h2 := congrArg (fun p => State.fixed (Prod.snd p)) h; simp only [State.fixed_mk, State.msgChan_fixed, State.sendChan_fixed, State.setMsg_fixed, fixed_ite_s, ite_self] at h2))) | (simp only [State.fixed_mk, State.msgChan_fixed, State.sendChan_fixed, State.setMsg_fixed, fixed_ite_s, ite_self]; fail_if_success done) | (simp only [*, State.fixed_mk, State.msgChan_fixed, State.sendChan_fixed, State.setMsg_fixed, fixed_ite_s, ite_self]; fail_if_success done) | intro _)

theorem State.pull_fixed (s : State) (i : Nat) : (State.pull s i).fixed = s.fixed := by simp only [State.pull, State.pullN_fixed]

theorem State.sendClosing_fixed (s : State) (i : Nat) : (State.sendClosing s i).fixed = s.fixed := by
  unfold State.sendClosing
  repeat' (first | with_reducible rfl | (simp only [*, State.fixed_mk, State.count_fixed, State.dropMsg_fixed, State.msgChan_fixed, State.sendChan_fixed, fixed_ite_s, ite_self]; done) | (split <;> (try (rename_i h; have h2 := congrArg (fun p => State.fixed (Prod.snd p)) h; simp only [State.fixed_mk, State.count_fixed, State.dropMsg_fixed, State.msgChan_fixed, State.sendChan_fixed, fixed_ite_s, ite_self] at h2))))

theorem State.endMsg_fixed (s : State) (i : Nat) (m : Msg) (p : Post) (status : Nat) (len : Nat) (detail : Nat) : (State.endMsg s i m p status len detail).fixed = s.fixed := by
  unfold State.endMsg
  repeat' split
  all_goals simp only [State.dropMsg_fixed, State.finishOp_fixed, State.hook_fixed, State.sendClosing_fixed, State.setMsg_fixed, fixed_ite_s, ite_self]

theorem State.msgCheck_fixed (s : State) (i : Nat) : (State.msgCheck s i).fixed = s.fixed := by
  unfold State.msgCheck
  repeat' split
  all_goals simp only [State.endMsg_fixed, State.pull_fixed, State.sendClosing_fixed, fixed_ite_s, ite_self]

theorem State.deposit_fixed (s : State) (i : Nat) (k : Nat) (d : List Byte) (b : List Byte) (pipe : Nat) : (State.deposit s i k d b pipe).fixed = s.fixed := by
  unfold State.deposit
  repeat' split
  all_goals simp only [State.localJob_fixed, State.setMsg_fixed, fixed_ite_s, ite_self]

theorem State.stage_fixed (s : State) (i : Nat) (k : Nat) (d : List Byte) : (State.stage s i k d).fixed = s.fixed := by
  unfold State.stage
  split <;> simp only [State.setMsg_fixed]

theorem State.bind_fixed (s : State) (i : Nat) (p : Post) : (State.bind s i p).fixed = s.fixed := by
  unfold State.bind
  split <;> simp only [State.count_fixed, State.deposit_fixed, State.hook_fixed, State.msgCheck_fixed, State.setMsg_fixed, fixed_ite_s, foldl_fixed, implies_true, ite_self]

theorem State.matchMsg_fixed (s : State) (i : Nat) : (State.matchMsg s i).fixed = s.fixed := by
  unfold State.matchMsg
  repeat' (first | with_reducible rfl | (simp only [*, State.fixed_mk, State.bind_fixed, State.count_fixed, State.hook_fixed, State.setMat_fixed, State.setMsg_fixed, fixed_ite_s, ite_self]; done) | (split <;> (try (rename_i h; have h2 := congrArg (fun p => State.fixed (Prod.snd p)) h; simp only [State.fixed_mk, State.bind_fixed, State.count_fixed, State.hook_fixed, State.setMat_fixed, State.setMsg_fixed, fixed_ite_s, ite_self] at h2))) | (simp only [State.fixed_mk, State.bind_fixed, State.count_fixed, State.hook_fixed, State.setMat_fixed, State.setMsg_fixed, fixed_ite_s, ite_self]; fail_if_success done) | (simp only [*, State.fixed_mk, State.bind_fixed, State.count_fixed, State.hook_fixed, State.setMat_fixed, State.setMsg_fixed, fixed_ite_s, ite_self]; fail_if_success done) | intro _)

theorem State.matchHeld_fixed (s : State) (p : Nat) (a0 : Nat) : (State.matchHeld s p a0).fixed = s.fixed := by
  induction a0 generalizing s p with
  | zero => unfold State.matchHeld; repeat' (first | with_reducible rfl | (simp only [*, State.fixed_mk, State.matchMsg_fixed, State.setChan_fixed]; done) | (split <;> (try (rename_i h; have h2 := congrArg (fun p => State.fixed (Prod.snd p)) h; simp only [State.fixed_mk, State.matchMsg_fixed, State.setChan_fixed] at h2))))
  | succ _ ih => unfold State.matchHeld; repeat' (first | with_reducible rfl | (simp only [*, State.fixed_mk, State.matchMsg_fixed, State.setChan_fixed]; done) | (split <;> (try (rename_i h; have h2 := congrArg (fun p => State.fixed (Prod.snd p)) h; simp only [State.fixed_mk, State.matchMsg_fixed, State.setChan_fixed] at h2))))

theorem State.post_fixed (s : State) (p : Post) : (State.post s p).2.fixed = s.fixed := by
  unfold State.post
  repeat' (first | with_reducible rfl | (simp only [*, State.fixed_mk, State.bind_fixed, State.setMat_fixed, fixed2_ite_s, ite_self]; done) | (split <;> (try (rename_i h; have h2 := congrArg (fun p => State.fixed (Prod.snd p)) h; simp only [State.fixed_mk, State.bind_fixed, State.setMat_fixed, fixed2_ite_s, ite_self] at h2))) | (simp only [State.fixed_mk, State.bind_fixed, State.setMat_fixed, fixed2_ite_s, ite_self]; fail_if_success done) | (simp only [*, State.fixed_mk, State.bind_fixed, State.setMat_fixed, fixed2_ite_s, ite_self]; fail_if_success done) | intro _)

theorem State.cancelPosts_fixed (s : State) (c : Nat) : (State.cancelPosts s c).fixed = s.fixed := by simp only [State.cancelPosts, State.finishOp_fixed, State.hook_fixed, State.setMat_fixed, fixed_ite_s, foldl_fixed, implies_true, ite_self]

theorem State.discardMsgs_fixed (s : State) (c : Nat) : (State.discardMsgs s c).fixed = s.fixed := by simp only [State.discardMsgs, State.dropMsg_fixed, State.sendClosing_fixed, State.setMsg_fixed, fixed_ite_s, foldl_fixed, implies_true, ite_self]

theorem State.protoBad_fixed (s : State) (b : List Byte) (x : MExt) (c : Nat) : (State.protoBad s b x c).fixed = s.fixed := by simp only [State.protoBad, State.count_fixed, State.raise_fixed]

theorem State.matFull_fixed (s : State) (c : Nat) (mseq : Nat) (why : Nat) : (State.matFull s c mseq why).fixed = s.fixed := by simp only [State.matFull, State.count_fixed, State.raise_fixed]

theorem State.seenTwice_fixed (s : State) (c : Nat) (x : MExt) : (State.seenTwice s c x).fixed = s.fixed := by simp only [State.seenTwice, State.raise_fixed]

theorem State.recHook_fixed (s : State) (c : Nat) (before : Nat) : (State.recHook s c before).fixed = s.fixed := by simp only [State.recHook, State.hook_fixed, fixed_ite_s, ite_self]

theorem State.settleHold_fixed (s : State) (p : Nat) (i : Nat) (k : Nat) (q : Nat) : (State.settleHold s p i k q).fixed = s.fixed := by
  unfold State.settleHold
  split <;> simp only [State.setChan_fixed, fixed_ite_s, ite_self]

theorem State.takeMsg_fixed (s : State) (p : Nat) (b : List Byte) (pipe : Nat) : (State.takeMsg s p b pipe).2.fixed = s.fixed := by
  unfold State.takeMsg
  repeat' (first | with_reducible rfl | (simp only [*, State.fixed_mk, State.count_fixed, State.deposit_fixed, State.haltCtx_fixed, State.holdRx_fixed, State.matFull_fixed, State.matchHeld_fixed, State.matchMsg_fixed, State.msgCheck_fixed, State.protoBad_fixed, State.raise_fixed, State.recHook_fixed, State.seenTwice_fixed, State.setArmed_fixed, State.setChan_fixed, State.setMsg_fixed, State.settleHold_fixed, State.stage_fixed, fixed2_ite_s, fixed_ite_s, ite_self]; done) | (split <;> (try (rename_i h; have h2 := congrArg (fun p => State.fixed (Prod.snd p)) h; simp only [State.fixed_mk, State.count_fixed, State.deposit_fixed, State.haltCtx_fixed, State.holdRx_fixed, State.matFull_fixed, State.matchHeld_fixed, State.matchMsg_fixed, State.msgCheck_fixed, State.protoBad_fixed, State.raise_fixed, State.recHook_fixed, State.seenTwice_fixed, State.setArmed_fixed, State.setChan_fixed, State.setMsg_fixed, State.settleHold_fixed, State.stage_fixed, fixed2_ite_s, fixed_ite_s, ite_self] at h2))) | (simp only [State.fixed_mk, State.count_fixed, State.deposit_fixed, State.haltCtx_fixed, State.holdRx_fixed, State.matFull_fixed, State.matchHeld_fixed, State.matchMsg_fixed, State.msgCheck_fixed, State.protoBad_fixed, State.raise_fixed, State.recHook_fixed, State.seenTwice_fixed, State.setArmed_fixed, State.setChan_fixed, State.setMsg_fixed, State.settleHold_fixed, State.stage_fixed, fixed2_ite_s, fixed_ite_s, ite_self]; fail_if_success done) | (simp only [*, State.fixed_mk, State.count_fixed, State.deposit_fixed, State.haltCtx_fixed, State.holdRx_fixed, State.matFull_fixed, State.matchHeld_fixed, State.matchMsg_fixed, State.msgCheck_fixed, State.protoBad_fixed, State.raise_fixed, State.recHook_fixed, State.seenTwice_fixed, State.setArmed_fixed, State.setChan_fixed, State.setMsg_fixed, State.settleHold_fixed, State.stage_fixed, fixed2_ite_s, fixed_ite_s, ite_self]; fail_if_success done) | intro _)

theorem State.takeClosing_fixed (s : State) (p : Nat) (b : List Byte) : (State.takeClosing s p b).2.fixed = s.fixed := by
  unfold State.takeClosing
  repeat' (first | with_reducible rfl | (simp only [*, State.fixed_mk, State.finishOp_fixed, State.freeChan_fixed, State.protoBad_fixed, fixed2_ite_s]; done) | (split <;> (try (rename_i h; have h2 := congrArg (fun p => State.fixed (Prod.snd p)) h; simp only [State.fixed_mk, State.finishOp_fixed, State.freeChan_fixed, State.protoBad_fixed, fixed2_ite_s] at h2))) | (simp only [State.fixed_mk, State.finishOp_fixed, State.freeChan_fixed, State.protoBad_fixed, fixed2_ite_s]; fail_if_success done) | (simp only [*, State.fixed_mk, State.finishOp_fixed, State.freeChan_fixed, State.protoBad_fixed, fixed2_ite_s]; fail_if_success done) | intro _)

/-! ## Machine/Remote.lean -/

theorem State.showRel_fixed (s : State) (n : Nat) : (State.showRel s n).fixed = s.fixed := by simp only [State.showRel, State.setFld_fixed]

theorem State.endJob_fixed (s : State) (id : Nat) : (State.endJob s id).fixed = s.fixed := by
  unfold State.endJob
  split <;> simp only [State.dropJob_fixed, State.setCtx_fixed, State.showRel_fixed, fixed_ite_s, ite_self]

theorem State.spoil_fixed (s : State) (i : Nat) (status : Nat) (detail : Nat) : (State.spoil s i status detail).fixed = s.fixed := by
  unfold State.spoil
  split <;> simp only [State.setMsg_fixed]

theorem State.refuseJob_fixed (s : State) (id : Nat) (j : Job) (reason : Nat) (status : Nat) (addr : Nat) : (State.refuseJob s id j reason status addr).fixed = s.fixed := by
  unfold State.refuseJob
  repeat' (first | with_reducible rfl | (simp only [*, State.fixed_mk, State.endJob_fixed, State.msgCheck_fixed, State.refuse_fixed, State.setChan_fixed, State.spoil_fixed]; done) | (split <;> (try (rename_i h; have h2 := congrArg (fun p => State.fixed (Prod.snd p)) h; simp only [State.fixed_mk, State.endJob_fixed, State.msgCheck_fixed, State.refuse_fixed, State.setChan_fixed, State.spoil_fixed] at h2))) | (simp only [State.fixed_mk, State.endJob_fixed, State.msgCheck_fixed, State.refuse_fixed, State.setChan_fixed, State.spoil_fixed]; fail_if_success done) | (simp only [*, State.fixed_mk, State.endJob_fixed, State.msgCheck_fixed, State.refuse_fixed, State.setChan_fixed, State.spoil_fixed]; fail_if_success done) | intro _)

theorem State.parkJob_fixed (s : State) (id : Nat) (j : Job) : (State.parkJob s id j).fixed = s.fixed := by
  unfold State.parkJob
  extract_lets n p va event
  have he : ∀ t k, (event t k).fixed = t.fixed := fun t k => State.ctxEvent_fixed ..
  clear_value event n p va
  cases j.slot with
  | some k => exact he ..
  | none =>
    dsimp only
    split
    · exact State.refuseJob_fixed ..
    · refine (he ..).trans ((State.raise_fixed ..).trans ?_)
      simp only [fixed_ite_s, State.sendRouted_fixed, State.holdRx_fixed, State.takeFree_fixed, State.showRel_fixed, State.count_fixed,
        State.setCtx_fixed, State.setJob_fixed, ite_self]

theorem State.remoteFault_fixed (s : State) (id : Nat) (j : Job) (code : Nat) : (State.remoteFault s id j code).fixed = s.fixed := by simp only [State.remoteFault, State.parkJob_fixed, State.refuseJob_fixed, fixed_ite_s, ite_self]

theorem State.unresolved_fixed (s : State) (id : Nat) (j : Job) : (State.unresolved s id j).fixed = s.fixed := by simp only [State.unresolved, State.raise_fixed, State.refuseJob_fixed]

theorem State.lostJob_fixed (s : State) (id : Nat) (j : Job) (va : Nat) : (State.lostJob s id j va).fixed = s.fixed := by simp only [State.lostJob, State.raise_fixed, State.refuseJob_fixed, fixed_ite_s, ite_self]

theorem State.notifyCheck_fixed (s : State) (p : Nat) (b : List Byte) : (State.notifyCheck s p b).fixed = s.fixed := by
  unfold State.notifyCheck
  repeat' (first | with_reducible rfl | (simp only [*, State.fixed_mk, State.cqEntry_fixed, State.inRefused_fixed, State.refuse_fixed, State.setChan_fixed]; done) | (split <;> (try (rename_i h; have h2 := congrArg (fun p => State.fixed (Prod.snd p)) h; simp only [State.fixed_mk, State.cqEntry_fixed, State.inRefused_fixed, State.refuse_fixed, State.setChan_fixed] at h2))) | (simp only [State.fixed_mk, State.cqEntry_fixed, State.inRefused_fixed, State.refuse_fixed, State.setChan_fixed]; fail_if_success done) | (simp only [*, State.fixed_mk, State.cqEntry_fixed, State.inRefused_fixed, State.refuse_fixed, State.setChan_fixed]; fail_if_success done) | intro _)

theorem State.notifyArrive_fixed (s : State) (p : Nat) (b : List Byte) : (State.notifyArrive s p b).fixed = s.fixed := by
  unfold State.notifyArrive
  split <;> simp only [State.setChan_fixed]

theorem State.notifyLand_fixed (s : State) (p : Nat) (b : List Byte) : (State.notifyLand s p b).fixed = s.fixed := by
  unfold State.notifyLand
  repeat' split
  all_goals simp only [State.notifyCheck_fixed, State.setChan_fixed]

theorem State.nextAtomic_fixed (s : State) (port : Nat) (hpa : Nat) : (State.nextAtomic s port hpa).fixed = s.fixed := by
  unfold State.nextAtomic
  repeat' split
  all_goals simp only [State.hostRead_fixed, State.setJob_fixed]

theorem State.atomDone_fixed (s : State) (id : Nat) (j : Job) (p : Nat) (q : Nat) : (State.atomDone s id j p q).fixed = s.fixed := by
  unfold State.atomDone
  split <;> simp only [State.endJob_fixed, State.nextAtomic_fixed, State.sendRouted_fixed, State.setEp_fixed, State.showRel_fixed, State.unholdRx_fixed]

theorem State.atomHave_fixed (s : State) (id : Nat) (j : Job) (p : Nat) (q : Nat) : (State.atomHave s id j p q).fixed = s.fixed := by
  unfold State.atomHave
  split <;> simp only [State.atomDone_fixed, State.endJob_fixed, State.hostWrite_fixed, State.setJob_fixed, fixed_ite_s, ite_self]

theorem State.remoteEvent_fixed (s : State) (id : Nat) (j : Job) (ev : JobEv) : (State.remoteEvent s id j ev).fixed = s.fixed := by
  unfold State.remoteEvent
  repeat' (first | with_reducible rfl | (simp only [*, State.fixed_mk, State.atomDone_fixed, State.atomHave_fixed, State.endJob_fixed, State.haltCtx_fixed, State.holdRx_fixed, State.lostJob_fixed, State.msgCheck_fixed, State.nextAtomic_fixed, State.notifyLand_fixed, State.raise_fixed, State.remoteFault_fixed, State.sendRouted_fixed, State.setArmed_fixed, State.setMsg_fixed, State.unholdRx_fixed, State.unresolved_fixed, fixed_ite_s, ite_self]; done) | (split <;> (try (rename_i h; have h2 := congrArg (fun p => State.fixed (Prod.snd p)) h; simp only [State.fixed_mk, State.atomDone_fixed, State.atomHave_fixed, State.endJob_fixed, State.haltCtx_fixed, State.holdRx_fixed, State.lostJob_fixed, State.msgCheck_fixed, State.nextAtomic_fixed, State.notifyLand_fixed, State.raise_fixed, State.remoteFault_fixed, State.sendRouted_fixed, State.setArmed_fixed, State.setMsg_fixed, State.unholdRx_fixed, State.unresolved_fixed, fixed_ite_s, ite_self] at h2))) | (simp only [State.fixed_mk, State.atomDone_fixed, State.atomHave_fixed, State.endJob_fixed, State.haltCtx_fixed, State.holdRx_fixed, State.lostJob_fixed, State.msgCheck_fixed, State.nextAtomic_fixed, State.notifyLand_fixed, State.raise_fixed, State.remoteFault_fixed, State.sendRouted_fixed, State.setArmed_fixed, State.setMsg_fixed, State.unholdRx_fixed, State.unresolved_fixed, fixed_ite_s, ite_self]; fail_if_success done) | (simp only [*, State.fixed_mk, State.atomDone_fixed, State.atomHave_fixed, State.endJob_fixed, State.haltCtx_fixed, State.holdRx_fixed, State.lostJob_fixed, State.msgCheck_fixed, State.nextAtomic_fixed, State.notifyLand_fixed, State.raise_fixed, State.remoteFault_fixed, State.sendRouted_fixed, State.setArmed_fixed, State.setMsg_fixed, State.unholdRx_fixed, State.unresolved_fixed, fixed_ite_s, ite_self]; fail_if_success done) | intro _)

theorem State.refuseMsg_fixed (s : State) (p : Nat) (b : List Byte) (pipe : Nat) (reason : Nat) : (State.refuseMsg s p b pipe reason).fixed = s.fixed := by simp only [State.refuseMsg, State.refuse_fixed, State.takeFree_fixed]

theorem State.carryOut_fixed (s : State) (p : Nat) (b : List Byte) (pipe : Nat) : (State.carryOut s p b pipe).fixed = s.fixed := by
  unfold State.carryOut
  split <;> simp only [State.holdRx_fixed, State.localJob_fixed, State.notifyArrive_fixed, State.startJob_fixed, fixed_ite_s, ite_self]

theorem State.consume_fixed (s : State) (p : Nat) (b : List Byte) (pipe : Nat) : (State.consume s p b pipe).2.fixed = s.fixed := by
  unfold State.consume
  repeat' (first | with_reducible rfl | (simp only [*, State.fixed_mk, State.carryOut_fixed, State.count_fixed, State.inRefused_fixed, State.raise_fixed, State.refuseMsg_fixed, State.refuse_fixed, State.takeClosing_fixed, State.takeMsg_fixed, fixed2_ite_s, fixed_ite_s, ite_self]; done) | (split <;> (try (rename_i h; have h2 := congrArg (fun p => State.fixed (Prod.snd p)) h; simp only [State.fixed_mk, State.carryOut_fixed, State.count_fixed, State.inRefused_fixed, State.raise_fixed, State.refuseMsg_fixed, State.refuse_fixed, State.takeClosing_fixed, State.takeMsg_fixed, fixed2_ite_s, fixed_ite_s, ite_self] at h2))))

theorem State.markRx_fixed (s : State) (p : Nat) (b : List Byte) (pipe : Nat) : (State.markRx s p b pipe).fixed = s.fixed := by
  unfold State.markRx
  split <;> simp only [State.nowAckable_fixed, State.setChan_fixed, State.setEp_fixed, State.showRel_fixed, fixed_ite_s, ite_self]

theorem State.passRx_fixed (s : State) (p : Nat) (b : List Byte) (pipe : Nat) : (State.passRx s p b pipe).fixed = s.fixed := by
  unfold State.passRx
  repeat' (first | with_reducible rfl | (simp only [*, State.fixed_mk, State.consume_fixed, State.markRx_fixed]; done) | (split <;> (try (rename_i h; have h2 := congrArg (fun p => State.fixed (Prod.snd p)) h; simp only [State.fixed_mk, State.consume_fixed, State.markRx_fixed] at h2))))

theorem State.duplicate_fixed (s : State) (p : Nat) (c : Chan) (b : List Byte) (pipe : Nat) : (State.duplicate s p c b pipe).fixed = s.fixed := by
  unfold State.duplicate
  repeat' (first | with_reducible rfl | (simp only [*, State.fixed_mk, State.chanFail_fixed, State.consume_fixed, State.count_fixed, State.raise_fixed, State.sendRelAck_fixed, State.sendRouted_fixed, State.setArmed_fixed, State.setChan_fixed, State.takeFree_fixed, fixed_ite_s, ite_self]; done) | (split <;> (try (rename_i h; have h2 := congrArg (fun p => State.fixed (Prod.snd p)) h; simp only [State.fixed_mk, State.chanFail_fixed, State.consume_fixed, State.count_fixed, State.raise_fixed, State.sendRelAck_fixed, State.sendRouted_fixed, State.setArmed_fixed, State.setChan_fixed, State.takeFree_fixed, fixed_ite_s, ite_self] at h2))) | (simp only [State.fixed_mk, State.chanFail_fixed, State.consume_fixed, State.count_fixed, State.raise_fixed, State.sendRelAck_fixed, State.sendRouted_fixed, State.setArmed_fixed, State.setChan_fixed, State.takeFree_fixed, fixed_ite_s, ite_self]; fail_if_success done) | (simp only [*, State.fixed_mk, State.chanFail_fixed, State.consume_fixed, State.count_fixed, State.raise_fixed, State.sendRelAck_fixed, State.sendRouted_fixed, State.setArmed_fixed, State.setChan_fixed, State.takeFree_fixed, fixed_ite_s, ite_self]; fail_if_success done) | intro _)

theorem State.chanReceive_fixed (s : State) (d : Dlv) : (State.chanReceive s d).fixed = s.fixed := by
  unfold State.chanReceive
  repeat' (first | with_reducible rfl | (simp only [*, State.fixed_mk, State.count_fixed, State.duplicate_fixed, State.holdRx_fixed, State.openChan_fixed, State.passRx_fixed, State.raise_fixed, State.setArmed_fixed, State.setChan_fixed, State.touchCtx_fixed, fixed_ite_s, ite_self]; done) | (split <;> (try (rename_i h; have h2 := congrArg (fun p => State.fixed (Prod.snd p)) h; simp only [State.fixed_mk, State.count_fixed, State.duplicate_fixed, State.holdRx_fixed, State.openChan_fixed, State.passRx_fixed, State.raise_fixed, State.setArmed_fixed, State.setChan_fixed, State.touchCtx_fixed, fixed_ite_s, ite_self] at h2))) | (simp only [State.fixed_mk, State.count_fixed, State.duplicate_fixed, State.holdRx_fixed, State.openChan_fixed, State.passRx_fixed, State.raise_fixed, State.setArmed_fixed, State.setChan_fixed, State.touchCtx_fixed, fixed_ite_s, ite_self]; fail_if_success done) | (simp only [*, State.fixed_mk, State.count_fixed, State.duplicate_fixed, State.holdRx_fixed, State.openChan_fixed, State.passRx_fixed, State.raise_fixed, State.setArmed_fixed, State.setChan_fixed, State.touchCtx_fixed, fixed_ite_s, ite_self]; fail_if_success done) | intro _)

theorem State.receiveOpc_fixed (s : State) (o : Nat) : (State.receiveOpc s o).fixed = s.fixed := by
  unfold State.receiveOpc
  repeat' (first | with_reducible rfl | (simp only [*, State.fixed_mk, State.chanReceive_fixed, State.takeDlv_fixed]; done) | (split <;> (try (rename_i h; have h2 := congrArg (fun p => State.fixed (Prod.snd p)) h; simp only [State.fixed_mk, State.chanReceive_fixed, State.takeDlv_fixed] at h2))))

theorem State.releaseFence_fixed (s : State) (p : Nat) : (State.releaseFence s p).fixed = s.fixed := by
  unfold State.releaseFence
  repeat' split
  all_goals simp only [State.passRx_fixed, State.setChan_fixed]

/-! ## Machine/Reliable.lean -/

theorem State.attachChan_fixed (s : State) (tag : Nat) : (State.attachChan s tag).fixed = s.fixed := by
  unfold State.attachChan
  repeat' (first | with_reducible rfl | (simp only [*, State.fixed_mk, State.openChan_fixed, State.setChan_fixed, State.setEp_fixed, State.setOp_fixed, fixed_ite_s, ite_self]; done) | (split <;> (try (rename_i h; have h2 := congrArg (fun p => State.fixed (Prod.snd p)) h; simp only [State.fixed_mk, State.openChan_fixed, State.setChan_fixed, State.setEp_fixed, State.setOp_fixed, fixed_ite_s, ite_self] at h2))))

theorem State.retryChans_fixed (s : State) : (State.retryChans s).fixed = s.fixed := by
  unfold State.retryChans
  repeat' (first | with_reducible rfl | (simp only [*, State.fixed_mk, State.attachChan_fixed, State.injectOp_fixed, fixed_ite_s, foldl_fixed, ite_self]; done) | (split <;> (try (rename_i h; have h2 := congrArg (fun p => State.fixed (Prod.snd p)) h; simp only [State.fixed_mk, State.attachChan_fixed, State.injectOp_fixed, fixed_ite_s, foldl_fixed, ite_self] at h2))) | (refine (foldl_fixed _ ?_ _ _).trans ?_) | (simp only [State.fixed_mk, State.attachChan_fixed, State.injectOp_fixed, fixed_ite_s, foldl_fixed, ite_self]; fail_if_success done) | (simp only [*, State.fixed_mk, State.attachChan_fixed, State.injectOp_fixed, fixed_ite_s, foldl_fixed, ite_self]; fail_if_success done) | intro _)

theorem State.putTx_fixed (s : State) (p q : Nat) (f : TxPk → TxPk) :
    (match s.chan p with
      | none => s
      | some c => s.setChan p { c with unret := c.unret.map (fun (x : TxPk) => if x.seq = q then f x else x) }).fixed = s.fixed := by
  split
  · rfl
  · exact State.setChan_fixed ..

theorem State.resendTx_fixed (s : State) (p : Nat) (q : Nat) (timeout : Bool) : (State.resendTx s p q timeout).fixed = s.fixed := by
  unfold State.resendTx
  split
  · rfl
  rename_i c _
  split
  · rfl
  rename_i t _
  extract_lets n s1 put s2
  have h1 : s1.fixed = s.fixed := by
    simp only [s1]
    split
    · exact State.markFailed_fixed ..
    · rfl
  have hp : ∀ t f, (put t f).fixed = t.fixed := fun t f => State.putTx_fixed ..
  have h2 : s2.fixed = s.fixed := (State.count_fixed ..).trans h1
  clear_value n s1 put s2
  refine view_ite (F := State.fixed) rfl (view_ite (F := State.fixed) ?_ ?_)
  · simp only [fixed_ite_s, State.chanFail_fixed, ite_self]
  cases t.tag.bind s2.op with
  | some o => exact (State.injectRetx_fixed ..).trans ((hp ..).trans h2)
  | none =>
    dsimp only
    have e := State.sendVia_fixed s2 (withRetx t.bytes) (s2.portTile (s2.ctxPort c.ctx)) (pTag t.bytes)
    generalize s2.sendVia (withRetx t.bytes) (s2.portTile (s2.ctxPort c.ctx)) (pTag t.bytes) = r at e ⊢
    rcases r with ⟨b, cand, s3⟩
    cases b with
    | true =>
      dsimp only
      split
      · exact (State.setChan_fixed ..).trans ((hp ..).trans (e.trans h2))
      · exact (hp ..).trans (e.trans h2)
    | false =>
      dsimp only
      split
      · exact (State.msgCheck_fixed ..).trans ((State.spoil_fixed ..).trans ((State.dropTx_fixed ..).trans (e.trans h2)))
      · exact (State.dropTx_fixed ..).trans (e.trans h2)

theorem State.takeAck_fixed (s : State) (b : List Byte) : (State.takeAck s b).fixed = s.fixed := by
  unfold State.takeAck
  repeat' split
  all_goals simp only [State.count_fixed, State.raise_fixed, State.retire_fixed, fixed_ite_s, foldl_fixed, implies_true, ite_self]

theorem State.takeRsp_fixed (s : State) (b : List Byte) : (State.takeRsp s b).fixed = s.fixed := by
  unfold State.takeRsp
  repeat' (first | with_reducible rfl | (simp only [*, State.fixed_mk, State.count_fixed, State.deposit_fixed, State.dropTx_fixed, State.localJob_fixed, State.msgCheck_fixed, State.retire_fixed, State.setMsg_fixed, fixed_ite_s, ite_self]; done) | (split <;> (try (rename_i h; have h2 := congrArg (fun p => State.fixed (Prod.snd p)) h; simp only [State.fixed_mk, State.count_fixed, State.deposit_fixed, State.dropTx_fixed, State.localJob_fixed, State.msgCheck_fixed, State.retire_fixed, State.setMsg_fixed, fixed_ite_s, ite_self] at h2))) | (simp only [State.fixed_mk, State.count_fixed, State.deposit_fixed, State.dropTx_fixed, State.localJob_fixed, State.msgCheck_fixed, State.retire_fixed, State.setMsg_fixed, fixed_ite_s, ite_self]; fail_if_success done) | (simp only [*, State.fixed_mk, State.count_fixed, State.deposit_fixed, State.dropTx_fixed, State.localJob_fixed, State.msgCheck_fixed, State.retire_fixed, State.setMsg_fixed, fixed_ite_s, ite_self]; fail_if_success done) | intro _)

theorem State.takeNak_fixed (s : State) (b : List Byte) : (State.takeNak s b).fixed = s.fixed := by
  unfold State.takeNak
  repeat' split
  all_goals simp only [State.count_fixed, State.dropTx_fixed, State.failOp_fixed, State.msgCheck_fixed, State.setChan_fixed, State.spoil_fixed, fixed_ite_s, ite_self]

theorem State.takeRouteError_fixed (s : State) (b : List Byte) : (State.takeRouteError s b).fixed = s.fixed := by simp only [State.takeRouteError, State.markMatching_fixed, State.resendTx_fixed, elim_same, fixed_elim_s, fixed_ite_s, ite_self]

theorem State.txReset_fixed (s : State) (p : Nat) : (State.txReset s p).fixed = s.fixed := by
  unfold State.txReset
  split <;> simp only [State.freeChan_fixed, State.retryChans_fixed, State.setChan_fixed, State.setOp_fixed, fixed_ite_s, foldl_fixed, implies_true, ite_self]

theorem State.rxReset_fixed (s : State) (p : Nat) : (State.rxReset s p).fixed = s.fixed := by
  unfold State.rxReset
  split <;> simp only [State.dropMsg_fixed, State.freeChan_fixed, State.setChan_fixed, State.setEp_fixed, State.setMsg_fixed, State.showRel_fixed, fixed_ite_s, foldl_fixed, implies_true, ite_self]

theorem State.holdLocal_fixed (s : State) (j : Job) (tag : Nat) (code : Nat) (level : Nat) : (State.holdLocal s j tag code level).fixed = s.fixed := by simp only [State.holdLocal, State.ctxEvent_fixed, State.xltRaise_fixed]

theorem State.localTimeout_fixed (s : State) (j : Job) (tag : Nat) : (State.localTimeout s j tag).fixed = s.fixed := by
  unfold State.localTimeout
  split <;> simp only [State.xltRaise_fixed]

theorem State.localEvent_fixed (s : State) (id : Nat) (j : Job) (tag : Nat) (ev : JobEv) : (State.localEvent s id j tag ev).2.fixed = s.fixed := by
  unfold State.localEvent
  repeat' split
  all_goals simp only [State.dropJob_fixed, State.holdLocal_fixed, fixed2_ite_s, ite_self]

theorem State.payloadEnd_fixed (s : State) (j : Job) (tag : Nat) (k : Nat) (e : LocalEnd) : (State.payloadEnd s j tag k e).fixed = s.fixed := by
  unfold State.payloadEnd
  repeat' split
  all_goals simp only [State.failOp_fixed, State.injectOp_fixed, State.setOp_fixed, fixed_ite_s, ite_self]

theorem State.replyEnd_fixed (s : State) (tag : Nat) (off : Nat) (e : LocalEnd) : (State.replyEnd s tag off e).fixed = s.fixed := by
  unfold State.replyEnd
  repeat' split
  all_goals simp only [State.failOp_fixed, State.opCheck_fixed, State.setOp_fixed]

theorem State.showRevoke_fixed (s : State) : (State.showRevoke s).fixed = s.fixed := by
  unfold State.showRevoke
  repeat' (first | with_reducible rfl | (simp only [*, State.fixed_mk, State.setFld_fixed, foldl_fixed, implies_true]; done) | (split <;> (try (rename_i h; have h2 := congrArg (fun p => State.fixed (Prod.snd p)) h; simp only [State.fixed_mk, State.setFld_fixed, foldl_fixed, implies_true] at h2))) | (refine (foldl_fixed _ ?_ _ _).trans ?_) | (simp only [State.fixed_mk, State.setFld_fixed, foldl_fixed, implies_true]; fail_if_success done) | (simp only [*, State.fixed_mk, State.setFld_fixed, foldl_fixed, implies_true]; fail_if_success done) | intro _)

theorem State.revokeBegin_fixed (s : State) (i : Nat) (tag : Nat) : (State.revokeBegin s i tag).fixed = s.fixed := by simp only [State.revokeBegin, State.refuseJob_fixed, State.setEp_fixed, State.showRevoke_fixed, foldl_fixed, implies_true]

theorem State.revokeEnd_fixed (s : State) : (State.revokeEnd s).fixed = s.fixed := by
  unfold State.revokeEnd
  split <;> simp only [State.finishOp_fixed, State.raise_fixed, State.setEp_fixed, State.showRevoke_fixed, State.takeFree_fixed, fixed_ite_s, ite_self]

end Sys2Proof.Machine
end

