-- ==== Sys2Proof/Laws/Fixed5.lean ====
section
/-!
SUPPORT. The operations and meanings of Machine/Collective.lean, Machine/Viaduct.lean, Machine/Cpu.lean, Machine/Endpoint.lean
leave the queue, the fuses and the flash alone.
-/
namespace Sys2Proof.Machine

set_option linter.all false

/-! ## Machine/Collective.lean -/

theorem State.treeLookup_fixed (s : State) (t : Nat) (b : List Byte) : (State.treeLookup s t b).2.fixed = s.fixed := by simp only [State.treeLookup, State.fixed_mk, State.count_fixed, State.raise_fixed, State.setArmed_fixed, fixed2_ite_s, fixed_ite_s, ite_self]

theorem State.sendUp_fixed (s : State) (t : Nat) (b : List Byte) : (State.sendUp s t b).fixed = s.fixed := by simp only [State.sendUp, State.sendBuilt_fixed, State.setArmed_fixed, fixed_ite_s, ite_self]

theorem State.sendDown_fixed (s : State) (t : Nat) (mk : Nat → List Byte) : (State.sendDown s t mk).fixed = s.fixed := by simp only [State.sendDown, State.count_fixed, State.sendBuilt_fixed, fixed_ite_s, foldl_fixed, implies_true, ite_self]

theorem State.replicate_fixed (s : State) (d : Dlv) (t : Nat) : (State.replicate s d t).fixed = s.fixed := by
  unfold State.replicate
  extract_lets es s1
  have h1 : s1.fixed = s.fixed := by simp only [s1, fixed_ite_s, State.raise_fixed, ite_self]
  clear_value es s1
  refine view_ite (F := State.fixed) h1 ?_
  cases s1.pkt d.pkt with
  | none => exact h1
  | some p =>
    exact (foldl_fixed _ (fun t e => (State.forwardPkt_fixed ..).trans (State.count_fixed ..)) _ _).trans ((State.setPkt_fixed ..).trans h1)

theorem State.showAbc_fixed (s : State) (n : Nat) : (State.showAbc s n).fixed = s.fixed := by simp only [State.showAbc, State.setFld_fixed]

theorem State.setWin_fixed (s : State) (k : Nat) (w : Window) : (State.setWin s k w).fixed = s.fixed := by simp only [State.setWin, State.fixed_mk, State.showAbc_fixed]

theorem State.touchWin_fixed (s : State) (k : Nat) (w : Window) : (State.touchWin s k w).fixed = s.fixed := by simp only [State.touchWin, State.fixed_mk, State.setWin_fixed]

theorem State.tombWin_fixed (s : State) (k : Nat) (w : Window) (ph : WPh) : (State.tombWin s k w ph).fixed = s.fixed := by simp only [State.tombWin, State.setWin_fixed]

theorem State.restage_fixed (s : State) (tag : Nat) (k : Nat) (first : Nat) : (State.restage s tag k first).fixed = s.fixed := by
  unfold State.restage
  split <;> simp only [State.localJob_fixed, fixed_ite_s, ite_self]

theorem State.collPayload_fixed (s : State) (tag : Nat) (k : Nat) (d : List Byte) : (State.collPayload s tag k d).fixed = s.fixed := by
  unfold State.collPayload
  repeat' split
  all_goals simp only [State.injectOp_fixed, State.setOp_fixed]

theorem State.collDeposit_fixed (s : State) (tag : Nat) (o : Op) (base : Nat) (off : Nat) (d : List Byte) : (State.collDeposit s tag o base off d).fixed = s.fixed := by simp only [State.collDeposit, State.localJob_fixed, fixed_ite_s, ite_self]

theorem State.collCheck_fixed (s : State) (tag : Nat) : (State.collCheck s tag).fixed = s.fixed := by
  unfold State.collCheck
  split <;> simp only [State.finishOp_fixed, fixed_ite_s, ite_self]

theorem State.collEnd_fixed (s : State) (tag : Nat) (key : Nat) (e : LocalEnd) : (State.collEnd s tag key e).fixed = s.fixed := by
  unfold State.collEnd
  repeat' split
  all_goals simp only [State.collCheck_fixed, State.finishOp_fixed, State.setOp_fixed]

theorem State.deliverResult_fixed (s : State) (t : Nat) (i : Nat) (chunk : Nat) (fmt : Nat) (d : List Byte) : (State.deliverResult s t i chunk fmt d).fixed = s.fixed := by
  unfold State.deliverResult
  repeat' (first | with_reducible rfl | (simp only [*, State.fixed_mk, State.collDeposit_fixed, fixed_ite_s, foldl_fixed, ite_self]; done) | (split <;> (try (rename_i h; have h2 := congrArg (fun p => State.fixed (Prod.snd p)) h; simp only [State.fixed_mk, State.collDeposit_fixed, fixed_ite_s, foldl_fixed, ite_self] at h2))) | (refine (foldl_fixed _ ?_ _ _).trans ?_) | (simp only [State.fixed_mk, State.collDeposit_fixed, fixed_ite_s, foldl_fixed, ite_self]; fail_if_success done) | (simp only [*, State.fixed_mk, State.collDeposit_fixed, fixed_ite_s, foldl_fixed, ite_self]; fail_if_success done) | intro _)

theorem State.deliverBcast_fixed (s : State) (t : Nat) (i : Nat) (chunk : Nat) (first : Nat) (d : List Byte) : (State.deliverBcast s t i chunk first d).fixed = s.fixed := by
  unfold State.deliverBcast
  repeat' (first | with_reducible rfl | (simp only [*, State.fixed_mk, State.collDeposit_fixed, fixed_ite_s, foldl_fixed, ite_self]; done) | (split <;> (try (rename_i h; have h2 := congrArg (fun p => State.fixed (Prod.snd p)) h; simp only [State.fixed_mk, State.collDeposit_fixed, fixed_ite_s, foldl_fixed, ite_self] at h2))) | (refine (foldl_fixed _ ?_ _ _).trans ?_) | (simp only [State.fixed_mk, State.collDeposit_fixed, fixed_ite_s, foldl_fixed, ite_self]; fail_if_success done) | (simp only [*, State.fixed_mk, State.collDeposit_fixed, fixed_ite_s, foldl_fixed, ite_self]; fail_if_success done) | intro _)

theorem State.endInstance_fixed (s : State) (t : Nat) (i : Nat) (status : Nat) (opcs : List Nat) : (State.endInstance s t i status opcs).fixed = s.fixed := by
  unfold State.endInstance
  repeat' (first | with_reducible rfl | (simp only [*, State.fixed_mk, State.finishOp_fixed, foldl_fixed]; done) | (split <;> (try (rename_i h; have h2 := congrArg (fun p => State.fixed (Prod.snd p)) h; simp only [State.fixed_mk, State.finishOp_fixed, foldl_fixed] at h2))) | (refine (foldl_fixed _ ?_ _ _).trans ?_) | (simp only [State.fixed_mk, State.finishOp_fixed, foldl_fixed]; fail_if_success done) | (simp only [*, State.fixed_mk, State.finishOp_fixed, foldl_fixed]; fail_if_success done) | intro _)

theorem State.repullOne_fixed (s : State) (t : Nat) (i : Nat) (chunk : Nat) (c : Nat) (first : Nat) (bar : Bool) : (State.repullOne s t i chunk c first bar).fixed = s.fixed := by
  unfold State.repullOne
  repeat' split
  all_goals simp only [State.count_fixed, State.injectOp_fixed, State.restage_fixed, State.sendBuilt_fixed, State.setOp_fixed, fixed_ite_s, ite_self]

theorem State.repullAll_fixed (s : State) (w : Window) : (State.repullAll s w).fixed = s.fixed := by simp only [State.repullAll, State.repullOne_fixed, foldl_fixed, implies_true]

theorem State.resetWin_fixed (s : State) (k : Nat) (w : Window) : (State.resetWin s k w).fixed = s.fixed := by simp only [State.resetWin, State.repullAll_fixed, State.setWin_fixed]

theorem State.sendFails_fixed (s : State) (t : Nat) (i : Nat) (chunk : Nat) (but : Option Nat) : (State.sendFails s t i chunk but).fixed = s.fixed := by simp only [State.sendFails, State.sendBuilt_fixed, fixed_ite_s, foldl_fixed, implies_true, ite_self]

theorem State.failWin_fixed (s : State) (t : Nat) (i : Nat) (chunk : Nat) (but : Option Nat) : (State.failWin s t i chunk but).fixed = s.fixed := by
  unfold State.failWin
  repeat' (first | with_reducible rfl | (simp only [*, State.fixed_mk, State.count_fixed, State.endInstance_fixed, State.raise_fixed, State.sendFails_fixed, State.tombWin_fixed]; done) | (split <;> (try (rename_i h; have h2 := congrArg (fun p => State.fixed (Prod.snd p)) h; simp only [State.fixed_mk, State.count_fixed, State.endInstance_fixed, State.raise_fixed, State.sendFails_fixed, State.tombWin_fixed] at h2))) | (simp only [State.fixed_mk, State.count_fixed, State.endInstance_fixed, State.raise_fixed, State.sendFails_fixed, State.tombWin_fixed]; fail_if_success done) | (simp only [*, State.fixed_mk, State.count_fixed, State.endInstance_fixed, State.raise_fixed, State.sendFails_fixed, State.tombWin_fixed]; fail_if_success done) | intro _)

theorem State.sendPartial_fixed (s : State) (w : Window) (first : Nat) : (State.sendPartial s w first).fixed = s.fixed := by
  unfold State.sendPartial
  split <;> simp only [State.count_fixed, State.sendUp_fixed, fixed_ite_s, foldl_fixed, implies_true, ite_self]

theorem State.finaliseWin_fixed (s : State) (k : Nat) (w : Window) : (State.finaliseWin s k w).fixed = s.fixed := by
  unfold State.finaliseWin
  repeat' (first | with_reducible rfl | (simp only [*, State.fixed_mk, State.count_fixed, State.deliverResult_fixed, State.raise_fixed, State.resetWin_fixed, State.sendDown_fixed, State.sendPartial_fixed, State.setArmed_fixed, State.setWin_fixed, fixed_ite_s, ite_self]; done) | (split <;> (try (rename_i h; have h2 := congrArg (fun p => State.fixed (Prod.snd p)) h; simp only [State.fixed_mk, State.count_fixed, State.deliverResult_fixed, State.raise_fixed, State.resetWin_fixed, State.sendDown_fixed, State.sendPartial_fixed, State.setArmed_fixed, State.setWin_fixed, fixed_ite_s, ite_self] at h2))) | (simp only [State.fixed_mk, State.count_fixed, State.deliverResult_fixed, State.raise_fixed, State.resetWin_fixed, State.sendDown_fixed, State.sendPartial_fixed, State.setArmed_fixed, State.setWin_fixed, fixed_ite_s, ite_self]; fail_if_success done) | (simp only [*, State.fixed_mk, State.count_fixed, State.deliverResult_fixed, State.raise_fixed, State.resetWin_fixed, State.sendDown_fixed, State.sendPartial_fixed, State.setArmed_fixed, State.setWin_fixed, fixed_ite_s, ite_self]; fail_if_success done) | intro _)

theorem State.collMalformed_fixed (s : State) (b : List Byte) : (State.collMalformed s b).fixed = s.fixed := by simp only [State.collMalformed, State.count_fixed, State.raise_fixed]

theorem State.addContrib_fixed (s : State) (k : Nat) (w : Window) (b : List Byte) (f : Fmt) : (State.addContrib s k w b f).fixed = s.fixed := by simp only [State.addContrib, State.collMalformed_fixed, State.count_fixed, State.finaliseWin_fixed, State.raise_fixed, State.resetWin_fixed, State.setArmed_fixed, State.takeFree_fixed, State.touchWin_fixed, elim_same, fixed_elim_s, fixed_ite_s, ite_self]

theorem State.makeRoomN_fixed (s : State) (n u but k : Nat) (t : State) (h : s.makeRoomN n u but k = some t) : t.fixed = s.fixed := by
  induction k generalizing s with
  | zero => cases h
  | succ k ih =>
    unfold State.makeRoomN at h
    extract_lets l at h
    split at h
    · cases h; rfl
    split at h
    · cases h
    split at h
    · cases h
    split at h
    · cases h
    · exact (ih _ h).trans ((State.setWin_fixed ..).trans (State.count_fixed ..))

theorem State.makeRoom_fixed (s : State) (n u but : Nat) (t : State) (h : s.makeRoom n u but = some t) : t.fixed = s.fixed :=
  State.makeRoomN_fixed _ _ _ _ _ _ h

theorem State.allocWin_fixed (s : State) (k : Nat) (w : Window) (t : State) (h : s.allocWin k w = some t) : t.fixed = s.fixed := by
  revert t
  show optFixed (s.allocWin k w) s.fixed
  unfold State.allocWin
  dsimp only
  refine iteInduction (motive := fun o => optFixed o s.fixed) (fun _ => optFixed_none _) (fun _ => ?_)
  refine iteInduction (motive := fun o => optFixed o s.fixed) (fun _ => optFixed_some ?_) (fun _ => ?_)
  · exact (State.touchWin_fixed ..).trans (State.fixed_mk ..)
  · intro t h
    obtain ⟨t', h1, rfl⟩ := Option.map_eq_some_iff.1 h
    exact (State.touchWin_fixed ..).trans ((State.fixed_mk ..).trans (State.makeRoom_fixed _ _ _ _ _ h1))

theorem State.takeContrib_fixed (s : State) (k : Nat) (w : Window) (b : List Byte) : (State.takeContrib s k w b).fixed = s.fixed := by
  unfold State.takeContrib
  refine view_elim (F := State.fixed) rfl (fun f => ?_)
  dsimp only
  repeat' with_reducible refine view_ite (F := State.fixed) ?_ ?_
  all_goals first | with_reducible rfl | with_reducible exact State.collMalformed_fixed .. | with_reducible exact State.count_fixed .. | with_reducible exact State.raise_fixed .. | with_reducible exact State.addContrib_fixed ..

theorem State.wantFill_fixed (s : State) (k : Nat) (w : Window) : (State.wantFill s k w).fixed = s.fixed := by simp only [State.wantFill, State.setWin_fixed]

theorem State.tryContrib_fixed (s : State) (b : List Byte) : (State.tryContrib s b).2.fixed = s.fixed := by
  unfold State.tryContrib
  extract_lets t k
  clear_value t k
  refine view_ite (F := fixed2) (State.collMalformed_fixed ..) ?_
  cases s.win k with
  | some w =>
    refine view_ite (F := fixed2) (view_ite (F := fixed2) ?_ ?_) ?_
    · exact State.wantFill_fixed ..
    · exact State.takeContrib_fixed ..
    · exact State.count_fixed ..
  | none =>
    dsimp only
    split
    · rfl
    · rename_i h
      have e := State.allocWin_fixed _ _ _ _ h
      split
      · exact e
      · refine view_ite (F := fixed2) ?_ ?_
        · exact (State.wantFill_fixed ..).trans e
        · exact (State.takeContrib_fixed ..).trans e

theorem State.sendCopy_fixed (s : State) (w : Window) : (State.sendCopy s w).fixed = s.fixed := by simp only [State.sendCopy, State.deliverBcast_fixed, State.sendDown_fixed, foldl_fixed, implies_true]

theorem State.takeCopy_fixed (s : State) (k : Nat) (w : Window) (b : List Byte) : (State.takeCopy s k w b).fixed = s.fixed := by simp only [State.takeCopy, State.count_fixed, State.raise_fixed, State.sendCopy_fixed, State.touchWin_fixed, fixed_ite_s, ite_self]

theorem State.tryCopy_fixed (s : State) (b : List Byte) : (State.tryCopy s b).2.fixed = s.fixed := by
  unfold State.tryCopy
  extract_lets t k
  clear_value t k
  cases s.win k with
  | some w =>
    refine view_ite (F := fixed2) ?_ (view_ite (F := fixed2) ?_ ?_)
    · exact State.count_fixed ..
    · exact State.wantFill_fixed ..
    · exact State.takeCopy_fixed ..
  | none =>
    dsimp only
    split
    · rfl
    · rename_i h
      have e := State.allocWin_fixed _ _ _ _ h
      split
      · exact e
      · refine view_ite (F := fixed2) ?_ ?_
        · exact (State.wantFill_fixed ..).trans e
        · exact (State.takeCopy_fixed ..).trans e

theorem State.tryGather_fixed (s : State) (b : List Byte) : (State.tryGather s b).2.fixed = s.fixed := by simp only [State.tryGather, State.sendUp_fixed, State.tryCopy_fixed, fixed2_ite_s, ite_self]

theorem State.setBar_fixed (s : State) (k : Nat) (x : Bar) : (State.setBar s k x).fixed = s.fixed := (Eq.refl _).trans rfl

theorem State.barDone_fixed (s : State) (t : Nat) (i : Nat) : (State.barDone s t i).fixed = s.fixed := by simp only [State.barDone, State.count_fixed, State.endInstance_fixed]

theorem State.barTake_fixed (s : State) (k : Nat) (t : Nat) (i : Nat) (x : Bar) (c : Nat) : (State.barTake s k t i x c).fixed = s.fixed := by simp only [State.barTake, State.barDone_fixed, State.count_fixed, State.sendDown_fixed, State.sendUp_fixed, State.setBar_fixed, fixed_ite_s, ite_self]

theorem State.tryBarrier_fixed (s : State) (b : List Byte) : (State.tryBarrier s b).2.fixed = s.fixed := by
  unfold State.tryBarrier
  repeat' (first | with_reducible rfl | (simp only [*, State.fixed_mk, State.barTake_fixed, fixed2_ite_s, ite_self]; done) | (split <;> (try (rename_i h; have h2 := congrArg (fun p => State.fixed (Prod.snd p)) h; simp only [State.fixed_mk, State.barTake_fixed, fixed2_ite_s, ite_self] at h2))) | (simp only [State.fixed_mk, State.barTake_fixed, fixed2_ite_s, ite_self]; fail_if_success done) | (simp only [*, State.fixed_mk, State.barTake_fixed, fixed2_ite_s, ite_self]; fail_if_success done) | intro _)

theorem State.failBar_fixed (s : State) (t : Nat) (i : Nat) (but : Option Nat) : (State.failBar s t i but).fixed = s.fixed := by
  unfold State.failBar
  repeat' (first | with_reducible rfl | (simp only [*, State.fixed_mk, State.count_fixed, State.endInstance_fixed, State.raise_fixed, State.sendFails_fixed, State.setBar_fixed]; done) | (split <;> (try (rename_i h; have h2 := congrArg (fun p => State.fixed (Prod.snd p)) h; simp only [State.fixed_mk, State.count_fixed, State.endInstance_fixed, State.raise_fixed, State.sendFails_fixed, State.setBar_fixed] at h2))) | (simp only [State.fixed_mk, State.count_fixed, State.endInstance_fixed, State.raise_fixed, State.sendFails_fixed, State.setBar_fixed]; fail_if_success done) | (simp only [*, State.fixed_mk, State.count_fixed, State.endInstance_fixed, State.raise_fixed, State.sendFails_fixed, State.setBar_fixed]; fail_if_success done) | intro _)

theorem State.tryRepull_fixed (s : State) (b : List Byte) : (State.tryRepull s b).2.fixed = s.fixed := by
  unfold State.tryRepull
  repeat' (first | with_reducible rfl | (simp only [*, State.fixed_mk, State.count_fixed, State.endInstance_fixed, State.raise_fixed, State.sendBuilt_fixed, State.sendPartial_fixed, State.sendRouted_fixed, State.sendUp_fixed, State.setBar_fixed, State.tombWin_fixed, State.wantFill_fixed, fixed2_ite_s, ite_self]; done) | (split <;> (try (rename_i h; have h2 := congrArg (fun p => State.fixed (Prod.snd p)) h; simp only [State.fixed_mk, State.count_fixed, State.endInstance_fixed, State.raise_fixed, State.sendBuilt_fixed, State.sendPartial_fixed, State.sendRouted_fixed, State.sendUp_fixed, State.setBar_fixed, State.tombWin_fixed, State.wantFill_fixed, fixed2_ite_s, ite_self] at h2))) | (simp only [State.fixed_mk, State.count_fixed, State.endInstance_fixed, State.raise_fixed, State.sendBuilt_fixed, State.sendPartial_fixed, State.sendRouted_fixed, State.sendUp_fixed, State.setBar_fixed, State.tombWin_fixed, State.wantFill_fixed, fixed2_ite_s, ite_self]; fail_if_success done) | (simp only [*, State.fixed_mk, State.count_fixed, State.endInstance_fixed, State.raise_fixed, State.sendBuilt_fixed, State.sendPartial_fixed, State.sendRouted_fixed, State.sendUp_fixed, State.setBar_fixed, State.tombWin_fixed, State.wantFill_fixed, fixed2_ite_s, ite_self]; fail_if_success done) | intro _)

theorem State.tryTree_fixed (s : State) (b : List Byte) : (State.tryTree s b).2.fixed = s.fixed := by
  unfold State.tryTree
  split <;> simp only [State.tryBarrier_fixed, State.tryContrib_fixed, State.tryCopy_fixed, State.tryGather_fixed, State.tryRepull_fixed]

theorem State.retryWaiting_fixed (s : State) (n : Nat) : (State.retryWaiting s n).fixed = s.fixed := by
  unfold State.retryWaiting
  repeat' (first | with_reducible rfl | (simp only [*, State.fixed_mk, State.copyDone_fixed, State.tryTree_fixed, fixed2_ite_s, foldl_fixed2]; done) | (split <;> (try (rename_i h; have h2 := congrArg (fun p => State.fixed (Prod.snd p)) h; simp only [State.fixed_mk, State.copyDone_fixed, State.tryTree_fixed, fixed2_ite_s, foldl_fixed2] at h2))) | (refine (foldl_fixed2 _ ?_ _ _).trans ?_) | (simp only [State.fixed_mk, State.copyDone_fixed, State.tryTree_fixed, fixed2_ite_s, foldl_fixed2]; fail_if_success done) | (simp only [*, State.fixed_mk, State.copyDone_fixed, State.tryTree_fixed, fixed2_ite_s, foldl_fixed2]; fail_if_success done) | intro _)

theorem State.takeColl_fixed (s : State) (o : Nat) : (State.takeColl s o).2.fixed = s.fixed := by
  unfold State.takeColl
  repeat' first | rfl | split

theorem State.treeReceive_fixed (s : State) (o : Nat) : (State.treeReceive s o).fixed = s.fixed := by
  unfold State.treeReceive
  repeat' (first | with_reducible rfl | (simp only [*, State.fixed_mk, State.copyDone_fixed, State.takeColl_fixed, State.treeLookup_fixed, State.tryTree_fixed]; done) | (split <;> (try (rename_i h; have h2 := congrArg (fun p => State.fixed (Prod.snd p)) h; simp only [State.fixed_mk, State.copyDone_fixed, State.takeColl_fixed, State.treeLookup_fixed, State.tryTree_fixed] at h2))) | (simp only [State.fixed_mk, State.copyDone_fixed, State.takeColl_fixed, State.treeLookup_fixed, State.tryTree_fixed]; fail_if_success done) | (simp only [*, State.fixed_mk, State.copyDone_fixed, State.takeColl_fixed, State.treeLookup_fixed, State.tryTree_fixed]; fail_if_success done) | intro _)

theorem State.downReceive_fixed (s : State) (o : Nat) (act : State → List Byte → State) (ha : ∀ t b, (act t b).fixed = t.fixed) :
    (s.downReceive o act).fixed = s.fixed := by
  unfold State.downReceive
  split
  · rfl
  split
  · rename_i h
    exact snd_fixed_of h (State.takeColl_fixed ..)
  · rename_i h
    have e := snd_fixed_of h (State.takeColl_fixed ..)
    split
    · rename_i h2
      exact (State.copyDone_fixed ..).trans (snd_fixed_of h2 ((State.treeLookup_fixed ..).trans e))
    · rename_i h2
      exact (State.copyDone_fixed ..).trans ((ha ..).trans ((State.replicate_fixed ..).trans (snd_fixed_of h2 ((State.treeLookup_fixed ..).trans e))))

theorem State.takeResult_fixed (s : State) (b : List Byte) : (State.takeResult s b).fixed = s.fixed := by
  unfold State.takeResult
  repeat' (first | with_reducible rfl | (simp only [*, State.fixed_mk, State.deliverResult_fixed, State.tombWin_fixed, fixed_ite_s, ite_self]; done) | (split <;> (try (rename_i h; have h2 := congrArg (fun p => State.fixed (Prod.snd p)) h; simp only [State.fixed_mk, State.deliverResult_fixed, State.tombWin_fixed, fixed_ite_s, ite_self] at h2))) | (simp only [State.fixed_mk, State.deliverResult_fixed, State.tombWin_fixed, fixed_ite_s, ite_self]; fail_if_success done) | (simp only [*, State.fixed_mk, State.deliverResult_fixed, State.tombWin_fixed, fixed_ite_s, ite_self]; fail_if_success done) | intro _)

theorem State.takeBcast_fixed (s : State) (b : List Byte) : (State.takeBcast s b).fixed = s.fixed := by simp only [State.takeBcast, State.deliverBcast_fixed]

theorem State.takeBarDown_fixed (s : State) (b : List Byte) : (State.takeBarDown s b).fixed = s.fixed := by
  unfold State.takeBarDown
  repeat' (first | with_reducible rfl | (simp only [*, State.fixed_mk, State.barDone_fixed, State.setBar_fixed, fixed_ite_s, ite_self]; done) | (split <;> (try (rename_i h; have h2 := congrArg (fun p => State.fixed (Prod.snd p)) h; simp only [State.fixed_mk, State.barDone_fixed, State.setBar_fixed, fixed_ite_s, ite_self] at h2))) | (simp only [State.fixed_mk, State.barDone_fixed, State.setBar_fixed, fixed_ite_s, ite_self]; fail_if_success done) | (simp only [*, State.fixed_mk, State.barDone_fixed, State.setBar_fixed, fixed_ite_s, ite_self]; fail_if_success done) | intro _)

theorem State.takeFail_fixed (s : State) (b : List Byte) : (State.takeFail s b).fixed = s.fixed := by simp only [State.takeFail, State.failBar_fixed, State.failWin_fixed, fixed_ite_s, ite_self]

/-! ## Machine/Viaduct.lean -/

theorem State.setVia_fixed (s : State) (v : Via) : (State.setVia s v).fixed = s.fixed := (Eq.refl _).trans rfl

theorem State.setViaSrc_fixed (s : State) (v : Nat) (x : ViaSrc) : (State.setViaSrc s v x).fixed = s.fixed := by simp only [State.setViaSrc, State.setVia_fixed]

theorem State.setViaDst_fixed (s : State) (v : Nat) (x : ViaDst) : (State.setViaDst s v x).fixed = s.fixed := by simp only [State.setViaDst, State.setVia_fixed]

theorem State.setArmedVia_fixed (s : State) (v : Nat) (on : Bool) : (State.setArmedVia s v on).fixed = s.fixed := by simp only [State.setArmedVia, State.setVia_fixed]

theorem State.viaReply_fixed (s : State) (b : List Byte) (refused : Bool) (reason : Nat) (gaps : Nat) : (State.viaReply s b refused reason gaps).fixed = s.fixed := by simp only [State.viaReply, State.sendRouted_fixed]

theorem State.sendSetup_fixed (s : State) (v : Nat) : (State.sendSetup s v).fixed = s.fixed := by simp only [State.sendSetup, State.sendBuilt_fixed]

theorem State.sendTeardown_fixed (s : State) (v : Nat) : (State.sendTeardown s v).fixed = s.fixed := by simp only [State.sendTeardown, State.sendBuilt_fixed, State.setArmedVia_fixed, State.setViaSrc_fixed]

theorem State.viaStageOne_fixed (s : State) (v tag : Nat) (o : Op) (d : List Byte) (t : State) (h : s.viaStageOne v tag o d = some t) :
    t.fixed = s.fixed := by
  revert t
  show optFixed (s.viaStageOne v tag o d) s.fixed
  unfold State.viaStageOne
  dsimp only
  refine iteInduction (motive := fun o => optFixed o s.fixed) (fun _ => optFixed_none _) (fun _ => ?_)
  refine optFixed_some ?_
  simp only [State.setOp_fixed, State.setViaSrc_fixed, State.setGq_fixed, State.addPkt_fixed]

theorem State.viaTurn_fixed (s : State) (v : Nat) : (State.viaTurn s v).2.fixed = s.fixed := by
  unfold State.viaTurn
  extract_lets x
  clear_value x
  refine view_ite (F := fixed2) rfl (view_elim (F := fixed2) rfl ?_)
  intro tag
  dsimp only
  cases s.op tag with
  | none => exact State.setViaSrc_fixed ..
  | some o =>
    refine view_ite (F := fixed2) (view_ite (F := fixed2) ?_ ?_) (view_ite (F := fixed2) rfl ?_)
    · exact (State.sendTeardown_fixed ..).trans ((State.finishOp_fixed ..).trans (State.setViaSrc_fixed ..))
    · exact (State.finishOp_fixed ..).trans (State.setViaSrc_fixed ..)
    · cases h : (mfind o.ready o.built).bind (fun d => s.viaStageOne v tag o d) with
      | none => rfl
      | some t =>
        obtain ⟨d, _, h2⟩ := Option.bind_eq_some_iff.1 h
        exact State.viaStageOne_fixed _ _ _ _ _ _ h2

theorem State.viaGo_fixed (s : State) (v : Nat) (a0 : Nat) : (State.viaGo s v a0).fixed = s.fixed := by
  induction a0 generalizing s with
  | zero => rfl
  | succ n ih =>
    unfold State.viaGo
    have e := State.viaTurn_fixed s v
    generalize s.viaTurn v = r at e ⊢
    exact view_ite (F := State.fixed) ((ih _).trans e) e

theorem State.viaSources_fixed (s : State) : (State.viaSources s).fixed = s.fixed := by simp only [State.viaSources, State.viaGo_fixed, fixed_ite_s, foldl_fixed, implies_true, ite_self]

theorem State.viaReadEnd_fixed (s : State) (j : Job) (tag : Nat) (k : Nat) (e : LocalEnd) : (State.viaReadEnd s j tag k e).fixed = s.fixed := by
  unfold State.viaReadEnd
  repeat' split
  all_goals simp only [State.finishOp_fixed, State.setOp_fixed]

theorem State.viaFail_fixed (s : State) (v : Nat) : (State.viaFail s v).fixed = s.fixed := by simp only [State.viaFail, State.finishOp_fixed, State.setViaSrc_fixed, foldl_fixed, implies_true]

theorem State.viaDstCheck_fixed (s : State) (v : Nat) : (State.viaDstCheck s v).fixed = s.fixed := by
  unfold State.viaDstCheck
  repeat' (first | with_reducible rfl | (simp only [*, State.fixed_mk, State.raise_fixed, State.setArmedVia_fixed, State.setViaDst_fixed, State.viaEntry_fixed, State.viaReply_fixed, fixed_ite_s, ite_self]; done) | (split <;> (try (rename_i h; have h2 := congrArg (fun p => State.fixed (Prod.snd p)) h; simp only [State.fixed_mk, State.raise_fixed, State.setArmedVia_fixed, State.setViaDst_fixed, State.viaEntry_fixed, State.viaReply_fixed, fixed_ite_s, ite_self] at h2))) | (simp only [State.fixed_mk, State.raise_fixed, State.setArmedVia_fixed, State.setViaDst_fixed, State.viaEntry_fixed, State.viaReply_fixed, fixed_ite_s, ite_self]; fail_if_success done) | (simp only [*, State.fixed_mk, State.raise_fixed, State.setArmedVia_fixed, State.setViaDst_fixed, State.viaEntry_fixed, State.viaReply_fixed, fixed_ite_s, ite_self]; fail_if_success done) | intro _)

theorem State.viaDests_fixed (s : State) : (State.viaDests s).fixed = s.fixed := by simp only [State.viaDests, State.viaDstCheck_fixed, foldl_fixed, implies_true]

theorem State.viaGap_fixed (s : State) (v : Nat) (n : Nat) : (State.viaGap s v n).fixed = s.fixed := by simp only [State.viaGap, State.count_fixed, State.setViaDst_fixed, fixed_ite_s, ite_self]

theorem State.viaFault_fixed (s : State) (v : Nat) (c : Nat) (why : Nat) (va : Nat) : (State.viaFault s v c why va).fixed = s.fixed := by simp only [State.viaFault, State.ctxEvent_fixed, State.viaGap_fixed]

theorem State.viaPass_fixed (s : State) (v : Nat) (q : Nat) : (State.viaPass s v q).fixed = s.fixed := by simp only [State.viaPass, State.setViaDst_fixed]

theorem State.viaData_fixed (s : State) (d : Dlv) : (State.viaData s d).fixed = s.fixed := by
  unfold State.viaData
  repeat' (first | with_reducible rfl | (simp only [*, State.fixed_mk, State.count_fixed, State.raise_fixed, State.startJob_fixed, State.viaDstCheck_fixed, State.viaFault_fixed, State.viaGap_fixed, State.viaMissed_fixed, State.viaPass_fixed, fixed_ite_s]; done) | (split <;> (try (rename_i h; have h2 := congrArg (fun p => State.fixed (Prod.snd p)) h; simp only [State.fixed_mk, State.count_fixed, State.raise_fixed, State.startJob_fixed, State.viaDstCheck_fixed, State.viaFault_fixed, State.viaGap_fixed, State.viaMissed_fixed, State.viaPass_fixed, fixed_ite_s] at h2))) | (simp only [State.fixed_mk, State.count_fixed, State.raise_fixed, State.startJob_fixed, State.viaDstCheck_fixed, State.viaFault_fixed, State.viaGap_fixed, State.viaMissed_fixed, State.viaPass_fixed, fixed_ite_s]; fail_if_success done) | (simp only [*, State.fixed_mk, State.count_fixed, State.raise_fixed, State.startJob_fixed, State.viaDstCheck_fixed, State.viaFault_fixed, State.viaGap_fixed, State.viaMissed_fixed, State.viaPass_fixed, fixed_ite_s]; fail_if_success done) | intro _)

theorem State.viaDepEvent_fixed (s : State) (id : Nat) (j : Job) (v : Nat) (c : Nat) (ev : JobEv) : (State.viaDepEvent s id j v c ev).fixed = s.fixed := by
  unfold State.viaDepEvent
  repeat' split
  all_goals simp only [State.dropJob_fixed, State.viaFault_fixed]

theorem State.viaSetup_fixed (s : State) (d : Dlv) : (State.viaSetup s d).fixed = s.fixed := by
  unfold State.viaSetup
  repeat' (first | with_reducible rfl | (simp only [*, State.fixed_mk, State.copyDone_fixed, State.forwardPkt_fixed, State.setArmedVia_fixed, State.setViaDst_fixed, State.setViaSrc_fixed, State.viaFail_fixed, State.viaReply_fixed, fixed_ite_s, ite_self]; done) | (split <;> (try (rename_i h; have h2 := congrArg (fun p => State.fixed (Prod.snd p)) h; simp only [State.fixed_mk, State.copyDone_fixed, State.forwardPkt_fixed, State.setArmedVia_fixed, State.setViaDst_fixed, State.setViaSrc_fixed, State.viaFail_fixed, State.viaReply_fixed, fixed_ite_s, ite_self] at h2))) | (simp only [State.fixed_mk, State.copyDone_fixed, State.forwardPkt_fixed, State.setArmedVia_fixed, State.setViaDst_fixed, State.setViaSrc_fixed, State.viaFail_fixed, State.viaReply_fixed, fixed_ite_s, ite_self]; fail_if_success done) | (simp only [*, State.fixed_mk, State.copyDone_fixed, State.forwardPkt_fixed, State.setArmedVia_fixed, State.setViaDst_fixed, State.setViaSrc_fixed, State.viaFail_fixed, State.viaReply_fixed, fixed_ite_s, ite_self]; fail_if_success done) | intro _)

theorem State.viaTeardown_fixed (s : State) (d : Dlv) : (State.viaTeardown s d).fixed = s.fixed := by simp only [State.viaTeardown, State.copyDone_fixed, State.setViaDst_fixed, State.setViaSrc_fixed, State.setVia_fixed, State.viaDstCheck_fixed, State.viaGap_fixed, fixed_ite_s, ite_self]

theorem State.teardownForward_fixed (s : State) (v : Nat) : (State.teardownForward s v).fixed = s.fixed := by
  unfold State.teardownForward
  repeat' (first | with_reducible rfl | (simp only [*, State.fixed_mk, State.forwardPkt_fixed, State.setArmedVia_fixed, State.setVia_fixed]; done) | (split <;> (try (rename_i h; have h2 := congrArg (fun p => State.fixed (Prod.snd p)) h; simp only [State.fixed_mk, State.forwardPkt_fixed, State.setArmedVia_fixed, State.setVia_fixed] at h2))) | (simp only [State.fixed_mk, State.forwardPkt_fixed, State.setArmedVia_fixed, State.setVia_fixed]; fail_if_success done) | (simp only [*, State.fixed_mk, State.forwardPkt_fixed, State.setArmedVia_fixed, State.setVia_fixed]; fail_if_success done) | intro _)

theorem State.takeKept_fixed (s : State) (o : Nat) : (State.takeKept s o).2.fixed = s.fixed := by
  unfold State.takeKept
  repeat' first | rfl | split

/-! ## Machine/Cpu.lean -/

theorem State.csrWrite_fixed (s : State) (h : Nat) (a : Nat) (v : W64) : (State.csrWrite s h a v).fixed = s.fixed := by
  unfold State.csrWrite
  repeat' first | rfl | (simp only [State.setHart_fixed, fixed_ite_s, ite_self]; done) | split

theorem State.trap_fixed (s : State) (h : Nat) (cause : Nat) (tval : W64) (irq : Bool) : (State.trap s h cause tval irq).fixed = s.fixed := by simp only [State.trap, State.setHart_fixed, fixed_ite_s, ite_self]

theorem State.engWalk_fixed (s : State) (h : Nat) (va : Nat) (k : MAcc) (table : Nat) (a0 : Nat) : (State.engWalk s h va k table a0).2.fixed = s.fixed := by
  induction a0 generalizing s table with
  | zero => rfl
  | succ n ih =>
    unfold State.engWalk
    extract_lets a
    clear_value a
    split
    · rfl
    split
    rename_i d bad s1 h
    have e := snd_fixed_of h (State.l2Read_fixed ..)
    extract_lets p
    clear_value p
    split
    · exact e
    split
    · exact e
    split
    · split <;> exact e
    · exact (ih _ _).trans e

theorem State.tlbFill_fixed (s : State) (h : Nat) (e : TlbEnt) : (State.tlbFill s h e).fixed = s.fixed := by simp only [State.tlbFill, State.setHart_fixed, State.takeFree_fixed, fixed_ite_s, ite_self]

theorem State.engXlate_fixed (s : State) (h : Nat) (va : W64) (k : MAcc) : (State.engXlate s h va k).2.fixed = s.fixed := by
  unfold State.engXlate
  repeat' (first | with_reducible rfl | (simp only [*, State.fixed_mk, State.engWalk_fixed, State.setHart_fixed, State.tlbFill_fixed, fixed2_ite_s, fixed_ite_s, ite_self]; done) | (split <;> (try (rename_i h; have h2 := congrArg (fun p => State.fixed (Prod.snd p)) h; simp only [State.fixed_mk, State.engWalk_fixed, State.setHart_fixed, State.tlbFill_fixed, fixed2_ite_s, fixed_ite_s, ite_self] at h2))) | (simp only [State.fixed_mk, State.engWalk_fixed, State.setHart_fixed, State.tlbFill_fixed, fixed2_ite_s, fixed_ite_s, ite_self]; fail_if_success done) | (simp only [*, State.fixed_mk, State.engWalk_fixed, State.setHart_fixed, State.tlbFill_fixed, fixed2_ite_s, fixed_ite_s, ite_self]; fail_if_success done) | intro _)

theorem State.engAccess_fixed (s : State) (h : Nat) (va : W64) (len : Nat) (k : MAcc) : (State.engAccess s h va len k).2.fixed = s.fixed := by
  unfold State.engAccess
  repeat' (first | with_reducible rfl | (simp only [*, State.fixed_mk, State.engXlate_fixed, fixed2_ite_s, ite_self]; done) | (split <;> (try (rename_i h; have h2 := congrArg (fun p => State.fixed (Prod.snd p)) h; simp only [State.fixed_mk, State.engXlate_fixed, fixed2_ite_s, ite_self] at h2))))

theorem State.missEv_fixed (s : State) (h : Nat) (a : Nat) : (State.missEv s h a).fixed = s.fixed := by simp only [State.missEv, State.setHart_fixed, fixed_ite_s, ite_self]

theorem State.storeNormal_fixed (s : State) (h : Nat) (a : Nat) (d : List Byte) : (State.storeNormal s h a d).fixed = s.fixed := by simp only [State.storeNormal, State.dropResv_fixed, State.l2Write_fixed, State.missEv_fixed, State.setHart_fixed]

theorem State.drainOne_fixed (s : State) (h : Nat) : (State.drainOne s h).fixed = s.fixed := by
  unfold State.drainOne
  repeat' (first | with_reducible rfl | (simp only [*, State.fixed_mk, State.hostWrite_fixed, State.setHart_fixed, State.storeNormal_fixed]; done) | (split <;> (try (rename_i h; have h2 := congrArg (fun p => State.fixed (Prod.snd p)) h; simp only [State.fixed_mk, State.hostWrite_fixed, State.setHart_fixed, State.storeNormal_fixed] at h2))) | (simp only [State.fixed_mk, State.hostWrite_fixed, State.setHart_fixed, State.storeNormal_fixed]; fail_if_success done) | (simp only [*, State.fixed_mk, State.hostWrite_fixed, State.setHart_fixed, State.storeNormal_fixed]; fail_if_success done) | intro _)

theorem State.drainSb_fixed (s : State) (h : Nat) : (State.drainSb s h).fixed = s.fixed := by simp only [State.drainSb, State.drainOne_fixed, foldl_fixed, implies_true]

theorem State.pushSb_fixed (s : State) (h : Nat) (e : SbEnt) : (State.pushSb s h e).fixed = s.fixed := by simp only [State.pushSb, State.drainOne_fixed, State.setHart_fixed, fixed_ite_s, ite_self]

theorem State.loadNormal_fixed (s : State) (h : Nat) (a : Nat) (n : Nat) : (State.loadNormal s h a n).2.fixed = s.fixed := by simp only [State.loadNormal, State.l2Read_fixed, State.missEv_fixed]

theorem State.l1iPut_fixed (s : State) (e : Nat) (line : Nat) (d : List Byte) : (State.l1iPut s e line d).fixed = s.fixed := by simp only [State.l1iPut, State.setEng_fixed, State.takeFree_fixed, elim_same, fixed_elim_s, fixed_ite_s, ite_self]

theorem State.fetchHalf_fixed (s : State) (h : Nat) (a : Nat) : (State.fetchHalf s h a).2.fixed = s.fixed := by
  unfold State.fetchHalf
  repeat' (first | with_reducible rfl | (simp only [*, State.fixed_mk, State.l1iPut_fixed, State.l2Read_fixed, State.missEv_fixed, State.setHart_fixed, fixed2_ite_s, ite_self]; done) | (split <;> (try (rename_i h; have h2 := congrArg (fun p => State.fixed (Prod.snd p)) h; simp only [State.fixed_mk, State.l1iPut_fixed, State.l2Read_fixed, State.missEv_fixed, State.setHart_fixed, fixed2_ite_s, ite_self] at h2))) | (simp only [State.fixed_mk, State.l1iPut_fixed, State.l2Read_fixed, State.missEv_fixed, State.setHart_fixed, fixed2_ite_s, ite_self]; fail_if_success done) | (simp only [*, State.fixed_mk, State.l1iPut_fixed, State.l2Read_fixed, State.missEv_fixed, State.setHart_fixed, fixed2_ite_s, ite_self]; fail_if_success done) | intro _)

theorem State.rfaPresent_fixed (s : State) (r : RegReq) : (State.rfaPresent s r).fixed = s.fixed := by simp only [State.rfaPresent, State.fixed_mk, State.wakePage_fixed]

theorem State.deviceDone_fixed (s : State) (h : Nat) (v : W32) : (State.deviceDone s h v).fixed = s.fixed := by
  unfold State.deviceDone
  repeat' (first | with_reducible rfl | (simp only [*, State.fixed_mk, State.rfaPresent_fixed, State.setHart_fixed, fixed_ite_s, ite_self]; done) | (split <;> (try (rename_i h; have h2 := congrArg (fun p => State.fixed (Prod.snd p)) h; simp only [State.fixed_mk, State.rfaPresent_fixed, State.setHart_fixed, fixed_ite_s, ite_self] at h2))) | (simp only [State.fixed_mk, State.rfaPresent_fixed, State.setHart_fixed, fixed_ite_s, ite_self]; fail_if_success done) | (simp only [*, State.fixed_mk, State.rfaPresent_fixed, State.setHart_fixed, fixed_ite_s, ite_self]; fail_if_success done) | intro _)

theorem State.hartReadEnd_fixed (s : State) (h : Nat) (st : Nat) (d : List Byte) : (State.hartReadEnd s h st d).fixed = s.fixed := by
  unfold State.hartReadEnd
  repeat' (first | with_reducible rfl | (simp only [*, State.fixed_mk, State.invoke_fixed, State.setHart_fixed, State.trap_fixed]; done) | (split <;> (try (rename_i h; have h2 := congrArg (fun p => State.fixed (Prod.snd p)) h; simp only [State.fixed_mk, State.invoke_fixed, State.setHart_fixed, State.trap_fixed] at h2))) | (simp only [State.fixed_mk, State.invoke_fixed, State.setHart_fixed, State.trap_fixed]; fail_if_success done) | (simp only [*, State.fixed_mk, State.invoke_fixed, State.setHart_fixed, State.trap_fixed]; fail_if_success done) | intro _)

theorem State.fenceEpCheck_fixed (s : State) (h : Nat) : (State.fenceEpCheck s h).fixed = s.fixed := by
  unfold State.fenceEpCheck
  repeat' (first | with_reducible rfl | (simp only [*, State.fixed_mk, State.setHart_fixed, fixed_ite_s, ite_self]; done) | (split <;> (try (rename_i h; have h2 := congrArg (fun p => State.fixed (Prod.snd p)) h; simp only [State.fixed_mk, State.setHart_fixed, fixed_ite_s, ite_self] at h2))) | (simp only [State.fixed_mk, State.setHart_fixed, fixed_ite_s, ite_self]; fail_if_success done) | (simp only [*, State.fixed_mk, State.setHart_fixed, fixed_ite_s, ite_self]; fail_if_success done) | intro _)

theorem State.hartWriteEnd_fixed (s : State) (h : Nat) (st : Nat) : (State.hartWriteEnd s h st).fixed = s.fixed := by simp only [State.hartWriteEnd, State.fenceEpCheck_fixed, State.setHart_fixed]

/-! ## Machine/Endpoint.lean -/

theorem State.pollHead_fixed (s : State) (c : Nat) : (State.pollHead s c).fixed = s.fixed := by simp only [State.pollHead, State.ringRead_fixed, State.setCtx_fixed, fixed_ite_s, ite_self]

theorem State.doorbell_fixed (s : State) (c : Nat) (t : Nat) (inl : List Byte) : (State.doorbell s c t inl).fixed = s.fixed := by simp only [State.doorbell, State.count_fixed, State.haltCtx_fixed, State.memWrite_fixed, State.pollHead_fixed, State.setCtx_fixed, State.touchCtx_fixed, fixed_ite_s, foldl_fixed, implies_true, ite_self]

theorem State.pullInline_fixed (s : State) (c : Nat) (a0 : Nat) : (State.pullInline s c a0).fixed = s.fixed := by
  induction a0 generalizing s c with
  | zero => unfold State.pullInline; repeat' (first | with_reducible rfl | (simp only [*, State.fixed_mk, State.setCtx_fixed, fixed_ite_s]; done) | (split <;> (try (rename_i h; have h2 := congrArg (fun p => State.fixed (Prod.snd p)) h; simp only [State.fixed_mk, State.setCtx_fixed, fixed_ite_s] at h2))) | (simp only [State.fixed_mk, State.setCtx_fixed, fixed_ite_s]; fail_if_success done) | (simp only [*, State.fixed_mk, State.setCtx_fixed, fixed_ite_s]; fail_if_success done) | intro _)
  | succ _ ih => unfold State.pullInline; repeat' (first | with_reducible rfl | (simp only [*, State.fixed_mk, State.setCtx_fixed, fixed_ite_s]; done) | (split <;> (try (rename_i h; have h2 := congrArg (fun p => State.fixed (Prod.snd p)) h; simp only [State.fixed_mk, State.setCtx_fixed, fixed_ite_s] at h2))) | (simp only [State.fixed_mk, State.setCtx_fixed, fixed_ite_s]; fail_if_success done) | (simp only [*, State.fixed_mk, State.setCtx_fixed, fixed_ite_s]; fail_if_success done) | intro _)

theorem State.fetch_fixed (s : State) (c : Nat) : (State.fetch s c).fixed = s.fixed := by simp only [State.fetch, State.count_fixed, State.memEnd_fixed, State.ringRead_fixed, State.setArmed_fixed, State.setCtx_fixed, State.touchCtx_fixed, fixed_ite_s, ite_self]

theorem State.fetchEnd_fixed (s : State) (c : Nat) (slot : Nat) (n : Nat) (st : Nat) (d : List Byte) : (State.fetchEnd s c slot n st d).fixed = s.fixed := by simp only [State.fetchEnd, State.haltCtx_fixed, State.raise_fixed, State.ringRead_fixed, State.setCtx_fixed, fixed_ite_s, ite_self]

theorem State.pushHandler_fixed (s : State) (tag : Nat) (again : Bool) : (State.pushHandler s tag again).fixed = s.fixed := by
  unfold State.pushHandler
  split <;> simp only [State.qAppend_fixed, State.setOp_fixed, fixed_ite_s, ite_self]

theorem State.retryHandlers_fixed (s : State) : (State.retryHandlers s).fixed = s.fixed := by simp only [State.retryHandlers, State.pushHandler_fixed, foldl_fixed, implies_true]

theorem State.frontBad_fixed (s : State) (c : Nat) (cause : Nat) (o : Nat) : (State.frontBad s c cause o).fixed = s.fixed := by simp only [State.frontBad, State.haltCtx_fixed, State.setArmed_fixed]

theorem State.dropFront_fixed (s : State) (c : Nat) (n : Nat) : (State.dropFront s c n).fixed = s.fixed := by simp only [State.dropFront, State.setCtx_fixed]

theorem State.stageFor_fixed (s : State) (c : Nat) (bytes : Nat) : (State.stageFor s c bytes).2.fixed = s.fixed := by simp only [State.stageFor, State.stageDecide_fixed, fixed2_ite_s, ite_self]

theorem State.startOp_fixed (s : State) (tag : Nat) (op : Op) : (State.startOp s tag op).fixed = s.fixed := by simp only [State.startOp, State.attachChan_fixed, State.pushHandler_fixed, State.setEp_fixed, State.setOp_fixed, elim_same, fixed_elim_s, fixed_ite_s, ite_self]

theorem State.openOp_fixed (s : State) (tag : Nat) (c : Nat) (n : Nat) (op : Op) : (State.openOp s tag c n op).fixed = s.fixed := by simp only [State.openOp, State.dropFront_fixed, State.setCtx_fixed, State.stageFor_fixed, State.startOp_fixed]

theorem State.newOp_fixed (s : State) (c : Nat) (o : Nat) (n : Nat) (d : List Byte) : (State.newOp s c o n d).fixed = s.fixed := by simp only [State.newOp, State.freshId_fixed, State.openOp_fixed, State.steer_fixed, elim_same, fixed_elim_s, fixed_ite_s, ite_self]

theorem State.validateN_fixed (s : State) (c : Nat) (a0 : Nat) : (State.validateN s c a0).fixed = s.fixed := by
  induction a0 generalizing s c with
  | zero => unfold State.validateN; repeat' (first | with_reducible rfl | (simp only [*, State.fixed_mk, State.frontBad_fixed, State.newOp_fixed, fixed_ite_s, ite_self]; done) | (split <;> (try (rename_i h; have h2 := congrArg (fun p => State.fixed (Prod.snd p)) h; simp only [State.fixed_mk, State.frontBad_fixed, State.newOp_fixed, fixed_ite_s, ite_self] at h2))))
  | succ _ ih => unfold State.validateN; repeat' (first | with_reducible rfl | (simp only [*, State.fixed_mk, State.frontBad_fixed, State.newOp_fixed, fixed_ite_s, ite_self]; done) | (split <;> (try (rename_i h; have h2 := congrArg (fun p => State.fixed (Prod.snd p)) h; simp only [State.fixed_mk, State.frontBad_fixed, State.newOp_fixed, fixed_ite_s, ite_self] at h2))))

theorem State.validate_fixed (s : State) (c : Nat) : (State.validate s c).fixed = s.fixed := by simp only [State.validate, State.pullInline_fixed, State.validateN_fixed]

theorem State.cqHeadEnd_fixed (s : State) (c : Nat) (st : Nat) (d : List Byte) : (State.cqHeadEnd s c st d).fixed = s.fixed := by simp only [State.cqHeadEnd, State.setCtx_fixed, State.viaFlush_fixed]

theorem State.cqWriteEnd_fixed (s : State) (c : Nat) (addr : Nat) (d : List Byte) (after : Option (Nat × Nat)) (st : Nat) : (State.cqWriteEnd s c addr d after st).fixed = s.fixed := by
  unfold State.cqWriteEnd
  repeat' split
  all_goals simp only [State.refuse_fixed, State.ringWrite_fixed, State.unholdRx_fixed]

theorem State.fragEnd_fixed (s : State) (id : Nat) (off : Nat) (st : Nat) (d : List Byte) : (State.fragEnd s id off st d).fixed = s.fixed := by
  unfold State.fragEnd
  split <;> simp only [State.setJob_fixed, State.tellJob_fixed, fixed_ite_s, ite_self]

theorem State.accessEnd_fixed (s : State) (w : Waiter) (st : Nat) (d : List Byte) : (State.accessEnd s w st d).fixed = s.fixed := by
  unfold State.accessEnd
  split <;> simp only [State.cqHeadEnd_fixed, State.cqWriteEnd_fixed, State.fetchEnd_fixed, State.fragEnd_fixed, State.hartReadEnd_fixed, State.hartWriteEnd_fixed]

theorem State.jobEvent_fixed (s : State) (id : Nat) (ev : JobEv) : (State.jobEvent s id ev).fixed = s.fixed := by
  unfold State.jobEvent
  repeat' (first | with_reducible rfl | (simp only [*, State.fixed_mk, State.collEnd_fixed, State.collPayload_fixed, State.finishOp_fixed, State.localEvent_fixed, State.payloadEnd_fixed, State.remoteEvent_fixed, State.replyEnd_fixed, State.viaDepEvent_fixed, State.viaReadEnd_fixed, fixed_ite_s, ite_self]; done) | (split <;> (try (rename_i h; have h2 := congrArg (fun p => State.fixed (Prod.snd p)) h; simp only [State.fixed_mk, State.collEnd_fixed, State.collPayload_fixed, State.finishOp_fixed, State.localEvent_fixed, State.payloadEnd_fixed, State.remoteEvent_fixed, State.replyEnd_fixed, State.viaDepEvent_fixed, State.viaReadEnd_fixed, fixed_ite_s, ite_self] at h2))))

theorem State.closeCtx_fixed (s : State) (c : Nat) (forced : Nat) : (State.closeCtx s c forced).fixed = s.fixed := by
  unfold State.closeCtx
  repeat' (first | with_reducible rfl | (simp only [*, State.fixed_mk, State.finishOp_fixed, State.raise_fixed, State.setCtxState_fixed, State.setCtx_fixed, fixed_ite_s, ite_self]; done) | (split <;> (try (rename_i h; have h2 := congrArg (fun p => State.fixed (Prod.snd p)) h; simp only [State.fixed_mk, State.finishOp_fixed, State.raise_fixed, State.setCtxState_fixed, State.setCtx_fixed, fixed_ite_s, ite_self] at h2))) | (simp only [State.fixed_mk, State.finishOp_fixed, State.raise_fixed, State.setCtxState_fixed, State.setCtx_fixed, fixed_ite_s, ite_self]; fail_if_success done) | (simp only [*, State.fixed_mk, State.finishOp_fixed, State.raise_fixed, State.setCtxState_fixed, State.setCtx_fixed, fixed_ite_s, ite_self]; fail_if_success done) | intro _)

theorem State.settleWork_fixed (s : State) : (State.settleWork s).fixed = s.fixed := by simp only [State.settleWork, State.closeCtx_fixed, State.msgCheck_fixed, State.retryHandlers_fixed, State.validate_fixed, State.viaDests_fixed, State.viaSources_fixed, foldl_fixed, implies_true]

theorem State.drainN_fixed (s : State) (a0 : Nat) : (State.drainN s a0).fixed = s.fixed := by
  induction a0 generalizing s with
  | zero => unfold State.drainN; repeat' (first | with_reducible rfl | (simp only [*, State.fixed_mk, State.accessEnd_fixed, State.jobEvent_fixed, State.setEp_fixed, State.settleWork_fixed, fixed_ite_s, ite_self]; done) | (split <;> (try (rename_i h; have h2 := congrArg (fun p => State.fixed (Prod.snd p)) h; simp only [State.fixed_mk, State.accessEnd_fixed, State.jobEvent_fixed, State.setEp_fixed, State.settleWork_fixed, fixed_ite_s, ite_self] at h2))))
  | succ _ ih => unfold State.drainN; repeat' (first | with_reducible rfl | (simp only [*, State.fixed_mk, State.accessEnd_fixed, State.jobEvent_fixed, State.setEp_fixed, State.settleWork_fixed, fixed_ite_s, ite_self]; done) | (split <;> (try (rename_i h; have h2 := congrArg (fun p => State.fixed (Prod.snd p)) h; simp only [State.fixed_mk, State.accessEnd_fixed, State.jobEvent_fixed, State.setEp_fixed, State.settleWork_fixed, fixed_ite_s, ite_self] at h2))))

theorem State.drain_fixed (s : State) : (State.drain s).fixed = s.fixed := by simp only [State.drain, State.drainN_fixed]

end Sys2Proof.Machine
end

