-- ==== Sys2Proof/Laws/Fixed6.lean ====
section
/-!
SUPPORT. The operations and meanings of Machine/ViaCmds.lean, Machine/EndpointCmds.lean, Machine/RemoteCmds.lean, Machine/CollCmds.lean, Machine/Access.lean, Machine/SpanCmds.lean
leave the queue, the fuses and the flash alone.
-/
namespace Sys2Proof.Machine

set_option linter.all false

/-! ## Machine/ViaCmds.lean -/

theorem execPacketTransmitEnd_fixed (l : Fin 256) (s : State) : outFixed (execPacketTransmitEnd l s) = some s.fixed := by simp only [execPacketTransmitEnd, outFixed_next, State.drain_fixed, State.transmitEnd_fixed]

theorem execWindowClose_fixed (l : Fin 256) (e : Fin 64) (s : State) : outFixed (execWindowClose l e s) = some s.fixed := by simp only [execWindowClose, outFixed_next, State.drain_fixed, State.windowClose_fixed]

theorem execViaTableSwap_fixed (s : State) : outFixed (execViaTableSwap s) = some s.fixed := by simp only [execViaTableSwap, outFixed_next, State.drain_fixed, State.viaSwap_fixed]

theorem execViaDataReceive_fixed (s : State) : outFixed (execViaDataReceive s) = some s.fixed := by
  unfold execViaDataReceive
  repeat' (first | with_reducible rfl | (simp only [*, outFixed_next, State.fixed_mk, State.drain_fixed, State.takeOpc_fixed, State.viaData_fixed]; done) | (split <;> (try (rename_i h; have h2 := congrArg (fun p => State.fixed (Prod.snd p)) h; simp only [outFixed_next, State.fixed_mk, State.drain_fixed, State.takeOpc_fixed, State.viaData_fixed] at h2))))

theorem execViaSetupStart_fixed (v : Fin 4096) (s : State) : outFixed (execViaSetupStart v s) = some s.fixed := by simp only [execViaSetupStart, outFixed_next, State.sendSetup_fixed, State.setViaSrc_fixed, ite_self, outFixed_ite_s]

theorem execViaSetupReceive_fixed (s : State) : outFixed (execViaSetupReceive s) = some s.fixed := by
  unfold execViaSetupReceive
  repeat' (first | with_reducible rfl | (simp only [*, outFixed_next, State.fixed_mk, State.drain_fixed, State.takeKept_fixed, State.viaSetup_fixed]; done) | (split <;> (try (rename_i h; have h2 := congrArg (fun p => State.fixed (Prod.snd p)) h; simp only [outFixed_next, State.fixed_mk, State.drain_fixed, State.takeKept_fixed, State.viaSetup_fixed] at h2))))

theorem execViaSetupTimeout_fixed (v : Fin 4096) (s : State) : outFixed (execViaSetupTimeout v s) = some s.fixed := by simp only [execViaSetupTimeout, outFixed_next, State.drain_fixed, State.sendSetup_fixed, State.setViaSrc_fixed, State.viaFail_fixed, ite_self, outFixed_ite_s]

theorem execViaTeardownReceive_fixed (s : State) : outFixed (execViaTeardownReceive s) = some s.fixed := by
  unfold execViaTeardownReceive
  repeat' (first | with_reducible rfl | (simp only [*, outFixed_next, State.fixed_mk, State.drain_fixed, State.takeKept_fixed, State.viaTeardown_fixed]; done) | (split <;> (try (rename_i h; have h2 := congrArg (fun p => State.fixed (Prod.snd p)) h; simp only [outFixed_next, State.fixed_mk, State.drain_fixed, State.takeKept_fixed, State.viaTeardown_fixed] at h2))))

theorem execViaTeardownForward_fixed (v : Fin 4096) (s : State) : outFixed (execViaTeardownForward v s) = some s.fixed := by simp only [execViaTeardownForward, outFixed_next, State.drain_fixed, State.teardownForward_fixed]

/-! ## Machine/EndpointCmds.lean -/

theorem execDescriptorFetch_fixed (ctx : Fin 262144) (s : State) : outFixed (execDescriptorFetch ctx s) = some s.fixed := by simp only [execDescriptorFetch, outFixed_next, State.drain_fixed, State.fetch_fixed]

theorem execCqHeadPoll_fixed (ctx : Fin 262144) (s : State) : outFixed (execCqHeadPoll ctx s) = some s.fixed := by simp only [execCqHeadPoll, outFixed_next, State.drain_fixed, State.pollHead_fixed, ite_self, outFixed_ite_s]

theorem execPad_fixed (ctx : Fin 262144) (s : State) : outFixed (execPad ctx s) = some s.fixed := by
  unfold execPad
  repeat' split
  all_goals simp only [outFixed_next, State.drain_fixed, State.dropFront_fixed, State.frontBad_fixed]

theorem State.begun_fixed (s : State) (tag : Nat) (o : Op) (segs : Nat) : (State.begun s tag o segs).fixed = s.fixed := by simp only [State.begun, State.setOp_fixed]

theorem State.sendOpData_fixed (s : State) (tag : Nat) (o : Op) : (State.sendOpData s tag o).fixed = s.fixed := by simp only [State.sendOpData, State.begun_fixed, State.injectOp_fixed, State.localJob_fixed, fixed_ite_s, foldl_fixed, implies_true, ite_self]

theorem execNop_fixed (tag : Fin 65536) (s : State) : outFixed (execNop tag s) = some s.fixed := by
  unfold execNop
  split <;> simp only [outFixed_next, State.drain_fixed, State.finishOp_fixed]

theorem execSend_fixed (tag : Fin 65536) (s : State) : outFixed (execSend tag s) = some s.fixed := by
  unfold execSend
  split <;> simp only [outFixed_next, State.begun_fixed, State.drain_fixed, State.injectOp_fixed, State.sendOpData_fixed, ite_self, outFixed_ite_s]

theorem execRecv_fixed (tag : Fin 65536) (s : State) : outFixed (execRecv tag s) = some s.fixed := by
  unfold execRecv
  repeat' (first | with_reducible rfl | (simp only [*, outFixed_next, State.fixed_mk, State.begun_fixed, State.drain_fixed, State.post_fixed, State.raise_fixed, State.setMat_fixed]; done) | (split <;> (try (rename_i h; have h2 := congrArg (fun p => State.fixed (Prod.snd p)) h; simp only [outFixed_next, State.fixed_mk, State.begun_fixed, State.drain_fixed, State.post_fixed, State.raise_fixed, State.setMat_fixed] at h2))))

theorem execPut_fixed (tag : Fin 65536) (s : State) : outFixed (execPut tag s) = some s.fixed := by
  unfold execPut
  split <;> simp only [outFixed_next, State.drain_fixed, State.sendOpData_fixed]

theorem execPutNotify_fixed (tag : Fin 65536) (s : State) : outFixed (execPutNotify tag s) = some s.fixed := by
  unfold execPutNotify
  split <;> simp only [outFixed_next, State.drain_fixed, State.sendOpData_fixed]

theorem execGet_fixed (tag : Fin 65536) (s : State) : outFixed (execGet tag s) = some s.fixed := by
  unfold execGet
  split <;> simp only [outFixed_next, State.begun_fixed, State.drain_fixed, State.injectOp_fixed, State.opCheck_fixed, ite_self, outFixed_ite_s]

theorem execAtomic_fixed (tag : Fin 65536) (s : State) : outFixed (execAtomic tag s) = some s.fixed := by
  unfold execAtomic
  split <;> simp only [outFixed_next, State.begun_fixed, State.drain_fixed, State.injectOp_fixed]

theorem State.collStart_fixed (s : State) (tag : Nat) (o : Op) : (State.collStart s tag o).fixed = s.fixed := by
  unfold State.collStart
  split <;> simp only [State.begun_fixed, State.collCheck_fixed, State.finishOp_fixed, State.localJob_fixed, foldl_fixed, implies_true]

theorem execCollReduce_fixed (tag : Fin 65536) (s : State) : outFixed (execCollReduce tag s) = some s.fixed := by
  unfold execCollReduce
  split <;> simp only [outFixed_next, State.collStart_fixed, State.drain_fixed]

theorem execCollBcast_fixed (tag : Fin 65536) (s : State) : outFixed (execCollBcast tag s) = some s.fixed := by
  unfold execCollBcast
  split <;> simp only [outFixed_next, State.collStart_fixed, State.drain_fixed]

theorem execCollGather_fixed (tag : Fin 65536) (s : State) : outFixed (execCollGather tag s) = some s.fixed := by
  unfold execCollGather
  split <;> simp only [outFixed_next, State.collStart_fixed, State.drain_fixed]

theorem execBarrier_fixed (tag : Fin 65536) (s : State) : outFixed (execBarrier tag s) = some s.fixed := by
  unfold execBarrier
  repeat' split
  all_goals simp only [outFixed_next, State.begun_fixed, State.drain_fixed, State.finishOp_fixed, State.injectOp_fixed]

theorem execViaduct_fixed (tag : Fin 65536) (s : State) : outFixed (execViaduct tag s) = some s.fixed := by
  unfold execViaduct
  split <;> simp only [outFixed_next, State.begun_fixed, State.drain_fixed, State.finishOp_fixed, State.localJob_fixed, State.setViaSrc_fixed, foldl_fixed, implies_true, ite_self, outFixed_ite_s]

theorem State.mgmtEnd_fixed (s : State) (tag : Nat) (status : Nat) (len : Nat) : outFixed (State.mgmtEnd s tag status len) = some s.fixed := by simp only [State.mgmtEnd, outFixed_next, State.drain_fixed, State.finishOp_fixed]

theorem execCtxInit_fixed (tag : Fin 65536) (s : State) : outFixed (execCtxInit tag s) = some s.fixed := by
  unfold execCtxInit
  repeat' split
  all_goals simp only [outFixed_next, State.mgmtEnd_fixed, State.setCtx_fixed]

theorem execCtxEnable_fixed (tag : Fin 65536) (s : State) : outFixed (execCtxEnable tag s) = some s.fixed := by
  unfold execCtxEnable
  repeat' split
  all_goals simp only [outFixed_next, State.mgmtEnd_fixed, State.setCtxState_fixed, State.setCtx_fixed, ite_self, outFixed_ite_s]

theorem execCtxDisable_fixed (tag : Fin 65536) (s : State) : outFixed (execCtxDisable tag s) = some s.fixed := by
  unfold execCtxDisable
  repeat' split
  all_goals simp only [outFixed_next, State.begun_fixed, State.cancelPosts_fixed, State.drain_fixed, State.mgmtEnd_fixed, State.setCtx_fixed]

theorem State.resetCtx_fixed (s : State) (c : Nat) : (State.resetCtx s c).fixed = s.fixed := by simp only [State.resetCtx, State.discardMsgs_fixed, State.refuseJob_fixed, State.releaseTag_fixed, State.setMat_fixed, fixed_ite_s, foldl_fixed, implies_true, ite_self]

theorem execCtxReset_fixed (tag : Fin 65536) (s : State) : outFixed (execCtxReset tag s) = some s.fixed := by
  unfold execCtxReset
  repeat' split
  all_goals simp only [outFixed_next, State.begun_fixed, State.drain_fixed, State.mgmtEnd_fixed, State.resetCtx_fixed, State.setCtxState_fixed, State.setCtx_fixed]

theorem execCtxResetTimeout_fixed (ctx : Fin 262144) (s : State) : outFixed (execCtxResetTimeout ctx s) = some s.fixed := by simp only [execCtxResetTimeout, outFixed_next, State.closeCtx_fixed, State.drain_fixed, State.dropMsg_fixed, State.releaseTag_fixed, foldl_fixed, implies_true, ite_self, outFixed_ite_s]

theorem execCtxRead_fixed (tag : Fin 65536) (s : State) : outFixed (execCtxRead tag s) = some s.fixed := by
  unfold execCtxRead
  repeat' split
  all_goals simp only [outFixed_next, State.mgmtEnd_fixed, State.ringWrite_fixed]

theorem execSpaceSet_fixed (tag : Fin 65536) (s : State) : outFixed (execSpaceSet tag s) = some s.fixed := by
  unfold execSpaceSet
  split <;> simp only [outFixed_next, State.begun_fixed, State.drain_fixed, State.invIssue_fixed, State.mgmtEnd_fixed, State.setEp_fixed, ite_self, outFixed_ite_s]

theorem execRegionSet_fixed (tag : Fin 65536) (s : State) : outFixed (execRegionSet tag s) = some s.fixed := by
  unfold execRegionSet
  split <;> simp only [outFixed_next, State.mgmtEnd_fixed, State.setEp_fixed, ite_self, outFixed_ite_s]

theorem execRegionRevoke_fixed (tag : Fin 65536) (s : State) : outFixed (execRegionRevoke tag s) = some s.fixed := by
  unfold execRegionRevoke
  split <;> simp only [outFixed_next, State.begun_fixed, State.drain_fixed, State.mgmtEnd_fixed, State.revokeBegin_fixed, ite_self, outFixed_ite_s]

theorem execRevokeComplete_fixed (s : State) : outFixed (execRevokeComplete s) = some s.fixed := by simp only [execRevokeComplete, outFixed_next, State.drain_fixed, State.revokeEnd_fixed]

theorem execXltInval_fixed (tag : Fin 65536) (s : State) : outFixed (execXltInval tag s) = some s.fixed := by
  unfold execXltInval
  split <;> simp only [outFixed_next, State.begun_fixed, State.drain_fixed, State.invIssue_fixed, State.mgmtEnd_fixed, ite_self, outFixed_ite_s]

theorem execMringEnable_fixed (on : Bool) (s : State) : outFixed (execMringEnable on s) = some s.fixed := by simp only [execMringEnable, outFixed_next, State.drain_fixed, State.raise_fixed, State.setCtxState_fixed, State.setCtx_fixed, State.setFld_fixed, ite_self, outFixed_ite_s]

theorem execCtgInjectFetchErr_fixed (g : Fin 128) (s : State) : outFixed (execCtgInjectFetchErr g s) = some s.fixed := by simp only [execCtgInjectFetchErr, outFixed_next, State.setArmed_fixed]

theorem execCtgInjectMalformed_fixed (g : Fin 128) (s : State) : outFixed (execCtgInjectMalformed g s) = some s.fixed := by simp only [execCtgInjectMalformed, outFixed_next, State.setArmed_fixed]

theorem execHandlerDone_fixed (tag : Fin 65536) (cancel : Bool) (s : State) : outFixed (execHandlerDone tag cancel s) = some s.fixed := by
  unfold execHandlerDone
  split <;> simp only [outFixed_next, State.drain_fixed, State.finishOp_fixed, State.setOp_fixed, ite_self, outFixed_ite_s]

theorem execHandlerTimeout_fixed (tag : Fin 65536) (s : State) : outFixed (execHandlerTimeout tag s) = some s.fixed := by
  unfold execHandlerTimeout
  split <;> simp only [outFixed_next, State.count_fixed, State.drain_fixed, State.finishOp_fixed, State.raise_fixed, ite_self, outFixed_ite_s]

/-! ## Machine/RemoteCmds.lean -/

theorem execFenceRelease_fixed (chan : Fin 65536) (s : State) : outFixed (execFenceRelease chan s) = some s.fixed := by simp only [execFenceRelease, outFixed_next, State.drain_fixed, State.releaseFence_fixed, ite_self, outFixed_ite_s]

theorem execSendEagerReceive_fixed (s : State) : outFixed (execSendEagerReceive s) = some s.fixed := by simp only [execSendEagerReceive, outFixed_next, State.drain_fixed, State.receiveOpc_fixed]

theorem execSendRtsReceive_fixed (s : State) : outFixed (execSendRtsReceive s) = some s.fixed := by simp only [execSendRtsReceive, outFixed_next, State.drain_fixed, State.receiveOpc_fixed]

theorem execSendFinReceive_fixed (s : State) : outFixed (execSendFinReceive s) = some s.fixed := by simp only [execSendFinReceive, outFixed_next, State.drain_fixed, State.receiveOpc_fixed]

theorem execSendCancelReceive_fixed (s : State) : outFixed (execSendCancelReceive s) = some s.fixed := by simp only [execSendCancelReceive, outFixed_next, State.drain_fixed, State.receiveOpc_fixed]

theorem execPutReceive_fixed (s : State) : outFixed (execPutReceive s) = some s.fixed := by simp only [execPutReceive, outFixed_next, State.drain_fixed, State.receiveOpc_fixed]

theorem execPutNotifyReceive_fixed (s : State) : outFixed (execPutNotifyReceive s) = some s.fixed := by simp only [execPutNotifyReceive, outFixed_next, State.drain_fixed, State.receiveOpc_fixed]

theorem execGetReqReceive_fixed (s : State) : outFixed (execGetReqReceive s) = some s.fixed := by simp only [execGetReqReceive, outFixed_next, State.drain_fixed, State.receiveOpc_fixed]

theorem execAtomicReceive_fixed (s : State) : outFixed (execAtomicReceive s) = some s.fixed := by simp only [execAtomicReceive, outFixed_next, State.drain_fixed, State.receiveOpc_fixed]

theorem State.answer_fixed (s : State) (o : Nat) (act : State → List Byte → State) (ha : ∀ t b, (act t b).fixed = t.fixed) :
    (s.answer o act).fixed = s.fixed := by
  unfold State.answer
  split
  · rfl
  split
  · rename_i h
    exact snd_fixed_of h (State.takeOpc_fixed ..)
  · rename_i h
    exact (State.drain_fixed ..).trans ((ha ..).trans (snd_fixed_of h (State.takeOpc_fixed ..)))

theorem execGetRspReceive_fixed (s : State) : outFixed (execGetRspReceive s) = some s.fixed := by
  exact congrArg some (State.answer_fixed _ _ _ State.takeRsp_fixed)

theorem execAtomicRspReceive_fixed (s : State) : outFixed (execAtomicRspReceive s) = some s.fixed := by
  exact congrArg some (State.answer_fixed _ _ _ State.takeRsp_fixed)

theorem execAccessNakReceive_fixed (s : State) : outFixed (execAccessNakReceive s) = some s.fixed := by
  exact congrArg some (State.answer_fixed _ _ _ State.takeNak_fixed)

theorem execAckReceive_fixed (s : State) : outFixed (execAckReceive s) = some s.fixed := by
  exact congrArg some (State.answer_fixed _ _ _ State.takeAck_fixed)

theorem execRouteErrorReceive_fixed (s : State) : outFixed (execRouteErrorReceive s) = some s.fixed := by
  exact congrArg some (State.answer_fixed _ _ _ State.takeRouteError_fixed)

theorem State.postWaiting_fixed (s : State) (n : Nat) (a0 : Nat) : (State.postWaiting s n a0).fixed = s.fixed := by
  induction a0 generalizing s n with
  | zero => unfold State.postWaiting; repeat' (first | with_reducible rfl | (simp only [*, State.fixed_mk, State.post_fixed, State.setMat_fixed]; done) | (split <;> (try (rename_i h; have h2 := congrArg (fun p => State.fixed (Prod.snd p)) h; simp only [State.fixed_mk, State.post_fixed, State.setMat_fixed] at h2))))
  | succ _ ih => unfold State.postWaiting; repeat' (first | with_reducible rfl | (simp only [*, State.fixed_mk, State.post_fixed, State.setMat_fixed]; done) | (split <;> (try (rename_i h; have h2 := congrArg (fun p => State.fixed (Prod.snd p)) h; simp only [State.fixed_mk, State.post_fixed, State.setMat_fixed] at h2))))

theorem execPostedReceiveRoom_fixed (n : Fin 16) (s : State) : outFixed (execPostedReceiveRoom n s) = some s.fixed := by simp only [execPostedReceiveRoom, outFixed_next, State.drain_fixed, State.postWaiting_fixed]

theorem execHookRecordPush_fixed (n : Fin 16) (s : State) : outFixed (execHookRecordPush n s) = some s.fixed := by
  unfold execHookRecordPush
  split <;> simp only [outFixed_next, State.drain_fixed, State.qAppend_fixed, State.setMat_fixed, ite_self, outFixed_ite_s]

theorem execMatInjectStateEcc_fixed (n : Fin 16) (s : State) : outFixed (execMatInjectStateEcc n s) = some s.fixed := by simp only [execMatInjectStateEcc, outFixed_next, State.setArmed_fixed]

theorem execRelAckDelay_fixed (chan : Fin 65536) (s : State) : outFixed (execRelAckDelay chan s) = some s.fixed := by
  unfold execRelAckDelay
  split <;> simp only [outFixed_next, State.sendRelAck_fixed, ite_self, outFixed_ite_s]

theorem execRetransmitTimeout_fixed (chan : Fin 65536) (seq : W32) (s : State) : outFixed (execRetransmitTimeout chan seq s) = some s.fixed := by simp only [execRetransmitTimeout, outFixed_next, State.drain_fixed, State.resendTx_fixed]

theorem execChannelEntryFree_fixed (s : State) : outFixed (execChannelEntryFree s) = some s.fixed := by simp only [execChannelEntryFree, outFixed_next, State.drain_fixed, State.retryChans_fixed]

theorem execSendHalfReset_fixed (chan : Fin 65536) (s : State) : outFixed (execSendHalfReset chan s) = some s.fixed := by simp only [execSendHalfReset, outFixed_next, State.drain_fixed, State.txReset_fixed]

theorem execReceiveHalfReset_fixed (chan : Fin 65536) (s : State) : outFixed (execReceiveHalfReset chan s) = some s.fixed := by simp only [execReceiveHalfReset, outFixed_next, State.drain_fixed, State.retryChans_fixed, State.rxReset_fixed]

theorem execRespHoldExpire_fixed (chan : Fin 65536) (seq : W32) (s : State) : outFixed (execRespHoldExpire chan seq s) = some s.fixed := by simp only [execRespHoldExpire, outFixed_next, State.setEp_fixed, State.showRel_fixed]

theorem execRefuseHoldExpire_fixed (chan : Fin 65536) (seq : W32) (s : State) : outFixed (execRefuseHoldExpire chan seq s) = some s.fixed := by
  unfold execRefuseHoldExpire
  split <;> simp only [outFixed_next, State.drain_fixed, State.unholdRx_fixed]

theorem execParkTimeout_fixed (rel : Fin 16) (slot : Fin 4096) (s : State) : outFixed (execParkTimeout rel slot s) = some s.fixed := by
  unfold execParkTimeout
  split <;> simp only [outFixed_next, State.drain_fixed, State.unresolved_fixed]

theorem execSuspendLimitExpire_fixed (chan : Fin 65536) (seq : W32) (s : State) : outFixed (execSuspendLimitExpire chan seq s) = some s.fixed := by
  unfold execSuspendLimitExpire
  split <;> simp only [outFixed_next, State.chanFail_fixed, State.drain_fixed, ite_self, outFixed_ite_s]

theorem execRelInjectRespEcc_fixed (n : Fin 16) (s : State) : outFixed (execRelInjectRespEcc n s) = some s.fixed := by simp only [execRelInjectRespEcc, outFixed_next, State.setArmed_fixed]

theorem execRelInjectDropAck_fixed (n : Fin 16) (s : State) : outFixed (execRelInjectDropAck n s) = some s.fixed := by simp only [execRelInjectDropAck, outFixed_next, State.setArmed_fixed]

theorem execRelInjectDropRx_fixed (n : Fin 16) (s : State) : outFixed (execRelInjectDropRx n s) = some s.fixed := by simp only [execRelInjectDropRx, outFixed_next, State.setArmed_fixed]

theorem execWalkStepRead_fixed (n : Fin 32) (i : Fin 32) (s : State) : outFixed (execWalkStepRead n i s) = some s.fixed := by simp only [execWalkStepRead, outFixed_next, State.drain_fixed, State.walkStep_fixed]

theorem execLocalTimeoutExpire_fixed (tag : Fin 65536) (s : State) : outFixed (execLocalTimeoutExpire tag s) = some s.fixed := by
  unfold execLocalTimeoutExpire
  split <;> simp only [outFixed_next, State.drain_fixed, State.localTimeout_fixed, State.tellJob_fixed]

theorem State.invDone_fixed (s : State) (n : Nat) : (State.invDone s n).fixed = s.fixed := by
  unfold State.invDone
  repeat' (first | with_reducible rfl | (simp only [*, State.fixed_mk, State.finishOp_fixed, State.invBegin_fixed, State.invRetry_fixed, State.setEp_fixed, State.setFld_fixed, State.setXlt_fixed, fixed_ite_s, ite_self]; done) | (split <;> (try (rename_i h; have h2 := congrArg (fun p => State.fixed (Prod.snd p)) h; simp only [State.fixed_mk, State.finishOp_fixed, State.invBegin_fixed, State.invRetry_fixed, State.setEp_fixed, State.setFld_fixed, State.setXlt_fixed, fixed_ite_s, ite_self] at h2))) | (simp only [State.fixed_mk, State.finishOp_fixed, State.invBegin_fixed, State.invRetry_fixed, State.setEp_fixed, State.setFld_fixed, State.setXlt_fixed, fixed_ite_s, ite_self]; fail_if_success done) | (simp only [*, State.fixed_mk, State.finishOp_fixed, State.invBegin_fixed, State.invRetry_fixed, State.setEp_fixed, State.setFld_fixed, State.setXlt_fixed, fixed_ite_s, ite_self]; fail_if_success done) | intro _)

theorem execInvalidationComplete_fixed (n : Fin 32) (s : State) : outFixed (execInvalidationComplete n s) = some s.fixed := by simp only [execInvalidationComplete, outFixed_next, State.drain_fixed, State.invDone_fixed]

/-! ## Machine/CollCmds.lean -/

theorem execCollContribReceive_fixed (s : State) : outFixed (execCollContribReceive s) = some s.fixed := by simp only [execCollContribReceive, outFixed_next, State.drain_fixed, State.treeReceive_fixed]

theorem execCollPartialExactReceive_fixed (s : State) : outFixed (execCollPartialExactReceive s) = some s.fixed := by simp only [execCollPartialExactReceive, outFixed_next, State.drain_fixed, State.treeReceive_fixed]

theorem execCollPartialOrderedReceive_fixed (s : State) : outFixed (execCollPartialOrderedReceive s) = some s.fixed := by simp only [execCollPartialOrderedReceive, outFixed_next, State.drain_fixed, State.treeReceive_fixed]

theorem execCollResultReceive_fixed (s : State) : outFixed (execCollResultReceive s) = some s.fixed := by
  exact congrArg some ((State.drain_fixed ..).trans (State.downReceive_fixed _ _ _ State.takeResult_fixed))

theorem execCollBcastReceive_fixed (s : State) : outFixed (execCollBcastReceive s) = some s.fixed := by
  unfold execCollBcastReceive
  split
  · rfl
  split
  · exact congrArg some ((State.drain_fixed ..).trans (State.treeReceive_fixed ..))
  · exact congrArg some ((State.drain_fixed ..).trans (State.downReceive_fixed _ _ _ State.takeBcast_fixed))

theorem execCollGatherReceive_fixed (s : State) : outFixed (execCollGatherReceive s) = some s.fixed := by simp only [execCollGatherReceive, outFixed_next, State.drain_fixed, State.treeReceive_fixed]

theorem execBarrierUpReceive_fixed (s : State) : outFixed (execBarrierUpReceive s) = some s.fixed := by simp only [execBarrierUpReceive, outFixed_next, State.drain_fixed, State.treeReceive_fixed]

theorem execBarrierDownReceive_fixed (s : State) : outFixed (execBarrierDownReceive s) = some s.fixed := by
  exact congrArg some ((State.drain_fixed ..).trans (State.downReceive_fixed _ _ _ State.takeBarDown_fixed))

theorem execCollRepullReceive_fixed (s : State) : outFixed (execCollRepullReceive s) = some s.fixed := by simp only [execCollRepullReceive, outFixed_next, State.drain_fixed, State.treeReceive_fixed]

theorem execAbacusCtrlReceive_fixed (s : State) : outFixed (execAbacusCtrlReceive s) = some s.fixed := by
  unfold execAbacusCtrlReceive
  repeat' (first | with_reducible rfl | (simp only [*, outFixed_next, State.fixed_mk, State.copyDone_fixed, State.drain_fixed, State.takeColl_fixed, State.takeFail_fixed, State.treeLookup_fixed]; done) | (split <;> (try (rename_i h; have h2 := congrArg (fun p => State.fixed (Prod.snd p)) h; simp only [outFixed_next, State.fixed_mk, State.copyDone_fixed, State.drain_fixed, State.takeColl_fixed, State.takeFail_fixed, State.treeLookup_fixed] at h2))))

theorem execWindowFillDone_fixed (tree : Fin 4096) (inst : W32) (chunk : Fin 65536) (s : State) : outFixed (execWindowFillDone tree inst chunk s) = some s.fixed := by
  unfold execWindowFillDone
  dsimp only
  split
  · rfl
  refine view_ite (F := outFixed) rfl ?_
  split
  · rfl
  rename_i h
  refine view_ite (F := outFixed) ?_ ?_
  · refine outFixed_of ?_
    simp only [State.drain_fixed, State.retryWaiting_fixed, State.resetWin_fixed, State.raise_fixed, State.takeFree_fixed, State.setArmed_fixed, State.count_fixed, State.touchWin_fixed]
    exact State.makeRoom_fixed (h := h) ..
  · refine outFixed_of ?_
    simp only [State.drain_fixed, State.retryWaiting_fixed, State.count_fixed, State.touchWin_fixed]
    exact State.makeRoom_fixed (h := h) ..

theorem execWindowSpaceFree_fixed (n : Fin 16) (s : State) : outFixed (execWindowSpaceFree n s) = some s.fixed := by simp only [execWindowSpaceFree, outFixed_next, State.drain_fixed, State.retryWaiting_fixed]

theorem execWindowStallTimeout_fixed (tree : Fin 4096) (inst : W32) (chunk : Fin 65536) (s : State) : outFixed (execWindowStallTimeout tree inst chunk s) = some s.fixed := by simp only [execWindowStallTimeout, outFixed_next, State.fixed_mk, State.raise_fixed, ite_self, outFixed_ite_s]

theorem execRepullTimeout_fixed (tree : Fin 4096) (inst : W32) (chunk : Fin 65536) (bar : Bool) (s : State) : outFixed (execRepullTimeout tree inst chunk bar s) = some s.fixed := by
  unfold execRepullTimeout
  repeat' (first | with_reducible rfl | (simp only [*, outFixed_next, State.fixed_mk, State.drain_fixed, State.failBar_fixed, State.failWin_fixed, State.repullAll_fixed, State.repullOne_fixed, State.setBar_fixed, State.setWin_fixed, foldl_fixed, implies_true, ite_self, outFixed_ite_s]; done) | (split <;> (try (rename_i h; have h2 := congrArg (fun p => State.fixed (Prod.snd p)) h; simp only [outFixed_next, State.fixed_mk, State.drain_fixed, State.failBar_fixed, State.failWin_fixed, State.repullAll_fixed, State.repullOne_fixed, State.setBar_fixed, State.setWin_fixed, foldl_fixed, implies_true, ite_self, outFixed_ite_s] at h2))) | (refine (foldl_fixed _ ?_ _ _).trans ?_) | (simp only [outFixed_next, State.fixed_mk, State.drain_fixed, State.failBar_fixed, State.failWin_fixed, State.repullAll_fixed, State.repullOne_fixed, State.setBar_fixed, State.setWin_fixed, foldl_fixed, implies_true, ite_self, outFixed_ite_s]; fail_if_success done) | (simp only [*, outFixed_next, State.fixed_mk, State.drain_fixed, State.failBar_fixed, State.failWin_fixed, State.repullAll_fixed, State.repullOne_fixed, State.setBar_fixed, State.setWin_fixed, foldl_fixed, implies_true, ite_self, outFixed_ite_s]; fail_if_success done) | intro _)

theorem execResultRepullTimeout_fixed (tree : Fin 4096) (inst : W32) (chunk : Fin 65536) (bar : Bool) (s : State) : outFixed (execResultRepullTimeout tree inst chunk bar s) = some s.fixed := by
  unfold execResultRepullTimeout
  repeat' (first | with_reducible rfl | (simp only [*, outFixed_next, State.fixed_mk, State.count_fixed, State.drain_fixed, State.failBar_fixed, State.failWin_fixed, State.sendRouted_fixed, State.setBar_fixed, State.setWin_fixed, ite_self, outFixed_ite_s]; done) | (split <;> (try (rename_i h; have h2 := congrArg (fun p => State.fixed (Prod.snd p)) h; simp only [outFixed_next, State.fixed_mk, State.count_fixed, State.drain_fixed, State.failBar_fixed, State.failWin_fixed, State.sendRouted_fixed, State.setBar_fixed, State.setWin_fixed, ite_self, outFixed_ite_s] at h2))) | (simp only [outFixed_next, State.fixed_mk, State.count_fixed, State.drain_fixed, State.failBar_fixed, State.failWin_fixed, State.sendRouted_fixed, State.setBar_fixed, State.setWin_fixed, ite_self, outFixed_ite_s]; fail_if_success done) | (simp only [*, outFixed_next, State.fixed_mk, State.count_fixed, State.drain_fixed, State.failBar_fixed, State.failWin_fixed, State.sendRouted_fixed, State.setBar_fixed, State.setWin_fixed, ite_self, outFixed_ite_s]; fail_if_success done) | intro _)

theorem execRetainExpire_fixed (tree : Fin 4096) (inst : W32) (chunk : Fin 65536) (bar : Bool) (s : State) : outFixed (execRetainExpire tree inst chunk bar s) = some s.fixed := by
  unfold execRetainExpire
  repeat' (first | with_reducible rfl | (simp only [*, outFixed_next, State.fixed_mk, State.setBar_fixed, State.tombWin_fixed, ite_self, outFixed_ite_s]; done) | (split <;> (try (rename_i h; have h2 := congrArg (fun p => State.fixed (Prod.snd p)) h; simp only [outFixed_next, State.fixed_mk, State.setBar_fixed, State.tombWin_fixed, ite_self, outFixed_ite_s] at h2))) | (simp only [outFixed_next, State.fixed_mk, State.setBar_fixed, State.tombWin_fixed, ite_self, outFixed_ite_s]; fail_if_success done) | (simp only [*, outFixed_next, State.fixed_mk, State.setBar_fixed, State.tombWin_fixed, ite_self, outFixed_ite_s]; fail_if_success done) | intro _)

theorem execTombstoneExpire_fixed (tree : Fin 4096) (inst : W32) (chunk : Fin 65536) (bar : Bool) (s : State) : outFixed (execTombstoneExpire tree inst chunk bar s) = some s.fixed := by
  unfold execTombstoneExpire
  repeat' (first | with_reducible rfl | (simp only [*, outFixed_next, State.fixed_mk, State.showAbc_fixed, ite_self, outFixed_ite_s]; done) | (split <;> (try (rename_i h; have h2 := congrArg (fun p => State.fixed (Prod.snd p)) h; simp only [outFixed_next, State.fixed_mk, State.showAbc_fixed, ite_self, outFixed_ite_s] at h2))) | (simp only [outFixed_next, State.fixed_mk, State.showAbc_fixed, ite_self, outFixed_ite_s]; fail_if_success done) | (simp only [*, outFixed_next, State.fixed_mk, State.showAbc_fixed, ite_self, outFixed_ite_s]; fail_if_success done) | intro _)

theorem execBcastSourceComplete_fixed (tag : Fin 65536) (s : State) : outFixed (execBcastSourceComplete tag s) = some s.fixed := by
  unfold execBcastSourceComplete
  split <;> simp only [outFixed_next, State.drain_fixed, State.finishOp_fixed, ite_self, outFixed_ite_s]

theorem execGatherResendTimeout_fixed (tag : Fin 65536) (chunk : Fin 65536) (s : State) : outFixed (execGatherResendTimeout tag chunk s) = some s.fixed := by
  unfold execGatherResendTimeout
  split <;> simp only [outFixed_next, State.drain_fixed, State.finishOp_fixed, State.restage_fixed, State.setOp_fixed, ite_self, outFixed_ite_s]

theorem execAbcInjectFillEcc_fixed (n : Fin 16) (s : State) : outFixed (execAbcInjectFillEcc n s) = some s.fixed := by simp only [execAbcInjectFillEcc, outFixed_next, State.setArmed_fixed]

theorem execAbcInjectBeadEcc_fixed (n : Fin 16) (s : State) : outFixed (execAbcInjectBeadEcc n s) = some s.fixed := by simp only [execAbcInjectBeadEcc, outFixed_next, State.setArmed_fixed]

theorem execAbcInjectResidue_fixed (n : Fin 16) (s : State) : outFixed (execAbcInjectResidue n s) = some s.fixed := by simp only [execAbcInjectResidue, outFixed_next, State.setArmed_fixed]

theorem execTreCollInjectDropUp_fixed (s : State) : outFixed (execTreCollInjectDropUp s) = some s.fixed := by simp only [execTreCollInjectDropUp, outFixed_next, State.setArmed_fixed]

/-! ## Machine/Access.lean -/

theorem State.regRefused_fixed (s : State) (ag : Agent) (a : Nat) (st : Nat) : (State.regRefused s ag a st).fixed = s.fixed := by simp only [State.regRefused, State.count_fixed, State.raise_fixed, State.setFld_fixed, fixed_ite_s, ite_self]

theorem State.regAnswer_fixed (s : State) (n : Nat) (f : SFrame) (st : Nat) (ws : List W32) : (State.regAnswer s n f st ws).fixed = s.fixed := by simp only [State.regAnswer, State.queueSpan_fixed]

theorem State.regPresent_fixed (s : State) (n : Nat) : (State.regPresent s n).fixed = s.fixed := by
  unfold State.regPresent
  repeat' (first | with_reducible rfl | (simp only [*, State.fixed_mk, State.regAnswer_fixed, State.rfaPresent_fixed, State.setPier_fixed, fixed_ite_s, ite_self]; done) | (split <;> (try (rename_i h; have h2 := congrArg (fun p => State.fixed (Prod.snd p)) h; simp only [State.fixed_mk, State.regAnswer_fixed, State.rfaPresent_fixed, State.setPier_fixed, fixed_ite_s, ite_self] at h2))) | (simp only [State.fixed_mk, State.regAnswer_fixed, State.rfaPresent_fixed, State.setPier_fixed, fixed_ite_s, ite_self]; fail_if_success done) | (simp only [*, State.fixed_mk, State.regAnswer_fixed, State.rfaPresent_fixed, State.setPier_fixed, fixed_ite_s, ite_self]; fail_if_success done) | intro _)

theorem State.regWordDone_fixed (s : State) (n : Nat) (v : W32) : (State.regWordDone s n v).fixed = s.fixed := by
  unfold State.regWordDone
  repeat' (first | with_reducible rfl | (simp only [*, State.fixed_mk, State.regPresent_fixed, State.setPier_fixed]; done) | (split <;> (try (rename_i h; have h2 := congrArg (fun p => State.fixed (Prod.snd p)) h; simp only [State.fixed_mk, State.regPresent_fixed, State.setPier_fixed] at h2))) | (simp only [State.fixed_mk, State.regPresent_fixed, State.setPier_fixed]; fail_if_success done) | (simp only [*, State.fixed_mk, State.regPresent_fixed, State.setPier_fixed]; fail_if_success done) | intro _)

theorem State.takeReg_fixed (s : State) (n : Nat) (op : Nat) : (State.takeReg s n op).fixed = s.fixed := by
  unfold State.takeReg
  repeat' (first | with_reducible rfl | (simp only [*, State.fixed_mk, State.raise_fixed, State.regAnswer_fixed, State.regPresent_fixed, State.regRefused_fixed, State.setPier_fixed, State.takeDelivered_fixed, fixed_ite_s, ite_self]; done) | (split <;> (try (rename_i h; have h2 := congrArg (fun p => State.fixed (Prod.snd p)) h; simp only [State.fixed_mk, State.raise_fixed, State.regAnswer_fixed, State.regPresent_fixed, State.regRefused_fixed, State.setPier_fixed, State.takeDelivered_fixed, fixed_ite_s, ite_self] at h2))))

/-! ## Machine/SpanCmds.lean -/

theorem State.resumeSession_fixed (s : State) (n : Nat) : (State.resumeSession s n).fixed = s.fixed := by simp only [State.resumeSession, State.issueReads_fixed, State.pump_fixed, State.resend_fixed, State.setFld_fixed, foldl_fixed, implies_true]

theorem State.pierPortUp_fixed (s : State) (n : Nat) : (State.pierPortUp s n).fixed = s.fixed := by simp only [State.pierPortUp, State.enterSync_fixed, State.resumeSession_fixed, fixed_ite_s, ite_self]

theorem execHostPortActive_fixed (n : Fin 65) (cr : Bool) (s : State) : outFixed (execHostPortActive n cr s) = some s.fixed := by simp only [execHostPortActive, outFixed_next, State.applyPortCommits_fixed, State.drain_fixed, State.pierPortUp_fixed, State.setFld_fixed, State.setLane_fixed, fixed_ite_s, foldl_fixed, implies_true, ite_self, outFixed_ite_s]

theorem State.pushPtp_fixed (s : State) (n : Nat) : (State.pushPtp s n).fixed = s.fixed := by simp only [State.pushPtp, State.ptpPush_fixed, State.setPort_fixed, foldl_fixed, implies_true]

theorem execEthFrameReceive_fixed (n : Fin 65) (frame : List Byte) (s : State) : outFixed (execEthFrameReceive n frame s) = some s.fixed := by simp only [execEthFrameReceive, outFixed_next, State.drain_fixed, State.frameIn_fixed, State.pushPtp_fixed]

theorem State.spanBell_fixed (s : State) (n : Nat) (f : SFrame) (inl : List Byte) : (State.spanBell s n f inl).fixed = s.fixed := by simp only [State.spanBell, State.count_fixed, State.doorbell_fixed, State.refuseFrame_fixed, fixed_ite_s, ite_self]

theorem execDoorbell_fixed (n : Fin 65) (s : State) : outFixed (execDoorbell n s) = some s.fixed := by
  unfold execDoorbell
  repeat' (first | with_reducible rfl | (simp only [*, outFixed_next, State.fixed_mk, State.drain_fixed, State.spanBell_fixed, State.takeDelivered_fixed]; done) | (split <;> (try (rename_i h; have h2 := congrArg (fun p => State.fixed (Prod.snd p)) h; simp only [outFixed_next, State.fixed_mk, State.drain_fixed, State.spanBell_fixed, State.takeDelivered_fixed] at h2))))

theorem execDoorbellInline_fixed (n : Fin 65) (s : State) : outFixed (execDoorbellInline n s) = some s.fixed := by
  unfold execDoorbellInline
  repeat' (first | with_reducible rfl | (simp only [*, outFixed_next, State.fixed_mk, State.drain_fixed, State.spanBell_fixed, State.takeDelivered_fixed]; done) | (split <;> (try (rename_i h; have h2 := congrArg (fun p => State.fixed (Prod.snd p)) h; simp only [outFixed_next, State.fixed_mk, State.drain_fixed, State.spanBell_fixed, State.takeDelivered_fixed] at h2))))

theorem State.endRead_fixed (s : State) (n : Nat) (i : Nat) (r : HostRd) (st : Nat) (d : List Byte) : (State.endRead s n i r st d).fixed = s.fixed := by simp only [State.endRead, State.issueReads_fixed, State.memEnd_fixed, State.setPier_fixed]

theorem State.readData_fixed (s : State) (n : Nat) (f : SFrame) : (State.readData s n f).fixed = s.fixed := by
  unfold State.readData
  repeat' (first | with_reducible rfl | (simp only [*, State.fixed_mk, State.count_fixed, State.endRead_fixed, State.raise_fixed, State.setPier_fixed, fixed_ite_s, ite_self]; done) | (split <;> (try (rename_i h; have h2 := congrArg (fun p => State.fixed (Prod.snd p)) h; simp only [State.fixed_mk, State.count_fixed, State.endRead_fixed, State.raise_fixed, State.setPier_fixed, fixed_ite_s, ite_self] at h2))) | (simp only [State.fixed_mk, State.count_fixed, State.endRead_fixed, State.raise_fixed, State.setPier_fixed, fixed_ite_s, ite_self]; fail_if_success done) | (simp only [*, State.fixed_mk, State.count_fixed, State.endRead_fixed, State.raise_fixed, State.setPier_fixed, fixed_ite_s, ite_self]; fail_if_success done) | intro _)

theorem execMemRdData_fixed (n : Fin 65) (s : State) : outFixed (execMemRdData n s) = some s.fixed := by
  unfold execMemRdData
  repeat' (first | with_reducible rfl | (simp only [*, outFixed_next, State.fixed_mk, State.drain_fixed, State.readData_fixed, State.takeDelivered_fixed]; done) | (split <;> (try (rename_i h; have h2 := congrArg (fun p => State.fixed (Prod.snd p)) h; simp only [outFixed_next, State.fixed_mk, State.drain_fixed, State.readData_fixed, State.takeDelivered_fixed] at h2))))

theorem State.writeAck_fixed (s : State) (n : Nat) (f : SFrame) : (State.writeAck s n f).fixed = s.fixed := by
  unfold State.writeAck
  repeat' (first | with_reducible rfl | (simp only [*, State.fixed_mk, State.memEnd_fixed, State.raise_fixed, State.refuseWr_fixed, State.setFld_fixed, State.setPier_fixed, fixed_ite_s, foldl_fixed, implies_true, ite_self]; done) | (split <;> (try (rename_i h; have h2 := congrArg (fun p => State.fixed (Prod.snd p)) h; simp only [State.fixed_mk, State.memEnd_fixed, State.raise_fixed, State.refuseWr_fixed, State.setFld_fixed, State.setPier_fixed, fixed_ite_s, foldl_fixed, implies_true, ite_self] at h2))) | (refine (foldl_fixed _ ?_ _ _).trans ?_) | (simp only [State.fixed_mk, State.memEnd_fixed, State.raise_fixed, State.refuseWr_fixed, State.setFld_fixed, State.setPier_fixed, fixed_ite_s, foldl_fixed, implies_true, ite_self]; fail_if_success done) | (simp only [*, State.fixed_mk, State.memEnd_fixed, State.raise_fixed, State.refuseWr_fixed, State.setFld_fixed, State.setPier_fixed, fixed_ite_s, foldl_fixed, implies_true, ite_self]; fail_if_success done) | intro _)

theorem execMemWrAck_fixed (n : Fin 65) (s : State) : outFixed (execMemWrAck n s) = some s.fixed := by
  unfold execMemWrAck
  repeat' (first | with_reducible rfl | (simp only [*, outFixed_next, State.fixed_mk, State.drain_fixed, State.takeDelivered_fixed, State.writeAck_fixed]; done) | (split <;> (try (rename_i h; have h2 := congrArg (fun p => State.fixed (Prod.snd p)) h; simp only [outFixed_next, State.fixed_mk, State.drain_fixed, State.takeDelivered_fixed, State.writeAck_fixed] at h2))))

theorem execRegRd_fixed (n : Fin 65) (s : State) : outFixed (execRegRd n s) = some s.fixed := by simp only [execRegRd, outFixed_next, State.takeReg_fixed]

theorem execRegWr_fixed (n : Fin 65) (s : State) : outFixed (execRegWr n s) = some s.fixed := by simp only [execRegWr, outFixed_next, State.takeReg_fixed]

theorem execSpanAck_fixed (n : Fin 65) (s : State) : outFixed (execSpanAck n s) = some s.fixed := by
  unfold execSpanAck
  repeat' (first | with_reducible rfl | (simp only [*, outFixed_next, State.fixed_mk, State.drain_fixed, State.spanAck_fixed, State.takeRx_fixed]; done) | (split <;> (try (rename_i h; have h2 := congrArg (fun p => State.fixed (Prod.snd p)) h; simp only [outFixed_next, State.fixed_mk, State.drain_fixed, State.spanAck_fixed, State.takeRx_fixed] at h2))))

theorem execSpanNak_fixed (n : Fin 65) (s : State) : outFixed (execSpanNak n s) = some s.fixed := by
  unfold execSpanNak
  repeat' (first | with_reducible rfl | (simp only [*, outFixed_next, State.fixed_mk, State.drain_fixed, State.spanNak_fixed, State.takeRx_fixed]; done) | (split <;> (try (rename_i h; have h2 := congrArg (fun p => State.fixed (Prod.snd p)) h; simp only [outFixed_next, State.fixed_mk, State.drain_fixed, State.spanNak_fixed, State.takeRx_fixed] at h2))))

theorem State.lossToDown_fixed (s : State) (n : Nat) (cause : Nat) : (State.lossToDown s n cause).fixed = s.fixed := by simp only [State.lossToDown, State.sessionLoss_fixed, State.setFld_fixed]

theorem State.pierEnable_fixed (s : State) (n : Nat) (on : Bool) : (State.pierEnable s n on).fixed = s.fixed := by simp only [State.pierEnable, State.enterSync_fixed, State.lossToDown_fixed, State.setHdr_fixed, fixed_ite_s, ite_self]

theorem execSpnEnableWrite_fixed (n : Fin 64) (on : Bool) (s : State) : outFixed (execSpnEnableWrite n on s) = some s.fixed := by simp only [execSpnEnableWrite, outFixed_next, State.drain_fixed, State.pierEnable_fixed]

theorem State.resync_fixed (s : State) (n : Nat) : (State.resync s n).fixed = s.fixed := by simp only [State.resync, State.enterSync_fixed, State.lossAndSync_fixed, State.lossToDown_fixed, fixed_ite_s, ite_self]

theorem execSessionResync_fixed (n : Fin 65) (s : State) : outFixed (execSessionResync n s) = some s.fixed := by simp only [execSessionResync, outFixed_next, State.drain_fixed, State.resync_fixed]

theorem execSpanRtoExpire_fixed (n : Fin 65) (seq : W16) (s : State) : outFixed (execSpanRtoExpire n seq s) = some s.fixed := by simp only [execSpanRtoExpire, outFixed_next, State.drain_fixed, State.rtoExpire_fixed]

theorem execMemRdTimeout_fixed (n : Fin 65) (id : W32) (s : State) : outFixed (execMemRdTimeout n id s) = some s.fixed := by
  unfold execMemRdTimeout
  split <;> simp only [outFixed_next, State.count_fixed, State.drain_fixed, State.endRead_fixed, State.raise_fixed]

theorem execLandingTimeout_fixed (n : Fin 65) (seq : W16) (s : State) : outFixed (execLandingTimeout n seq s) = some s.fixed := by simp only [execLandingTimeout, outFixed_next, State.drain_fixed, State.lossAndSync_fixed, State.lossToDown_fixed, State.raise_fixed, fixed_ite_s, ite_self, outFixed_ite_s]

theorem execSessionHoldExpire_fixed (n : Fin 65) (s : State) : outFixed (execSessionHoldExpire n s) = some s.fixed := by simp only [execSessionHoldExpire, outFixed_next, State.drain_fixed, State.lossToDown_fixed, ite_self, outFixed_ite_s]

theorem execEventGatherSend_fixed (s : State) : outFixed (execEventGatherSend s) = some s.fixed := by simp only [execEventGatherSend, outFixed_next, State.fixed_mk, State.drain_fixed, State.queueSpan_fixed, ite_self, outFixed_ite_s]

end Sys2Proof.Machine
end

