-- ==== Sys2Proof/Laws/Fixed7.lean ====
section
/-!
SUPPORT. The operations and meanings of Machine/Exec.lean, Machine/EngineCmds.lean, Machine/KeystoneCmds.lean, Machine/PowerCmds.lean
leave the queue, the fuses and the flash alone.
-/
namespace Sys2Proof.Machine

set_option linter.all false

/-! ## Machine/Exec.lean -/

theorem State.exc_fixed (s : State) (h : Nat) (cause : Nat) (tval : W64) : (State.exc s h cause tval).fixed = s.fixed := by simp only [State.exc, State.trap_fixed]

theorem State.fetchVa_fixed (s : State) (h : Nat) (va : W64) : (State.fetchVa s h va).2.fixed = s.fixed := by
  unfold State.fetchVa
  repeat' (first | with_reducible rfl | (simp only [*, State.fixed_mk, State.engAccess_fixed, State.fetchHalf_fixed]; done) | (split <;> (try (rename_i h; have h2 := congrArg (fun p => State.fixed (Prod.snd p)) h; simp only [State.fixed_mk, State.engAccess_fixed, State.fetchHalf_fixed] at h2))))

theorem State.fetch32_fixed (s : State) (h : Nat) : (State.fetch32 s h).2.fixed = s.fixed := by
  unfold State.fetch32
  repeat' (first | with_reducible rfl | (simp only [*, State.fixed_mk, State.fetchVa_fixed]; done) | (split <;> (try (rename_i h; have h2 := congrArg (fun p => State.fixed (Prod.snd p)) h; simp only [State.fixed_mk, State.fetchVa_fixed] at h2))) | (simp only [State.fixed_mk, State.fetchVa_fixed]; fail_if_success done) | (simp only [*, State.fixed_mk, State.fetchVa_fixed]; fail_if_success done) | intro _)

theorem State.doLoad_fixed (s : State) (h : Nat) (w : Nat) (signed : Bool) (rd : Nat) (va : W64) (npc : W64) : (State.doLoad s h w signed rd va npc).fixed = s.fixed := by
  unfold State.doLoad
  repeat' (first | with_reducible rfl | (simp only [*, State.fixed_mk, State.drainSb_fixed, State.engAccess_fixed, State.exc_fixed, State.hostRead_fixed, State.loadNormal_fixed, State.rfaPresent_fixed, State.setHart_fixed, fixed_ite_s, ite_self]; done) | (split <;> (try (rename_i h; have h2 := congrArg (fun p => State.fixed (Prod.snd p)) h; simp only [State.fixed_mk, State.drainSb_fixed, State.engAccess_fixed, State.exc_fixed, State.hostRead_fixed, State.loadNormal_fixed, State.rfaPresent_fixed, State.setHart_fixed, fixed_ite_s, ite_self] at h2))))

theorem State.doStore_fixed (s : State) (h : Nat) (w : Nat) (v : W64) (va : W64) (npc : W64) : (State.doStore s h w v va npc).fixed = s.fixed := by
  unfold State.doStore
  repeat' (first | with_reducible rfl | (simp only [*, State.fixed_mk, State.engAccess_fixed, State.exc_fixed, State.pushSb_fixed, State.rfaPresent_fixed, State.setHart_fixed, fixed_ite_s, ite_self]; done) | (split <;> (try (rename_i h; have h2 := congrArg (fun p => State.fixed (Prod.snd p)) h; simp only [State.fixed_mk, State.engAccess_fixed, State.exc_fixed, State.pushSb_fixed, State.rfaPresent_fixed, State.setHart_fixed, fixed_ite_s, ite_self] at h2))))

theorem State.normalAddr_fixed (s : State) (h : Nat) (va : W64) (w : Nat) (k : MAcc) : (State.normalAddr s h va w k).2.fixed = s.fixed := by
  unfold State.normalAddr
  repeat' (first | with_reducible rfl | (simp only [*, State.fixed_mk, State.engAccess_fixed]; done) | (split <;> (try (rename_i h; have h2 := congrArg (fun p => State.fixed (Prod.snd p)) h; simp only [State.fixed_mk, State.engAccess_fixed] at h2))))

theorem State.doLr_fixed (s : State) (h : Nat) (w : Nat) (rd : Nat) (va : W64) (npc : W64) : (State.doLr s h w rd va npc).fixed = s.fixed := by
  unfold State.doLr
  repeat' (first | with_reducible rfl | (simp only [*, State.fixed_mk, State.drainSb_fixed, State.exc_fixed, State.l2Get_fixed, State.loadNormal_fixed, State.missEv_fixed, State.normalAddr_fixed, State.setHart_fixed]; done) | (split <;> (try (rename_i h; have h2 := congrArg (fun p => State.fixed (Prod.snd p)) h; simp only [State.fixed_mk, State.drainSb_fixed, State.exc_fixed, State.l2Get_fixed, State.loadNormal_fixed, State.missEv_fixed, State.normalAddr_fixed, State.setHart_fixed] at h2))) | (simp only [State.fixed_mk, State.drainSb_fixed, State.exc_fixed, State.l2Get_fixed, State.loadNormal_fixed, State.missEv_fixed, State.normalAddr_fixed, State.setHart_fixed]; fail_if_success done) | (simp only [*, State.fixed_mk, State.drainSb_fixed, State.exc_fixed, State.l2Get_fixed, State.loadNormal_fixed, State.missEv_fixed, State.normalAddr_fixed, State.setHart_fixed]; fail_if_success done) | intro _)

theorem State.doSc_fixed (s : State) (h : Nat) (w : Nat) (rd : Nat) (v : W64) (va : W64) (npc : W64) : (State.doSc s h w rd v va npc).fixed = s.fixed := by
  unfold State.doSc
  repeat' (first | with_reducible rfl | (simp only [*, State.fixed_mk, State.drainSb_fixed, State.exc_fixed, State.normalAddr_fixed, State.poisonRead_fixed, State.setHart_fixed, State.storeNormal_fixed, fixed_ite_s, ite_self]; done) | (split <;> (try (rename_i h; have h2 := congrArg (fun p => State.fixed (Prod.snd p)) h; simp only [State.fixed_mk, State.drainSb_fixed, State.exc_fixed, State.normalAddr_fixed, State.poisonRead_fixed, State.setHart_fixed, State.storeNormal_fixed, fixed_ite_s, ite_self] at h2))))

theorem State.doAmo_fixed (s : State) (h : Nat) (op : Amo) (w : Nat) (rd : Nat) (v : W64) (va : W64) (npc : W64) : (State.doAmo s h op w rd v va npc).fixed = s.fixed := by
  unfold State.doAmo
  repeat' (first | with_reducible rfl | (simp only [*, State.fixed_mk, State.drainSb_fixed, State.exc_fixed, State.l2Get_fixed, State.loadNormal_fixed, State.missEv_fixed, State.normalAddr_fixed, State.setHart_fixed, State.storeNormal_fixed, fixed_ite_s]; done) | (split <;> (try (rename_i h; have h2 := congrArg (fun p => State.fixed (Prod.snd p)) h; simp only [State.fixed_mk, State.drainSb_fixed, State.exc_fixed, State.l2Get_fixed, State.loadNormal_fixed, State.missEv_fixed, State.normalAddr_fixed, State.setHart_fixed, State.storeNormal_fixed, fixed_ite_s] at h2))) | (simp only [State.fixed_mk, State.drainSb_fixed, State.exc_fixed, State.l2Get_fixed, State.loadNormal_fixed, State.missEv_fixed, State.normalAddr_fixed, State.setHart_fixed, State.storeNormal_fixed, fixed_ite_s]; fail_if_success done) | (simp only [*, State.fixed_mk, State.drainSb_fixed, State.exc_fixed, State.l2Get_fixed, State.loadNormal_fixed, State.missEv_fixed, State.normalAddr_fixed, State.setHart_fixed, State.storeNormal_fixed, fixed_ite_s]; fail_if_success done) | intro _)

theorem State.doLq_fixed (s : State) (h : Nat) (rd : Nat) (va : W64) (npc : W64) : (State.doLq s h rd va npc).fixed = s.fixed := by
  unfold State.doLq
  repeat' (first | with_reducible rfl | (simp only [*, State.fixed_mk, State.exc_fixed, State.loadNormal_fixed, State.normalAddr_fixed, State.setHart_fixed]; done) | (split <;> (try (rename_i h; have h2 := congrArg (fun p => State.fixed (Prod.snd p)) h; simp only [State.fixed_mk, State.exc_fixed, State.loadNormal_fixed, State.normalAddr_fixed, State.setHart_fixed] at h2))))

theorem State.doSq_fixed (s : State) (h : Nat) (rs2 : Nat) (va : W64) (npc : W64) : (State.doSq s h rs2 va npc).fixed = s.fixed := by
  unfold State.doSq
  repeat' (first | with_reducible rfl | (simp only [*, State.fixed_mk, State.exc_fixed, State.normalAddr_fixed, State.pushSb_fixed, State.setHart_fixed]; done) | (split <;> (try (rename_i h; have h2 := congrArg (fun p => State.fixed (Prod.snd p)) h; simp only [State.fixed_mk, State.exc_fixed, State.normalAddr_fixed, State.pushSb_fixed, State.setHart_fixed] at h2))))

theorem State.showLck_fixed (s : State) : (State.showLck s).fixed = s.fixed := by simp only [State.showLck, State.setFld_fixed]

theorem State.setLock_fixed (s : State) (key : Nat) (l : Lock) : (State.setLock s key l).fixed = s.fixed := by simp only [State.setLock, State.setEng_fixed, State.showLck_fixed]

theorem State.dropLock_fixed (s : State) (key : Nat) : (State.dropLock s key).fixed = s.fixed := by simp only [State.dropLock, State.setEng_fixed, State.showLck_fixed]

theorem State.passLock_fixed (s : State) (key : Nat) (abandoned : Bool) : (State.passLock s key abandoned).fixed = s.fixed := by
  unfold State.passLock
  split <;> simp only [State.count_fixed, State.dropLock_fixed, State.setHart_fixed, State.setLock_fixed, State.showCluster_fixed, fixed_ite_s, ite_self]

theorem State.lockRead_fixed (s : State) (key : Nat) : (State.lockRead s key).fixed = s.fixed := by simp only [State.lockRead, State.passLock_fixed, State.raise_fixed, State.setArmed_fixed, fixed_ite_s, ite_self]

theorem State.waitLock_fixed (s : State) (h : Nat) (key : Nat) (rd : Nat) : (State.waitLock s h key rd).fixed = s.fixed := by
  unfold State.waitLock
  repeat' (first | with_reducible rfl | (simp only [*, State.fixed_mk, State.count_fixed, State.raise_fixed, State.setEng_fixed, State.setHart_fixed, State.showCluster_fixed, fixed_ite_s, foldl_fixed, implies_true, ite_self]; done) | (split <;> (try (rename_i h; have h2 := congrArg (fun p => State.fixed (Prod.snd p)) h; simp only [State.fixed_mk, State.count_fixed, State.raise_fixed, State.setEng_fixed, State.setHart_fixed, State.showCluster_fixed, fixed_ite_s, foldl_fixed, implies_true, ite_self] at h2))) | (refine (foldl_fixed _ ?_ _ _).trans ?_) | (simp only [State.fixed_mk, State.count_fixed, State.raise_fixed, State.setEng_fixed, State.setHart_fixed, State.showCluster_fixed, fixed_ite_s, foldl_fixed, implies_true, ite_self]; fail_if_success done) | (simp only [*, State.fixed_mk, State.count_fixed, State.raise_fixed, State.setEng_fixed, State.setHart_fixed, State.showCluster_fixed, fixed_ite_s, foldl_fixed, implies_true, ite_self]; fail_if_success done) | intro _)

theorem State.acquire_fixed (s : State) (h : Nat) (key : Nat) (try_ : Bool) : (State.acquire s h key try_).2.fixed = s.fixed := by
  unfold State.acquire
  repeat' (first | with_reducible rfl | (simp only [*, State.fixed_mk, State.count_fixed, State.lockRead_fixed, State.raise_fixed, State.setLock_fixed, fixed2_ite_s, ite_self]; done) | (split <;> (try (rename_i h; have h2 := congrArg (fun p => State.fixed (Prod.snd p)) h; simp only [State.fixed_mk, State.count_fixed, State.lockRead_fixed, State.raise_fixed, State.setLock_fixed, fixed2_ite_s, ite_self] at h2))) | (simp only [State.fixed_mk, State.count_fixed, State.lockRead_fixed, State.raise_fixed, State.setLock_fixed, fixed2_ite_s, ite_self]; fail_if_success done) | (simp only [*, State.fixed_mk, State.count_fixed, State.lockRead_fixed, State.raise_fixed, State.setLock_fixed, fixed2_ite_s, ite_self]; fail_if_success done) | intro _)

theorem State.lockKey_fixed (s : State) (h : Nat) (va : W64) : (State.lockKey s h va).2.fixed = s.fixed := by
  unfold State.lockKey
  repeat' (first | with_reducible rfl | (simp only [*, State.fixed_mk, State.engAccess_fixed]; done) | (split <;> (try (rename_i h; have h2 := congrArg (fun p => State.fixed (Prod.snd p)) h; simp only [State.fixed_mk, State.engAccess_fixed] at h2))))

theorem State.xgkDone_fixed (s : State) (h : Nat) (rd : Nat) (status : Nat) (npc : W64) : (State.xgkDone s h rd status npc).fixed = s.fixed := by simp only [State.xgkDone, State.setHart_fixed]

theorem State.doLkacq_fixed (s : State) (h : Nat) (try_ : Bool) (rd : Nat) (va : W64) (npc : W64) : (State.doLkacq s h try_ rd va npc).fixed = s.fixed := by
  unfold State.doLkacq
  repeat' (first | with_reducible rfl | (simp only [*, State.fixed_mk, State.acquire_fixed, State.exc_fixed, State.lockKey_fixed, State.waitLock_fixed, State.xgkDone_fixed]; done) | (split <;> (try (rename_i h; have h2 := congrArg (fun p => State.fixed (Prod.snd p)) h; simp only [State.fixed_mk, State.acquire_fixed, State.exc_fixed, State.lockKey_fixed, State.waitLock_fixed, State.xgkDone_fixed] at h2))))

theorem State.doLkrel_fixed (s : State) (h : Nat) (rd : Nat) (va : W64) (npc : W64) : (State.doLkrel s h rd va npc).fixed = s.fixed := by
  unfold State.doLkrel
  repeat' (first | with_reducible rfl | (simp only [*, State.fixed_mk, State.drainSb_fixed, State.exc_fixed, State.lockKey_fixed, State.lockRead_fixed, State.passLock_fixed, State.setLock_fixed, State.xgkDone_fixed, fixed_ite_s, ite_self]; done) | (split <;> (try (rename_i h; have h2 := congrArg (fun p => State.fixed (Prod.snd p)) h; simp only [State.fixed_mk, State.drainSb_fixed, State.exc_fixed, State.lockKey_fixed, State.lockRead_fixed, State.passLock_fixed, State.setLock_fixed, State.xgkDone_fixed, fixed_ite_s, ite_self] at h2))))

theorem State.postPush_fixed (s : State) (a : Nat) : (State.postPush s a).2.fixed = s.fixed := by
  unfold State.postPush
  repeat' (first | with_reducible rfl | (simp only [*, State.fixed_mk, State.memRead_fixed, State.post_fixed]; done) | (split <;> (try (rename_i h; have h2 := congrArg (fun p => State.fixed (Prod.snd p)) h; simp only [State.fixed_mk, State.memRead_fixed, State.post_fixed] at h2))))

theorem State.push_fixed (s : State) (h : Nat) (q : Nat) (e : List Byte) : (State.push s h q e).2.fixed = s.fixed := by simp only [State.push, State.count_fixed, State.doorbell_fixed, State.postPush_fixed, State.qAppend_fixed, State.wake_fixed, fixed2_ite_s, ite_self]

theorem State.doQpush_fixed (s : State) (h : Nat) (quad : Bool) (rd : Nat) (rs1 : Nat) (rs2 : Nat) (npc : W64) : (State.doQpush s h quad rd rs1 rs2 npc).fixed = s.fixed := by simp only [State.doQpush, State.drainSb_fixed, State.push_fixed, State.xgkDone_fixed]

theorem State.doQpop_fixed (s : State) (h : Nat) (rd : Nat) (rs1 : Nat) (rs2 : Nat) (npc : W64) : (State.doQpop s h rd rs1 rs2 npc).fixed = s.fixed := by
  unfold State.doQpop
  repeat' (first | with_reducible rfl | (simp only [*, State.fixed_mk, State.drainSb_fixed, State.exc_fixed, State.normalAddr_fixed, State.setQueue_fixed, State.storeNormal_fixed, State.xgkDone_fixed, fixed_ite_s]; done) | (split <;> (try (rename_i h; have h2 := congrArg (fun p => State.fixed (Prod.snd p)) h; simp only [State.fixed_mk, State.drainSb_fixed, State.exc_fixed, State.normalAddr_fixed, State.setQueue_fixed, State.storeNormal_fixed, State.xgkDone_fixed, fixed_ite_s] at h2))) | (simp only [State.fixed_mk, State.drainSb_fixed, State.exc_fixed, State.normalAddr_fixed, State.setQueue_fixed, State.storeNormal_fixed, State.xgkDone_fixed, fixed_ite_s]; fail_if_success done) | (simp only [*, State.fixed_mk, State.drainSb_fixed, State.exc_fixed, State.normalAddr_fixed, State.setQueue_fixed, State.storeNormal_fixed, State.xgkDone_fixed, fixed_ite_s]; fail_if_success done) | intro _)

theorem State.readVa_fixed (s : State) (h : Nat) (va : W64) (n : Nat) (a0 : Nat) : (State.readVa s h va n a0).2.fixed = s.fixed := by
  induction a0 generalizing s va n with
  | zero => rfl
  | succ k ih =>
    unfold State.readVa
    dsimp only
    refine view_ite (F := fixed2) rfl ?_
    have e := State.engAccess_fixed s h va (lineLen va n) .load
    generalize s.engAccess h va (lineLen va n) .load = r at e ⊢
    rcases r with ⟨_ | ⟨a, _ | _ | _⟩, s1⟩ <;> try exact e
    have e1 := State.loadNormal_fixed s1 h a (lineLen va n)
    dsimp only
    generalize s1.loadNormal h a (lineLen va n) = r at e1 ⊢
    rcases r with ⟨⟨d, _ | _⟩, s2⟩
    · dsimp only
      have e2 := ih s2 (va + BitVec.ofNat 64 (lineLen va n)) (n - lineLen va n)
      generalize s2.readVa h (va + BitVec.ofNat 64 (lineLen va n)) (n - lineLen va n) k = r at e2 ⊢
      rcases r with ⟨_ | _, s3⟩ <;> exact e2.trans (e1.trans e)
    · exact e1.trans e

theorem State.writeParts_fixed (s : State) (h : Nat) (va : W64) (n : Nat) (a0 : Nat) : (State.writeParts s h va n a0).2.fixed = s.fixed := by
  induction a0 generalizing s va n with
  | zero => rfl
  | succ k ih =>
    unfold State.writeParts
    dsimp only
    refine view_ite (F := fixed2) rfl ?_
    have e := State.engAccess_fixed s h va (lineLen va n) .store
    generalize s.engAccess h va (lineLen va n) .store = r at e ⊢
    rcases r with ⟨_ | ⟨a, _ | _ | _⟩, s1⟩ <;> try exact e
    dsimp only
    have e2 := ih s1 (va + BitVec.ofNat 64 (lineLen va n)) (n - lineLen va n)
    generalize s1.writeParts h (va + BitVec.ofNat 64 (lineLen va n)) (n - lineLen va n) k = r at e2 ⊢
    rcases r with ⟨_ | _, s3⟩ <;> exact e2.trans e

theorem State.doMprb_fixed (s : State) (h : Nat) (rd : Nat) (rs1 : Nat) (rs2 : Nat) (npc : W64) : (State.doMprb s h rd rs1 rs2 npc).fixed = s.fixed := by
  unfold State.doMprb
  repeat' (first | with_reducible rfl | (simp only [*, State.fixed_mk, State.drainSb_fixed, State.exc_fixed, State.readVa_fixed, State.storeNormal_fixed, State.touchCtx_fixed, State.writeParts_fixed, State.xgkDone_fixed, fixed_ite_s, foldl_fixed2, implies_true]; done) | (split <;> (try (rename_i h; have h2 := congrArg (fun p => State.fixed (Prod.snd p)) h; simp only [State.fixed_mk, State.drainSb_fixed, State.exc_fixed, State.readVa_fixed, State.storeNormal_fixed, State.touchCtx_fixed, State.writeParts_fixed, State.xgkDone_fixed, fixed_ite_s, foldl_fixed2, implies_true] at h2))) | (refine (foldl_fixed2 _ ?_ _ _).trans ?_) | (simp only [State.fixed_mk, State.drainSb_fixed, State.exc_fixed, State.readVa_fixed, State.storeNormal_fixed, State.touchCtx_fixed, State.writeParts_fixed, State.xgkDone_fixed, fixed_ite_s, foldl_fixed2, implies_true]; fail_if_success done) | (simp only [*, State.fixed_mk, State.drainSb_fixed, State.exc_fixed, State.readVa_fixed, State.storeNormal_fixed, State.touchCtx_fixed, State.writeParts_fixed, State.xgkDone_fixed, fixed_ite_s, foldl_fixed2, implies_true]; fail_if_success done) | intro _)

theorem State.doWaitq_fixed (s : State) (h : Nat) (rd : Nat) (rs1 : Nat) : (State.doWaitq s h rd rs1).fixed = s.fixed := by simp only [State.doWaitq, State.setHart_fixed, State.showCluster_fixed, fixed_ite_s, ite_self]

theorem State.doFenceEp_fixed (s : State) (h : Nat) (rd : Nat) : (State.doFenceEp s h rd).fixed = s.fixed := by simp only [State.doFenceEp, State.drainSb_fixed, State.fenceEpCheck_fixed, State.setHart_fixed]

theorem State.doEvsig_fixed (s : State) (h : Nat) (rs1 : Nat) (rs2 : Nat) (npc : W64) : (State.doEvsig s h rs1 rs2 npc).fixed = s.fixed := by simp only [State.doEvsig, State.setHart_fixed, State.signal_fixed]

theorem State.illegal_fixed (s : State) (h : Nat) (w : W32) : (State.illegal s h w).fixed = s.fixed := by simp only [State.illegal, State.exc_fixed]

theorem State.doHret_fixed (s : State) (h : Nat) (w : W32) : (State.doHret s h w).fixed = s.fixed := by
  unfold State.doHret
  repeat' (first | with_reducible rfl | (simp only [*, State.fixed_mk, State.illegal_fixed, State.setHart_fixed, fixed_ite_s, ite_self]; done) | (split <;> (try (rename_i h; have h2 := congrArg (fun p => State.fixed (Prod.snd p)) h; simp only [State.fixed_mk, State.illegal_fixed, State.setHart_fixed, fixed_ite_s, ite_self] at h2))) | (simp only [State.fixed_mk, State.illegal_fixed, State.setHart_fixed, fixed_ite_s, ite_self]; fail_if_success done) | (simp only [*, State.fixed_mk, State.illegal_fixed, State.setHart_fixed, fixed_ite_s, ite_self]; fail_if_success done) | intro _)

theorem State.dropL1i_fixed (s : State) (e : Nat) : (State.dropL1i s e).fixed = s.fixed := by simp only [State.dropL1i, State.setEng_fixed]

theorem State.dropTlb_fixed (s : State) (h : Nat) : (State.dropTlb s h).fixed = s.fixed := by simp only [State.dropTlb, State.setHart_fixed, foldl_fixed, implies_true]

theorem State.trapRet_fixed (s : State) (h : Nat) (m : Bool) : (State.trapRet s h m).fixed = s.fixed := by simp only [State.trapRet, State.setHart_fixed]

theorem State.doCsr_fixed (s : State) (h : Nat) (f3 : Nat) (rd : Nat) (src : Nat) (a : Nat) (w : W32) (npc : W64) : (State.doCsr s h f3 rd src a w npc).fixed = s.fixed := by
  unfold State.doCsr
  repeat' split
  all_goals simp only [State.csrWrite_fixed, State.illegal_fixed, State.setHart_fixed, fixed_ite_s, ite_self]

theorem State.doBase_fixed (s : State) (h : Nat) (i : Rv) (w : W32) : (State.doBase s h i w).fixed = s.fixed := by
  unfold State.doBase
  split <;> simp only [State.doCsr_fixed, State.doLoad_fixed, State.doStore_fixed, State.drainSb_fixed, State.dropL1i_fixed, State.dropTlb_fixed, State.exc_fixed, State.illegal_fixed, State.setHart_fixed, State.trapRet_fixed, fixed_ite_s, ite_self]

theorem State.doInstr_fixed (s : State) (h : Nat) (i : Rv) (w : W32) : (State.doInstr s h i w).fixed = s.fixed := by
  unfold State.doInstr
  split <;> simp only [State.doAmo_fixed, State.doBase_fixed, State.doEvsig_fixed, State.doFenceEp_fixed, State.doHret_fixed, State.doLkacq_fixed, State.doLkrel_fixed, State.doLq_fixed, State.doLr_fixed, State.doMprb_fixed, State.doQpop_fixed, State.doQpush_fixed, State.doSc_fixed, State.doSq_fixed, State.doWaitq_fixed, State.drainSb_fixed, State.setHart_fixed]

/-! ## Machine/EngineCmds.lean -/

theorem State.setCreset_fixed (s : State) (c : Nat) (r : Option CReset) : (State.setCreset s c r).fixed = s.fixed := by simp only [State.setCreset, State.setEng_fixed, State.setFld_fixed]

theorem State.orphan_fixed (s : State) (hs : List Nat) : (State.orphan s hs).fixed = s.fixed := by simp only [State.orphan, State.setPier_fixed, foldl_fixed, implies_true]

theorem State.withdraw_fixed (s : State) (c : Nat) (hs : List Nat) : (State.withdraw s c hs).fixed = s.fixed := by simp only [State.withdraw, State.fixed_mk, State.count_fixed, fixed_ite_s, ite_self]

theorem State.beginReset_fixed (s : State) (c : Nat) (r : CReset) : (State.beginReset s c r).fixed = s.fixed := by simp only [State.beginReset, State.drainSb_fixed, State.orphan_fixed, State.setCreset_fixed, State.setHart_fixed, State.setStopped_fixed, State.showCluster_fixed, State.withdraw_fixed, fixed_ite_s, foldl_fixed, implies_true, ite_self]

theorem State.beginFault_fixed (s : State) (c : Nat) : (State.beginFault s c).fixed = s.fixed := by simp only [State.beginFault, State.beginReset_fixed, State.markPoison_fixed, State.raise_fixed, State.setHart_fixed, fixed_ite_s, foldl_fixed, implies_true, ite_self]

theorem State.emptyCaches_fixed (s : State) (c : Nat) (writeBack : Bool) : (State.emptyCaches s c writeBack).fixed = s.fixed := by simp only [State.emptyCaches, State.runAsk_fixed, State.setEng_fixed, State.setL2_fixed, State.settleLine_fixed, State.sfClear_fixed, fixed_ite_s, foldl_fixed, implies_true, ite_self]

theorem State.abandonLocks_fixed (s : State) (h : Nat) : (State.abandonLocks s h).fixed = s.fixed := by simp only [State.abandonLocks, State.count_fixed, State.passLock_fixed, State.raise_fixed, State.setLock_fixed, foldl_fixed, implies_true]

theorem State.resetHart_fixed (s : State) (h : Nat) : (State.resetHart s h).fixed = s.fixed := by simp only [State.resetHart, State.fixed_mk, State.abandonLocks_fixed, State.setHart_fixed]

theorem State.redeliver_fixed (s : State) (c : Nat) : (State.redeliver s c).fixed = s.fixed := by simp only [State.redeliver, State.count_fixed, State.raise_fixed, State.retryHandlers_fixed, State.setOp_fixed, fixed_ite_s, foldl_fixed, implies_true, ite_self]

theorem State.endReset_fixed (s : State) (c : Nat) (r : CReset) : (State.endReset s c r).fixed = s.fixed := by simp only [State.endReset, State.emptyCaches_fixed, State.orphan_fixed, State.raise_fixed, State.redeliver_fixed, State.resetHart_fixed, State.setCreset_fixed, State.showCluster_fixed, fixed_ite_s, foldl_fixed, implies_true, ite_self]

theorem State.rstCtrl_fixed (s : State) (c : Nat) (kind : Nat) (hart : Nat) : (State.rstCtrl s c kind hart).fixed = s.fixed := by simp only [State.rstCtrl, State.beginFault_fixed, State.beginReset_fixed, State.raise_fixed, State.setArmed_fixed, fixed_ite_s, ite_self]

theorem State.attend_fixed (s : State) (h : Nat) : (State.attend s h).fixed = s.fixed := by
  unfold State.attend
  repeat' (first | with_reducible rfl | (simp only [*, State.fixed_mk, State.invoke_fixed, State.setHart_fixed, State.showCluster_fixed, State.trap_fixed, fixed_ite_s, ite_self]; done) | (split <;> (try (rename_i h; have h2 := congrArg (fun p => State.fixed (Prod.snd p)) h; simp only [State.fixed_mk, State.invoke_fixed, State.setHart_fixed, State.showCluster_fixed, State.trap_fixed, fixed_ite_s, ite_self] at h2))) | (simp only [State.fixed_mk, State.invoke_fixed, State.setHart_fixed, State.showCluster_fixed, State.trap_fixed, fixed_ite_s, ite_self]; fail_if_success done) | (simp only [*, State.fixed_mk, State.invoke_fixed, State.setHart_fixed, State.showCluster_fixed, State.trap_fixed, fixed_ite_s, ite_self]; fail_if_success done) | intro _)

theorem State.hartRun_fixed (s : State) (h : Nat) (k : Cls) : (State.hartRun s h k).fixed = s.fixed := by
  unfold State.hartRun
  repeat' (first | with_reducible rfl | (simp only [*, State.fixed_mk, State.attend_fixed, State.beginFault_fixed, State.doInstr_fixed, State.drain_fixed, State.exc_fixed, State.fetch32_fixed, State.invoke_fixed, State.raise_fixed, State.setArmed_fixed, State.trap_fixed, fixed_ite_s, ite_self]; done) | (split <;> (try (rename_i h; have h2 := congrArg (fun p => State.fixed (Prod.snd p)) h; simp only [State.fixed_mk, State.attend_fixed, State.beginFault_fixed, State.doInstr_fixed, State.drain_fixed, State.exc_fixed, State.fetch32_fixed, State.invoke_fixed, State.raise_fixed, State.setArmed_fixed, State.trap_fixed, fixed_ite_s, ite_self] at h2))))

theorem execHartInstruction_fixed (h : Fin 4096) (s : State) : outFixed (execHartInstruction h s) = some s.fixed := by simp only [execHartInstruction, outFixed_next, State.hartRun_fixed]

theorem execFence_fixed (h : Fin 4096) (s : State) : outFixed (execFence h s) = some s.fixed := by simp only [execFence, outFixed_next, State.hartRun_fixed]

theorem execLr_fixed (h : Fin 4096) (s : State) : outFixed (execLr h s) = some s.fixed := by simp only [execLr, outFixed_next, State.hartRun_fixed]

theorem execSc_fixed (h : Fin 4096) (s : State) : outFixed (execSc h s) = some s.fixed := by simp only [execSc, outFixed_next, State.hartRun_fixed]

theorem execAmo_fixed (h : Fin 4096) (s : State) : outFixed (execAmo h s) = some s.fixed := by simp only [execAmo, outFixed_next, State.hartRun_fixed]

theorem execDeviceAccess_fixed (h : Fin 4096) (s : State) : outFixed (execDeviceAccess h s) = some s.fixed := by simp only [execDeviceAccess, outFixed_next, State.hartRun_fixed]

theorem execHostAccess_fixed (h : Fin 4096) (s : State) : outFixed (execHostAccess h s) = some s.fixed := by simp only [execHostAccess, outFixed_next, State.hartRun_fixed]

theorem execLq_fixed (h : Fin 4096) (s : State) : outFixed (execLq h s) = some s.fixed := by simp only [execLq, outFixed_next, State.hartRun_fixed]

theorem execSq_fixed (h : Fin 4096) (s : State) : outFixed (execSq h s) = some s.fixed := by simp only [execSq, outFixed_next, State.hartRun_fixed]

theorem execLkacq_fixed (h : Fin 4096) (s : State) : outFixed (execLkacq h s) = some s.fixed := by simp only [execLkacq, outFixed_next, State.hartRun_fixed]

theorem execLkacqTry_fixed (h : Fin 4096) (s : State) : outFixed (execLkacqTry h s) = some s.fixed := by simp only [execLkacqTry, outFixed_next, State.hartRun_fixed]

theorem execLkrel_fixed (h : Fin 4096) (s : State) : outFixed (execLkrel h s) = some s.fixed := by simp only [execLkrel, outFixed_next, State.hartRun_fixed]

theorem execQpushD_fixed (h : Fin 4096) (s : State) : outFixed (execQpushD h s) = some s.fixed := by simp only [execQpushD, outFixed_next, State.hartRun_fixed]

theorem execQpushQ_fixed (h : Fin 4096) (s : State) : outFixed (execQpushQ h s) = some s.fixed := by simp only [execQpushQ, outFixed_next, State.hartRun_fixed]

theorem execQpop_fixed (h : Fin 4096) (s : State) : outFixed (execQpop h s) = some s.fixed := by simp only [execQpop, outFixed_next, State.hartRun_fixed]

theorem execMprb_fixed (h : Fin 4096) (s : State) : outFixed (execMprb h s) = some s.fixed := by simp only [execMprb, outFixed_next, State.hartRun_fixed]

theorem execWaitq_fixed (h : Fin 4096) (s : State) : outFixed (execWaitq h s) = some s.fixed := by simp only [execWaitq, outFixed_next, State.hartRun_fixed]

theorem execFenceEp_fixed (h : Fin 4096) (s : State) : outFixed (execFenceEp h s) = some s.fixed := by simp only [execFenceEp, outFixed_next, State.hartRun_fixed]

theorem execEvsig_fixed (h : Fin 4096) (s : State) : outFixed (execEvsig h s) = some s.fixed := by simp only [execEvsig, outFixed_next, State.hartRun_fixed]

theorem execHret_fixed (h : Fin 4096) (s : State) : outFixed (execHret h s) = some s.fixed := by simp only [execHret, outFixed_next, State.hartRun_fixed]

theorem execFtcmpEvent_fixed (h : Fin 4096) (s : State) : outFixed (execFtcmpEvent h s) = some s.fixed := by simp only [execFtcmpEvent, outFixed_next, State.setHart_fixed, State.signal_fixed, ite_self, outFixed_ite_s]

theorem execHartWarmReset_fixed (c : Fin 32) (hart : Fin 128) (s : State) : outFixed (execHartWarmReset c hart s) = some s.fixed := by simp only [execHartWarmReset, outFixed_next, State.drain_fixed, State.rstCtrl_fixed]

theorem execClusterWarmReset_fixed (c : Fin 32) (s : State) : outFixed (execClusterWarmReset c s) = some s.fixed := by simp only [execClusterWarmReset, outFixed_next, State.drain_fixed, State.rstCtrl_fixed]

theorem execClusterFaultReset_fixed (c : Fin 32) (s : State) : outFixed (execClusterFaultReset c s) = some s.fixed := by simp only [execClusterFaultReset, outFixed_next, State.drain_fixed, State.rstCtrl_fixed]

theorem execResetDrainDone_fixed (c : Fin 32) (s : State) : outFixed (execResetDrainDone c s) = some s.fixed := by
  unfold execResetDrainDone
  split <;> simp only [outFixed_next, State.drain_fixed, State.endReset_fixed, ite_self, outFixed_ite_s]

theorem execDrainTimeout_fixed (c : Fin 32) (s : State) : outFixed (execDrainTimeout c s) = some s.fixed := by
  unfold execDrainTimeout
  split <;> simp only [outFixed_next, State.beginFault_fixed, State.drain_fixed, State.raise_fixed, ite_self, outFixed_ite_s]

theorem State.startHart_fixed (s : State) (h : Nat) : (State.startHart s h).fixed = s.fixed := by simp only [State.startHart, State.attend_fixed, State.invoke_fixed, State.setHart_fixed, State.setStopped_fixed, fixed_ite_s, ite_self]

theorem State.hartRunWrite_fixed (s : State) (c : Nat) (i : Nat) (v : W32) : (State.hartRunWrite s c i v).fixed = s.fixed := by simp only [State.hartRunWrite, State.setFld_fixed, State.setStopped_fixed, State.showCluster_fixed, State.startHart_fixed, State.wake_fixed, fixed_ite_s, foldl_fixed, implies_true, ite_self]

theorem execHartRunWrite_fixed (c : Fin 32) (i : Fin 4) (v : W32) (s : State) : outFixed (execHartRunWrite c i v s) = some s.fixed := by simp only [execHartRunWrite, outFixed_next, State.drain_fixed, State.hartRunWrite_fixed]

theorem execEngInjectStateEcc_fixed (c : Fin 32) (s : State) : outFixed (execEngInjectStateEcc c s) = some s.fixed := by simp only [execEngInjectStateEcc, outFixed_next, State.setArmed_fixed]

theorem execEngInjectDrainStall_fixed (c : Fin 32) (s : State) : outFixed (execEngInjectDrainStall c s) = some s.fixed := by simp only [execEngInjectDrainStall, outFixed_next, State.setArmed_fixed]

theorem State.engTick_fixed (s : State) : (State.engTick s).fixed = s.fixed := by simp only [State.engTick, State.fixed_mk, State.drainOne_fixed, State.setHart_fixed, State.tally_fixed, fixed_ite_s, foldl_fixed, implies_true, ite_self]

theorem State.lckClear_fixed (s : State) : (State.lckClear s).fixed = s.fixed := by
  unfold State.lckClear
  repeat' (first | with_reducible rfl | (simp only [*, State.fixed_mk, State.dropLock_fixed, fixed_ite_s, ite_self]; done) | (split <;> (try (rename_i h; have h2 := congrArg (fun p => State.fixed (Prod.snd p)) h; simp only [State.fixed_mk, State.dropLock_fixed, fixed_ite_s, ite_self] at h2))) | (simp only [State.fixed_mk, State.dropLock_fixed, fixed_ite_s, ite_self]; fail_if_success done) | (simp only [*, State.fixed_mk, State.dropLock_fixed, fixed_ite_s, ite_self]; fail_if_success done) | intro _)

theorem execLckClrGo_fixed (s : State) : outFixed (execLckClrGo s) = some s.fixed := by simp only [execLckClrGo, outFixed_next, State.lckClear_fixed]

theorem execLckInjectEntryEcc_fixed (s : State) : outFixed (execLckInjectEntryEcc s) = some s.fixed := by simp only [execLckInjectEntryEcc, outFixed_next, State.setArmed_fixed]

theorem execSelfRefreshEntry_fixed (n : Fin 4) (s : State) : outFixed (execSelfRefreshEntry n s) = some s.fixed := by simp only [execSelfRefreshEntry, outFixed_next, State.fixed_mk, State.setFld_fixed, ite_self, outFixed_ite_s]

theorem execSelfRefreshExit_fixed (n : Fin 4) (failed : Bool) (s : State) : outFixed (execSelfRefreshExit n failed s) = some s.fixed := by simp only [execSelfRefreshExit, outFixed_next, State.fixed_mk, State.raise_fixed, State.setFld_fixed, ite_self, outFixed_ite_s]

/-! ## Machine/KeystoneCmds.lean -/

theorem execKeystoneEvent_fixed (src : Fin 768) (kind : Byte) (detail : W64) (s : State) : outFixed (execKeystoneEvent src kind detail s) = some s.fixed := by simp only [execKeystoneEvent, outFixed_next, State.raise_fixed, ite_self, outFixed_ite_s]

theorem State.reactExpire_fixed (s : State) : (State.reactExpire s).fixed = s.fixed := by simp only [State.reactExpire, State.fixed_mk, State.enterSafe_fixed, fixed_ite_s, ite_self]

theorem execReactionTimerExpire_fixed (s : State) : outFixed (execReactionTimerExpire s) = some s.fixed := by simp only [execReactionTimerExpire, outFixed_next, State.reactExpire_fixed]

theorem State.setBeats_fixed (s : State) (src : Nat) (n : Nat) : (State.setBeats s src n).fixed = s.fixed := (Eq.refl _).trans rfl

theorem execHeartbeat_fixed (src : Fin 768) (s : State) : outFixed (execHeartbeat src s) = some s.fixed := by simp only [execHeartbeat, outFixed_next, State.setBeats_fixed]

theorem execHeartbeatLost_fixed (src : Fin 768) (odd : Bool) (s : State) : outFixed (execHeartbeatLost src odd s) = some s.fixed := by simp only [execHeartbeatLost, outFixed_next, State.raise_fixed, State.setBeats_fixed, ite_self, outFixed_ite_s]

theorem State.containStall_fixed (s : State) (point : Nat) (unit : Nat) (index : Nat) : (State.containStall s point unit index).fixed = s.fixed := by
  unfold State.containStall
  repeat' (first | with_reducible rfl | (simp only [*, State.fixed_mk, State.discardPkt_fixed, State.haltCtx_fixed, State.setEng_fixed, State.setOutQ_fixed]; done) | (split <;> (try (rename_i h; have h2 := congrArg (fun p => State.fixed (Prod.snd p)) h; simp only [State.fixed_mk, State.discardPkt_fixed, State.haltCtx_fixed, State.setEng_fixed, State.setOutQ_fixed] at h2))) | (simp only [State.fixed_mk, State.discardPkt_fixed, State.haltCtx_fixed, State.setEng_fixed, State.setOutQ_fixed]; fail_if_success done) | (simp only [*, State.fixed_mk, State.discardPkt_fixed, State.haltCtx_fixed, State.setEng_fixed, State.setOutQ_fixed]; fail_if_success done) | intro _)

theorem State.stallReport_fixed (s : State) (point : Nat) (unit : Nat) (index : Nat) : (State.stallReport s point unit index).fixed = s.fixed := by
  unfold State.stallReport
  repeat' split
  all_goals simp only [State.fixed_mk, State.containStall_fixed, State.raise_fixed, State.takeFree_fixed, fixed_ite_s, ite_self]

theorem execProgressStall_fixed (point : Fin 5) (unit : Fin 256) (index : Fin 262144) (s : State) : outFixed (execProgressStall point unit index s) = some s.fixed := by simp only [execProgressStall, outFixed_next, State.drain_fixed, State.stallReport_fixed]

theorem State.selfFault_fixed (s : State) (code : Nat) (loc : Nat) (logOk : Bool) : (State.selfFault s code loc logOk).fixed = s.fixed := by simp only [State.selfFault, State.enterSafe_fixed, State.keyEvent_fixed, fixed_ite_s, ite_self]

theorem execKeystoneSelfFault_fixed (code : Fin 4) (loc : Fin 65536) (logOk : Bool) (s : State) : outFixed (execKeystoneSelfFault code loc logOk s) = some s.fixed := by simp only [execKeystoneSelfFault, outFixed_next, State.selfFault_fixed]

theorem execKstInjectLockstep_fixed (s : State) : outFixed (execKstInjectLockstep s) = some s.fixed := by simp only [execKstInjectLockstep, outFixed_next, State.selfFault_fixed]

theorem execKstInjectLogEcc_fixed (s : State) : outFixed (execKstInjectLogEcc s) = some s.fixed := by simp only [execKstInjectLogEcc, outFixed_next, State.setArmed_fixed]

theorem State.logHeadWrite_fixed (s : State) (ag : Agent) (v : W32) : (State.logHeadWrite s ag v).fixed = s.fixed := by simp only [State.logHeadWrite, State.fixed_mk, State.reactExpire_fixed, State.setFld_fixed, fixed_ite_s, ite_self]

theorem execLogHeadWrite_fixed (ag : Agent) (v : W32) (s : State) : outFixed (execLogHeadWrite ag v s) = some s.fixed := by simp only [execLogHeadWrite, outFixed_next, State.logHeadWrite_fixed]

theorem State.logRead_fixed (s : State) (ag : Agent) (slot : Nat) (w : Nat) : (State.logRead s ag slot w).2.fixed = s.fixed := by
  unfold State.logRead
  have h1 : (if s.armed F.KST_INJECT_LOG_ECC 0 then (s.setArmed F.KST_INJECT_LOG_ECC 0 false).selfFault 2 slot true else s).fixed = s.fixed := by
    split
    · exact (State.selfFault_fixed ..).trans (State.setArmed_fixed ..)
    · rfl
  generalize (if s.armed F.KST_INJECT_LOG_ECC 0 then (s.setArmed F.KST_INJECT_LOG_ECC 0 false).selfFault 2 slot true else s) = t at h1 ⊢
  dsimp only
  split
  · exact h1
  split
  · exact h1
  split <;> exact h1

theorem execLogRead_fixed (ag : Agent) (slot : Fin 1024) (s : State) : outFixed (execLogRead ag slot s) = some s.fixed := by simp only [execLogRead, outFixed_next, State.logRead_fixed]

theorem State.severityWrite_fixed (s : State) (ag : Agent) (src : Nat) (w : Nat) (v : W32) : (State.severityWrite s ag src w v).fixed = s.fixed := by simp only [State.severityWrite, State.wr_fixed, fixed_ite_s, ite_self]

theorem execSeverityWrite_fixed (ag : Agent) (src : Fin 768) (w : Fin 16) (v : W32) (s : State) : outFixed (execSeverityWrite ag src w v s) = some s.fixed := by simp only [execSeverityWrite, outFixed_next, State.severityWrite_fixed]

theorem State.safeCtrl_fixed (s : State) (ag : Agent) (key : W32) : (State.safeCtrl s ag key).fixed = s.fixed := by simp only [State.safeCtrl, State.enterSafe_fixed, fixed_ite_s, ite_self]

theorem execSafeCtrlWrite_fixed (ag : Agent) (key : W32) (s : State) : outFixed (execSafeCtrlWrite ag key s) = some s.fixed := by simp only [execSafeCtrlWrite, outFixed_next, State.safeCtrl_fixed]

theorem State.testEvent_fixed (s : State) (v : W32) : (State.testEvent s v).fixed = s.fixed := by simp only [State.testEvent, State.raise_fixed, State.setFld_fixed, fixed_ite_s, ite_self]

theorem execTestEvent_fixed (v : W32) (s : State) : outFixed (execTestEvent v s) = some s.fixed := by simp only [execTestEvent, outFixed_next, State.testEvent_fixed]

/-! ## Machine/PowerCmds.lean -/

theorem execSleepEntryStart_fixed (d : Fin 113) (s : State) : outFixed (execSleepEntryStart d s) = some s.fixed := by simp only [execSleepEntryStart, outFixed_next, State.drainSb_fixed, State.setDom_fixed, fixed_ite_s, foldl_fixed, implies_true, ite_self, outFixed_ite_s]

theorem State.sleepDone_fixed (s : State) (d : Nat) : (State.sleepDone s d).fixed = s.fixed := by simp only [State.sleepDone, State.emptyCaches_fixed, State.setDom_fixed, State.wake_fixed, fixed_ite_s, ite_self]

theorem execSleepEntryDone_fixed (d : Fin 113) (s : State) : outFixed (execSleepEntryDone d s) = some s.fixed := by simp only [execSleepEntryDone, outFixed_next, State.drain_fixed, State.sleepDone_fixed]

theorem State.wakeDone_fixed (s : State) (d : Nat) : (State.wakeDone s d).fixed = s.fixed := by simp only [State.wakeDone, State.fixed_mk, State.attend_fixed, State.invoke_fixed, State.setDom_fixed, fixed_ite_s, foldl_fixed, implies_true, ite_self]

theorem execDomainWakeDone_fixed (d : Fin 113) (s : State) : outFixed (execDomainWakeDone d s) = some s.fixed := by simp only [execDomainWakeDone, outFixed_next, State.drain_fixed, State.wakeDone_fixed]

theorem execWakeTimeout_fixed (d : Fin 113) (s : State) : outFixed (execWakeTimeout d s) = some s.fixed := by simp only [execWakeTimeout, outFixed_next, State.fixed_mk, State.raise_fixed, ite_self, outFixed_ite_s]

theorem State.lanesLoseClock_fixed (s : State) (hold : Bool) : (State.lanesLoseClock s hold).fixed = s.fixed := by simp only [State.lanesLoseClock, State.linkDown_fixed, State.portDown_fixed, State.setLink_fixed, fixed_ite_s, foldl_fixed, implies_true, ite_self]

theorem State.pllsLose_fixed (s : State) : (State.pllsLose s).fixed = s.fixed := by simp only [State.pllsLose, State.setPll_fixed, fixed_ite_s, foldl_fixed, implies_true, ite_self]

theorem execRefclkLoss_fixed (ref : Fin 2) (ppm : W16) (s : State) : outFixed (execRefclkLoss ref ppm s) = some s.fixed := by simp only [execRefclkLoss, outFixed_next, State.fixed_mk, State.count_fixed, State.drain_fixed, State.lanesLoseClock_fixed, State.pllsLose_fixed, State.raise_fixed, State.setFld_fixed, ite_self, outFixed_ite_s]

theorem State.clockBack_fixed (s : State) (l : Nat) : (State.clockBack s l).fixed = s.fixed := by simp only [State.clockBack, State.linkStart_fixed, State.setLink_fixed, fixed_ite_s, ite_self]

theorem execRefclkReturn_fixed (ref : Fin 2) (ppm : W16) (s : State) : outFixed (execRefclkReturn ref ppm s) = some s.fixed := by simp only [execRefclkReturn, outFixed_next, State.fixed_mk, State.clockBack_fixed, State.setFld_fixed, foldl_fixed, implies_true, ite_self, outFixed_ite_s]

theorem execCorePllUnlock_fixed (pll : Fin 3) (s : State) : outFixed (execCorePllUnlock pll s) = some s.fixed := by simp only [execCorePllUnlock, outFixed_next, State.raise_fixed]

theorem execAvsTargetChange_fixed (mv : Fin 801) (s : State) : outFixed (execAvsTargetChange mv s) = some s.fixed := by simp only [execAvsTargetChange, outFixed_next, State.fixed_mk, State.setFld_fixed, ite_self, outFixed_ite_s]

theorem State.enterThermalHold_fixed (s : State) : (State.enterThermalHold s).fixed = s.fixed := by simp only [State.enterThermalHold, State.fixed_mk, State.dropQueued_fixed, State.fenceLinks_fixed, State.portDown_fixed, State.setDom_fixed, State.setFld_fixed, State.showLaneRef_fixed, fixed_ite_s, foldl_fixed, implies_true, ite_self]

theorem State.tempCheck_fixed (s : State) (sensor : Nat) (t : Int) : (State.tempCheck s sensor t).fixed = s.fixed := by simp only [State.tempCheck, State.fixed_mk, State.enterThermalHold_fixed, State.raise_fixed, fixed_ite_s, ite_self]

theorem State.tempPut_fixed (s : State) (readings : List Byte) (hot : Nat) (top : Int) : (State.tempPut s readings hot top).fixed = s.fixed := by simp only [State.tempPut, State.setFld_fixed, foldl_fixed, implies_true]

theorem execTempSample_fixed (readings : List Byte) (s : State) : outFixed (execTempSample readings s) = some s.fixed := by
  unfold execTempSample
  dsimp only
  generalize tempTop readings = top
  generalize tempTies readings = l
  have h : ((s.pickTie l).2.tempPut readings ((s.pickTie l).1.getD 0) top).fixed = s.fixed :=
    (State.tempPut_fixed ..).trans (State.pickTie_fixed ..)
  generalize (s.pickTie l).2.tempPut readings ((s.pickTie l).1.getD 0) top = t at h ⊢
  refine view_ite (F := outFixed) (outFixed_of ?_) (outFixed_of ((State.tempCheck_fixed ..).trans h))
  rw [fixed_ite_s, State.fixed_mk, h, ite_self]

theorem execSupplySample_fixed (rail : Fin 8) (mv : W16) (da : W16) (s : State) : outFixed (execSupplySample rail mv da s) = some s.fixed := by simp only [execSupplySample, outFixed_next, State.fixed_mk, State.raise_fixed, State.setFld_fixed, fixed_ite_s, ite_self]

theorem execSnsInjectSupplyOor_fixed (s : State) : outFixed (execSnsInjectSupplyOor s) = some s.fixed := (Eq.refl _).trans rfl

theorem execHbmTempChange_fixed (n : Fin 4) (c : Byte) (s : State) : outFixed (execHbmTempChange n c s) = some s.fixed := by simp only [execHbmTempChange, outFixed_next, State.fixed_mk, State.raise_fixed, State.setFld_fixed, ite_self, outFixed_ite_s]

theorem State.mgmtLost_fixed (s : State) : (State.mgmtLost s).fixed = s.fixed := by simp only [State.mgmtLost, State.sessionLoss_fixed, State.setFld_fixed, fixed_ite_s, ite_self]

theorem State.resetStat_fixed (s : State) (k : ResetKind) (count : Nat) : (State.resetStat s k count).fixed = s.fixed := by simp only [State.resetStat, State.setFld_fixed]

theorem State.blank_fixed (s : State) (k : ResetKind) : (State.blank s k).fixed = s.fixed := by
  rfl

theorem State.powerOn_fixed (s : State) : (State.powerOn s).fixed = s.fixed := by simp only [State.powerOn, State.blank_fixed, State.resetStat_fixed]

theorem State.coldReset_fixed (s : State) (k : ResetKind) : (State.coldReset s k).fixed = s.fixed := by simp only [State.coldReset, State.fixed_mk, State.blank_fixed, State.mgmtLost_fixed, State.resetStat_fixed, State.setFld_fixed, State.wr_fixed, fixed_ite_s, foldl_fixed, implies_true, ite_self]

theorem State.warmReset_fixed (s : State) : (State.warmReset s).fixed = s.fixed := by
  have h := State.mgmtLost_fixed s
  unfold State.warmReset
  generalize s.mgmtLost = t at h ⊢
  simp only [State.resetStat_fixed, State.setFld_fixed, State.wr_fixed]
  exact h

theorem execPowerOnReset_fixed (down : Byte) (up : Byte) (s : State) : outFixed (execPowerOnReset down up s) = some s.fixed := by simp only [execPowerOnReset, outFixed_next, State.fixed_mk, State.powerOn_fixed, State.setFld_fixed]

theorem execPwrokRise_fixed (s : State) : outFixed (execPwrokRise s) = some s.fixed := (Eq.refl _).trans rfl

theorem execResetNAssert_fixed (s : State) : outFixed (execResetNAssert s) = some s.fixed := by simp only [execResetNAssert, outFixed_next, State.fixed_mk, State.coldReset_fixed, ite_self, outFixed_ite_s]

theorem execResetNRelease_fixed (s : State) : outFixed (execResetNRelease s) = some s.fixed := (Eq.refl _).trans rfl

theorem State.coldCmd_fixed (s : State) : (State.coldCmd s).fixed = s.fixed := (Eq.refl _).trans rfl

theorem State.warmCmd_fixed (s : State) : (State.warmCmd s).fixed = s.fixed := by
  unfold State.warmCmd
  split
  · exact State.raise_fixed ..
  split
  · exact State.raise_fixed ..
  split <;> rfl

theorem execColdResetCmd_fixed (ag : Agent) (s : State) : outFixed (execColdResetCmd ag s) = some s.fixed := by simp only [execColdResetCmd, outFixed_next, State.coldCmd_fixed, fixed_ite_s, ite_self]

theorem execWarmResetCmd_fixed (ag : Agent) (s : State) : outFixed (execWarmResetCmd ag s) = some s.fixed := by simp only [execWarmResetCmd, outFixed_next, State.warmCmd_fixed, fixed_ite_s, ite_self]

theorem execResetBegin_fixed (s : State) : outFixed (execResetBegin s) = some s.fixed := by
  unfold execResetBegin
  split <;> simp only [outFixed_next, State.fixed_mk, State.coldReset_fixed, State.raise_fixed, State.warmReset_fixed, ite_self, outFixed_ite_s]

end Sys2Proof.Machine
end

