-- ==== Sys2Proof/Laws/Fixed8.lean ====
section
/-!
SUPPORT. The operations and meanings of Machine/Security.lean, Machine/Tally.lean, Machine/Bus.lean, Machine/RegCmds.lean, Machine/BootCmds.lean, Machine/LoadReports.lean
leave the queue, the fuses and the flash alone.
-/
namespace Sys2Proof.Machine

set_option linter.all false

/-! ## Machine/Security.lean -/

theorem State.fuseGo_fixed (s : State) (op : Nat) (arg : Nat) : (State.fuseGo s op arg).fixed = s.fixed := by
  unfold State.fuseGo
  extract_lets s1
  have h1 : s1.fixed = s.fixed := (State.setFld_fixed ..).trans (State.setFld_fixed ..)
  clear_value s1
  exact (State.setFld_fixed ..).trans ((State.setSec_fixed _ _ rfl rfl rfl).trans h1)

theorem execFuseProgramSlot_fixed (arg : Fin 16) (s : State) : outFixed (execFuseProgramSlot arg s) = some s.fixed := by simp only [execFuseProgramSlot, outFixed_next, State.fuseGo_fixed]

theorem execFuseRevokeSlot_fixed (arg : Fin 16) (s : State) : outFixed (execFuseRevokeSlot arg s) = some s.fixed := by simp only [execFuseRevokeSlot, outFixed_next, State.fuseGo_fixed]

theorem execSvnCommit_fixed (arg : Fin 16) (s : State) : outFixed (execSvnCommit arg s) = some s.fixed := by simp only [execSvnCommit, outFixed_next, State.fuseGo_fixed]

theorem State.flashGo_fixed (s : State) (op : Nat) : (State.flashGo s op).fixed = s.fixed := by
  unfold State.flashGo
  have h1 : ((s.setFld F.SEC_FLASH_CMD_OP op).setFld F.SEC_FLASH_CMD_BUSY 1).fixed = s.fixed :=
    (State.setFld_fixed ..).trans (State.setFld_fixed ..)
  generalize (s.setFld F.SEC_FLASH_CMD_OP op).setFld F.SEC_FLASH_CMD_BUSY 1 = t at h1 ⊢
  split
  · rfl
  · exact (State.setSec_fixed _ _ rfl rfl rfl).trans h1

theorem execFlashRead_fixed (s : State) : outFixed (execFlashRead s) = some s.fixed := by simp only [execFlashRead, outFixed_next, State.flashGo_fixed]

theorem execFlashProgram_fixed (s : State) : outFixed (execFlashProgram s) = some s.fixed := by simp only [execFlashProgram, outFixed_next, State.flashGo_fixed]

theorem execFlashErase_fixed (s : State) : outFixed (execFlashErase s) = some s.fixed := by simp only [execFlashErase, outFixed_next, State.flashGo_fixed]

theorem execFlashVerify_fixed (s : State) : outFixed (execFlashVerify s) = some s.fixed := by simp only [execFlashVerify, outFixed_next, State.flashGo_fixed]

theorem State.setMeas_fixed (s : State) (m : Nat) (d : List Byte) : (State.setMeas s m d).fixed = s.fixed := by simp only [State.setMeas, State.setFld_fixed, foldl_fixed, implies_true]

theorem State.extendGo_fixed (s : State) : (State.extendGo s).fixed = s.fixed := by simp only [State.extendGo, State.setFld_fixed, State.setSec_fixed, fixed_ite_s, ite_self]

theorem execExtend_fixed (s : State) : outFixed (execExtend s) = some s.fixed := by simp only [execExtend, outFixed_next, State.extendGo_fixed]

theorem execExtendDone_fixed (s : State) : outFixed (execExtendDone s) = some s.fixed := by
  unfold execExtendDone
  split <;> simp only [outFixed_next, State.setFld_fixed, State.setMeas_fixed, State.setSec_fixed]

theorem State.attestGo_fixed (s : State) : (State.attestGo s).fixed = s.fixed := by simp only [State.attestGo, State.setFld_fixed, State.setSec_fixed, fixed_ite_s, ite_self]

theorem execAttest_fixed (s : State) : outFixed (execAttest s) = some s.fixed := by simp only [execAttest, outFixed_next, State.attestGo_fixed]

theorem State.putWindow_fixed (s : State) (a : Nat) (d : List Byte) : (State.putWindow s a d).fixed = s.fixed := by simp only [State.putWindow, State.wr_fixed, foldl_fixed, implies_true]

theorem State.attestSign_fixed (s : State) (b : List Byte) : (State.attestSign s b).2.fixed = s.fixed := by simp only [State.attestSign, State.takeFree_fixed, fixed2_ite_s, ite_self]

theorem execAttestDone_fixed (s : State) : outFixed (execAttestDone s) = some s.fixed := by simp only [execAttestDone, outFixed_next, State.attestSign_fixed, State.putWindow_fixed, State.setFld_fixed, State.setSec_fixed, ite_self, outFixed_ite_s]

theorem State.bootDone_fixed (s : State) : (State.bootDone s).fixed = s.fixed := by simp only [State.bootDone, State.fixed_mk, fixed_ite_s, ite_self]

theorem execBootDone_fixed (s : State) : outFixed (execBootDone s) = some s.fixed := by simp only [execBootDone, outFixed_next, State.bootDone_fixed]

theorem State.toHold_fixed (s : State) : (State.toHold s).fixed = s.fixed := by
  exact (State.setFld_fixed ..).trans (State.setSec_fixed _ _ rfl rfl rfl)

theorem State.bootTo_fixed (s : State) (n : Nat) : (State.bootTo s n).fixed = s.fixed := by
  exact (State.setFld_fixed ..).trans (State.setSec_fixed _ _ rfl rfl rfl)

theorem State.setReason_fixed (s : State) (i : Nat) (c : Nat) (r : Nat) : (State.setReason s i c r).fixed = s.fixed := by simp only [State.setReason, State.raise_fixed, State.setFld_fixed, fixed_ite_s, ite_self]

theorem State.takeCopyOf_fixed (s : State) (i : Nat) (c : Nat) : (State.takeCopyOf s i c).fixed = s.fixed := by simp only [State.takeCopyOf, State.setFld_fixed]

theorem State.noCopyOf_fixed (s : State) (i : Nat) : (State.noCopyOf s i).fixed = s.fixed := by simp only [State.noCopyOf, State.setFld_fixed]

theorem State.chooseImg_fixed (s : State) (i : Nat) : (State.chooseImg s i).fixed = s.fixed := by
  unfold State.chooseImg
  split <;> simp only [State.noCopyOf_fixed, State.takeCopyOf_fixed]

theorem State.bodyCheck_fixed (s : State) (i : Nat) (failed : Bool) : (State.bodyCheck s i failed).2.fixed = s.fixed := by simp only [State.bodyCheck, State.noCopyOf_fixed, State.setReason_fixed, State.setSec_fixed, State.takeCopyOf_fixed, fixed2_ite_s, ite_self]

theorem State.imgMissing_fixed (s : State) (i : Nat) : (State.imgMissing s i).fixed = s.fixed := by simp only [State.imgMissing, State.raise_fixed, State.toHold_fixed]

theorem State.bootStart_fixed (s : State) (failed : Byte) : (State.bootStart s failed).fixed = s.fixed := by simp only [State.bootStart, State.bootTo_fixed, State.chooseImg_fixed, State.imgMissing_fixed, State.setMeas_fixed, State.setReason_fixed, fixed_ite_s, foldl_fixed, implies_true, ite_self]

theorem State.bootIdentity_fixed (s : State) : (State.bootIdentity s).fixed = s.fixed := by simp only [State.bootIdentity, State.bootTo_fixed, State.putWindow_fixed, State.setFld_fixed, State.setMeas_fixed, State.setSec_fixed]

theorem State.bootChain_fixed (s : State) : (State.bootChain s).fixed = s.fixed := by simp only [State.bootChain, State.bootTo_fixed, State.raise_fixed, fixed_ite_s, ite_self]

theorem State.bootRun_fixed (s : State) : (State.bootRun s).fixed = s.fixed := by simp only [State.bootRun, State.bootTo_fixed, State.hartRunWrite_fixed, State.raise_fixed, State.setFld_fixed, fixed_ite_s, foldl_fixed, implies_true, ite_self]

/-! ## Machine/Tally.lean -/

theorem State.talLatch_fixed (s : State) (b : Nat) : (State.talLatch s b).fixed = s.fixed := by simp only [State.talLatch, State.fixed_mk, State.setFld_fixed]

theorem State.talClear_fixed (s : State) (b : Nat) : (State.talClear s b).fixed = s.fixed := (Eq.refl _).trans rfl

theorem execTalSnap_fixed (b : Byte) (s : State) : outFixed (execTalSnap b s) = some s.fixed := by simp only [execTalSnap, outFixed_next, State.talLatch_fixed]

theorem execTalClear_fixed (b : Byte) (s : State) : outFixed (execTalClear b s) = some s.fixed := by simp only [execTalClear, outFixed_next, State.talClear_fixed]

theorem State.dumpStart_fixed (s : State) : (State.dumpStart s).fixed = s.fixed := by simp only [State.dumpStart, State.fixed_mk, State.queueSpan_fixed, State.setFld_fixed, State.talLatch_fixed, fixed_ite_s, foldl_fixed, implies_true, ite_self]

theorem execTallyDump_fixed (s : State) : outFixed (execTallyDump s) = some s.fixed := by simp only [execTallyDump, outFixed_next, State.count_fixed, State.dumpStart_fixed, ite_self, outFixed_ite_s]

theorem execTallyDumpDone_fixed (s : State) : outFixed (execTallyDumpDone s) = some s.fixed := by
  unfold execTallyDumpDone
  split <;> simp only [outFixed_next, State.fixed_mk, State.drain_fixed, State.memWrite_fixed, State.setFld_fixed, fixed_ite_s, ite_self, outFixed_ite_s]

/-! ## Machine/Bus.lean -/

theorem State.latchRead_fixed (s : State) (ag : Agent) (a : Nat) : (State.latchRead s ag a).2.fixed = s.fixed := by
  unfold State.latchRead
  repeat' first | rfl | (simp only [fixed2_ite_s, ite_self]; done) | split

theorem State.busRead_fixed (s : State) (ag : Agent) (a : Nat) : (State.busRead s ag a).2.fixed = s.fixed := by
  unfold State.busRead
  dsimp only
  generalize a / 4 * 4 = b
  have e : (s.wakePage (b / 4096)).fixed = s.fixed := State.wakePage_fixed ..
  generalize s.wakePage (b / 4096) = t at e ⊢
  split
  · exact (State.logRead_fixed ..).trans e
  · refine view_ite (F := fixed2) ?_ ?_
    · exact (Out.state_fixed _ _ (execPteDataRead_fixed ..)).trans e
    · have e1 := State.latchRead_fixed t ag b
      generalize t.latchRead ag b = r at e1 ⊢
      rcases r with ⟨v, u⟩
      dsimp only
      split
      · exact (Out.state_fixed _ _ (execTsTimePop_fixed ..)).trans (e1.trans e)
      · exact e1.trans e
  · exact (State.latchRead_fixed ..).trans e

theorem State.copyPages_fixed (s : State) (src : Nat) (dst : Nat) (n : Nat) : (State.copyPages s src dst n).fixed = s.fixed := (Eq.refl _).trans rfl

theorem State.syncCopies_fixed (s : State) (t : Nat) : (State.syncCopies s t).fixed = s.fixed := by simp only [State.syncCopies, State.copyPages_fixed, fixed_ite_s, foldl_fixed, implies_true, ite_self]

theorem State.tblSync_fixed (s : State) (t : Nat) : (State.tblSync s t).fixed = s.fixed := by simp only [State.tblSync, State.setFld_fixed]

theorem State.badSlots_fixed (s : State) : (State.badSlots s).fixed = s.fixed := by simp only [State.badSlots, State.raise_fixed, fixed_ite_s, foldl_fixed, implies_true, ite_self]

theorem State.seedFixed_fixed (s : State) : (State.seedFixed s).fixed = s.fixed := by simp only [State.seedFixed, State.fixed_mk, fixed_ite_s, ite_self]

theorem State.swapNow_fixed (s : State) (t : Nat) : (State.swapNow s t).fixed = s.fixed := by simp only [State.swapNow, State.fixed_mk, State.applyVals_fixed, State.badSlots_fixed, State.bumpSeq_fixed, State.noteSwap_fixed, State.seedFixed_fixed, State.setFld_fixed, fixed_ite_s, ite_self]

theorem State.viaCommit_fixed (s : State) : (State.viaCommit s).fixed = s.fixed := by simp only [State.viaCommit, State.fixed_mk, State.applyPend_fixed, State.roleApply_fixed, fixed_ite_s, ite_self]

theorem State.commitGo_fixed (s : State) (p : Nat) : (State.commitGo s p).fixed = s.fixed := by
  unfold State.commitGo
  repeat' split
  all_goals simp only [State.bumpSeq_fixed, State.dropPend_fixed, State.raiseSev_fixed, State.raise_fixed, State.swapNow_fixed, State.viaCommit_fixed, fixed_ite_s, ite_self]

theorem State.commitWrite_fixed (s : State) (ag : Agent) (p : Nat) (guard : W32) : (State.commitWrite s ag p guard).fixed = s.fixed := by
  unfold State.commitWrite
  repeat' split
  all_goals simp only [State.fixed_mk, State.commitGo_fixed, State.commitRequest_fixed, State.count_fixed, State.raise_fixed, State.setFld_fixed, fixed_ite_s, ite_self]

theorem State.commitApply_fixed (s : State) (p : Nat) : (State.commitApply s p).fixed = s.fixed := by
  unfold State.commitApply
  split <;> simp only [State.applyPend_fixed, fixed_ite_s, ite_self]

theorem State.lapseLink_fixed (s : State) (l : Nat) : (State.lapseLink s l).fixed = s.fixed := by simp only [State.lapseLink, State.linkDown_fixed, State.releaseClaim_fixed, State.setLink_fixed, fixed_ite_s, ite_self]

theorem State.lapsePort_fixed (s : State) (n : Nat) : (State.lapsePort s n).fixed = s.fixed := by simp only [State.lapsePort, State.portDown_fixed, State.releasePort_fixed, State.setPort_fixed]

theorem State.tileStop_fixed (s : State) (t : Nat) : (State.tileStop s t).fixed = s.fixed := by simp only [State.tileStop, State.lapseLink_fixed, State.lapsePort_fixed, State.setLane_fixed, State.setPll_fixed, State.setPrbsLock_fixed, fixed_ite_s, foldl_fixed, implies_true, ite_self]

theorem State.laneStop_fixed (s : State) (n : Nat) : (State.laneStop s n).fixed = s.fixed := by simp only [State.laneStop, State.lapseLink_fixed, State.lapsePort_fixed, State.setLane_fixed, State.setPrbsLock_fixed, fixed_ite_s, ite_self]

theorem State.instStop_fixed (s : State) (b : Blk) (n : Nat) : (State.instStop s b n).fixed = s.fixed := by
  unfold State.instStop
  split <;> simp only [State.laneStop_fixed, State.linkDisable_fixed, State.pierEnable_fixed, State.portDisable_fixed, State.tileStop_fixed]

theorem State.instStart_fixed (s : State) (b : Blk) (n : Nat) : (State.instStart s b n).fixed = s.fixed := by
  unfold State.instStart
  split <;> simp only [State.linkEnable_fixed, State.pierEnable_fixed, State.portEnable_fixed]

theorem State.pageEnable_fixed (s : State) (p : Nat) (on : Bool) : (State.pageEnable s p on).fixed = s.fixed := by
  unfold State.pageEnable
  split
  · rename_i b n _
    dsimp only
    have h1 : (if on then (s.setHdr b n F.HDR_PAGE_PARITY_ERROR 0).setHdr b n F.HDR_PAGE_PARITY_OFFSET 0 else s).fixed = s.fixed := by
      split
      · exact (State.setHdr_fixed ..).trans (State.setHdr_fixed ..)
      · rfl
    generalize (if on then (s.setHdr b n F.HDR_PAGE_PARITY_ERROR 0).setHdr b n F.HDR_PAGE_PARITY_OFFSET 0 else s) = t at h1 ⊢
    simp only [fixed_ite_s, State.setHdr_fixed, State.instStart_fixed, State.instStop_fixed, ite_self, h1]
  · rfl

theorem State.resetPage_fixed (s : State) (p : Nat) : (State.resetPage s p).fixed = s.fixed := (Eq.refl _).trans rfl

theorem State.softReset_fixed (s : State) (p : Nat) : (State.softReset s p).fixed = s.fixed := by
  unfold State.softReset
  repeat' split
  all_goals simp only [State.fixed_mk, State.linkDown_fixed, State.pend_fixed, State.portDown_fixed, State.releaseClaim_fixed, State.releasePort_fixed, State.resetPage_fixed, State.sessionLoss_fixed, State.setFld_fixed, State.setLink_fixed, State.setPier_fixed, State.setPort_fixed, fixed_ite_s, ite_self]

theorem State.sleepAllow_fixed (s : State) (p : Nat) (on : Bool) : (State.sleepAllow s p on).fixed = s.fixed := by
  unfold State.sleepAllow
  repeat' split
  all_goals simp only [State.setDom_fixed, State.setHdr_fixed, fixed_ite_s, ite_self]

theorem State.ctrlWrite_fixed (s : State) (p : Nat) (v : W32) : (State.ctrlWrite s p v).fixed = s.fixed := by
  unfold State.ctrlWrite
  split <;> simp only [State.pageEnable_fixed, State.sleepAllow_fixed, State.softReset_fixed, fixed_ite_s, ite_self]

theorem State.plainWrite_fixed (s : State) (a : Nat) (v : W32) : (State.plainWrite s a v).fixed = s.fixed := by
  unfold State.plainWrite
  split <;> simp only [State.wrShadow_fixed, State.wr_fixed, fixed_ite_s, ite_self]

theorem State.wordParity_fixed (s : State) (a : Nat) : (State.wordParity s a).fixed = s.fixed := by
  unfold State.wordParity
  repeat' first | rfl | split

theorem State.armBits_fixed (s : State) (a : Nat) (v : W32) : (State.armBits s a v).fixed = s.fixed := by
  unfold State.armBits
  repeat' first | rfl | split

theorem State.stageLow_fixed (s : State) (ag : Agent) (a : Nat) (v : W32) : (State.stageLow s ag a v).fixed = s.fixed := (Eq.refl _).trans rfl

theorem State.portWrite_fixed (s : State) (p : Nat) (off : Nat) (v : W32) : (State.portWrite s p off v).fixed = s.fixed := by
  unfold State.portWrite
  extract_lets x
  clear_value x
  split
  · exact State.thenDo_fixed _ _ _ (execSaInstall_fixed ..)
  split
  · exact State.setPort_fixed ..
  split
  · exact State.setPort_fixed ..
  split
  · exact State.setPort_fixed ..
  · rfl

theorem State.portArea_fixed (s : State) (b : Blk) (n : Nat) (off : Nat) (a : Nat) (v : W32) : (State.portArea s b n off a v).fixed = s.fixed := by
  unfold State.portArea
  split
  · exact view_ite (F := State.fixed) (State.armBits_fixed ..) (State.portWrite_fixed ..)
  · rfl

theorem State.pierArea_fixed (s : State) (b : Blk) (n : Nat) (off : Nat) (a : Nat) (v : W32) : (State.pierArea s b n off a v).fixed = s.fixed := by
  unfold State.pierArea
  split
  · refine view_ite (F := State.fixed) (State.armBits_fixed ..) (view_ite (F := State.fixed) ?_ rfl)
    exact State.thenDo_fixed _ _ _ (execSessionResync_fixed ..)
  · rfl

theorem State.blockWrite_fixed (s : State) (ag : Agent) (b : Blk) (n : Nat) (a : Nat) (v : W32) : (State.blockWrite s ag b n a v).fixed = s.fixed := by
  unfold State.blockWrite
  extract_lets off
  clear_value off
  cases b
  all_goals dsimp only
  all_goals repeat' (first
    | with_reducible rfl
    | exact State.setSec_fixed _ _ rfl rfl rfl
    | (with_reducible refine (State.thenDo_fixed _ _ _ ?_).trans ?_)
    | (with_reducible refine (State.armBits_fixed ..).trans ?_)
    | (with_reducible refine (State.pierArea_fixed ..).trans ?_)
      | (with_reducible refine (State.portArea_fixed ..).trans ?_)
    | (simp only [fixed_ite_s, State.wr_fixed, State.setFld_fixed, State.tblSync_fixed, State.timeAdj_fixed, State.drain_fixed, State.rstCtrl_fixed,
        State.fuseGo_fixed, State.attestGo_fixed, State.extendGo_fixed, State.flashGo_fixed, State.bootDone_fixed, State.coldCmd_fixed,
        State.warmCmd_fixed, State.safeCtrl_fixed, State.talLatch_fixed, State.talClear_fixed, ite_self,
        execLnkInjectForceDown_fixed, execSrdInjectBit_fixed, execSrdInjectBurst_fixed, execViaInjectWindowSkip_fixed, execXltInvStart_fixed,
        execPoisonCtrlMark_fixed, execPoisonCtrlClear_fixed, execLckClrGo_fixed, execHandlerDone_fixed, execMigrate_fixed,
        execSnsInjectSupplyOor_fixed, execKstInjectLockstep_fixed, execSessionResync_fixed]; done)
    | (simp +zetaDelta only [fixed_ite_s, State.talLatch_fixed, State.talClear_fixed, ite_self]; done)
      | split)

theorem State.ownWrite_fixed (s : State) (ag : Agent) (b : Blk) (n a : Nat) (v : W32) (t : State) (h : s.ownWrite ag b n a v = some t) :
    t.fixed = s.fixed := by
  revert t
  show optFixed (s.ownWrite ag b n a v) s.fixed
  cases b
  all_goals (simp only [State.ownWrite])
  all_goals first
    | exact optFixed_none _
    | (repeat' (refine iteInduction (motive := fun o => optFixed o s.fixed) (fun _ => ?_) (fun _ => ?_))
       all_goals first
         | exact optFixed_none _
         | exact optFixed_some (State.logHeadWrite_fixed ..)
         | exact optFixed_some (State.testEvent_fixed ..)
         | exact optFixed_some (State.testWrite_fixed ..)
         | exact optFixed_some (State.stageLow_fixed ..)
         | exact optFixed_some (State.timeSet_fixed ..)
         | exact optFixed_some (Out.state_fixed _ _ (execPteStore_fixed ..))
         | exact optFixed_some (Out.state_fixed _ _ (execMringEnable_fixed ..))
         | exact optFixed_some ((State.drain_fixed ..).trans (State.hartRunWrite_fixed ..)))

theorem State.busWrite_fixed (s : State) (ag : Agent) (a : Nat) (v : W32) : (State.busWrite s ag a v).fixed = s.fixed := by
  unfold State.busWrite
  dsimp only
  generalize a / 4 * 4 = b
  have e : (s.wakePage (b / 4096)).fixed = s.fixed := State.wakePage_fixed ..
  generalize s.wakePage (b / 4096) = t at e ⊢
  refine view_ite (F := State.fixed) e ?_
  split
  · exact e
  · refine view_ite (F := State.fixed) e ?_
    split
    · refine view_ite (F := State.fixed) ((State.wr_fixed ..).trans e) ?_
      split
      · exact (State.raise_fixed ..).trans e
      · exact e
    · split
      · exact (State.severityWrite_fixed ..).trans e
      · refine view_ite (F := State.fixed) ((State.stageLow_fixed ..).trans e) ?_
        exact (Out.state_fixed _ _ (execHintApply_fixed ..)).trans e
      · exact (State.wr_fixed ..).trans e
      · exact e
  · have e1 : (t.wordParity b).fixed = s.fixed := (State.wordParity_fixed ..).trans e
    generalize t.wordParity b = u at e1 ⊢
    refine view_ite (F := State.fixed) ((State.ctrlWrite_fixed ..).trans e1) ?_
    refine view_ite (F := State.fixed) ((State.commitWrite_fixed ..).trans e1) ?_
    refine view_ite (F := State.fixed) e1 ?_
    split
    · rename_i h
      exact (State.ownWrite_fixed (h := h) ..).trans e1
    · exact (State.blockWrite_fixed ..).trans ((State.plainWrite_fixed ..).trans e1)

/-! ## Machine/RegCmds.lean -/

theorem State.rawWrite_fixed (s : State) (ag : Agent) (a : Nat) (v : W32) : (State.rawWrite s ag a v).fixed = s.fixed := by simp only [State.rawWrite, State.busWrite_fixed, State.drain_fixed, State.regRefused_fixed, State.rfaPresent_fixed, fixed_ite_s, ite_self]

theorem execRegisterWrite_fixed (ag : Agent) (a : Fin 67108864) (v : W32) (s : State) : outFixed (execRegisterWrite ag a v s) = some s.fixed := by simp only [execRegisterWrite, outFixed_next, State.rawWrite_fixed]

theorem execCommit_fixed (ag : Agent) (page : Fin 16384) (guard : W32) (s : State) : outFixed (execCommit ag page guard s) = some s.fixed := by simp only [execCommit, outFixed_next, State.rawWrite_fixed]

theorem execCommitApply_fixed (page : Fin 16384) (s : State) : outFixed (execCommitApply page s) = some s.fixed := by simp only [execCommitApply, outFixed_next, State.commitApply_fixed]

theorem State.swapDone_fixed (s : State) (t : Nat) : (State.swapDone s t).fixed = s.fixed := by simp only [State.swapDone, State.fixed_mk, State.bumpSeq_fixed, fixed_ite_s, ite_self]

theorem execTableSwapDone_fixed (t : Fin 4) (s : State) : outFixed (execTableSwapDone t s) = some s.fixed := by simp only [execTableSwapDone, outFixed_next, State.swapDone_fixed]

theorem execTblSync_fixed (ag : Agent) (t : Fin 4) (s : State) : outFixed (execTblSync ag t s) = some s.fixed := by simp only [execTblSync, outFixed_next, State.regRefused_fixed, State.tblSync_fixed, ite_self, outFixed_ite_s]

theorem execTblSyncDone_fixed (t : Fin 4) (s : State) : outFixed (execTblSyncDone t s) = some s.fixed := by simp only [execTblSyncDone, outFixed_next, State.fixed_mk, State.commitGo_fixed, State.setFld_fixed, State.syncCopies_fixed, ite_self, outFixed_ite_s]

theorem execPairLowRead_fixed (ag : Agent) (a : Fin 67108864) (s : State) : outFixed (execPairLowRead ag a s) = some s.fixed := by simp only [execPairLowRead, outFixed_next, State.busRead_fixed, State.drain_fixed, State.regRefused_fixed, State.rfaPresent_fixed, ite_self, outFixed_ite_s]

theorem execPairHighWrite_fixed (ag : Agent) (a : Fin 67108864) (v : W32) (s : State) : outFixed (execPairHighWrite ag a v s) = some s.fixed := by simp only [execPairHighWrite, outFixed_next, State.rawWrite_fixed, ite_self, outFixed_ite_s]

theorem execPageEnableWrite_fixed (ag : Agent) (page : Fin 16384) (on : Bool) (s : State) : outFixed (execPageEnableWrite ag page on s) = some s.fixed := by simp only [execPageEnableWrite, outFixed_next, State.rawWrite_fixed]

theorem execSoftReset_fixed (ag : Agent) (page : Fin 16384) (s : State) : outFixed (execSoftReset ag page s) = some s.fixed := by simp only [execSoftReset, outFixed_next, State.rawWrite_fixed]

theorem execSoftResetDone_fixed (page : Fin 16384) (s : State) : outFixed (execSoftResetDone page s) = some s.fixed := (Eq.refl _).trans rfl

theorem execSleepAllowWrite_fixed (ag : Agent) (page : Fin 16384) (on : Bool) (s : State) : outFixed (execSleepAllowWrite ag page on s) = some s.fixed := by simp only [execSleepAllowWrite, outFixed_next, State.rawWrite_fixed]

theorem State.parityFail_fixed (s : State) (p : Nat) (off : Nat) : (State.parityFail s p off).fixed = s.fixed := by
  unfold State.parityFail
  split
  case h_2 => rfl
  rename_i b n _
  dsimp only
  have h0 : (if b.enableFixed then s else (s.instStop b n).setHdr b n F.HDR_CTRL_ENABLE (s.hdr b n F.HDR_CTRL_ENABLE)).fixed = s.fixed := by
    split
    · rfl
    · exact (State.setHdr_fixed ..).trans (State.instStop_fixed ..)
  generalize (if b.enableFixed then s else (s.instStop b n).setHdr b n F.HDR_CTRL_ENABLE (s.hdr b n F.HDR_CTRL_ENABLE)) = t at h0 ⊢
  have h1 : ((t.setHdr b n F.HDR_PAGE_PARITY_ERROR 1).setHdr b n F.HDR_PAGE_PARITY_OFFSET off).fixed = s.fixed :=
    ((State.setHdr_fixed ..).trans (State.setHdr_fixed ..)).trans h0
  generalize (t.setHdr b n F.HDR_PAGE_PARITY_ERROR 1).setHdr b n F.HDR_PAGE_PARITY_OFFSET off = t at h1 ⊢
  refine view_ite (F := State.fixed) ((State.selfFault_fixed ..).trans h1) ?_
  cases paritySrc b n with
  | none => exact h1
  | some src => exact (State.raise_fixed ..).trans h1

theorem execParitySweep_fixed (upset : Bool) (a : Fin 67108864) (part : Fin 3) (s : State) : outFixed (execParitySweep upset a part s) = some s.fixed := by simp only [execParitySweep, outFixed_next, State.fixed_mk, State.drain_fixed, State.parityFail_fixed, fixed_ite_s, foldl_fixed, implies_true, ite_self]

theorem State.rfaAnswer_fixed (s : State) (q : RegReq) (v : W32) : (State.rfaAnswer s q v).fixed = s.fixed := by
  unfold State.rfaAnswer
  repeat' first | rfl | (simp only [State.deviceDone_fixed, State.regWordDone_fixed]; done) | split

theorem State.rfaTake_fixed (s : State) (r : Nat) (q : RegReq) : (State.rfaTake s r q).fixed = s.fixed := by simp only [State.rfaTake, State.fixed_mk, State.count_fixed, State.setFld_fixed, fixed_ite_s, ite_self]

theorem State.rfaLose_fixed (s : State) (r : Nat) : (State.rfaLose s r).fixed = s.fixed := by simp only [State.rfaLose, State.fixed_mk, State.count_fixed]

theorem execRfaGrant_fixed (s : State) : outFixed (execRfaGrant s) = some s.fixed := by
  unfold execRfaGrant
  repeat' (first | with_reducible rfl | (simp only [*, outFixed_next, State.fixed_mk, State.busRead_fixed, State.busWrite_fixed, State.drain_fixed, State.rfaAnswer_fixed, State.rfaLose_fixed, State.rfaTake_fixed, foldl_fixed, implies_true, ite_self, outFixed_ite_s]; done) | (split <;> (try (rename_i h; have h2 := congrArg (fun p => State.fixed (Prod.snd p)) h; simp only [outFixed_next, State.fixed_mk, State.busRead_fixed, State.busWrite_fixed, State.drain_fixed, State.rfaAnswer_fixed, State.rfaLose_fixed, State.rfaTake_fixed, foldl_fixed, implies_true, ite_self, outFixed_ite_s] at h2))) | (refine (foldl_fixed _ ?_ _ _).trans ?_) | (simp only [outFixed_next, State.fixed_mk, State.busRead_fixed, State.busWrite_fixed, State.drain_fixed, State.rfaAnswer_fixed, State.rfaLose_fixed, State.rfaTake_fixed, foldl_fixed, implies_true, ite_self, outFixed_ite_s]; fail_if_success done) | (simp only [*, outFixed_next, State.fixed_mk, State.busRead_fixed, State.busWrite_fixed, State.drain_fixed, State.rfaAnswer_fixed, State.rfaLose_fixed, State.rfaTake_fixed, foldl_fixed, implies_true, ite_self, outFixed_ite_s]; fail_if_success done) | intro _)

theorem State.rfaMark_fixed (s : State) (r : Nat) (f : RegReq → RegReq) : (State.rfaMark s r f).fixed = s.fixed := by
  unfold State.rfaMark
  repeat' first | rfl | split

theorem execRfaWaitWarn_fixed (r : Fin 98) (s : State) : outFixed (execRfaWaitWarn r s) = some s.fixed := by
  unfold execRfaWaitWarn
  split <;> simp only [outFixed_next, State.raise_fixed, State.rfaMark_fixed, ite_self, outFixed_ite_s]

theorem execRfaHoldWarn_fixed (r : Fin 98) (s : State) : outFixed (execRfaHoldWarn r s) = some s.fixed := by
  unfold execRfaHoldWarn
  split <;> simp only [outFixed_next, State.raise_fixed, State.rfaMark_fixed, ite_self, outFixed_ite_s]

theorem execRegacc_fixed (op : Fin 4) (addr : W32) (data : W32) (s : State) : outFixed (execRegacc op addr data s) = some s.fixed := by simp only [execRegacc, outFixed_next, State.fixed_mk, State.regRefused_fixed, State.rfaPresent_fixed, ite_self, outFixed_ite_s]

theorem execTapReset_fixed (s : State) : outFixed (execTapReset s) = some s.fixed := (Eq.refl _).trans rfl

theorem execBoundaryScanUpdate_fixed (v : W64) (s : State) : outFixed (execBoundaryScanUpdate v s) = some s.fixed := (Eq.refl _).trans rfl

/-! ## Machine/BootCmds.lean -/

theorem State.seedPipes_fixed (s : State) : (State.seedPipes s).fixed = s.fixed := (Eq.refl _).trans rfl

theorem execResetHoldEnd_fixed (bootSel : Fin 4) (mgtMode : Bool) (failed : Byte) (s : State) : outFixed (execResetHoldEnd bootSel mgtMode failed s) = some s.fixed := by simp only [execResetHoldEnd, outFixed_next, State.fixed_mk, State.bootStart_fixed, State.drain_fixed, State.enterSync_fixed, State.raise_fixed, State.seedPipes_fixed, State.setFld_fixed, State.wr_fixed, fixed_ite_s, ite_self, outFixed_ite_s]

theorem State.cfgFail_fixed (s : State) : (State.cfgFail s).fixed = s.fixed := by simp only [State.cfgFail, State.raise_fixed, State.toHold_fixed]

theorem State.cfgCheck_fixed (s : State) : (State.cfgCheck s).fixed = s.fixed := by simp only [State.cfgCheck, State.cfgFail_fixed, fixed_ite_s, ite_self]

theorem State.cfgNext_fixed (s : State) (n : Nat) : (State.cfgNext s n).fixed = s.fixed := by simp only [State.cfgNext, State.cfgCheck_fixed, State.setSec_fixed, fixed_ite_s, ite_self]

theorem State.cfgGrant_fixed (s : State) : (State.cfgGrant s).fixed = s.fixed := by simp only [State.cfgGrant, State.count_fixed, State.setFld_fixed]

theorem execConfigEnd_fixed (s : State) : outFixed (execConfigEnd s) = some s.fixed := by simp only [execConfigEnd, outFixed_next, State.bootIdentity_fixed, ite_self, outFixed_ite_s]

theorem State.cfgWrite_fixed (s : State) (a : Nat) (v : W32) (t : State) (h : s.cfgWrite a v = some t) : t.fixed = s.fixed := by
  revert t
  show optFixed (s.cfgWrite a v) s.fixed
  unfold State.cfgWrite
  exact iteInduction (motive := fun o => optFixed o s.fixed) (fun _ => optFixed_none _)
    (fun _ => optFixed_some ((State.busWrite_fixed ..).trans (State.cfgGrant_fixed ..)))

theorem execConfigWrite_fixed (s : State) : outFixed (execConfigWrite s) = some s.fixed := by
  unfold execConfigWrite
  dsimp only
  refine view_ite (F := outFixed) rfl ?_
  refine view_ite (F := outFixed) (outFixed_of (State.wakePage_fixed ..)) ?_
  split
  · rename_i h
    exact outFixed_of ((State.drain_fixed ..).trans ((State.cfgNext_fixed ..).trans (State.cfgWrite_fixed (h := h) ..)))
  · exact outFixed_of (State.cfgFail_fixed ..)

theorem execConfigPoll_fixed (s : State) : outFixed (execConfigPoll s) = some s.fixed := by simp only [execConfigPoll, outFixed_next, State.busRead_fixed, State.cfgFail_fixed, State.cfgGrant_fixed, State.cfgNext_fixed, State.drain_fixed, State.wakePage_fixed, ite_self, outFixed_ite_s]

theorem execConfigPollTimeout_fixed (s : State) : outFixed (execConfigPollTimeout s) = some s.fixed := by simp only [execConfigPollTimeout, outFixed_next, State.cfgFail_fixed, ite_self, outFixed_ite_s]

theorem execConfigWait_fixed (s : State) : outFixed (execConfigWait s) = some s.fixed := by simp only [execConfigWait, outFixed_next, State.cfgNext_fixed, ite_self, outFixed_ite_s]

theorem State.fillWords_fixed (s : State) (a : Nat) (d : List Byte) (n : Nat) : (s.fillWords a d n).2.fixed = s.fixed := by
  induction n generalizing s a d with
  | zero => cases d <;> rfl
  | succ n ih =>
    unfold State.fillWords
    split
    · rfl
    · rename_i h
      exact (ih ..).trans (State.cfgWrite_fixed (h := h) ..)

theorem execConfigFill_fixed (s : State) : outFixed (execConfigFill s) = some s.fixed := by
  unfold execConfigFill
  repeat' (first | with_reducible rfl | (simp only [*, outFixed_next, State.fixed_mk, State.cfgFail_fixed, State.cfgNext_fixed, State.drain_fixed, State.fillWords_fixed, State.wakePage_fixed, outFixed_ite_s]; done) | (split <;> (try (rename_i h; have h2 := congrArg (fun p => State.fixed (Prod.snd p)) h; simp only [outFixed_next, State.fixed_mk, State.cfgFail_fixed, State.cfgNext_fixed, State.drain_fixed, State.fillWords_fixed, State.wakePage_fixed, outFixed_ite_s] at h2))) | (simp only [outFixed_next, State.fixed_mk, State.cfgFail_fixed, State.cfgNext_fixed, State.drain_fixed, State.fillWords_fixed, State.wakePage_fixed, outFixed_ite_s]; fail_if_success done) | (simp only [*, outFixed_next, State.fixed_mk, State.cfgFail_fixed, State.cfgNext_fixed, State.drain_fixed, State.fillWords_fixed, State.wakePage_fixed, outFixed_ite_s]; fail_if_success done) | intro _)

theorem State.bootKeeper_fixed (s : State) : (State.bootKeeper s).fixed = s.fixed := by simp only [State.bootKeeper, State.bootTo_fixed, State.setMeas_fixed, State.setSec_fixed, State.toHold_fixed, fixed_ite_s, ite_self]

theorem State.bootHbm_fixed (s : State) : (State.bootHbm s).fixed = s.fixed := by simp only [State.bootHbm, State.fixed_mk, State.bootTo_fixed, State.setEng_fixed, State.setFld_fixed, fixed_ite_s, foldl_fixed, implies_true, ite_self]

theorem State.cfgStart_fixed (s : State) : (State.cfgStart s).fixed = s.fixed := by simp only [State.cfgStart, State.cfgCheck_fixed, State.setSec_fixed]

theorem execBootStageComplete_fixed (failed : Bool) (s : State) : outFixed (execBootStageComplete failed s) = some s.fixed := by
  unfold execBootStageComplete
  repeat' (first | with_reducible rfl | (simp only [*, outFixed_next, State.fixed_mk, State.bodyCheck_fixed, State.bootChain_fixed, State.bootHbm_fixed, State.bootIdentity_fixed, State.bootKeeper_fixed, State.bootRun_fixed, State.bootTo_fixed, State.cfgStart_fixed, State.drain_fixed, State.hbmPut_fixed, State.imgMissing_fixed, State.setSec_fixed, State.toHold_fixed, ite_self, outFixed_ite_s]; done) | (split <;> (try (rename_i h; have h2 := congrArg (fun p => State.fixed (Prod.snd p)) h; simp only [outFixed_next, State.fixed_mk, State.bodyCheck_fixed, State.bootChain_fixed, State.bootHbm_fixed, State.bootIdentity_fixed, State.bootKeeper_fixed, State.bootRun_fixed, State.bootTo_fixed, State.cfgStart_fixed, State.drain_fixed, State.hbmPut_fixed, State.imgMissing_fixed, State.setSec_fixed, State.toHold_fixed, ite_self, outFixed_ite_s] at h2))) | (simp only [outFixed_next, State.fixed_mk, State.bodyCheck_fixed, State.bootChain_fixed, State.bootHbm_fixed, State.bootIdentity_fixed, State.bootKeeper_fixed, State.bootRun_fixed, State.bootTo_fixed, State.cfgStart_fixed, State.drain_fixed, State.hbmPut_fixed, State.imgMissing_fixed, State.setSec_fixed, State.toHold_fixed, ite_self, outFixed_ite_s]; fail_if_success done) | (simp only [*, outFixed_next, State.fixed_mk, State.bodyCheck_fixed, State.bootChain_fixed, State.bootHbm_fixed, State.bootIdentity_fixed, State.bootKeeper_fixed, State.bootRun_fixed, State.bootTo_fixed, State.cfgStart_fixed, State.drain_fixed, State.hbmPut_fixed, State.imgMissing_fixed, State.setSec_fixed, State.toHold_fixed, ite_self, outFixed_ite_s]; fail_if_success done) | intro _)

/-! ## Machine/LoadReports.lean -/

theorem State.loadReportRound_fixed (s : State) : (State.loadReportRound s).fixed = s.fixed := by simp only [State.loadReportRound, State.fixed_mk, State.sendBuilt_fixed, fixed_ite_s, foldl_fixed, implies_true, ite_self]

theorem State.applyLevel_fixed (s : State) (reporter : Nat) (c : Nat) (level : Nat) : (State.applyLevel s reporter c level).fixed = s.fixed := by simp only [State.applyLevel, State.fixed_mk, fixed_ite_s, ite_self]

theorem State.loadReport_fixed (s : State) (p : List Byte) : (State.loadReport s p).fixed = s.fixed := by simp only [State.loadReport, State.applyLevel_fixed, State.count_fixed, fixed_ite_s, foldl_fixed, implies_true, ite_self]

theorem execLoadReportRound_fixed (s : State) : outFixed (execLoadReportRound s) = some s.fixed := by simp only [execLoadReportRound, outFixed_next, State.loadReportRound_fixed]

theorem execLoadReportReceive_fixed (s : State) : outFixed (execLoadReportReceive s) = some s.fixed := by
  unfold execLoadReportReceive
  repeat' (first | with_reducible rfl | (simp only [*, outFixed_next, State.fixed_mk, State.loadReport_fixed, State.takeOpc_fixed]; done) | (split <;> (try (rename_i h; have h2 := congrArg (fun p => State.fixed (Prod.snd p)) h; simp only [outFixed_next, State.fixed_mk, State.loadReport_fixed, State.takeOpc_fixed] at h2))))

theorem execFailedMarkExpire_fixed (dest : Fin 16384) (cand : Fin 16) (s : State) : outFixed (execFailedMarkExpire dest cand s) = some s.fixed := (Eq.refl _).trans rfl

theorem execRouInjectTblEcc_fixed (s : State) : outFixed (execRouInjectTblEcc s) = some s.fixed := by simp only [execRouInjectTblEcc, outFixed_next, State.setArmed_fixed]

theorem execTreInjectTblEcc_fixed (s : State) : outFixed (execTreInjectTblEcc s) = some s.fixed := by simp only [execTreInjectTblEcc, outFixed_next, State.setArmed_fixed]

end Sys2Proof.Machine
end

