-- ==== Sys2Proof/Laws/Harts.lean ====
section
/-!
SUPPORT. The laws of harts: what a hart's record holds after it is written, what counting an event and retiring an instruction leave
alone, and register x0.
-/
namespace Sys2Proof.Machine

/-! ## A hart's record in the state -/

theorem State.hart_setHart_self (s : State) (h : Nat) (x : Hart) : (s.setHart h x).hart h = { x with used := 0 } := by
  unfold State.setHart
  split
  · rename_i hu
    cases x; cases hu
    simp [State.putHart, State.hart, State.setEng, mget_mput_self]
  · simp [State.hart, State.putHart, mget_mput_self]

theorem State.hart_setHart_ne (s : State) {h g : Nat} (x : Hart) (hg : g ≠ h) : (s.setHart h x).hart g = s.hart g := by
  unfold State.setHart
  split
  · exact mget_mput_ne _ _ _ _ hg
  · simp [State.hart, State.putHart, mget_mput_ne _ _ _ _ hg]

/-! ## Counting an event changes control and status registers only -/

theorem Hart.countEv_other (h : Hart) (code k : Nat) : ∃ m, h.countEv code k = { h with csr := m } := by
  unfold Hart.countEv
  dsimp only
  generalize (if h.priv = 3 then 62 else if h.priv = 1 then 61 else 60) = mode
  generalize ([3, 4, 5, 6, 7, 8, 9, 10] : List Nat) = l
  suffices ∀ x : Hart, (∃ m, x = { h with csr := m }) → ∃ m, l.foldl (fun (x : Hart) i =>
    let sel := x.c (0x320 + i)
    if bits sel 0 16 ≠ code ∨ code = 0 ∨ microEvent sel ∨ bitAt (x.c 0x320) i ∨ bitAt sel mode then x
    else
      let v := (x.c (0xB00 + i)).toNat + k
      let x := x.setC (0xB00 + i) (BitVec.ofNat 64 v)
      if v < 2 ^ 64 then x else x.setC (0x320 + i) (setBits sel 63 1 1)) x = { h with csr := m } from this h ⟨h.csr, rfl⟩
  induction l with
  | nil => exact fun x hx => hx
  | cons i l ih =>
    intro x hx
    rw [List.foldl_cons]
    apply ih
    obtain ⟨m, rfl⟩ := hx
    dsimp only
    split
    · exact ⟨m, rfl⟩
    · split
      · exact ⟨_, rfl⟩
      · exact ⟨_, rfl⟩

/-- A retired instruction leaves everything but the pc, the wait, the issue slots and the control and status registers. -/
theorem Hart.retire_other (h : Hart) (npc : W64) : ∃ m u, h.retire npc = { h with wait := none, pc := npc, used := u, csr := m } := by
  unfold Hart.retire
  obtain ⟨m, hm⟩ := Hart.countEv_other { h with wait := none, pc := npc, used := h.used + 1 } 0x0002 1
  obtain ⟨m', hm'⟩ := Hart.countEv_other (({ h with wait := none, pc := npc, used := h.used + 1 } : Hart).countEv 0x0002 1) 0x0010 1
  dsimp only
  rw [hm', hm]
  split
  · exact ⟨m', _, rfl⟩
  · exact ⟨_, _, rfl⟩

@[simp] theorem Hart.retire_pc (h : Hart) (npc : W64) : (h.retire npc).pc = npc := by obtain ⟨m, u, e⟩ := h.retire_other npc; rw [e]
@[simp] theorem Hart.retire_x (h : Hart) (npc : W64) : (h.retire npc).x = h.x := by obtain ⟨m, u, e⟩ := h.retire_other npc; rw [e]
@[simp] theorem Hart.retire_priv (h : Hart) (npc : W64) : (h.retire npc).priv = h.priv := by obtain ⟨m, u, e⟩ := h.retire_other npc; rw [e]
@[simp] theorem Hart.retire_frames (h : Hart) (npc : W64) : (h.retire npc).frames = h.frames := by obtain ⟨m, u, e⟩ := h.retire_other npc; rw [e]
@[simp] theorem Hart.retire_resv (h : Hart) (npc : W64) : (h.retire npc).resv = h.resv := by obtain ⟨m, u, e⟩ := h.retire_other npc; rw [e]
@[simp] theorem Hart.retire_sb (h : Hart) (npc : W64) : (h.retire npc).sb = h.sb := by obtain ⟨m, u, e⟩ := h.retire_other npc; rw [e]

/-! ## Registers -/

@[simp] theorem Hart.c_setC_self (h : Hart) (a : Nat) (v : W64) : (h.setC a v).c a = v := mget_mput_self ..
theorem Hart.c_setC_ne (h : Hart) {a b : Nat} (v : W64) (hb : b ≠ a) : (h.setC a v).c b = h.c b := mget_mput_ne _ _ _ _ hb
@[simp] theorem Hart.wx_zero (h : Hart) (v : W64) : h.wx 0 v = h := rfl
theorem Hart.rx_wx_self (h : Hart) {r : Nat} (v : W64) (hr : r ≠ 0) : (h.wx r v).rx r = v := by
  simp [Hart.wx, Hart.rx, hr, mget_mput_self]
theorem Hart.rx_wx_ne (h : Hart) {r q : Nat} (v : W64) (hq : q ≠ r) : (h.wx r v).rx q = h.rx q := by
  unfold Hart.wx Hart.rx
  split
  · rfl
  · split
    · rfl
    · exact mget_mput_ne _ _ _ _ hq

end Sys2Proof.Machine
end

