-- ==== Sys2Proof/Laws/Memory.lean ====
section
/-!
SUPPORT. The laws of the block's addressed memories, HBM and the boot flash: every operation keeps the canonical form; a byte that is
written reads as written, and every other byte as before.
-/
namespace Sys2Proof.Machine

/-- Bytes put one after the other, from `a + o` on. -/
theorem putRun_get (z : Byte) (a : Nat) (d : List Byte) (o : Nat) (m : SMap Byte) (k : Nat) :
    mget z ((d.zipIdx o).foldl (fun m e => mput z m (a + e.2) e.1) m) k =
      if a + o ≤ k ∧ k < a + o + d.length then d.getD (k - (a + o)) 0#8 else mget z m k := by
  induction d generalizing o m with
  | nil =>
    simp only [List.zipIdx_nil, List.foldl_nil, List.length_nil, Nat.add_zero]
    rw [if_neg (by omega)]
  | cons x d ih =>
    simp only [List.zipIdx_cons, List.foldl_cons, ih, List.length_cons]
    by_cases h : k = a + o
    · subst h
      rw [if_neg (by omega), if_pos (by omega), mget_mput_self]; simp
    · by_cases h2 : a + (o + 1) ≤ k ∧ k < a + (o + 1) + d.length
      · rw [if_pos h2, if_pos (by omega)]
        obtain ⟨j, hj⟩ : ∃ j, k - (a + o) = j + 1 := ⟨k - (a + o) - 1, by omega⟩
        rw [hj, List.getD_cons_succ]; congr 1; omega
      · rw [if_neg h2, if_neg (by omega), mget_mput_ne _ _ _ _ h]

theorem putRun_wf (z : Byte) (a : Nat) (l : List (Byte × Nat)) (m : SMap Byte) (h : mwf (fun _ => z) m = true) :
    mwf (fun _ => z) (l.foldl (fun m e => mput z m (a + e.2) e.1) m) = true := by
  induction l generalizing m with
  | nil => exact h
  | cons e l ih => exact ih _ (mput_wf (fun _ => z) m _ _ h)

/-! ## HBM -/

/-- A write to HBM keeps the canonical form. -/
theorem State.hbmPut_wf (s : State) (a : Nat) (d : List Byte) (h : Memory.wf s.eng.mem = true) : Memory.wf (s.hbmPut a d).eng.mem = true :=
  putRun_wf 0#8 a _ _ h

/-- What a byte of HBM reads as after a write. -/
theorem State.hbmPut_get (s : State) (a : Nat) (d : List Byte) (k : Nat) :
    mget 0#8 (s.hbmPut a d).eng.mem k = if a ≤ k ∧ k < a + d.length then d.getD (k - a) 0#8 else mget 0#8 s.eng.mem k := by
  have h := putRun_get 0#8 a d 0 s.eng.mem k
  rw [List.zipIdx_eq_zip_range'] at h
  simpa [State.hbmPut, State.setEng, List.range_eq_range'] using h

/-- HBM after reset has the canonical form. -/
theorem reset_mem_wf : Memory.wf State.reset.eng.mem = true := rfl

/-! ## The boot flash -/

/-- A write to the flash keeps the canonical form: an erased byte reads 0xFF and is not listed. -/
theorem State.flashPut_wf (s : State) (a : Nat) (d : List Byte) (h : mwf (fun _ => 0xFF#8) s.sec.flash = true) :
    mwf (fun _ => 0xFF#8) (s.flashPut a d).sec.flash = true := putRun_wf 0xFF#8 a _ _ h

/-- What a byte of the flash reads as after a write. -/
theorem State.flashPut_get (s : State) (a : Nat) (d : List Byte) (k : Nat) :
    mget 0xFF#8 (s.flashPut a d).sec.flash k = if a ≤ k ∧ k < a + d.length then d.getD (k - a) 0#8 else mget 0xFF#8 s.sec.flash k := by
  simpa [State.flashPut, State.setSec] using putRun_get 0xFF#8 a d 0 s.sec.flash k

end Sys2Proof.Machine
end

