-- ==== Sys2Proof/Laws/Steps.lean ====
section
/-!
SUPPORT. What every command leaves alone: all but the ends of a fuse and of a flash command leave the queue, the fuses and the flash
as they are, and every command answers a next state.
-/
namespace Sys2Proof.Machine

set_option linter.all false

theorem exec_fixed (c : Instr) (s : State) (h1 : ∀ b, c ≠ .fuseCmdDone b) (h2 : ∀ b, c ≠ .flashCmdDone b) :
    outFixed (exec c s) = some s.fixed := by
  cases c with
  | registerWrite ag a v => exact execRegisterWrite_fixed ..
  | commit ag page guard => exact execCommit_fixed ..
  | commitApply page => exact execCommitApply_fixed ..
  | tableSwapDone t => exact execTableSwapDone_fixed ..
  | tblSync ag t => exact execTblSync_fixed ..
  | tblSyncDone t => exact execTblSyncDone_fixed ..
  | pairLowRead ag a => exact execPairLowRead_fixed ..
  | pairHighWrite ag a v => exact execPairHighWrite_fixed ..
  | pageEnableWrite ag page on => exact execPageEnableWrite_fixed ..
  | softReset ag page => exact execSoftReset_fixed ..
  | softResetDone page => exact execSoftResetDone_fixed ..
  | sleepAllowWrite ag page on => exact execSleepAllowWrite_fixed ..
  | paritySweep upset a part => exact execParitySweep_fixed ..
  | regacc op addr data => exact execRegacc_fixed ..
  | packetHeaderArrive l => exact execPacketHeaderArrive_fixed ..
  | packetTransmitStart l => exact execPacketTransmitStart_fixed ..
  | packetTailArrive l => exact execPacketTailArrive_fixed ..
  | packetTransmitEnd l => exact execPacketTransmitEnd_fixed ..
  | fenceRelease chan => exact execFenceRelease_fixed ..
  | fwdInjectBufEcc t => exact execFwdInjectBufEcc_fixed ..
  | fwdInjectE2e t => exact execFwdInjectE2e_fixed ..
  | fwdInjectHchk t => exact execFwdInjectHchk_fixed ..
  | schSelect k => exact execSchSelect_fixed ..
  | loadReportRound => exact execLoadReportRound_fixed ..
  | loadReportReceive => exact execLoadReportReceive_fixed ..
  | routeErrorReceive => exact execRouteErrorReceive_fixed ..
  | failedMarkExpire dest cand => exact execFailedMarkExpire_fixed ..
  | rouInjectTblEcc => exact execRouInjectTblEcc_fixed ..
  | treInjectTblEcc => exact execTreInjectTblEcc_fixed ..
  | flitSend l => exact execFlitSend_fixed ..
  | flitReceive l content corrected uncorrectable => exact execFlitReceive_fixed ..
  | linkAckTimer l => exact execLinkAckTimer_fixed ..
  | linkAckReceive l => exact execLinkAckReceive_fixed ..
  | replayReqReceive l => exact execReplayReqReceive_fixed ..
  | replayWaitTimeout l => exact execReplayWaitTimeout_fixed ..
  | replayTimeout l => exact execReplayTimeout_fixed ..
  | spillReadDone l => exact execSpillReadDone_fixed ..
  | creditLimitReceive l => exact execCreditLimitReceive_fixed ..
  | creditRefresh l => exact execCreditRefresh_fixed ..
  | creditStall l pool => exact execCreditStall_fixed ..
  | ctStallExpire l => exact execCtStallExpire_fixed ..
  | linkParamSend l => exact execLinkParamSend_fixed ..
  | linkParamReceive l => exact execLinkParamReceive_fixed ..
  | linkStateReceive l => exact execLinkStateReceive_fixed ..
  | echoReqSend l => exact execEchoReqSend_fixed ..
  | echoReqReceive l => exact execEchoReqReceive_fixed ..
  | echoRspReceive l => exact execEchoRspReceive_fixed ..
  | sleepIdleExpire l => exact execSleepIdleExpire_fixed ..
  | sleepReqReceive l => exact execSleepReqReceive_fixed ..
  | sleepAckReceive l => exact execSleepAckReceive_fixed ..
  | linkEnable l => exact execLinkEnable_fixed ..
  | linkDisable l => exact execLinkDisable_fixed ..
  | teardownDrainEnd l => exact execTeardownDrainEnd_fixed ..
  | teardownTimeout l => exact execTeardownTimeout_fixed ..
  | bringupStepTimeout l => exact execBringupStepTimeout_fixed ..
  | laneSignalLoss lane => exact execLaneSignalLoss_fixed ..
  | deadTimeExpire l => exact execDeadTimeExpire_fixed ..
  | downHoldExpire l => exact execDownHoldExpire_fixed ..
  | linkWakeDone l => exact execLinkWakeDone_fixed ..
  | wakeRelockTimeout l => exact execWakeRelockTimeout_fixed ..
  | laneWakeDetect lane => exact execLaneWakeDetect_fixed ..
  | lnkInjectForceDown l => exact execLnkInjectForceDown_fixed ..
  | lnkInjectBadFlit l => exact execLnkInjectBadFlit_fixed ..
  | lnkInjectSymbol l => exact execLnkInjectSymbol_fixed ..
  | receiverDetect lane present => exact execReceiverDetect_fixed ..
  | pllLock tile group => exact execPllLock_fixed ..
  | trainingFrameSend lane req adapted => exact execTrainingFrameSend_fixed ..
  | trainingFrameReceive lane raw slip loss skew => exact execTrainingFrameReceive_fixed ..
  | prbsIntervalEnd lane errors checked => exact execPrbsIntervalEnd_fixed ..
  | laneTrainTimeout l => exact execLaneTrainTimeout_fixed ..
  | groupPllUnlock tile group => exact execGroupPllUnlock_fixed ..
  | srdTestWrite lane off v => exact execSrdTestWrite_fixed ..
  | srdInjectBit lane => exact execSrdInjectBit_fixed ..
  | srdInjectBurst lane => exact execSrdInjectBurst_fixed ..
  | timeExchangeStart l => exact execTimeExchangeStart_fixed ..
  | syncReceive l => exact execSyncReceive_fixed ..
  | syncHiReceive l => exact execSyncHiReceive_fixed ..
  | delayReqReceive l => exact execDelayReqReceive_fixed ..
  | delayRspReceive l => exact execDelayRspReceive_fixed ..
  | exchangeTimeout => exact execExchangeTimeout_fixed ..
  | holdoverExpire => exact execHoldoverExpire_fixed ..
  | ppsInEdge => exact execPpsInEdge_fixed ..
  | timeSetWrite ag hi => exact execTimeSetWrite_fixed ..
  | timeAdjWrite ns => exact execTimeAdjWrite_fixed ..
  | ppsOutAssert => exact execPpsOutAssert_fixed ..
  | ppsOutDeassert => exact execPpsOutDeassert_fixed ..
  | windowOpen l e => exact execWindowOpen_fixed ..
  | windowClose l e => exact execWindowClose_fixed ..
  | viaductEligible => exact execViaductEligible_fixed ..
  | viaDataReceive => exact execViaDataReceive_fixed ..
  | viaSetupStart v => exact execViaSetupStart_fixed ..
  | viaSetupReceive => exact execViaSetupReceive_fixed ..
  | viaSetupTimeout v => exact execViaSetupTimeout_fixed ..
  | viaTeardownReceive => exact execViaTeardownReceive_fixed ..
  | viaTeardownForward v => exact execViaTeardownForward_fixed ..
  | viaTableSwap => exact execViaTableSwap_fixed ..
  | viaInjectWindowSkip => exact execViaInjectWindowSkip_fixed ..
  | viaInjectTimeErr => exact execViaInjectTimeErr_fixed ..
  | collContribReceive => exact execCollContribReceive_fixed ..
  | collPartialExactReceive => exact execCollPartialExactReceive_fixed ..
  | collPartialOrderedReceive => exact execCollPartialOrderedReceive_fixed ..
  | collResultReceive => exact execCollResultReceive_fixed ..
  | collBcastReceive => exact execCollBcastReceive_fixed ..
  | collGatherReceive => exact execCollGatherReceive_fixed ..
  | barrierUpReceive => exact execBarrierUpReceive_fixed ..
  | barrierDownReceive => exact execBarrierDownReceive_fixed ..
  | collRepullReceive => exact execCollRepullReceive_fixed ..
  | abacusCtrlReceive => exact execAbacusCtrlReceive_fixed ..
  | windowFillDone tree inst chunk => exact execWindowFillDone_fixed ..
  | windowSpaceFree n => exact execWindowSpaceFree_fixed ..
  | windowStallTimeout tree inst chunk => exact execWindowStallTimeout_fixed ..
  | repullTimeout tree inst chunk bar => exact execRepullTimeout_fixed ..
  | resultRepullTimeout tree inst chunk bar => exact execResultRepullTimeout_fixed ..
  | retainExpire tree inst chunk bar => exact execRetainExpire_fixed ..
  | tombstoneExpire tree inst chunk bar => exact execTombstoneExpire_fixed ..
  | bcastSourceComplete tag => exact execBcastSourceComplete_fixed ..
  | gatherResendTimeout tag chunk => exact execGatherResendTimeout_fixed ..
  | abcInjectFillEcc n => exact execAbcInjectFillEcc_fixed ..
  | abcInjectBeadEcc n => exact execAbcInjectBeadEcc_fixed ..
  | abcInjectResidue n => exact execAbcInjectResidue_fixed ..
  | treCollInjectDropUp => exact execTreCollInjectDropUp_fixed ..
  | hostPortEnable n => exact execHostPortEnable_fixed ..
  | hostPortActive n cr => exact execHostPortActive_fixed ..
  | hostPortTrainTimeout n negotiated => exact execHostPortTrainTimeout_fixed ..
  | hostPortRestart n => exact execHostPortRestart_fixed ..
  | hostPortFault n remote => exact execHostPortFault_fixed ..
  | ethFrameReceive n frame => exact execEthFrameReceive_fixed ..
  | pfcFrameReceive n => exact execPfcFrameReceive_fixed ..
  | pauseFrameReceive n => exact execPauseFrameReceive_fixed ..
  | pauseTimerExpire n timer => exact execPauseTimerExpire_fixed ..
  | pfcXoffRepeat n => exact execPfcXoffRepeat_fixed ..
  | saInstall n => exact execSaInstall_fixed ..
  | tsTimePop n => exact execTsTimePop_fixed ..
  | hptInjectFecSymbol n => exact execHptInjectFecSymbol_fixed ..
  | hptInjectFcs n => exact execHptInjectFcs_fixed ..
  | spanFrameReceive n => exact execSpanFrameReceive_fixed ..
  | doorbell n => exact execDoorbell_fixed ..
  | doorbellInline n => exact execDoorbellInline_fixed ..
  | memRdData n => exact execMemRdData_fixed ..
  | memWrAck n => exact execMemWrAck_fixed ..
  | regRd n => exact execRegRd_fixed ..
  | regWr n => exact execRegWr_fixed ..
  | spanAck n => exact execSpanAck_fixed ..
  | spanNak n => exact execSpanNak_fixed ..
  | spnEnableWrite n on => exact execSpnEnableWrite_fixed ..
  | sessionResync n => exact execSessionResync_fixed ..
  | syncResend n => exact execSyncResend_fixed ..
  | spanRtoExpire n seq => exact execSpanRtoExpire_fixed ..
  | spanAckDelay n => exact execSpanAckDelay_fixed ..
  | memRdTimeout n id => exact execMemRdTimeout_fixed ..
  | landingTimeout n seq => exact execLandingTimeout_fixed ..
  | sessionHoldExpire n => exact execSessionHoldExpire_fixed ..
  | eventGatherSend => exact execEventGatherSend_fixed ..
  | spnInjectDropAck n => exact execSpnInjectDropAck_fixed ..
  | spnInjectDropRx n => exact execSpnInjectDropRx_fixed ..
  | spnInjectDropTx n => exact execSpnInjectDropTx_fixed ..
  | descriptorFetch ctx => exact execDescriptorFetch_fixed ..
  | cqHeadPoll ctx => exact execCqHeadPoll_fixed ..
  | pad ctx => exact execPad_fixed ..
  | nop tag => exact execNop_fixed ..
  | send tag => exact execSend_fixed ..
  | recv tag => exact execRecv_fixed ..
  | put tag => exact execPut_fixed ..
  | putNotify tag => exact execPutNotify_fixed ..
  | get tag => exact execGet_fixed ..
  | atomic tag => exact execAtomic_fixed ..
  | collReduce tag => exact execCollReduce_fixed ..
  | collBcast tag => exact execCollBcast_fixed ..
  | collGather tag => exact execCollGather_fixed ..
  | barrier tag => exact execBarrier_fixed ..
  | viaduct tag => exact execViaduct_fixed ..
  | ctxInit tag => exact execCtxInit_fixed ..
  | ctxEnable tag => exact execCtxEnable_fixed ..
  | ctxDisable tag => exact execCtxDisable_fixed ..
  | ctxReset tag => exact execCtxReset_fixed ..
  | ctxResetTimeout ctx => exact execCtxResetTimeout_fixed ..
  | ctxRead tag => exact execCtxRead_fixed ..
  | spaceSet tag => exact execSpaceSet_fixed ..
  | regionSet tag => exact execRegionSet_fixed ..
  | regionRevoke tag => exact execRegionRevoke_fixed ..
  | revokeComplete => exact execRevokeComplete_fixed ..
  | xltInval tag => exact execXltInval_fixed ..
  | mringEnable on => exact execMringEnable_fixed ..
  | ctgInjectFetchErr g => exact execCtgInjectFetchErr_fixed ..
  | ctgInjectMalformed g => exact execCtgInjectMalformed_fixed ..
  | sendEagerReceive => exact execSendEagerReceive_fixed ..
  | sendRtsReceive => exact execSendRtsReceive_fixed ..
  | sendFinReceive => exact execSendFinReceive_fixed ..
  | sendCancelReceive => exact execSendCancelReceive_fixed ..
  | postedReceiveRoom n => exact execPostedReceiveRoom_fixed ..
  | hookRecordPush n => exact execHookRecordPush_fixed ..
  | matInjectStateEcc n => exact execMatInjectStateEcc_fixed ..
  | putReceive => exact execPutReceive_fixed ..
  | putNotifyReceive => exact execPutNotifyReceive_fixed ..
  | getReqReceive => exact execGetReqReceive_fixed ..
  | getRspReceive => exact execGetRspReceive_fixed ..
  | atomicReceive => exact execAtomicReceive_fixed ..
  | atomicRspReceive => exact execAtomicRspReceive_fixed ..
  | accessNakReceive => exact execAccessNakReceive_fixed ..
  | ackReceive => exact execAckReceive_fixed ..
  | relAckDelay chan => exact execRelAckDelay_fixed ..
  | retransmitTimeout chan seq => exact execRetransmitTimeout_fixed ..
  | channelEntryFree => exact execChannelEntryFree_fixed ..
  | sendHalfReset chan => exact execSendHalfReset_fixed ..
  | receiveHalfReset chan => exact execReceiveHalfReset_fixed ..
  | respHoldExpire chan seq => exact execRespHoldExpire_fixed ..
  | refuseHoldExpire chan seq => exact execRefuseHoldExpire_fixed ..
  | parkTimeout rel slot => exact execParkTimeout_fixed ..
  | suspendLimitExpire chan seq => exact execSuspendLimitExpire_fixed ..
  | relInjectRespEcc n => exact execRelInjectRespEcc_fixed ..
  | relInjectDropAck n => exact execRelInjectDropAck_fixed ..
  | relInjectDropRx n => exact execRelInjectDropRx_fixed ..
  | walkStepRead n i => exact execWalkStepRead_fixed ..
  | localTimeoutExpire tag => exact execLocalTimeoutExpire_fixed ..
  | xltInvStart n => exact execXltInvStart_fixed ..
  | invalidationComplete n => exact execInvalidationComplete_fixed ..
  | pteStore ag n hi => exact execPteStore_fixed ..
  | pteDataRead ag n => exact execPteDataRead_fixed ..
  | xltInjectTcacheEcc n => exact execXltInjectTcacheEcc_fixed ..
  | xltInjectWalkErr n => exact execXltInjectWalkErr_fixed ..
  | hartInstruction h => exact execHartInstruction_fixed ..
  | fence h => exact execFence_fixed ..
  | lr h => exact execLr_fixed ..
  | sc h => exact execSc_fixed ..
  | amo h => exact execAmo_fixed ..
  | deviceAccess h => exact execDeviceAccess_fixed ..
  | hostAccess h => exact execHostAccess_fixed ..
  | lq h => exact execLq_fixed ..
  | sq h => exact execSq_fixed ..
  | lkacq h => exact execLkacq_fixed ..
  | lkacqTry h => exact execLkacqTry_fixed ..
  | lkrel h => exact execLkrel_fixed ..
  | qpushD h => exact execQpushD_fixed ..
  | qpushQ h => exact execQpushQ_fixed ..
  | qpop h => exact execQpop_fixed ..
  | mprb h => exact execMprb_fixed ..
  | waitq h => exact execWaitq_fixed ..
  | fenceEp h => exact execFenceEp_fixed ..
  | evsig h => exact execEvsig_fixed ..
  | hret h => exact execHret_fixed ..
  | ftcmpEvent h => exact execFtcmpEvent_fixed ..
  | hartWarmReset c hart => exact execHartWarmReset_fixed ..
  | clusterWarmReset c => exact execClusterWarmReset_fixed ..
  | clusterFaultReset c => exact execClusterFaultReset_fixed ..
  | resetDrainDone c => exact execResetDrainDone_fixed ..
  | drainTimeout c => exact execDrainTimeout_fixed ..
  | hartRunWrite c i v => exact execHartRunWrite_fixed ..
  | engInjectStateEcc c => exact execEngInjectStateEcc_fixed ..
  | engInjectDrainStall c => exact execEngInjectDrainStall_fixed ..
  | fetchSh c line => exact execFetchSh_fixed ..
  | fetchEx c line => exact execFetchEx_fixed ..
  | promote c line => exact execPromote_fixed ..
  | retire c line => exact execRetire_fixed ..
  | ioRead p line => exact execIoRead_fixed ..
  | ioWrite p line off data => exact execIoWrite_fixed ..
  | probeSh c line => exact execProbeSh_fixed ..
  | probeEx c line => exact execProbeEx_fixed ..
  | probeKill c line => exact execProbeKill_fixed ..
  | fill agent line => exact execFill_fixed ..
  | grant agent line => exact execGrant_fixed ..
  | none c line => exact execNone_fixed ..
  | probeAck c line => exact execProbeAck_fixed ..
  | clean c line => exact execClean_fixed ..
  | dirty c line => exact execDirty_fixed ..
  | reservationDeferEnd h => exact execReservationDeferEnd_fixed ..
  | poisonCtrlMark h => exact execPoisonCtrlMark_fixed ..
  | poisonCtrlClear h => exact execPoisonCtrlClear_fixed ..
  | lckClrGo => exact execLckClrGo_fixed ..
  | hbmScrub n line => exact execHbmScrub_fixed ..
  | selfRefreshEntry n => exact execSelfRefreshEntry_fixed ..
  | selfRefreshExit n failed => exact execSelfRefreshExit_fixed ..
  | homInjectSfEcc h => exact execHomInjectSfEcc_fixed ..
  | hbmInjectCorr n => exact execHbmInjectCorr_fixed ..
  | hbmInjectUncorr n => exact execHbmInjectUncorr_fixed ..
  | lckInjectEntryEcc => exact execLckInjectEntryEcc_fixed ..
  | scoreSample => exact execScoreSample_fixed ..
  | migrationCheck => exact execMigrationCheck_fixed ..
  | migrate ctx cluster => exact execMigrate_fixed ..
  | hintApply ag ctx hi => exact execHintApply_fixed ..
  | handlerDone tag cancel => exact execHandlerDone_fixed ..
  | handlerTimeout tag => exact execHandlerTimeout_fixed ..
  | plcInjectSteerEcc => exact execPlcInjectSteerEcc_fixed ..
  | shaperRefill k => exact execShaperRefill_fixed ..
  | policerRefill k => exact execPolicerRefill_fixed ..
  | schInjectQstateEcc k => exact execSchInjectQstateEcc_fixed ..
  | rfaGrant => exact execRfaGrant_fixed ..
  | rfaWaitWarn r => exact execRfaWaitWarn_fixed ..
  | rfaHoldWarn r => exact execRfaHoldWarn_fixed ..
  | keystoneEvent src kind detail => exact execKeystoneEvent_fixed ..
  | reactionTimerExpire => exact execReactionTimerExpire_fixed ..
  | heartbeat src => exact execHeartbeat_fixed ..
  | heartbeatLost src odd => exact execHeartbeatLost_fixed ..
  | progressStall point unit index => exact execProgressStall_fixed ..
  | logHeadWrite ag v => exact execLogHeadWrite_fixed ..
  | logRead ag slot => exact execLogRead_fixed ..
  | severityWrite ag src w v => exact execSeverityWrite_fixed ..
  | safeCtrlWrite ag key => exact execSafeCtrlWrite_fixed ..
  | testEvent v => exact execTestEvent_fixed ..
  | keystoneSelfFault code loc logOk => exact execKeystoneSelfFault_fixed ..
  | kstInjectLogEcc => exact execKstInjectLogEcc_fixed ..
  | kstInjectLockstep => exact execKstInjectLockstep_fixed ..
  | sleepEntryStart d => exact execSleepEntryStart_fixed ..
  | sleepEntryDone d => exact execSleepEntryDone_fixed ..
  | domainWakeDone d => exact execDomainWakeDone_fixed ..
  | wakeTimeout d => exact execWakeTimeout_fixed ..
  | refclkLoss ref ppm => exact execRefclkLoss_fixed ..
  | corePllUnlock pll => exact execCorePllUnlock_fixed ..
  | avsTargetChange mv => exact execAvsTargetChange_fixed ..
  | tempSample readings => exact execTempSample_fixed ..
  | supplySample rail mv da => exact execSupplySample_fixed ..
  | snsInjectSupplyOor => exact execSnsInjectSupplyOor_fixed ..
  | powerOnReset down up => exact execPowerOnReset_fixed ..
  | pwrokRise => exact execPwrokRise_fixed ..
  | resetNAssert => exact execResetNAssert_fixed ..
  | coldResetCmd ag => exact execColdResetCmd_fixed ..
  | warmResetCmd ag => exact execWarmResetCmd_fixed ..
  | resetBegin => exact execResetBegin_fixed ..
  | resetHoldEnd bootSel mgtMode failed => exact execResetHoldEnd_fixed ..
  | configEnd => exact execConfigEnd_fixed ..
  | configWrite => exact execConfigWrite_fixed ..
  | configPoll => exact execConfigPoll_fixed ..
  | configPollTimeout => exact execConfigPollTimeout_fixed ..
  | configWait => exact execConfigWait_fixed ..
  | configFill => exact execConfigFill_fixed ..
  | bootDone => exact execBootDone_fixed ..
  | fuseProgramSlot arg => exact execFuseProgramSlot_fixed ..
  | fuseRevokeSlot arg => exact execFuseRevokeSlot_fixed ..
  | svnCommit arg => exact execSvnCommit_fixed ..
  | fuseCmdDone b => exact absurd rfl (h1 b)
  | flashRead => exact execFlashRead_fixed ..
  | flashProgram => exact execFlashProgram_fixed ..
  | flashErase => exact execFlashErase_fixed ..
  | flashVerify => exact execFlashVerify_fixed ..
  | flashCmdDone b => exact absurd rfl (h2 b)
  | attest => exact execAttest_fixed ..
  | attestDone => exact execAttestDone_fixed ..
  | extend => exact execExtend_fixed ..
  | talSnap b => exact execTalSnap_fixed ..
  | talClear b => exact execTalClear_fixed ..
  | tallyDump => exact execTallyDump_fixed ..
  | tallyDumpDone => exact execTallyDumpDone_fixed ..
  | refclkReturn ref ppm => exact execRefclkReturn_fixed ..
  | resetNRelease => exact execResetNRelease_fixed ..
  | prbsCheckerLock lane locks => exact execPrbsCheckerLock_fixed ..
  | echoWaitExpire l => exact execEchoWaitExpire_fixed ..
  | linkParamRetry l => exact execLinkParamRetry_fixed ..
  | bootStageComplete failed => exact execBootStageComplete_fixed ..
  | extendDone => exact execExtendDone_fixed ..
  | poisonCtrlDone h => exact execPoisonCtrlDone_fixed ..
  | hbmTempChange n c => exact execHbmTempChange_fixed ..
  | tapReset => exact execTapReset_fixed ..
  | boundaryScanUpdate v => exact execBoundaryScanUpdate_fixed ..

/-! ## The end of a fuse command -/

/-- What the end of a fuse command keeps: the queue and the flash, every programmed slot with its hash, every revocation, every security
version; and the canonical form. -/
structure FuseStep (s t : State) : Prop where
  pend : t.pending = s.pending
  flash : t.sec.flash = s.sec.flash
  prog : ∀ i, (mget {} s.sec.slots i).programmed = true →
    (mget {} t.sec.slots i).programmed = true ∧ (mget {} t.sec.slots i).hash = (mget {} s.sec.slots i).hash
  revoked : ∀ i, (mget {} s.sec.slots i).revoked = true → (mget {} t.sec.slots i).revoked = true
  svn : ∀ i, mget 0 s.sec.svnMin i ≤ mget 0 t.sec.svnMin i
  slotsWf : mwf (fun _ => {}) s.sec.slots = true → mwf (fun _ => {}) t.sec.slots = true
  svnWf : mwf (fun _ => 0) s.sec.svnMin = true → mwf (fun _ => 0) t.sec.svnMin = true

theorem FuseStep.of_fixed {s t : State} (h : t.fixed = s.fixed) : FuseStep s t := by
  simp only [State.fixed, Prod.mk.injEq] at h
  obtain ⟨h1, h2, h3, h4⟩ := h
  exact ⟨h1, h4, fun i hi => by rw [h2]; exact ⟨hi, rfl⟩, fun i hi => by rw [h2]; exact hi, fun i => Nat.le_of_eq (by rw [h3]),
    fun w => by rw [h2]; exact w, fun w => by rw [h3]; exact w⟩

theorem FuseStep.trans_fixed {s t u : State} (h : FuseStep s t) (h' : u.fixed = t.fixed) : FuseStep s u := by
  simp only [State.fixed, Prod.mk.injEq] at h'
  obtain ⟨h1, h2, h3, h4⟩ := h'
  exact ⟨h1.trans h.pend, h4.trans h.flash, by rw [h2]; exact h.prog, by rw [h2]; exact h.revoked, by rw [h3]; exact h.svn,
    by rw [h2]; exact h.slotsWf, by rw [h3]; exact h.svnWf⟩

theorem FuseStep.after_fixed {s t u : State} (h' : t.fixed = s.fixed) (h : FuseStep t u) : FuseStep s u := by
  simp only [State.fixed, Prod.mk.injEq] at h'
  obtain ⟨h1, h2, h3, h4⟩ := h'
  exact ⟨h.pend.trans h1, h.flash.trans h4, by rw [← h2]; exact h.prog, by rw [← h2]; exact h.revoked, by rw [← h3]; exact h.svn,
    by rw [← h2]; exact h.slotsWf, by rw [← h3]; exact h.svnWf⟩

/-- A slot takes a value that keeps what is programmed and revoked. -/
theorem FuseStep.slot (s : State) (a : Nat) (k : KeySlot) (hp : (mget {} s.sec.slots a).programmed = true → k.programmed = true ∧ k.hash = (mget {} s.sec.slots a).hash)
    (hr : (mget {} s.sec.slots a).revoked = true → k.revoked = true) : FuseStep s (s.setSec { s.sec with slots := mput {} s.sec.slots a k }) where
  pend := rfl
  flash := rfl
  prog i hi := by
    show (mget {} (mput {} s.sec.slots a k) i).programmed = true ∧ (mget {} (mput {} s.sec.slots a k) i).hash = _
    by_cases h : i = a
    · subst h; rw [mget_mput_self]; exact hp hi
    · rw [mget_mput_ne _ _ _ _ h]; exact ⟨hi, rfl⟩
  revoked i hi := by
    show (mget {} (mput {} s.sec.slots a k) i).revoked = true
    by_cases h : i = a
    · subst h; rw [mget_mput_self]; exact hr hi
    · rw [mget_mput_ne _ _ _ _ h]; exact hi
  svn _ := Nat.le_refl _
  slotsWf w := mput_wf (fun _ => ({} : KeySlot)) s.sec.slots a k w
  svnWf w := w

/-- A minimum security version rises. -/
theorem FuseStep.rise (s : State) (i v : Nat) (h : mget 0 s.sec.svnMin i ≤ v) : FuseStep s (s.setSec { s.sec with svnMin := mput 0 s.sec.svnMin i v }) where
  pend := rfl
  flash := rfl
  prog i hi := ⟨hi, rfl⟩
  revoked i hi := hi
  svn j := by
    show _ ≤ mget 0 (mput 0 s.sec.svnMin i v) j
    by_cases hj : j = i
    · subst hj; rw [mget_mput_self]; exact h
    · exact Nat.le_of_eq (mget_mput_ne _ _ _ _ hj).symm
  slotsWf w := w
  svnWf w := mput_wf (fun _ => 0) s.sec.svnMin i v w

theorem State.fuseRun_step (s : State) (f : FuseOp) (failed : Bool) : FuseStep s (s.fuseRun f failed).2 := by
  unfold State.fuseRun
  dsimp only
  generalize hk : s.keySlot f.arg = k
  have hk' : mget {} s.sec.slots f.arg = k := hk
  split
  · split
    · exact .of_fixed rfl
    rename_i hr
    simp only [Bool.or_eq_true, not_or, Bool.not_eq_true] at hr
    split
    · refine FuseStep.trans_fixed (FuseStep.slot s f.arg _ ?_ ?_) (State.raise_fixed ..) <;> rw [hk']
      · exact fun hp => ⟨hp, rfl⟩
      · exact id
    · refine FuseStep.slot s f.arg _ ?_ ?_ <;> rw [hk']
      · intro hp; rw [hr.1.2] at hp; cases hp
      · exact id
  · split
    · exact .of_fixed rfl
    split
    · exact .of_fixed (State.raise_fixed ..)
    · refine FuseStep.slot s f.arg _ ?_ ?_ <;> rw [hk']
      · exact fun hp => ⟨hp, rfl⟩
      · exact fun _ => rfl
  · split
    · exact .of_fixed rfl
    rename_i hr
    simp only [Bool.or_eq_true, not_or, decide_eq_true_eq, Nat.not_le] at hr
    split
    · exact FuseStep.trans_fixed (FuseStep.after_fixed (State.takeFree_fixed s) (FuseStep.rise s.takeFree.2 _ _ (Nat.le_add_right ..)))
        (State.raise_fixed ..)
    · exact FuseStep.rise s _ _ (Nat.le_of_lt hr.2)

theorem execFuseCmdDone_step (failed : Bool) (s : State) : ∃ t, execFuseCmdDone failed s = .next t ∧ FuseStep s t := by
  unfold execFuseCmdDone
  split
  · exact ⟨s, rfl, .of_fixed rfl⟩
  · rename_i f rest _
    refine ⟨_, rfl, ((s.fuseRun_step f failed).trans_fixed ?_)⟩
    exact (State.setFld_fixed ..).trans ((State.setFld_fixed ..).trans (State.setSec_fixed _ _ rfl rfl rfl))

/-! ## The end of a flash command -/

/-- What the end of a flash command keeps: the queue, the fuses, and the flash's canonical form. -/
structure FlashStep (s t : State) : Prop where
  pend : t.pending = s.pending
  slots : t.sec.slots = s.sec.slots
  svn : t.sec.svnMin = s.sec.svnMin
  flashWf : mwf (fun _ => 0xFF#8) s.sec.flash = true → mwf (fun _ => 0xFF#8) t.sec.flash = true

theorem FlashStep.of_fixed {s t : State} (h : t.fixed = s.fixed) : FlashStep s t := by
  simp only [State.fixed, Prod.mk.injEq] at h
  exact ⟨h.1, h.2.1, h.2.2.1, fun w => by rw [h.2.2.2]; exact w⟩

theorem FlashStep.trans_fixed {s t u : State} (h : FlashStep s t) (h' : u.fixed = t.fixed) : FlashStep s u := by
  simp only [State.fixed, Prod.mk.injEq] at h'
  exact ⟨h'.1.trans h.pend, h'.2.1.trans h.slots, h'.2.2.1.trans h.svn, fun w => by rw [h'.2.2.2]; exact h.flashWf w⟩

theorem FlashStep.put (s : State) (a : Nat) (d : List Byte) : FlashStep s (s.flashPut a d) := ⟨rfl, rfl, rfl, s.flashPut_wf a d⟩

theorem FlashStep.spoil (s : State) (a n : Nat) : FlashStep s (s.flashSpoil a n) :=
  ⟨rfl, rfl, rfl, fun w => s.takeFree.2.flashPut_wf a _ w⟩

theorem State.flashRun_step (s : State) (f : FlashOp) (failed : Bool) : FlashStep s (s.flashRun f failed).2 := by
  unfold State.flashRun
  dsimp only
  split
  · split
    · exact .of_fixed rfl
    split
    · exact .of_fixed (State.raise_fixed ..)
    · refine .of_fixed ?_
      dsimp only
      generalize List.range 64 = l
      simp only [foldl_fixed, State.setFld_fixed, implies_true]
  · split
    · exact .of_fixed rfl
    split
    · exact .of_fixed (State.raise_fixed ..)
    split
    · exact (FlashStep.spoil ..).trans_fixed (State.raise_fixed ..)
    · exact .put ..
  · split
    · exact .of_fixed rfl
    split
    · exact .of_fixed (State.raise_fixed ..)
    split
    · exact (FlashStep.spoil ..).trans_fixed (State.raise_fixed ..)
    · exact .put ..
  · split
    · exact .of_fixed rfl
    · refine .of_fixed ?_
      split
      · exact (State.raise_fixed ..).trans ((State.setFld_fixed ..).trans (State.setFld_fixed ..))
      · exact (State.setFld_fixed ..).trans ((State.setFld_fixed ..).trans (State.setFld_fixed ..))

theorem execFlashCmdDone_step (failed : Bool) (s : State) : ∃ t, execFlashCmdDone failed s = .next t ∧ FlashStep s t := by
  unfold execFlashCmdDone
  split
  · exact ⟨s, rfl, .of_fixed rfl⟩
  · rename_i f _
    refine ⟨_, rfl, ((s.flashRun_step f failed).trans_fixed ?_)⟩
    exact (State.setFld_fixed ..).trans ((State.setFld_fixed ..).trans (State.setSec_fixed _ _ rfl rfl rfl))

/-! ## Every command and every step -/

theorem outFixed_next_of {o : Out} {k} (h : outFixed o = some k) : ∃ t, o = .next t ∧ t.fixed = k := by
  cases o with
  | next t => exact ⟨t, rfl, Option.some.inj h⟩
  | fault r => cases h
  | refused r => cases h

/-- Every command answers a next state, in which what waits in the queue is as it was. -/
theorem exec_next (c : Instr) (s : State) : ∃ t, exec c s = .next t ∧ t.pending = s.pending := by
  by_cases h1 : ∃ b, c = .fuseCmdDone b
  · obtain ⟨b, rfl⟩ := h1
    obtain ⟨t, h, w⟩ := execFuseCmdDone_step b s
    exact ⟨t, h, w.pend⟩
  by_cases h2 : ∃ b, c = .flashCmdDone b
  · obtain ⟨b, rfl⟩ := h2
    obtain ⟨t, h, w⟩ := execFlashCmdDone_step b s
    exact ⟨t, h, w.pend⟩
  obtain ⟨t, h, w⟩ := outFixed_next_of (exec_fixed c s (fun b e => h1 ⟨b, e⟩) (fun b e => h2 ⟨b, e⟩))
  exact ⟨t, h, congrArg (·.1) w⟩

theorem State.engTick_fixed' (s : State) : s.engTick.tick.fixed = s.fixed := (State.tick_fixed ..).trans (State.engTick_fixed ..)

theorem State.idleTick_fixed (s : State) : s.idleTick.fixed = s.fixed :=
  (State.engTick_fixed' _).trans (foldl_fixed _ (fun _ _ => State.prbsTick_fixed ..) _ _)

end Sys2Proof.Machine
end

