-- ==== Sys2Proof/WellFormed.lean ====
section
/-!
DEFINITION. WellFormed.lean: what the types of a command's operands do not already say. Numbers of links, lanes, ports, pages and tags are
bounded by their types; what stays to check is the alignment of a word's address, the length of what arrives on a pin, and the shape of a
partial line.
-/
namespace Sys2Proof

/-- A command's operands have the form that its rule gives them: words are named by aligned addresses (R10), a checker finds no more errors
than the bits it checked (R166), a received flit has the length of one of the two codings (R104), a frame one that a port can receive
(R257), a partial line lies within its line (R427), and a sample reads the 24 sensors (R533). Every other command is formed well by its
types. -/
def Instr.wf : Instr → Bool
  | .registerWrite _ a _ => decide (a.val % 4 = 0)
  | .pairLowRead _ a => decide (a.val % 8 = 0)
  | .pairHighWrite _ a _ => decide (a.val % 8 = 4)
  | .paritySweep _ a _ => decide (a.val % 4 = 0)
  | .flitReceive _ content _ _ => decide (content.length = 212 ∨ content.length = 204)
  | .prbsIntervalEnd _ errors checked => decide (errors.toNat ≤ checked.toNat)
  | .ethFrameReceive _ frame => decide (frame.length ≤ 9216)
  | .ioWrite _ _ off data => decide (0 < data.length ∧ off.val + data.length ≤ 64)
  | .tempSample readings => decide (readings.length = 24)
  | _ => true

end Sys2Proof
end

