-- ==== Sys2Proof/Tests/Slice0.lean ====
section
/-!
SUPPORT. Tests: the checks of WellFormed refuse what is ill formed, values of the manual's worked cases, and witnesses for the hypotheses of
the statements.
-/
namespace Sys2Proof.Tests

open Sys2Proof.Machine

set_option linter.all false

/-! ## WellFormed -/

theorem test_wf_unaligned_write : (Instr.registerWrite .mgmt 2 0#32).wf = false := by decide
theorem test_wf_low_word : (Instr.pairLowRead .mgmt 4).wf = false := by decide
theorem test_wf_high_word : (Instr.pairHighWrite .mgmt 8 0#32).wf = false := by decide
theorem test_wf_parity_word : (Instr.paritySweep true 3 0).wf = false := by decide
theorem test_wf_short_flit : (Instr.flitReceive 0 [0#8] 0 false).wf = false := by decide
theorem test_wf_more_errors_than_bits : (Instr.prbsIntervalEnd 0 2#64 1#64).wf = false := by decide
theorem test_wf_long_frame : (Instr.ethFrameReceive 0 (List.replicate 9217 0#8)).wf = false := by decide +kernel
theorem test_wf_empty_line_part : (Instr.ioWrite 0 0 0 []).wf = false := by decide
theorem test_wf_part_beyond_line : (Instr.ioWrite 0 0 63 [0#8, 0#8]).wf = false := by decide
theorem test_wf_missing_sensor : (Instr.tempSample [30#8]).wf = false := by decide
theorem test_wf_good_command : (Instr.registerWrite .mgmt 4 0#32).wf = true := by decide

/-! ## Witnesses: states and operands that meet the hypotheses of the statements, clause by clause -/

/-- A device out of reset with the named domains awake and the given fields set: (field, number, value). -/
def dev (doms : List Nat) (fs : List (Fld × Nat × Nat)) : State :=
  fs.foldl (fun s x => s.setFld x.1 x.2.2 x.2.1)
    { pwr := { inReset := none, dom := doms.map (fun d => (d, ({ st := .awake } : Dom))) } }

/-- The same with a link's own state. -/
def lnk (l : Nat) (k : Link) (fs : List (Fld × Nat × Nat)) : State := (dev [] fs).setLink l k

/-- A state with blocks enabled. -/
def ena (s : State) (bs : List (Blk × Nat)) : State := bs.foldl (fun s x => s.setHdr x.1 x.2 F.HDR_CTRL_ENABLE 1) s

/-- A header of an ACK packet from router 2 to router 1, with its check field. -/
def hdrOf (opc : Nat) (path : Nat) (n : Nat) : List Byte :=
  sealHdr (beBytes 8 path ++ beBytes 4 (fabAddr 1 0) ++ beBytes 4 (fabAddr 2 0) ++ beBytes 4 0 ++ beBytes 1 opc ++ beBytes 1 0 ++ beBytes 2 n ++
    beBytes 4 0 ++ beBytes 1 0 ++ beBytes 1 0 ++ beBytes 2 0)

/-- A packet from router 2 to this router. -/
def pk (opc : Nat) (ext pay : List Byte) (h : PktHead := { dst := fabAddr 0 0, src := fabAddr 2 0, opc := 0, tc := 7 }) : List Byte :=
  mkPacket { h with opc := opc } ext pay

/-- A state in which a packet of an opcode, with its extension, stands delivered. -/
def dlvOf (s : State) (b : List Byte) (inl : Option Nat) : State :=
  let (id, s) := s.addPkt { bytes := b, len := b.length, pipe := 0, inLink := inl, fate := .deliver }
  { s with fwd := { s.fwd with dlv := [{ pkt := id, bytes := b, inLink := inl }] } }


theorem test_meets_RegisterAccessesAreMade :
    (let s := dev [] []
     s.pwr.inReset = none ∧ s.regStatus .mgmt true (F.ROU_LR_CFG_PERIOD.addr 0 0) 1 true = 0 ∧ s.pageBlocked (F.ROU_LR_CFG_PERIOD.addr 0 0 / 0x1000) = false ∧
     s.regStatus .mgmt true 0x540018 1 true = 0) ∧
    (let s := dev [] []
     s.regStatus .mgmt true (F.VIA_TIME_SET_TIME.addr 0 0 + 4) 1 true = 0 ∧ appliesBoth (F.VIA_TIME_SET_TIME.addr 0 0 + 4) = true) ∧
    (let s := dev [] []
     s.regStatus .mgmt false (F.VIA_TIME_NOW_TIME.addr 0 0) 1 true = 0 ∧ pairHalf (F.VIA_TIME_NOW_TIME.addr 0 0) = .low ∧
       s.pageBlocked (F.VIA_TIME_NOW_TIME.addr 0 0 / 0x1000) = false) ∧
    (let s := dev [] []
     s.regStatus .mgmt true (Blk.lnk.addr 0 0x020) 1 true = 0 ∧ s.regStatus .mgmt true (Blk.lnk.addr 255 0x008) 1 true = 0 ∧ s.pageBlocked (Blk.lnk.addr 255 0 / 0x1000) = false) ∧
    (let s := dev [] []
     s.tap.busy = false ∧ s.regStatus .jtag true 0x540018 1 true = 0) := by decide +kernel

theorem test_meets_RefusedRegisterWritesWriteNothing :
    (let s := dev [] []
     s.pwr.inReset = none ∧ s.regStatus (.pier 0) true 0x20100 1 true = 0x01 ∧ s.regStatus .mgmt true 0x20102 1 true = 0x03) := by decide +kernel

theorem test_meets_CommitsSyncsAndResetsEnd :
    (let s := { dev [] [] with regs := { (dev [] []).regs with pend := [(0x20, [])] } }
     pageKind 0x20 = .block .pwr 0 ∧ (Blk.pwr ∉ [Blk.lnk, .hpt, .spn, .mgt, .via, .rou, .tre, .srd, .eng]) ∧ s.pending? 0x20 = true) ∧
    (let s := { dev [] [] with rou := { swapping := [(3, true)] } }
     mget false s.rou.swapping 3 = true) ∧
    ((dev [] []).regStatus .mgmt true ((tblBusy 3).addr 0 0) 1 true = 0) ∧
    (let s := (dev [] []).setFld (tblBusy 0) 1
     s.flag (tblBusy 0) = true ∧ mget false s.rou.commitHeld 0 = false ∧
     (let t := { s with rou := { commitHeld := [(0, true)] } }
      t.flag (tblBusy 0) = true ∧ mget false t.rou.commitHeld 0 = true)) ∧
    ((dev [] []).parityFinds = []) ∧
    (let s := { dev [] [] with regs := { parBad := [(0x20100, 1)] } }
     s.parityFinds ≠ []) := by decide +kernel

theorem test_meets_PacketsMoveThroughTheRouter :
    (let r : RxPkt := { tc := 0, vc := 0, shared := false, len := 36, bytes := hdrOf 0x60 0 0 }
     let s := lnk 255 { rxq := [r] } []
     let p : Pkt := { bytes := r.bytes, len := r.len, inLink := some 255, pipe := s.linkTile 255, tc := 0, vc := 0, shared := false, whole := false, fate := Fate.forward }
     let (id, s1) := s.addPkt p
     firstIdx (s.link 255).rxq (fun r => decide (r.pkt = none) && decide (32 ≤ r.bytes.length)) = some (0, r) ∧
     pHchk (slice r.bytes 0 32) = (hchk (slice r.bytes 0 32)).toNat ∧
     ((s1.setLink 255 { s1.link 255 with rxq := (s1.link 255).rxq.set 0 { r with pkt := some id } }).police 255 (slice r.bytes 0 32) r.len).1 = .green) ∧
    (let r : RxPkt := { tc := 0, vc := 0, shared := false, len := 36, bytes := hdrOf 0x60 0 0, pkt := some 0, ended := 1 }
     let p : Pkt := { bytes := r.bytes, len := r.len, inLink := some 255, pipe := 0, tc := 0, vc := 0, shared := false, whole := false, fate := Fate.deliver }
     let s := ((lnk 0 { rxq := [r] } []).addPkt p).2
     firstIdx (s.link 0).rxq (fun r => r.pkt.isSome && decide (r.ended ≠ 0)) = some (0, r) ∧ s.pkt 0 = some p) ∧
    (let p : Pkt := { bytes := hdrOf 0x60 0 0 ++ beBytes 4 0, len := 36, inLink := none, pipe := 0, tc := 7, vc := 0, shared := false, whole := true, fate := Fate.forward }
     let e : QEnt := { pkt := 0, hdr0 := hdrOf 0x60 0 0, hdr := hdrOf 0x60 0 0 }
     let s := ((((dev [Dom.pipe 0] [(F.LNK_LSTATE_STATE, 0, LS.active)]).setLink 0 { limit := (List.range 128).map (fun p => (p, 100)) }).addPkt p).2).setOutQ 0 0 0 [e]
     s.lstate 0 = LS.active ∧ (s.link 0).txPkt = none ∧ s.awake (Dom.pipe (s.linkTile 0)) = true ∧ s.gatesOn = false ∧
     (s.chooseOut 0 none).1 = some (0, 0) ∧ (s.chooseOut 0 none).2.outQ 0 0 0 = [e]) ∧
    (let p : Pkt := { bytes := hdrOf 0x60 0 0 ++ beBytes 4 0, len := 36, inLink := none, pipe := 0, tc := 7, vc := 0, shared := false, whole := true, fate := Fate.forward }
     let s := ((lnk 0 { txPkt := some { pkt := 0, sent := 36 } } []).addPkt p).2
     ((s.supply 0).link 0).txPkt = some { pkt := 0, sent := 36 } ∧ ((s.supply 0).pkt 0) = some p) ∧
    (let p : Pkt := { bytes := hdrOf 0x60 0 0 ++ beBytes 4 0, len := 40, inLink := none, pipe := 0, tc := 7, vc := 0, shared := false, whole := false, fate := Fate.forward }
     let s := ((lnk 0 { txPkt := some { pkt := 0, sent := 36 } } []).addPkt p).2
     (((s.supply 0).link 0).txPkt.map (·.sent)) = some 36 ∧ ((s.supply 0).pkt 0) = some p) := by decide +kernel

theorem test_meets_SchedulersAndRoutingAct :
    (let h : InjHead := { tag := 0, bytes := hdrOf 0x00 0 0 ++ beBytes 4 0, dest := 5, pipe := 0, fin := 7 }
     let s := { dev [] [] with sch := { q := [(15 * 256 + 255, { head := some h })] } }
     let u := ((s.headOrder 15).map (·.2)).foldl (fun s key => s.rechoose key) s
     s.safe = false ∧ s.armed F.SCH_INJECT_QSTATE_ECC 15 = false ∧ (u.headOrder 15).map (·.2) = [15 * 256 + 255] ∧
     (u.injQ (15 * 256 + 255)).head = some h ∧ u.blocked 15 255 h = none) ∧
    (let s := dev [] [(F.ROU_LR_CFG_PERIOD, 0, 1)]
     s.fld F.ROU_LR_CFG_PERIOD ≠ 0) ∧
    (let s := dlvOf (dev [] [(F.ROU_AGE_CFG_MAXAGE, 0, 100)]) (pk 0x62 (loadReportExt 2 0 ((List.range 12).map (fun i => (i, i)))) []) (some 1)
     ∃ d, (s.takeOpc 0x62).1 = some d ∧ beAt (pExt d.bytes) 2 1 / 16 = 12 ∧
       stampAge ((s.takeOpc 0x62).2.ftime % 2 ^ 32) (beAt (pExt d.bytes) 4 4) ≤ (s.takeOpc 0x62).2.fld F.ROU_AGE_CFG_MAXAGE) ∧
    (let s := dlvOf (dev [Dom.endpoint] []) (pk 0x63 (List.replicate 32 0#8) []) (some 1)
     s.safe = false ∧ s.awake Dom.endpoint = true ∧ (s.takeOpc 0x63).1.isSome = true) := by
  refine ⟨?_, ?_, ⟨_, rfl, ?_⟩, ?_⟩ <;> decide +kernel

/-- The four bytes after a list are read as the number they spell. -/
theorem beAt_four (x : List Byte) (y : W32) : beAt (x ++ beBytes 4 y.toNat) x.length 4 = y.toNat := by
  have h := y.isLt
  simp only [beAt, slice, List.drop_left, beBytes, List.take, beNat, List.length, List.foldl, List.replicate, List.append_nil, BitVec.toNat_ofNat,
    Nat.shiftRight_eq_div_pow]
  simp [beNat, List.foldl]
  omega

/-- A flit's LCRC is that of what stands before it. -/
theorem flitBytes_crc (v1 : Bool) (seq off ty n : Nat) (byp : W32) (d : List Byte) (h : d.length = n) :
    beAt (flitBytes v1 seq off ty byp d) (n + 8) 4 = (lcrc ((flitBytes v1 seq off ty byp d).take (n + 8))).toNat := by
  have hl : (beBytes 4 (flitHdr v1 seq off ty) ++ beBytes 4 byp.toNat ++ d).length = n + 8 := by simp [beBytes, h]
  unfold flitBytes
  rw [← hl, beAt_four, List.take_left]

/-- A data flit with one unacknowledged sequence: a link whose next sequence is 1. -/
def oneOut (k : Link) : Link := { k with txSeq := 1, acked := 0 }

theorem test_meets_FlitsAcksAndReplays :
    (let s := lnk 255 { idle := false, step := 7, txStream := idleItems 50 } [(F.LNK_LSTATE_STATE, 255, LS.active), (F.LNK_REPLAY_GRANT, 255, 1)]
     let u := s.supply 255
     u.sends 255 = true ∧ (u.link 255).replayPos = none ∧ u.lstate 255 = LS.active ∧ (u.link 255).canSend (u.flitData 255) = true ∧
     u.outstanding 255 < u.maxOutstanding 255 ∧ u.replayRoom 255 = some u) ∧
    (let s := lnk 255 { step := 7, rxE := 2 ^ 20 - 1, unacked := 14 } []
     let b := flitBytes false (2 ^ 20 - 1) 0 1 0#32 ((idleItems 50).map (·.1))
     (s.link 255).waking = false ∧ s.v1 255 = false ∧ b.length = s.flitData 255 + 12 ∧
     (s.link 255).rxHalf = none ∧ beAt b 4 4 = 0 ∧
     (s.link 255).rxE < 2 ^ 20 ∧ beAt b 0 4 / 2 ^ 12 = (s.link 255).rxE ∧ beAt b 0 4 % 16 = 1 ∧
     beAt b 0 4 / 2 ^ 4 % 256 = (s.link 255).expectOffset (s.flitData 255) ∧ (s.link 255).unacked < 15) ∧
    (let s := lnk 0 { unacked := 1 } []
     (s.link 0).unacked ≠ 0) ∧
    (let s := lnk 0 (oneOut { bypIn := [(bypMsg 0x02 0, 5)] }) []
     let u := (s.takeByp 0 [0x02]).2
     (s.takeByp 0 [0x02]).1 = some (bypMsg 0x02 0, 5) ∧
     seqDist (u.seqBits 0) (bits (bypMsg 0x02 0) 0 (u.seqBits 0)) (u.link 0).acked < u.outstanding 0) ∧
    (let s := lnk 0 (oneOut { bypIn := [(bypMsg 0x03 0, 5)] }) []
     let u := (s.takeByp 0 [0x03]).2
     (s.takeByp 0 [0x03]).1 = some (bypMsg 0x03 0, 5) ∧
     seqDist (u.seqBits 0) (bits (bypMsg 0x03 0) 0 (u.seqBits 0)) (u.link 0).acked < u.outstanding 0 ∧
     (u.link 0).replayPos = none ∧ (u.link 0).replayFrom = none) ∧
    (let s := lnk 0 { replayWait := true } []
     (s.link 0).replayWait = true) ∧
    (let s := lnk 0 (oneOut {}) [(F.LNK_LSTATE_STATE, 0, LS.active)]
     s.linkUp 0 = true ∧ s.outstanding 0 ≠ 0 ∧ (s.link 0).replayPos = none) ∧
    (let r : RepFlit := { seq := 0, offset := 0, data := [], spilled := true }
     let s := lnk 0 (oneOut { replay := [r], replayPos := some 0 }) []
     (s.link 0).replayPos = some 0 ∧
     firstIdx (s.link 0).replay (fun r => r.spilled && !r.readBack &&
       decide (seqDist (s.seqBits 0) 0 (s.link 0).acked ≤ seqDist (s.seqBits 0) r.seq (s.link 0).acked)) = some (0, r)) := by
  decide +kernel

theorem test_meets_FlitsAcksAndReplays_lcrc :
    let b := flitBytes false (2 ^ 20 - 1) 0 1 0#32 ((idleItems 50).map (·.1))
    beAt b (200 + 8) 4 = (lcrc (b.take (200 + 8))).toNat := flitBytes_crc _ _ _ _ _ _ _ (by decide +kernel)

theorem test_meets_LinkMessagesAct :
    (let m := bypMsg 0x01 (0x60 * 2 ^ 49 + (2 ^ 23 - 1))
     let s := lnk 255 { bypIn := [(m, 5)], step := 6, used := [(0x60, 2 ^ 23 - 1 - 2 ^ 20)] } []
     let u := (s.takeByp 255 [0x01]).2
     (s.takeByp 255 [0x01]).1 = some (m, 5) ∧ bits m 49 7 ∈ u.pools 255 ∧ 6 ≤ (u.link 255).step ∧
     seqDist 24 (bits m 0 24) (mget 0 (u.link 255).limit (bits m 49 7)) < 2 ^ 23 ∧
     seqDist 24 (bits m 0 24) (mget 0 (u.link 255).used (bits m 49 7)) ≤ 2 ^ 20) ∧
    (let s := lnk 255 {} [(F.LNK_LSTATE_STATE, 255, LS.active)]
     s.linkUp 255 = true ∧ 0x60 ∈ s.pools 255 ∧ mget false (s.link 255).stallSeen 0x60 = false) ∧
    (let s := lnk 255 { step := 6 } [(F.LNK_CFG_CODING, 255, 1)]
     3 ≤ (s.link 255).step ∧ (s.link 255).step < 7 ∧ s.codingAsk 255 ≠ 1) ∧
    (let w1 : BitVec 56 := BitVec.ofNat 56 (2 ^ 52)
     let m := bypMsg 0x04 (2 ^ 51 + 2 * 2 ^ 44 + 2 ^ 37 + 0x80 * 2 ^ 28)
     let s := lnk 255 { bypIn := [(m, 5)], step := 3, peer1 := some w1 } []
     let u := (s.takeByp 255 [0x04]).2
     let w := m.setWidth 56
     let k := { u.link 255 with peer0 := some w, peerSeen := (u.link 255).peerSeen || bitAt w 51 }
     (s.takeByp 255 [0x04]).1 = some (m, 5) ∧ (u.link 255).step = 3 ∧ bits w 52 4 = 0 ∧ (u.link 255).peer1 = some w1 ∧ bitAt w 51 = true ∧
     ((u.setLink 255 k).agree 255 w).isSome = true) ∧
    (let m := bypMsg 0x05 (2 ^ 52)
     let s := lnk 0 { bypIn := [(m, 5)] } [(F.LNK_LSTATE_STATE, 0, LS.active)]
     let u := (s.takeByp 0 [0x05]).2
     (s.takeByp 0 [0x05]).1 = some (m, 5) ∧ u.lstate 0 ≠ LS.disabled ∧ u.lstate 0 ≠ LS.down ∧ bits m 52 4 = 1) ∧
    (let m := bypMsg 0x05 (0x04 * 2 ^ 44)
     let s := lnk 0 { bypIn := [(m, 5)] } [(F.LNK_LSTATE_STATE, 0, LS.active)]
     let u := (s.takeByp 0 [0x05]).2
     (s.takeByp 0 [0x05]).1 = some (m, 5) ∧ u.lstate 0 ≠ LS.disabled ∧ u.lstate 0 ≠ LS.down ∧ bits m 52 4 = 0 ∧ bits m 44 8 ≠ 0x07) ∧
    (let s := lnk 0 { step := 4, echoSent := 15 } []
     (s.link 0).step = 4 ∧ (s.link 0).echoSent < 16) ∧
    (let s := lnk 0 { bypIn := [(bypMsg 0x06 9, 5)] } []
     (s.takeByp 0 [0x06]).1 = some (bypMsg 0x06 9, 5)) ∧
    (let s := lnk 0 { bypIn := [(bypMsg 0x07 9, 5)], step := 3, echoGot := 14 } []
     let u := (s.takeByp 0 [0x07]).2
     (s.takeByp 0 [0x07]).1 = some (bypMsg 0x07 9, 5) ∧ (u.link 0).echoClosed = false ∧ 3 ≤ (u.link 0).step ∧ (u.link 0).echoGot < 15) ∧
    (let w : BitVec 56 := BitVec.ofNat 56 (2 ^ 36)
     let s := lnk 255 { peer0 := some w } [(F.LNK_LSTATE_STATE, 255, LS.active), (F.LNK_CFG_SLEEP_EN, 255, 1)]
     s.linkUp 255 = true ∧ s.flag F.LNK_CFG_SLEEP_EN 255 = true ∧ (s.link 255).peer0 = some w ∧ bitAt w 36 = true ∧ s.v1 255 = false ∧
     (s.link 255).teardown = false ∧ (s.link 255).sleepReq = false ∧ s.linkIdle 255 = true) ∧
    (let s := lnk 0 { bypIn := [(bypMsg 0x08 0, 5)] } [(F.LNK_LSTATE_STATE, 0, LS.active), (F.LNK_CFG_SLEEP_EN, 0, 1)]
     let u := (s.takeByp 0 [0x08]).2
     (s.takeByp 0 [0x08]).1.isSome = true ∧ u.linkUp 0 = true ∧ u.flag F.LNK_CFG_SLEEP_EN 0 = true ∧ u.linkIdle 0 = true ∧ (u.link 0).teardown = false) ∧
    (let s := lnk 0 { bypIn := [(bypMsg 0x08 0, 5)], txSeq := 1 } [(F.LNK_LSTATE_STATE, 0, LS.active)]
     let u := (s.takeByp 0 [0x08]).2
     (s.takeByp 0 [0x08]).1.isSome = true ∧ u.linkUp 0 = true ∧ u.linkIdle 0 = false) ∧
    (let s := lnk 0 { bypIn := [(bypMsg 0x09 1, 5)], sleepReq := true } []
     let u := (s.takeByp 0 [0x09]).2
     (s.takeByp 0 [0x09]).1 = some (bypMsg 0x09 1, 5) ∧ (u.link 0).sleepReq = true ∧ bitAt (bypMsg 0x09 1) 0 = true ∧
     (u.quiet 0).linkQueued 0 = false) := by
  refine ⟨?_, ?_, ?_, ?_, ?_, ?_, ?_, ?_, ?_, ?_, ?_, ?_, ?_⟩ <;> decide +kernel

theorem test_meets_LinksComeUpAndGoDown :
    (let s := dev [] []
     let u := s.setHdr .lnk 255 F.HDR_CTRL_ENABLE 1
     s.enabled .lnk 255 = false ∧ (u.link 255).downHold = false ∧ u.lstate 255 = LS.disabled ∧ u.mayTrain = true) ∧
    (let s := ena (dev [] [(F.LNK_LSTATE_STATE, 255, LS.active)]) [(.lnk, 255)]
     let u := s.setHdr .lnk 255 F.HDR_CTRL_ENABLE 0
     s.enabled .lnk 255 = true ∧ u.lstate 255 = LS.active) ∧
    (let s := lnk 255 { teardown := true } []
     s.drained 255 = true ∧ (s.link 255).teardown = true) ∧
    (let s := lnk 255 { step := 6 } []
     0 < (s.link 255).step ∧ (s.link 255).step < 7) ∧
    (let s := dev [] [(F.SRD_OWNER_VALID, 511, 1), (F.SRD_OWNER_NUMBER, 511, 255), (F.LNK_LSTATE_STATE, 255, LS.active)]
     s.claimedLane 511 = true ∧ s.flag F.SRD_OWNER_HOST 511 = false ∧ s.linkUp (s.fld F.SRD_OWNER_NUMBER 511) = true) ∧
    (let s := lnk 255 { step := 2 } []
     2 ≤ (s.link 255).step ∧ s.lstate 255 ≠ LS.quiet) ∧
    (let s := ena (lnk 255 { downHold := true, reEnabled := true } []) [(.lnk, 255)]
     let u := s.setLink 255 { s.link 255 with downHold := false, reEnabled := false }
     (s.link 255).downHold = true ∧ u.enabled .lnk 255 = true ∧ u.mayTrain = true ∧ (s.link 255).clockHeld = false ∧ (s.link 255).reEnabled = true) ∧
    (let s := lnk 255 { downHold := true } []
     let u := s.setLink 255 { s.link 255 with downHold := false, reEnabled := false }
     (s.link 255).downHold = true ∧ u.enabled .lnk 255 = false) ∧
    (let s := lnk 255 { waking := true } [(F.LNK_LSTATE_STATE, 255, LS.quiet)]
     s.lstate 255 = LS.quiet ∧ (s.link 255).waking = true) ∧
    (let s := dev [] [(F.SRD_OWNER_VALID, 511, 1), (F.SRD_OWNER_NUMBER, 511, 255), (F.LNK_LSTATE_STATE, 255, LS.quiet)]
     s.claimedLane 511 = true ∧ s.flag F.SRD_OWNER_HOST 511 = false ∧ s.lstate (s.fld F.SRD_OWNER_NUMBER 511) = LS.quiet ∧
     (s.link (s.fld F.SRD_OWNER_NUMBER 511)).waking = false) ∧
    (let s := dev [] [(F.LNK_LSTATE_STATE, 255, LS.quiet)]
     s.lstate 255 ≠ LS.disabled ∧ s.lstate 255 ≠ LS.down) := by
  refine ⟨?_, ?_, ?_, ?_, ?_, ?_, ?_, ?_, ?_, ?_, ?_⟩ <;> decide +kernel

/-- A lane of a link that trains. -/
def trn (k : Link) (x : Lane) (fs : List (Fld × Nat × Nat)) : State :=
  (lnk 255 k ([(F.SRD_OWNER_VALID, 511, 1), (F.SRD_OWNER_NUMBER, 511, 255), (F.LNK_CFG_FIRST_LANE, 255, 511)] ++ fs)).setLaneSt 511 x

theorem test_meets_LanesTrainAndMeasure :
    (let s := ena (dev [] []) [(.til, 31), (.srd, 511)]
     s.lanePowered 511 = true ∧ s.trainingLink 511 = none ∧ s.claimedLane 511 = false) ∧
    (let s := { ena (dev [] []) [(.til, 31)] with til := [(31, { ref0 := true })] }
     s.enabled .til 31 = true ∧ s.thermalHold = false ∧ (s.tileSt 31).ref0 = true) ∧
    (let s := trn { lanesStep := 4 } {} [(F.SRD_STATUS_PRESENT, 511, 1)]
     s.trainingLink 511 = some 255 ∧ s.flag F.SRD_STATUS_PRESENT 511 = true ∧ (s.link 255).lanesStep = 4 ∧ s.flag F.SRD_CFG_TX_POL 511 = false) ∧
    (let s := trn { lanesStep := 3 } { frameLock := true, badFrames := 2 } []
     s.trainingLink 511 = some 255 ∧ 3 ≤ (s.link 255).lanesStep ∧ (s.laneSt 511).frameLock = true ∧ (s.laneSt 511).runPol = false ∧
     (0#256).toNat / 2 ^ 224 ≠ 0xB4C32D1E ∧ (s.laneSt 511).badFrames < 3) ∧
    (let s := trn { lanesStep := 4 } { frameLock := true } []
     let r0 : BitVec 256 := BitVec.ofNat 256 (0xB4C32D1E * 2 ^ 224)
     let raw : BitVec 256 := r0 ||| BitVec.ofNat 256 (frameCrc r0)
     s.trainingLink 511 = some 255 ∧ (s.link 255).lanesStep = 4 ∧ (s.laneSt 511).frameLock = true ∧ (s.laneSt 511).runPol = false ∧
     (s.laneSt 511).losses = [] ∧ (s.laneSt 511).reqTap = 0 ∧ raw.toNat / 2 ^ 224 = 0xB4C32D1E ∧ raw.toNat % 2 ^ 32 = frameCrc raw) ∧
    (let s := trn { lanesStep := 6 } {} []
     let u (s : State) := (s.setFld F.SRD_ERR_ERR_EXP (errExp 1 10001) 511).setLaneSt 511 { s.laneSt 511 with prbsDone := true }
     s.trainingLink 511 = some 255 ∧ (s.link 255).lanesStep = 6 ∧ 1 * 10000 < 10001 ∧ (u s).allLanes 255 (fun _ x => x.prbsDone) = true ∧
     (let s := trn { lanesStep := 6 } {} [(F.LNK_CFG_WIDTH, 255, 1), (F.LNK_CFG_FIRST_LANE, 255, 510)]
      s.trainingLink 511 = some 255 ∧ (s.link 255).lanesStep = 6 ∧ (u s).allLanes 255 (fun _ x => x.prbsDone) = false)) ∧
    (let s := trn { lanesStep := 6 } {} []
     s.trainingLink 511 = some 255 ∧ (s.link 255).lanesStep = 6 ∧ (1#64) ≠ 0 ∧ (10000#64).toNat ≤ (1#64).toNat * 10000) ∧
    (let s := ena (dev [] []) [(.til, 31), (.srd, 511)]
     let a := Blk.srd.addr 511 0x108
     (regWordAt a).any (fun w => decide (w.rws = 0) && decide ((0xFFFFFFFF#32) &&& BitVec.ofNat 32 w.rw ≠ s.rd a &&& BitVec.ofNat 32 w.rw)) = true ∧
     s.testAllowed 511 = true) ∧
    (let s := dev [] []
     let a := Blk.srd.addr 511 0x108
     (regWordAt a).any (fun w => decide (w.rws = 0) && decide ((0xFFFFFFFF#32) &&& BitVec.ofNat 32 w.rw ≠ s.rd a &&& BitVec.ofNat 32 w.rw)) = true ∧
     s.testAllowed 511 = false) ∧
    (let s := ena (dev [] []) [(.til, 31), (.srd, 511)]
     let a := Blk.srd.addr 511 0x13C
     (regWordAt a).any (fun w => decide (w.rws = 0) && decide ((0xFFFFFFFF#32) &&& BitVec.ofNat 32 w.rw ≠ s.rd a &&& BitVec.ofNat 32 w.rw)) = true ∧
     s.testAllowed 511 = true) ∧
    (let s := trn { lanesStep := 7 } {} []
     (s.link 255).lanesStep ≠ 0) ∧
    (let s := dev [] [(F.SRD_PRBS_CFG_TX_EN, 511, 1), (F.SRD_PRBS_CFG_RX_EN, 511, 1), (F.SRD_PRBS_STAT_LOCK, 511, 1)]
     s.flag F.SRD_PRBS_CFG_TX_EN 511 = true ∧ s.fld F.SRD_CFG_LOOP 511 ≠ 1 ∧ s.flag F.SRD_PRBS_CFG_RX_EN 511 = true ∧ s.flag F.SRD_PRBS_STAT_LOCK 511 = true) ∧
    (let s := lnk 255 { step := 4, echoSent := 16 } []
     (s.link 255).step = 4 ∧ (s.link 255).echoSent = 16 ∧ (s.link 255).echoClosed = false) ∧
    (let s := ena (lnk 255 { paramRetry := true } []) [(.lnk, 255)]
     let u := s.setLink 255 { s.link 255 with paramRetry := false }
     (s.link 255).paramRetry = true ∧ (s.link 255).downHold = false ∧ u.enabled .lnk 255 = true ∧ u.mayTrain = true ∧
     (s.link 255).claimLapsed = false) := by
  refine ⟨?_, ?_, ?_, ?_, ?_, ?_, ?_, ?_, ?_, ?_, ?_, ?_, ?_, ?_⟩ <;> decide +kernel

/-- An active link with a bypass message waiting, and a time exchange. -/
def tim (m : BitVec 62) (k : Link) (fs : List (Fld × Nat × Nat)) : State :=
  lnk 255 { k with bypIn := [(m, 5)] } ([(F.LNK_LSTATE_STATE, 255, LS.active)] ++ fs)

theorem test_meets_FabricTimeIsExchangedAndSet :
    (let s := tim 0#62 { timeSeq := 15 } [(F.VIA_CFG_TIME_SEND, 0, 1)]
     s.flag F.VIA_CFG_TIME_SEND = true ∧ s.timeOn 255 = true) ∧
    (let s := tim (bypMsg 0x10 0) {} []
     (s.takeByp 255 [0x10]).1 = some (bypMsg 0x10 0, 5) ∧ (s.takeByp 255 [0x10]).2.timeOn 255 = true) ∧
    (let e : Exch := { seq := 3, sndState := 1, t1 := 0, t2 := 5, since := 0 }
     let m := bypMsg 0x11 (3 * 2 ^ 52)
     let s := tim m { exch := some e } []
     let u := (s.takeByp 255 [0x11]).2
     (s.takeByp 255 [0x11]).1 = some (m, 5) ∧ u.timeOn 255 = true ∧ (u.link 255).exch = some e ∧ e.seq = bits m 52 4) ∧
    (let s := tim (bypMsg 0x12 0) {} []
     (s.takeByp 255 [0x12]).1 = some (bypMsg 0x12 0, 5) ∧ (s.takeByp 255 [0x12]).2.timeOn 255 = true) ∧
    (let e : Exch := { seq := 3, sndState := 1, t1 := 0, t2 := 5, since := 0, hi := some (2, 1) }
     let m := bypMsg 0x13 (3 * 2 ^ 52)
     let s := tim m { exch := some e } [(F.VIA_TIME_CFG_ROLE, 0, 1)]
     let u := (s.takeByp 255 [0x13]).2
     (s.takeByp 255 [0x13]).1 = some (m, 5) ∧ u.timeOn 255 = true ∧ (u.link 255).exch = some e ∧ e.hi = some (2, 1) ∧ e.seq = bits m 52 4 ∧
     u.fld F.VIA_TIME_CFG_ROLE ≠ 0) ∧
    (let e : Exch := { seq := 3, sndState := 1, t1 := 0, t2 := 5, since := 0, hi := some (2, 1) }
     let m := bypMsg 0x13 (3 * 2 ^ 52)
     let s := tim m { exch := some e } []
     let u := (s.takeByp 255 [0x13]).2
     (s.takeByp 255 [0x13]).1 = some (m, 5) ∧ u.timeOn 255 = true ∧ (u.link 255).exch = some e ∧ e.hi = some (2, 1) ∧ e.seq = bits m 52 4 ∧
     u.fld F.VIA_TIME_CFG_ROLE = 0 ∧ e.sndState ≠ 0 ∧ u.clk ≤ e.since + 4 * (max 1 (u.fld F.VIA_TIME_CFG_SYNC_PERIOD) * 100)) ∧
    (let s := dev [] [(F.VIA_TIME_CFG_PARENT, 0, 255)]
     s.via.servo.useAlt = false ∧ 255 = s.fld F.VIA_TIME_CFG_PARENT ∧ s.armed F.VIA_INJECT_TIME_ERR 0 = false) ∧
    (let s := dev [] [(F.VIA_TIME_STATUS_STATE, 0, 1)]
     s.fld F.VIA_TIME_CFG_ROLE = 0 ∧ s.via.servo.useAlt = false ∧ s.fld F.VIA_TIME_STATUS_STATE = 1) ∧
    (let s := dev [] [(F.VIA_TIME_STATUS_STATE, 0, 2)]
     s.fld F.VIA_TIME_STATUS_STATE = 2) ∧
    (let s := dev [] [(F.VIA_TIME_CFG_ROLE, 0, 2), (F.VIA_PPS_CFG_PPS_IN_EN, 0, 1)]
     s.fld F.VIA_TIME_CFG_ROLE = 2 ∧ s.flag F.VIA_PPS_CFG_PPS_IN_EN = true) ∧
    (let s := dev [] []
     s.ftime % 10 ^ 9 ≤ 1000 ∧
     (let s := { dev [] [] with time := { now := 500000000#64 } }
      1000 < s.ftime % 10 ^ 9 ∧ s.ftime % 10 ^ 9 ≤ 5 * 10 ^ 8)) ∧
    (let s0 := dev [] [(F.VIA_TIME_CFG_ROLE, 0, 1)]
     let s := { s0 with regs := { s0.regs with staged := mput [] [] Agent.mgmt.key [(F.VIA_TIME_SET_TIME.addr 0 0, 7#32)] } }
     s.fld F.VIA_TIME_CFG_ROLE ≠ 0 ∧ mfind (mget [] s.regs.staged Agent.mgmt.key) (F.VIA_TIME_SET_TIME.addr 0 0) = some 7#32) ∧
    (let s := dev [] [(F.VIA_TIME_CFG_ROLE, 0, 3)]
     s.fld F.VIA_TIME_CFG_ROLE = 3) ∧
    (let s := dev [] [(F.VIA_CFG_PPS_OUT_EN, 0, 1), (F.PWR_PIN_IDLE_VALID, 0, 2 ^ 7)]
     s.flag F.VIA_CFG_PPS_OUT_EN = true ∧ (s.fld F.PWR_PIN_IDLE_VALID).testBit 7 = true) := by
  refine ⟨?_, ?_, ?_, ?_, ?_, ?_, ?_, ?_, ?_, ?_, ?_, ?_, ?_, ?_⟩ <;> decide +kernel

/-- Gates in force, with the words of the entry of viaduct 4095 in the active copy, gate entry 63 of link 255 and the viaduct's armed state. -/
def via (ws : List Nat) (armed : Bool) (v : Via) : State :=
  let s := dev [Dom.endpoint] [(F.VIA_CFG_GATE_EN, 0, 1), (F.VIA_TIME_STATUS_STATE, 0, 1), (F.LNK_LSTATE_STATE, 255, LS.active)]
  let s := (List.range ws.length).foldl (fun s i => s.wr64 (0x1840000 + 32 * 4095 + 8 * i) (BitVec.ofNat 64 (ws.getD i 0))) s
  { s.wr64 (0x1800000 + 0x200 * 255 + 8 * 63) (BitVec.ofNat 64 (2 ^ 63 + 4095 * 2 ^ 50)) with via := { v with armed := [(4095, armed)] } }

/-- A packet of viaduct 4095. -/
def viaPk (slot : Nat) : List Byte := pk 0x70 (beBytes 4 4095 ++ beBytes 4 slot) [1#8] { dst := fabAddr 0 0, src := fabAddr 2 0, opc := 0x70, tc := 0, viaduct := true }

/-- A control packet of viaduct 4095. -/
def ctlPk (opc flags n : Nat) : List Byte := pk opc (viaCtl 4095 flags 0 0 0 0 ++ List.replicate n 0#8) []

theorem test_meets_ViaductsOpenCloseAndSetUp :
    (let s := via [] false {}
     s.gatesOn = true ∧ gValid (s.gateWord s.viaB 255 63) = true ∧ mget false s.via.skip 255 = false ∧ (s.link 255).txPkt = none ∧
     s.gq 255 (gVia (s.gateWord s.viaB 255 63)) = []) ∧
    (let s := via [] false { skip := [(255, true)] }
     s.gatesOn = true ∧ gValid (s.gateWord s.viaB 255 63) = true ∧ mget false s.via.skip 255 = true) ∧
    (let s := via [2 ^ 63 + 7 * 2 ^ 40 + 255 * 2 ^ 32] true {}
     let b := overwrite (viaPk 0) 0 (beBytes 8 (255 * 2 ^ 56))
     let p : Pkt := { bytes := b, len := b.length, inLink := some 7, pipe := 0, fate := .viaduct }
     let s := { (s.addPkt p).2 with fwd := { (s.addPkt p).2.fwd with viaStored := [0] } }
     let w0 := s.viaWord s.viaB (4095 % 4096) 0
     s.fwd.viaStored = [0] ∧ s.pkt 0 = some p ∧ pVia p.bytes = 4095 ∧ wHop (pPath b) (wNext (pPath b)) = 255 ∧ wDetoured (pPath b) = false ∧
     s.linkUsable 255 = true ∧ s.gatesOn = true ∧ vValid w0 = true ∧ mget false s.via.armed 4095 = true ∧ vRole w0 = 0 ∧
     some (vIn w0) = p.inLink ∧ vOut w0 = 255 ∧ s.boundary 255 = false ∧ pBump b = false ∧ pTrace b = false) ∧
    (let s := dlvOf (via [2 ^ 63 + 2 * 2 ^ 61 + 7 * 2 ^ 40] true {}) (viaPk (2 ^ 32 - 1)) (some 7)
     let u := (s.takeOpc 0x70).2
     let w0 := u.vw 4095 0
     (s.takeOpc 0x70).1 = some { pkt := 0, bytes := viaPk (2 ^ 32 - 1), inLink := some 7 } ∧ s.safe = false ∧ s.awake Dom.endpoint = true ∧
     pVia (viaPk (2 ^ 32 - 1)) = 4095 ∧ u.gatesOn = true ∧ vValid w0 = true ∧ vRole w0 = 2 ∧ u.viaArmed 4095 = true ∧ vIn w0 = 7 ∧
     2 ^ 31 ≤ seqDist 32 (pSlot (viaPk (2 ^ 32 - 1))) (u.viaDst 4095).expect) ∧
    (let s := dlvOf (via [2 ^ 63 + 2 * 2 ^ 61 + 7 * 2 ^ 40 + 2 ^ 16, 3 * 2 ^ 46 + 5, 0, 0] true {}) (viaPk 1) (some 7)
     let s := { s with ep := { s.ep with ctx := [(3, { state := CS.enabled })], space := [(0, { okKey := some 5 })],
                                         region := [(0, { valid := true, rights := 2, len := 2 ^ 20, key := 5 })] } }
     let u := (s.takeOpc 0x70).2
     let w0 := u.vw 4095 0
     let y := (u.viaGap 4095 (seqDist 32 1 (u.viaDst 4095).expect)).viaPass 4095 1
     (s.takeOpc 0x70).1 = some { pkt := 0, bytes := viaPk 1, inLink := some 7 } ∧ s.safe = false ∧ s.awake Dom.endpoint = true ∧
     pVia (viaPk 1) = 4095 ∧ pSlot (viaPk 1) = 1 ∧ u.gatesOn = true ∧ vValid w0 = true ∧ vRole w0 = 2 ∧ u.viaArmed 4095 = true ∧ vIn w0 = 7 ∧
     seqDist 32 1 (u.viaDst 4095).expect < 2 ^ 31 ∧
     y.viaAccess 4095 (u.vw 4095 1 / 2 ^ 46) (y.vw 4095 2 + 1 * vBytes w0 % 2 ^ (y.vw 4095 3 / 2 ^ 26 % 64)) (pPayload (viaPk 1)).length = none) ∧
    (let s := via [2 ^ 63 + 2 ^ 61] false {}
     s.gatesOn = true ∧ vValid (s.vw 4095 0) = true ∧ vRole (s.vw 4095 0) = 1 ∧ (s.viaSrc 4095).phase = 0 ∧ s.viaArmed 4095 = false) ∧
    (let s := dlvOf (via [2 ^ 63 + 2 ^ 61] false { src := [(4095, { phase := 1 })] }) (ctlPk 0x71 0x80 16) (some 7)
     ∃ d, (s.takeKept 0x71).1 = some d ∧ pVia d.bytes = 4095 ∧ (beAt (pExt d.bytes) 4 1).testBit 7 = true ∧ (beAt (pExt d.bytes) 4 1).testBit 6 = false ∧
     (((s.takeKept 0x71).2.copyDone d.pkt).viaSrc 4095).phase = 1) ∧
    (let s := via [] false { src := [(4095, { phase := 1, resent := 2 })] }
     (s.viaSrc 4095).phase = 1 ∧ (s.viaSrc 4095).resent < 3) ∧
    (let s := via [] false { src := [(4095, { phase := 1, resent := 3 })] }
     (s.viaSrc 4095).phase = 1 ∧ 3 ≤ (s.viaSrc 4095).resent) ∧
    (let s := dlvOf (via [] false {}) (overwrite (ctlPk 0x72 0 0) 0 (beBytes 8 (2 ^ 13))) (some 7)
     ∃ d, (s.takeKept 0x72).1 = some d ∧ (beAt (pExt d.bytes) 4 1).testBit 7 = false ∧ wNext (pPath d.bytes) ≠ wCount (pPath d.bytes)) ∧
    (let s := via [] true { tear := [(4095, 0)] }
     let p : Pkt := { bytes := ctlPk 0x72 0 0, len := 52, inLink := some 7, pipe := 0 }
     let s := (s.addPkt p).2
     mfind s.via.tear 4095 = some 0 ∧ ((s.setVia { s.via with tear := merase s.via.tear 4095 }).setArmedVia 4095 false).pkt 0 = some p) ∧
    (let s := via [] true { swapFrom := some 5 }
     let u := ((s.applyPend 0x540).setFld F.VIA_TBL_CTRL_ACTIVE (if s.viaB then 0 else 1)).noteSwap 2
     s.via.swapFrom = some 5 ∧ (({ u with
        via := { u.via with
          armed := s.via.armed.filter (fun a => (List.range 4).all (fun w => decide (s.viaWord s.viaB a.1 w = s.viaWord (!s.viaB) a.1 w))),
          swapFrom := none,
          open? := [] } }).roleApply (s.fld F.VIA_TIME_CFG_ROLE)).gateQueues = []) := by
  refine ⟨?_, ?_, ?_, ?_, ?_, ?_, ?_, ?_, ?_, ?_, ?_, ?_⟩
  all_goals first | decide +kernel | exact ⟨_, rfl, by decide +kernel⟩

/-- A device with tree 4095 in use as a member entry that carries collectives; `f` gives the root bit. -/
def tre (f : Nat) (c : Coll) : State :=
  let s := dev [Dom.slice 15] []
  { (s.wr64 (0x1500000 + 256 * 4095) (BitVec.ofNat 64 (2 ^ 63 + 2 ^ 62 + f))).wr64 (0x1500000 + 256 * 4095 + 8 * 23) (BitVec.ofNat 64 (2 ^ 63 + 2 ^ 16)) with
    coll := c }

/-- A packet of instance 2, chunk 1 of tree 4095, from contributor 3, in format 0x11. -/
def collPk (opc count : Nat) (pay : List Byte) (last : Bool) (tc : Nat) (flags : Nat) : List Byte :=
  pk opc (collExt flags 4095 0x11 0 2 3 0 0 count) pay { dst := fabAddr 0 4095, src := fabAddr 2 0, opc := opc, tc := tc, chunk := 1, last := last }

/-- An open window of the same key. -/
def opWin : Window := { tree := 4095, inst := 2, chunk := 1, fmt := 0x11, contribs := [3], units := 1 }

/-- The state with the packet delivered, and whether a lookup of its tree and the window found are as the statement says. -/
def collMeets (s : State) (o : Nat) (b : List Byte) : Bool :=
  let x := (dlvOf s b (some 1)).takeColl o
  let y := x.2.treeLookup (cTree b) b
  !s.safe && decide (x.1 = some { pkt := 0, bytes := b, inLink := some 1 }) && y.1 && y.2.coll.waiting.isEmpty && decide (pOpc b = o)

theorem test_meets_CollectivePacketsAct :
    (let s := tre 0 { win := [(wKey 4095 2 1, opWin)] }
     (∀ x ∈ [(0x40, 12), (0x41, 24), (0x42, 16)],
       let b := collPk x.1 1 (List.replicate x.2 0#8) true 0 0
       collMeets s x.1 b = true ∧ collFormBad b = false ∧
       (((dlvOf s b (some 1)).takeColl x.1).2.treeLookup (cTree b) b).2.win (wKey (cTree b) (cInst b) (pChunk b)) = some opWin ∧
       opWin.ph = .open_ ∧ opWin.inHbm = false)) ∧
    (let b := collPk 0x40 1 (List.replicate 12 0#8) true 0 0
     (fmtOf opWin.fmt).isSome = true ∧ cFmt b = opWin.fmt ∧ opWin.contribs.contains (cContrib b) = true ∧ opWin.complete.contains (cContrib b) = false ∧
     cFirst b = mget 0 opWin.next (cContrib b) ∧ (fmtOf opWin.fmt).any (fun f => decide (cFirst b + cCount b ≤ f.elems)) = true ∧ pLast b = true ∧
     opWin.count = none) ∧
    (let b := collPk 0x40 1 (beBytes 2 1023 ++ List.replicate 10 0#8) true 0 0
     let w := { opWin with next := [(3, 1023)], count := some 1024 }
     cFirst b = mget 0 w.next (cContrib b) ∧ (fmtOf w.fmt).any (fun f => decide (cFirst b + cCount b ≤ f.elems)) = true ∧
     w.count = some (cFirst b + cCount b)) ∧
    (let s := tre 0 {}
     collMeets s 0x43 (collPk 0x43 1 (List.replicate 12 0#8) true 0 0) = true ∧
     collMeets s 0x44 (collPk 0x44 1 (List.replicate 12 0#8) true 0 0) = true ∧ s.treeRoot 4095 = false ∧
     collMeets s 0x45 (collPk 0x45 1 (List.replicate 12 0#8) true 0 0) = true ∧
     collMeets s 0x47 (collPk 0x47 0 [] true 0 0) = true ∧
     collMeets s 0x64 (collPk 0x64 0 [] true 7 0) = true) ∧
    (let s := tre 0 { bar := [(bKey 4095 2, {})] }
     let b := collPk 0x46 0 [] true 0 0
     collMeets s 0x46 b = true ∧
     (((dlvOf s b (some 1)).takeColl 0x46).2.treeLookup (cTree b) b).2.bar (bKey (cTree b) (cInst b)) = some {}) ∧
    (let s := tre 0 {}
     let b := collPk 0x48 0 [] true 7 0
     collMeets s 0x48 b = true ∧
     ((((dlvOf s b (some 1)).takeColl 0x48).2.treeLookup (cTree b) b).2.tryRepull b).1 = true) := by
  refine ⟨?_, ?_, ?_, ?_, ?_, ?_⟩ <;> decide +kernel

/-- A collective descriptor: LENGTH, the instance and the tree. -/
def collDesc : List Byte :=
  List.replicate 32 0#8 ++ leBytes 4 4096 ++ leBytes 4 2 ++ leBytes 4 4095 ++ leBytes 2 0 ++ List.replicate 18 0#8

/-- A collective operation of context 3 that has started. -/
def collOp (opc : Nat) (o : Op) : Op := { o with ctx := 3, opc := opc, started := true, desc := collDesc }

theorem test_meets_WindowsAreFilledRepulledAndFreed :
    (let k := wKey 4095 2 65535
     let w := { opWin with inHbm := true, filling := true }
     let s := tre 0 { win := [(k, w)] }
     s.win k = some w ∧ (s.makeRoom 15 w.units k).any (fun u =>
       !((u.touchWin k { w with inHbm := false, filling := false }).count F.ABC_CNT_FILL_COUNT 15).armed F.ABC_INJECT_FILL_ECC 15) = true) ∧
    (let s := tre 0 {}
     s.coll.waiting = []) ∧
    (let s := tre 0 { waiting := [(wKey 4095 2 65535, { pkt := 0, bytes := [] })] }
     s.coll.waiting.any (fun x => decide (x.1 = wKey 4095 2 65535)) = true ∧ s.coll.stalled.contains (wKey 4095 2 65535) = false) ∧
    (let w := { opWin with progress := false, repulls := 1 }
     let s := tre 0 { win := [(wKey 4095 2 65535, w)] }
     s.win (wKey 4095 2 65535) = some w ∧ w.ph = .open_ ∧ s.repullLimit 4095 ≤ w.repulls ∧
     (let w := { opWin with progress := false, repulls := 0 }
      let s := tre 0 { win := [(wKey 4095 2 65535, w)] }
      s.win (wKey 4095 2 65535) = some w ∧ w.ph = .open_ ∧ w.repulls < s.repullLimit 4095)) ∧
    (let x : Bar := { progress := false, repulls := 1 }
     let s := tre 0 { bar := [(bKey 4095 2, x)] }
     s.bar (bKey 4095 2) = some x ∧ x.ph = .open_ ∧ s.repullLimit 4095 ≤ x.repulls) ∧
    (let w := { opWin with ph := .sent, repulls := 1 }
     let s := tre 0 { win := [(wKey 4095 2 65535, w)] }
     s.treeRoot 4095 = false ∧ s.win (wKey 4095 2 65535) = some w ∧ s.repullLimit 4095 ≤ w.repulls ∧
     (let s := tre 0 { win := [(wKey 4095 2 65535, { w with repulls := 0 })] }
      s.treeRoot 4095 = false ∧ s.win (wKey 4095 2 65535) = some { w with repulls := 0 } ∧ 0 < s.repullLimit 4095)) ∧
    (let w := { opWin with ph := .sent }
     let s := tre (2 ^ 61) { win := [(wKey 4095 2 65535, w)] }
     s.treeRoot 4095 = true ∧ s.win (wKey 4095 2 65535) = some w) ∧
    (let s := tre 0 { bar := [(bKey 4095 2, { ph := .tomb })] }
     s.bar (bKey 4095 2) = some { ph := .tomb }) ∧
    (let o := collOp 0x41 { ctx := 3, opc := 0, flags := 1, segs := 1, built := 1 }
     let s := (tre 0 {}).setOp 65535 o
     s.op 65535 = some o ∧ o.srcFlag = true ∧ o.segs ≤ o.built) ∧
    (let o := collOp 0x42 { ctx := 3, opc := 0, resent := [(0, 1)] }
     let s := (tre 0 {}).setOp 65535 o
     s.op 65535 = some o ∧ o.chunk 0 ≤ 0 ∧ 0 - o.chunk 0 < s.opChunks o ∧
     ((o.done.filter (fun x => decide (x / 8192 / 4096 = 0))).map (fun x => x % 8192)).sum < 4096 ∧
     s.repullLimit o.tree ≤ mget 0 o.resent 0 ∧
     (let o := collOp 0x42 { ctx := 3, opc := 0 }
      let s := (tre 0 {}).setOp 65535 o
      s.op 65535 = some o ∧ mget 0 o.resent 0 < s.repullLimit o.tree)) := by
  refine ⟨?_, ?_, ?_, ?_, ?_, ?_, ?_, ?_, ?_, ?_⟩ <;> decide +kernel

/-- A port's or a pier's own state, with fields set. -/
def prt (n : Nat) (p : Port) (q : Pier) (fs : List (Fld × Nat × Nat)) : State := ((dev [Dom.endpoint] fs).setPort n p).setPier n q

theorem test_meets_HostPortsAct :
    (let s := dev [] []
     s.enabled .hpt 63 = false) ∧
    (let s := dev [] [(F.HPT_PSTATE_STATE, 63, PS.align)]
     (63 : Nat) ≠ 64 ∧ s.pstate 63 = PS.align) ∧
    (let s := dev [] []
     s.pstate 64 ≠ PS.active ∧ s.pwr.inReset = none) ∧
    (let s := dev [] [(F.HPT_PSTATE_STATE, 63, PS.an)]
     s.pstate 63 = PS.an) ∧
    (let s := dev [] [(F.HPT_PSTATE_STATE, 63, PS.training)]
     s.pstate 63 = PS.training) ∧
    (let s := ena (prt 63 { restart := true, claimed := true } {} [(F.HPT_PSTATE_STATE, 63, PS.down)]) [(.hpt, 63)]
     s.pstate 63 = PS.down ∧ (s.port 63).restart = true ∧ s.enabled .hpt 63 = true ∧ (s.port 63).claimed = true ∧ s.thermalHold = false) ∧
    (let s := dev [] [(F.HPT_PSTATE_STATE, 64, PS.active)]
     s.portUp 64 = true) ∧
    (let s := dev [] [(F.HPT_PSTATE_STATE, 64, PS.active)]
     let b : List Byte := List.replicate 60 0#8
     let fr := b ++ fcsOf b
     s.portUp 64 = true ∧ fr.take (fr.length - 4) = b ∧ 64 ≤ fr.length ∧ fr.length ≤ s.maxFrame 64 ∧ fr.drop (fr.length - 4) = fcsOf b ∧
     (s.count F.HPT_CNT_RX_COUNT 64).macsecOn 64 = false ∧ beAt b 12 2 ≠ 0x8808) ∧
    (let s := dev [] [(F.HPT_PSTATE_STATE, 63, PS.active)]
     let b : List Byte := List.replicate 12 0#8 ++ beBytes 2 0x8808 ++ List.replicate 46 0#8
     let fr := b ++ fcsOf b
     s.portUp 63 = true ∧ fr.take (fr.length - 4) = b ∧ 64 ≤ fr.length ∧ fr.length ≤ s.maxFrame 63 ∧ fr.drop (fr.length - 4) = fcsOf b ∧
     (s.count F.HPT_CNT_RX_COUNT 63).macsecOn 63 = false ∧ beAt b 12 2 = 0x8808) ∧
    (let f : List Byte := List.replicate 14 0#8 ++ beBytes 2 0x0101 ++ beBytes 2 0x80 ++ List.replicate 42 0#8
     let s := prt 63 { control := [f] } {} [(F.HPT_FC_CFG_PFC_RX_EN, 63, 0x80)]
     (63 : Nat) ≠ 64 ∧ firstIdx (s.port 63).control (fun f => decide (beAt f 14 2 = 0x0101)) = some (0, f) ∧
     (List.range 8).filter (fun k => (beAt f 16 2).testBit k && (s.fld F.HPT_FC_CFG_PFC_RX_EN 63).testBit k) = [7]) ∧
    (let f : List Byte := List.replicate 14 0#8 ++ beBytes 2 0x0001 ++ beBytes 2 1 ++ List.replicate 42 0#8
     let s := prt 64 { control := [f] } {} [(F.HPT_FC_CFG_PAUSE_RX_EN, 64, 1)]
     firstIdx (s.port 64).control (fun f => decide (beAt f 14 2 = 0x0001)) = some (0, f) ∧ s.flag F.HPT_FC_CFG_PAUSE_RX_EN 64 = true) ∧
    (let s := prt 63 { xoff := true } { rx := [{ op := 1, payload := [] }] } [(F.HPT_PFC_THRESH_XON, 63, 0)]
     (s.port 63).xoff = true ∧ s.fld F.HPT_PFC_THRESH_XON 63 * 1024 < (s.pier 63).bufBytes) ∧
    (let s := dev [] [(F.HPT_SA_CTRL_DIR, 64, 1)]
     s.flag F.HPT_SA_CTRL_DIR 64 = true) ∧
    (let s := prt 64 { stamps := [(0, 0), (1, 8)] } {} []
     (s.port 64).stamps = [(0, 0), (1, 8)]) := by
  refine ⟨?_, ?_, ?_, ?_, ?_, ?_, ?_, ?_, ?_, ?_, ?_, ?_, ?_, ?_⟩ <;> decide +kernel

theorem test_meets_SpanSessionsAct :
    (let f : SFrame := { op := 1, target := 0 }
     let s := prt 64 {} { rx := [f] } [(F.SPN_SESSION_STATE, 64, SS.open_)]
     let x := s.takeRx 64 (fun f => decide (f.op ≠ 0x3E) && decide (f.op ≠ 0x3F))
     x.1 = some f ∧ x.2.session 64 = SS.open_ ∧ x.2.armed F.SPN_INJECT_DROP_RX 64 = false) ∧
    (let f : SFrame := { op := 1, target := 0 }
     let s := (prt 64 {} { rx := [f] } [(F.SPN_SESSION_STATE, 64, SS.open_)]).setArmed F.SPN_INJECT_DROP_RX 64 true
     let x := s.takeRx 64 (fun f => decide (f.op ≠ 0x3E) && decide (f.op ≠ 0x3F))
     x.1 = some f ∧ x.2.session 64 = SS.open_ ∧ x.2.armed F.SPN_INJECT_DROP_RX 64 = true) ∧
    (let f : SFrame := { op := 1, target := 0 }
     let u := prt 64 {} {} [(F.SPN_SESSION_STATE, 64, SS.open_)]
     let v := u.takeAseq 64 f.aseq none
     seqDist 16 f.tseq (u.fld F.SPN_RX_STATE_EXPECTED 64) = 0 ∧ ((v.deliverSpan 64 f).pier 64).held = [] ∧
     (((v.deliverSpan 64 f).releaseHeld 64 0).pier 64).held = []) ∧
    (let f : SFrame := { op := 0x3F, target := 0 }
     let s := prt 64 {} { rx := [f] } [(F.SPN_SESSION_STATE, 64, SS.open_)]
     let x := s.takeRx 64 (fun f => decide (f.op = 0x3F))
     x.1 = some f ∧ x.2.session 64 = SS.open_ ∧ f.flags.testBit 3 = false) ∧
    (let f : SFrame := { op := 0x3E, target := 0, opspec := 1, aseq := 2 ^ 16 - 1 }
     let t : TxFrame := { f := { op := 1 } }
     let s := prt 64 {} { rx := [f], tx := [t] } [(F.SPN_SESSION_STATE, 64, SS.open_)]
     let x := s.takeRx 64 (fun f => decide (f.op = 0x3E))
     let v := (x.2.count F.SPN_CNT_NAK_RX_COUNT 64).takeAseq 64 f.aseq (some f.payload)
     x.1 = some f ∧ x.2.session 64 = SS.open_ ∧ f.opspec % 256 = 0x01 ∧
     ((v.pier 64).tx.find? (fun t => decide (t.f.tseq = f.target % 65536))).map (·.resentAt) = some none) ∧
    (let s := dev [] [(F.HPT_PSTATE_STATE, 63, PS.active)]
     let u := s.setHdr .spn 63 F.HDR_CTRL_ENABLE 1
     u.session 63 = SS.down ∧ u.portUp 63 = true) ∧
    (let s := dev [] [(F.SPN_SESSION_STATE, 63, SS.held)]
     (s.setHdr .spn 63 F.HDR_CTRL_ENABLE 0).session 63 ≠ SS.down) ∧
    (let s (c : Nat) := dev [] [(F.SPN_SESSION_STATE, 64, c)]
     (s 2).session 64 = SS.open_ ∧ (s 1).session 64 = SS.syncing ∧ (s 3).session 64 = SS.held) ∧
    (let s := prt 64 {} {} [(F.SPN_SESSION_STATE, 64, SS.syncing)]
     s.session 64 = SS.syncing ∧ (s.pier 64).answered = false) ∧
    (let t : TxFrame := { f := { op := 1, tseq := 65535 } }
     let s := prt 64 {} { tx := [t] } [(F.SPN_SESSION_STATE, 64, SS.open_), (F.HPT_PSTATE_STATE, 64, PS.active)]
     s.session 64 = SS.open_ ∧ s.portUp 64 = true ∧ (s.pier 64).tx.find? (fun t => decide (t.f.tseq = 65535)) = some t ∧ t.held = false ∧
     t.retries < max 1 (s.fld F.SPN_TIMERS_RETRY_LIMIT 64)) ∧
    (let t : TxFrame := { f := { op := 1, tseq := 65535 }, retries := 255 }
     let s := prt 64 {} { tx := [t] } [(F.SPN_SESSION_STATE, 64, SS.open_), (F.HPT_PSTATE_STATE, 64, PS.active)]
     s.session 64 = SS.open_ ∧ s.portUp 64 = true ∧ (s.pier 64).tx.find? (fun t => decide (t.f.tseq = 65535)) = some t ∧ t.held = false ∧
     max 1 (s.fld F.SPN_TIMERS_RETRY_LIMIT 64) ≤ t.retries) ∧
    (let s := prt 64 {} { sinceAck := 1 } [(F.SPN_SESSION_STATE, 64, SS.open_)]
     (s.pier 64).sinceAck ≠ 0 ∧ s.session 64 = SS.open_) := by
  refine ⟨?_, ?_, ?_, ?_, ?_, ?_, ?_, ?_, ?_, ?_, ?_, ?_⟩ <;> decide +kernel

/-- A state with context 3 enabled on the management port's pier, whose next delivered frame is the given one. -/
def dlv (f : SFrame) (p : Pier) : State :=
  let s := prt 64 {} { p with delivered := [f] } []
  { s with ep := { s.ep with ctx := [(3, { state := CS.enabled, port := 64 })] } }

theorem test_meets_SpanOperationsAct :
    (let f : SFrame := { op := 0x01, target := 3, opspec := 1 }
     let s := dlv f {}
     let x := s.takeDelivered 64 [0x01]
     s.awake Dom.endpoint = true ∧ x.1 = some f ∧ x.2.safe = false ∧ x.2.ctxPort f.target = 64 ∧ x.2.takesDoorbells f.target = true) ∧
    (let f : SFrame := { op := 0x02, target := 3, opspec := 4, payload := List.replicate 64 0#8 }
     let s := dlv f {}
     let x := s.takeDelivered 64 [0x02]
     s.awake Dom.endpoint = true ∧ x.1 = some f ∧ x.2.safe = false ∧ x.2.ctxPort f.target = 64 ∧ x.2.takesDoorbells f.target = true ∧
     f.payload.length = 16 * seqDist 32 f.opspec (x.2.ctx f.target).cmdTail) ∧
    (let f : SFrame := { op := 0x11, flags := 1, target := 9, payload := [1#8] }
     let r : HostRd := { id := 9, len := 1, seq := some 0, waiter := .none }
     let s := dlv f { reads := [r] }
     let x := s.takeDelivered 64 [0x11]
     x.1 = some f ∧ f.opspec / 2 ^ 24 = 0 ∧ f.flags.testBit 0 = true ∧
     firstIdx (x.2.pier 64).reads (fun r => decide (r.id = f.target) && r.seq.isSome) = some (0, r) ∧ f.opspec % 2 ^ 24 = r.got.length ∧
     r.got.length + f.payload.length = r.len) ∧
    (let f : SFrame := { op := 0x13, target := 65535, opspec := 2 ^ 24 }
     let w : HostWr := { seq := 65535, waiter := .none }
     let s := dlv f { writes := [w] }
     let x := s.takeDelivered 64 [0x13]
     x.1 = some f ∧ f.opspec / 2 ^ 24 ≠ 0 ∧ (x.2.pier 64).writes.find? (fun w => decide (w.seq = f.target % 2 ^ 16)) = some w) ∧
    (let f : SFrame := { op := 0x13, target := 2 ^ 15 - 1 }
     let s := dlv f {}
     let x := s.takeDelivered 64 [0x13]
     x.1 = some f ∧ f.opspec / 2 ^ 24 = 0 ∧ (x.2.pier 64).writes = [] ∧
     seqDist 16 (f.target % 2 ^ 16) (x.2.fld F.SPN_RX_STATE_LANDED 64) < 2 ^ 15) ∧
    (let f : SFrame := { op := 0x20, target := 0, opspec := 1, secure := true }
     let s := dlv f {}
     let x := s.takeDelivered 64 [0x20]
     (s.pier 64).reg = none ∧ x.1 = some f ∧
     x.2.regStatus (pierAgent 64) false f.target f.regWords (f.secure || !x.2.flag F.SPN_PRIV_REQUIRE_MACSEC 64) = 0) ∧
    (let f : SFrame := { op := 0x22, target := 0x540018, payload := [1#8, 0#8, 0#8, 0#8], secure := true }
     let s := dlv f {}
     let x := s.takeDelivered 64 [0x22]
     (s.pier 64).reg = none ∧ x.1 = some f ∧
     x.2.regStatus (pierAgent 64) true f.target f.regWords (f.secure || !x.2.flag F.SPN_PRIV_REQUIRE_MACSEC 64) = 0) ∧
    (let r : HostRd := { id := 2 ^ 32 - 1, len := 1, seq := some 0, waiter := .none }
     let s := prt 64 {} { reads := [r] } []
     firstIdx (s.pier 64).reads (fun r => decide (r.id = (0xFFFFFFFF#32).toNat) && r.seq.isSome) = some (0, r)) := by
  refine ⟨?_, ?_, ?_, ?_, ?_, ?_, ?_, ?_⟩ <;> decide +kernel

theorem test_meets_PiersGiveUpReportAndSwitch :
    (let w : HostWr := { seq := 65535, waiter := .none, acked := true }
     let s := prt 64 {} { writes := [w] } [(F.HPT_PSTATE_STATE, 64, PS.active)]
     (s.pier 64).writes.any (fun w => decide (w.seq = (65535#16).toNat) && w.acked) = true ∧ (s.raise (portSrc 64) 0x13 65535).portUp 64 = true) ∧
    (let w : HostWr := { seq := 65535, waiter := .none, acked := true }
     let s := prt 64 {} { writes := [w] } []
     (s.pier 64).writes.any (fun w => decide (w.seq = (65535#16).toNat) && w.acked) = true ∧ (s.raise (portSrc 64) 0x13 65535).portUp 64 = false) ∧
    (let s := dev [] [(F.SPN_SESSION_STATE, 64, SS.held)]
     s.session 64 = SS.held) ∧
    (let s := (dev [] [(F.SPN_SESSION_STATE, 64, SS.open_)])
     let s := { s with kst := { s.kst with gather := [{}] } }
     s.kst.gather.take 64 ≠ [] ∧ s.session 64 = SS.open_) ∧
    (let s := dev [] [(F.CTG_MRING_CTRL_ENABLE, 0, 1)]
     s.flag F.CTG_MRING_CTRL_ENABLE = true) ∧
    (let s := dev [] [(F.SPN_PRIV_LEVEL, 0, 3), (F.CTG_MRING_CFG_CMD_LOG2, 0, 6), (F.CTG_MRING_CFG_CQ_LOG2, 0, 20)]
     s.flag F.CTG_MRING_CTRL_ENABLE = false ∧ (s.ctxPort 0 < 64 → s.fld F.SPN_PRIV_LEVEL (s.ctxPort 0) = 3) ∧
     6 ≤ s.fld F.CTG_MRING_CFG_CMD_LOG2 ∧ s.fld F.CTG_MRING_CFG_CMD_LOG2 ≤ 20 ∧ 6 ≤ s.fld F.CTG_MRING_CFG_CQ_LOG2 ∧
     s.fld F.CTG_MRING_CFG_CQ_LOG2 ≤ 20) := by
  refine ⟨?_, ?_, ?_, ?_, ?_, ?_⟩ <;> decide +kernel

/-- A 64-byte descriptor with values at byte offsets: (offset, bytes, value). -/
def desc (fs : List (Nat × Nat × Nat)) : List Byte := fs.foldl (fun d f => overwrite d f.1 (leBytes f.2.1 f.2.2)) (List.replicate 64 0#8)

/-- An operation of context 3 with the tag 65535, and contexts. -/
def rdy (o : Op) (cs : List (Nat × Ctx)) : State :=
  let s := dev [Dom.endpoint] []
  ({ s with ep := { s.ep with ctx := cs } }).setOp 65535 o

theorem test_meets_RingsAndOperationsAct :
    (let x : Ctx := { state := CS.enabled, cmdLog2 := 6, cqLog2 := 12, cmdTail := 1 }
     let s := rdy { ctx := 3, opc := 0 } [(262143, x)]
     let n := min (max 1 (s.fld F.CTG_CFG_FETCH_MAX (ctxGroup 262143))) (min 1 (2 ^ x.cmdLog2 - x.nextFetch % 2 ^ x.cmdLog2))
     let u := (s.touchCtx 262143).count F.CTG_CNT_FETCH_COUNT (ctxGroup 262143)
     let k := u.setCtx 262143 { u.ctx 262143 with fetching := some (x.nextFetch, n) }
     s.ctx 262143 = x ∧ seqDist 32 x.cmdTail x.nextFetch = 1 ∧ s.mayTake 262143 = true ∧ s.cqStopped 262143 = false ∧ x.fetching = none ∧ x.inline_ = [] ∧
     n ≠ 0 ∧ k.armed F.CTG_INJECT_FETCH_ERR (ctxGroup 262143) = false) ∧
    (let s := rdy { ctx := 3, opc := 0 } [(262143, { state := CS.enabled, cqLog2 := 6, cqWritten := 64 })]
     s.takesDoorbells 262143 = true ∧ s.cqStopped 262143 = true ∧ s.safe = false ∧ (s.ctx 262143).polling = false) ∧
    (let x : Ctx := { state := CS.enabled, cmdLog2 := 6, cqLog2 := 12, cmdTail := 1, fetched := [(0, List.replicate 16 0#8)], tcMask := 0x7F }
     let s := rdy { ctx := 3, opc := 0 } [(262143, x)]
     s.mayTake 262143 = true ∧ s.front 262143 = .ok 0x00 1 (List.replicate 16 0#8)) ∧
    (∀ opc ∈ [0x01, 0x10, 0x20, 0x21, 0x24, 0x40, 0x41, 0x42],
     let o : Op := { ctx := 3, opc := opc }
     (rdy o []).opReady 65535 opc = some o) ∧
    (let o : Op := { ctx := 3, opc := 0x11, desc := desc [] }
     let s := rdy o []
     s.opReady 65535 0x11 = some o ∧ s.hookBlocked o.ctx = false ∧ ((s.begun 65535 o 0).post (recvPost 65535 o)).1 = true) ∧
    (let o : Op := { ctx := 3, opc := 0x22, desc := desc [] }
     let o' : Op := { ctx := 3, opc := 0x22, desc := desc [(32, 4, 1)] }
     (rdy o []).opReady 65535 0x22 = some o ∧ o.len = 0 ∧ (rdy o' []).opReady 65535 0x22 = some o' ∧ o'.len ≠ 0) ∧
    (let o : Op := { ctx := 3, opc := 0x20, desc := desc [(32, 4, 64)], flags := 16 }
     o.inl = true) ∧
    (let o : Op := { ctx := 3, opc := 0x43, desc := desc [(20, 2, 4095)] }
     let s := rdy o [(3, { state := CS.enabled, port := 63 })]
     let s := (s.wr (0x1900000 + 256 * 4095 + 4 * 63) (BitVec.ofNat 32 (2 ^ 31 + 3))).wr64 (0x1500000 + 256 * 4095 + 8 * 22) (BitVec.ofNat 64 (2 ^ 63))
     s.opReady 65535 0x43 = some o ∧ s.slotOf o.tree o.ctx = some 63) ∧
    (let o : Op := { ctx := 3, opc := 0x70, desc := desc [(24, 2, 4095), (32, 4, 128)] }
     let s := rdy o []
     let s := s.wr64 (0x1840000 + 32 * 4095) (BitVec.ofNat 64 (2 ^ 63 + 2 ^ 61 + 64 * 2 ^ 16))
     let s := { s with via := { s.via with armed := [(4095, true)], src := [(4095, { phase := 2 })] } }
     s.opReady 65535 0x70 = some o ∧ o.dByte 24 2 % 4096 = 4095 ∧ s.viaSource 4095 = true) := by
  refine ⟨?_, ?_, ?_, ?_, ?_, ?_, ?_, ?_, ?_⟩ <;> decide +kernel

theorem test_meets_ManagementOperationsAct :
    (let o : Op := { ctx := 0, opc := 0xC0, dest := 262143, desc := desc [] }
     let s := rdy o []
     s.opReady 65535 0xC0 = some o ∧ o.dest < 2 ^ 18 ∧ o.dest ≠ 0 ∧ (s.ctx o.dest).state = CS.disabled) ∧
    (let o : Op := { ctx := 0, opc := 0xC1, dest := 262143, desc := desc [] }
     let s := rdy o [(262143, { state := CS.halted })]
     s.opReady 65535 0xC1 = some o ∧ (s.ctx o.dest).state = CS.halted ∧
     seqDist 32 (o.dByte 16 4) (s.ctx o.dest).haltSlot ≤ seqDist 32 (s.ctx o.dest).cmdTail (s.ctx o.dest).haltSlot) ∧
    (let o : Op := { ctx := 0, opc := 0xC1, dest := 1, desc := desc [] }
     let s := rdy o []
     s.opReady 65535 0xC1 = some o ∧ (s.ctx o.dest).state = CS.disabled ∧ o.dByte 16 4 = 0 ∧ (s.ctx o.dest).tagsHeld = 0) ∧
    (let o : Op := { ctx := 0, opc := 0xC2, dest := 1, desc := desc [] }
     let s := rdy o [(1, { state := CS.enabled })]
     s.opReady 65535 0xC2 = some o ∧ (s.ctx o.dest).state = CS.enabled) ∧
    (let o : Op := { ctx := 0, opc := 0xC3, dest := 1, desc := desc [] }
     let s := rdy o []
     s.opReady 65535 0xC3 = some o ∧ (s.ctx o.dest).state ≠ CS.resetting) ∧
    (let s := rdy { ctx := 262143, opc := 1 } [(262143, { state := CS.resetting, closing := some 9, tagsHeld := 1 })]
     (s.ctx 262143).state = CS.resetting ∧ (s.ctx 262143).closing = some 9 ∧ (s.ctx 262143).tagsHeld ≠ 0 ∧ s.ep.msg = []) ∧
    (let o : Op := { ctx := 0, opc := 0xC4, dest := 1, desc := desc [] }
     (rdy o []).opReady 65535 0xC4 = some o) ∧
    (let o : Op := { ctx := 0, opc := 0xC8, desc := desc [(16, 2, 65535), (18, 2, 16383), (20, 4, 2 ^ 32 - 2)] }
     let s := rdy o []
     s.opReady 65535 0xC8 = some o ∧ o.dByte 20 4 / 2 ^ 16 = o.dByte 16 2 ∧ o.dByte 20 4 ≠ 0xFFFFFFFF ∧ o.dByte 18 2 ≤ 16383 ∧
     o.dByte 24 8 / 4 % 2 ^ 10 = 0 ∧ (o.dByte 24 8).testBit 0 = false ∧ (s.space (o.dByte 16 2)).root.testBit 0 = false) ∧
    (let o : Op := { ctx := 0, opc := 0xC9, desc := desc [(16, 4, 2 ^ 20 - 1), (20, 2, 3), (22, 2, 7), (24, 8, 2 ^ 48 - 1), (32, 8, 1), (40, 4, 5)] }
     let s := rdy o []
     let s := { s with ep := { s.ep with space := [(0, { okKey := some 5, pd := 3 })] } }
     s.opReady 65535 0xC9 = some o ∧ o.dByte 16 4 < 2 ^ 20 ∧ (s.region (o.dByte 16 4)).valid = false ∧ o.dByte 20 2 ≤ 16383 ∧
     s.keyValid (o.dByte 40 4) = true ∧ (s.space (o.dByte 40 4 / 2 ^ 16)).pd = o.dByte 20 2 ∧ o.dByte 22 2 < 8 ∧ o.dByte 32 8 ≠ 0 ∧
     o.dByte 24 8 + o.dByte 32 8 ≤ 2 ^ 48) ∧
    (let o : Op := { ctx := 0, opc := 0xCA, desc := desc [(16, 4, 2 ^ 20 - 1)] }
     let s := rdy o []
     let s := { s with ep := { s.ep with region := [(2 ^ 20 - 1, { valid := true })] } }
     s.opReady 65535 0xCA = some o ∧ o.dByte 16 4 < 2 ^ 20 ∧ (s.region (o.dByte 16 4)).valid = true ∧ s.ep.revoke = none) ∧
    (let s := dev [] []
     let s := { s with ep := { s.ep with revoke := some { region := 5, tag := 6 } } }
     s.ep.revoke.isSome = true ∧ s.ep.job = []) ∧
    (let o : Op := { ctx := 0, opc := 0xCB, desc := desc [(32, 4, 2 ^ 20)] }
     (rdy o []).opReady 65535 0xCB = some o ∧ o.dByte 16 1 = 0 ∧ o.dByte 32 4 ≤ 2 ^ 20) ∧
    (let o : Op := { ctx := 0, opc := 0xCB, desc := desc [(16, 1, 2)] }
     (rdy o []).opReady 65535 0xCB = some o ∧ o.dByte 16 1 = 2) := by
  refine ⟨?_, ?_, ?_, ?_, ?_, ?_, ?_, ?_, ?_, ?_, ?_, ?_, ?_⟩ <;> decide +kernel

/-- Channel 65535 of context 3 and context 5 of router 2. -/
def chn (c : Chan) : State :=
  let s := dev [Dom.endpoint] []
  { s with ep := { s.ep with chan := [(65535, { c with ctx := 3, remote := fabAddr 2 5 })] } }

/-- A channel packet of an opcode with a sequence, to context 3 from context 5 of router 2. -/
def chPk (opc q : Nat) (ext pay : List Byte) : List Byte := pk opc ext pay { dst := fabAddr 0 3, src := fabAddr 2 5, opc := opc, tc := 0, seq := q }

theorem test_meets_ChannelPacketsReachTheirConsumers :
    ∀ opc ∈ [0x00, 0x01, 0x02, 0x03, 0x20, 0x21, 0x22, 0x24], ∀ q ∈ [4095, 2 ^ 32 - 1],
      let c : Chan := { ctx := 3, remote := fabAddr 2 5 }
      let b := chPk opc q (List.replicate 24 0#8) []
      let s := dlvOf (chn c) b (some 1)
      let x := s.takeDlv (fun b => decide (pOpc b = opc) && !(decide (opc ≤ 0x01) && s.hookBlocked (ctxOf (pDst b))))
      let v := (x.2.touchCtx (ctxOf (pDst b))).openChan (ctxOf (pDst b)) (pSrc b)
      s.safe = false ∧ s.awake Dom.endpoint = true ∧ x.1 = some { pkt := 0, bytes := b, inLink := some 1 } ∧ v.1 = some 65535 ∧
      v.2.armed F.REL_INJECT_DROP_RX (65535 % 16) = false ∧ v.2.chan 65535 = some c ∧
      (if q = 4095 then c.seen (pSeq b) = false ∧ c.holdOf (pSeq b) = none ∧ seqDist 32 (pSeq b) c.e < 4096 ∧ pFence b = false
       else c.seen (pSeq b) = true) := by decide +kernel

theorem test_meets_ChannelsAnswerRetryAndReset :
    (∀ opc ∈ [0x23, 0x25, 0x26, 0x60],
      let s := dlvOf (dev [Dom.endpoint] []) (chPk opc 0 (List.replicate 8 0#8) []) (some 1)
      s.safe = false ∧ s.awake Dom.endpoint = true ∧ (s.takeOpc opc).1.isSome = true) ∧
    (let t : TxPk := { seq := 9, opc := 0x20, tag := none, bytes := [] }
     let u := chn { ctx := 3, remote := 0, unret := [t] }
     let b := chPk 0x26 9 (beBytes 4 0 ++ beBytes 4 (0x10 * 2 ^ 24)) []
     u.answerChan b = some 65535 ∧ (u.chan 65535).bind (fun c => c.tx (pSeq b)) = some t ∧ beAt (pExt b) 4 1 = 0x10) ∧
    (let s := dev [] []
     (s.mat 15).waiting = []) ∧
    (let o : Op := { ctx := 3, opc := 0x11, desc := desc [] }
     let s := (rdy o []).setMat 15 { waiting := [65535] }
     (s.mat 15).waiting = [65535] ∧ s.op 65535 = some o ∧ (s.post (recvPost 65535 o)).1 = true) ∧
    (let s := (dev [] [(F.MAT_HOOK_CFG_QUEUE, 15, 4095)]).setMat 15 { hooks := [(3, [])] }
     let s := s.wr64 (0x2800000 + 16 * 4095) (BitVec.ofNat 64 (1 + 6 * 128))
     (s.mat 15).hooks = [(3, [])] ∧ s.qValid (s.fld F.MAT_HOOK_CFG_QUEUE 15) = true ∧ s.qFull (s.fld F.MAT_HOOK_CFG_QUEUE 15) = false) ∧
    (let s := chn { ctx := 3, remote := 0, sinceAck := 1 }
     (s.chan 65535).map (·.sinceAck) = some 1) ∧
    (let t : TxPk := { seq := 2 ^ 32 - 1, opc := 0x20, tag := none, bytes := [], retries := 255 }
     let s := chn { ctx := 3, remote := 0, unret := [t] }
     (s.chan 65535).bind (fun c => c.tx (2 ^ 32 - 1)) = some t ∧ t.suspended = false ∧ t.queued = false ∧
     max 1 (s.fld F.REL_RTX_RETRY_LIMIT 15) ≤ t.retries) ∧
    (let t : TxPk := { seq := 2 ^ 32 - 1, opc := 0x20, tag := some 65535, bytes := [] }
     let o : Op := { ctx := 3, opc := 0x20, desc := desc [] }
     let s := (chn { ctx := 3, remote := 0, unret := [t] }).setOp 65535 o
     let u := s.count F.REL_CNT_RETX_COUNT 15
     (s.chan 65535).bind (fun c => c.tx (2 ^ 32 - 1)) = some t ∧ t.suspended = false ∧ t.queued = false ∧
     t.retries < max 1 (s.fld F.REL_RTX_RETRY_LIMIT 15) ∧ t.cand = none ∧ t.tag.bind u.op = some o ∧ u.chan 65535 = s.chan 65535) ∧
    (let s := dev [] []
     s.ep.chanWait = []) ∧
    (let s := chn { ctx := 3, remote := 0, txFresh := false }
     (s.chan 65535).map (fun c => (c.unret, c.txFresh)) = some ([], false) ∧ s.ep.op = []) ∧
    (let s := chn { ctx := 3, remote := 0, rxFresh := false }
     let u := s.setChan 65535 { ctx := 3, remote := fabAddr 2 5 }
     (s.chan 65535).map (·.rxFresh) = some false ∧ s.ep.msg = [] ∧
     ((u.setEp { u.ep with resp := u.ep.resp.filter (fun (e : Nat × Resp) => decide (e.1 / 2 ^ 32 ≠ 65535)) }).showRel 15).ep.msg = []) ∧
    (let x : RxEnt := { seq := 2 ^ 32 - 1, hold := .refused [] }
     let s := chn { ctx := 3, remote := 0, rx := [x] }
     (s.chan 65535).bind (fun c => c.holdOf (2 ^ 32 - 1)) = some x) ∧
    (let j : Job := { who := .put 15 0, ctx := 3, space := 0, va := 0, len := 1, write := true, slot := some 4095 }
     let s := dev [] []
     let s := { s with ep := { s.ep with job := [(0, j)] } }
     s.ep.job.find? (fun (e : Nat × Job) => decide (e.2.slot = some 4095) && decide (s.jobRel e.2 = 15)) = some (0, j)) ∧
    (let t : TxPk := { seq := 2 ^ 32 - 1, opc := 0x20, tag := none, bytes := [], suspended := true }
     let s := chn { ctx := 3, remote := 0, unret := [t] }
     (s.chan 65535).bind (fun c => c.tx (2 ^ 32 - 1)) = some t ∧ t.suspended = true) := by
  refine ⟨?_, ?_, ?_, ?_, ?_, ?_, ?_, ?_, ?_, ?_, ?_, ?_, ?_, ?_⟩ <;> decide +kernel

/-- A table entry or instruction in HBM: its bytes from an address. -/
def memOf (s : State) (a n v : Nat) : State :=
  { s with eng := { s.eng with mem := ((List.range n).map (fun i => (a + i, BitVec.ofNat 8 (v / 256 ^ i)))).filter (fun e => decide (e.2 ≠ 0#8)) } }

theorem test_meets_TranslationActs :
    (let w : Walk := { space := 1, va := 2 ^ 48 - 4096, level := 0, table := 4096 }
     let s := (memOf (dev [Dom.endpoint] []) (4096 + 8 * 511) 8 0x13).setXlt 31 { walks := [w] }
     let a := w.table + 8 * (w.va / 2 ^ (12 + 9 * w.level) % 512)
     let p := BitVec.ofNat 64 (leNat (((s.memRead a 8).1).getD []))
     (s.xlt 31).walks[0]? = some w ∧ a < hbmBytes ∧ s.armed F.XLT_INJECT_WALK_ERR 31 = false ∧ (s.memRead a 8).1.isSome = true ∧ pteBit p 0 = true ∧
     pteMalformed p w.level = false ∧ pteLeaf p = true) ∧
    (let w : Walk := { space := 1, va := 2 ^ 48 - 4096, level := 3, table := 4096 }
     let s := (memOf (dev [Dom.endpoint] []) (4096 + 8 * 511) 8 0x1).setXlt 31 { walks := [w] }
     let a := w.table + 8 * (w.va / 2 ^ (12 + 9 * w.level) % 512)
     let p := BitVec.ofNat 64 (leNat (((s.memRead a 8).1).getD []))
     (s.xlt 31).walks[0]? = some w ∧ a < hbmBytes ∧ (s.memRead a 8).1.isSome = true ∧ pteBit p 0 = true ∧ pteMalformed p w.level = false ∧
     pteLeaf p = false) ∧
    (let j : Job := { who := .payload 65535 0, ctx := 3, space := 0, va := 0, len := 1, write := false, fault := some (1, 0) }
     let s := dev [] []
     let s := { s with ep := { s.ep with job := [(0, j)] } }
     s.ep.job.find? (fun (e : Nat × Job) => e.2.fault.isSome && decide (e.2.who.tag = some 65535)) = some (0, j)) ∧
    (let s := dev [] [(F.XLT_INV_PAGES_COUNT, 31, 2 ^ 20)]
     s.flag F.XLT_INV_CTRL_BUSY 31 = false ∧ s.fld F.XLT_INV_PAGES_COUNT 31 ≤ 2 ^ 20 ∧
     (dev [] [(F.XLT_INV_CTRL_BUSY, 31, 1)]).flag F.XLT_INV_CTRL_BUSY 31 = true) ∧
    (let v : Inval := { scope := 0, space := 31 }
     let s := (dev [] []).setXlt 31 { inv := some v }
     let u := s.invRetry v
     let w := (u.setXlt 31 { u.xlt 31 with inv := none }).setFld F.XLT_INV_CTRL_BUSY 0 31
     (s.xlt 31).inv = some v ∧ s.invReady v = true ∧ ((w.setFld F.XLT_INV_SEQ_COUNT (w.fld F.XLT_INV_SEQ_COUNT 31 + 1) 31).xlt 31).invQ = []) ∧
    (let s := dev [] [(F.XLT_PTE_ADDR_ADDR, 31, hbmBytes - 8)]
     apertureOk (s.fld F.XLT_PTE_ADDR_ADDR 31) = true) ∧
    (let s := memOf (dev [] [(F.XLT_PTE_ADDR_ADDR, 31, 4096)]) 4096 8 0x1
     apertureOk (s.fld F.XLT_PTE_ADDR_ADDR 31) = true ∧ (s.memRead (s.fld F.XLT_PTE_ADDR_ADDR 31) 8).1 = some [1#8, 0#8, 0#8, 0#8, 0#8, 0#8, 0#8, 0#8]) := by
  refine ⟨?_, ?_, ?_, ?_, ?_, ?_, ?_⟩ <;> decide +kernel

/-- Hart 4095 about to run an instruction word at address 0, x2 holding an address. -/
def hrt (w a : Nat) : State :=
  let s := memOf (dev [Dom.cluster 31] [(F.ENG_HART_STOPPED_STOPPED, 31, 0)]) 0 4 w
  (s.setFld F.ENG_HART_STOPPED_STOPPED 0 31 3).putHart 4095 { x := [(2, BitVec.ofNat 64 a)] }

/-- What the statement asks of such a hart, for a command's class. -/
def runs (w a : Nat) (k : Cls) : Bool :=
  let s := hrt w a
  let f := s.fetch32 4095
  s.canRun 4095 && decide (s.irqOf 4095 = none) && (match f.1 with
    | .ok v => decide (v.toNat = w) && decide (f.2.clsOf 4095 (decodeRv v) = k)
    | .error _ => false) && !f.2.armed F.ENG_INJECT_STATE_ECC 31

theorem test_meets_HartInstructionsRun :
    ([(0x00000013, 0, Cls.base), (0x0FF0000F, 0, .fence), (0x100120AF, 0, .lr), (0x183120AF, 0, .sc), (0x003120AF, 0, .amo),
      (0x00012083, 0xF000000000, .device), (0x00012083, 0x40000000000000, .host), (0x0001010B, 0, .lq), (0x0041100B, 0, .sq), (0x0001208B, 0, .lkacq),
      (0x0201208B, 0, .lkacqTry), (0x0001308B, 0, .lkrel), (0x0041408B, 0, .qpushD), (0x0241408B, 0, .qpushQ), (0x0001508B, 0, .qpop),
      (0x0041608B, 0, .mprb), (0x0001708B, 0, .waitq), (0x000000AB, 0, .fenceEp), (0x0041102B, 0, .evsig), (0x0000202B, 0, .hret)] : List (Nat × Nat × Cls)).all
      (fun x => runs x.1 x.2.1 x.2.2) = true := by decide +kernel

theorem test_meets_InstructionsCompute :
    (let s := (hrt 0 0).putHart 4095 { frames := [{ pc := 8#64, priv := 0, prio := 1 }], priv := 1 }
     (s.hart 4095).frames.length = 1 ∧ (s.hart 4095).priv ≠ 0) ∧
    (((hrt 0 0).hart 4095).priv = 3) := by
  refine ⟨?_, ?_⟩ <;> decide +kernel

theorem test_meets_EnginesResetAndRun :
    (let s := (dev [] []).putHart 4095 { ftDone := false }
     (s.hart 4095).ftDone = false ∧ ((s.hart 4095).c CSR.ftcmp).toNat ≤ s.ftime) ∧
    (let s := dev [] []
     s.creset 31 = none ∧ s.armed F.ENG_INJECT_DRAIN_STALL 31 = false) ∧
    (let r : CReset := { kind := 1, hart := 127 }
     let s := (dev [] []).setCreset 31 (some r)
     s.creset 31 = some r ∧ s.resetDrained 31 r = true ∧ r.kind ≠ 3) ∧
    (let s := dev [] []
     s.fld F.ENG_HART_RUN_RUN 31 3 = 0) := by
  refine ⟨?_, ?_, ?_, ?_⟩ <;> decide +kernel

theorem test_meets_MemoryMessagesAreDelivered :
    (let s := dev [] []
     (s.l2 31 (hbmBytes - 1)).st = .i ∧ (s.l2 31 (hbmBytes - 1)).retiring = false) ∧
    (let s := (dev [] []).setL2 31 7 { st := .o }
     (s.l2 31 7).st = .o ∧ (s.l2 31 7).retiring = false) ∧
    (let s := (dev [] []).setL2 31 7 { st := .s }
     (s.l2 31 7).st = .s ∧ (s.l2 31 7).retiring = false) ∧
    (let s := (dev [] []).setL2 31 7 { st := .m }
     (s.l2 31 7).st = .m ∧ (s.l2 31 7).retiring = false) ∧
    (([0#8] : List Byte).length + 63 ≤ 64) ∧
    (∀ k ∈ [CCode.fill, .grant, .probeSh, .probeEx, .probeKill, .none, .ack, .clean, .dirty],
      let m : CMsg := { code := k, agent := 31, line := 7 }
      let s := dev [] []
      let s := { s with eng := { s.eng with net := [m] } }
      s.eng.net.findIdx? (fun m => decide (m.agent = 31) && decide (m.line = 7)) = some 0 ∧ s.eng.net[0]? = some m ∧ s.deferred 31 7 = false) ∧
    (let s := (dev [] []).putHart 4095 { resv := some (7, true) }
     (s.hart 4095).resv = some (7, true)) := by
  refine ⟨?_, ?_, ?_, ?_, ?_, ?_, ?_⟩ <;> decide +kernel

theorem test_meets_MemoryIsMarkedScrubbedAndRefreshed :
    (let s := dev [] [(F.HOM_POISON_ADDR_ADDR, 0, 0)]
     0 < hbmLines ∧ s.fld F.HOM_POISON_ADDR_ADDR 0 / 64 = 0 ∧ homeOf 0 = 0 ∧ s.fld F.HOM_POISON_CTRL_BUSY 0 = 0) ∧
    (let s := dev [] [(F.HOM_POISON_CTRL_BUSY, 7, 1)]
     s.fld F.HOM_POISON_CTRL_BUSY 7 = 1) ∧
    (let s := dev [] [(F.LCK_CLR_ADDR_ADDR, 0, 2 ^ 56 - 8)]
     let s := { s with eng := { s.eng with lck := [(2 ^ 56 - 8, { abandoned := true })] } }
     s.lock (s.fld F.LCK_CLR_ADDR_ADDR % 2 ^ 56) = some { abandoned := true }) ∧
    (let s := dev [] [(F.HBM_CFG_SCRUB_EN, 0, 1), (F.HBM_STATUS_STATE, 0, 1)]
     s.flag F.HBM_CFG_SCRUB_EN 0 = true ∧ stackOf 0 = 0 ∧ s.fld F.HBM_STATUS_STATE 0 = 1 ∧ s.armed F.HBM_INJECT_CORR 0 = false ∧
     (s.setArmed F.HBM_INJECT_CORR 0 true).armed F.HBM_INJECT_CORR 0 = true) ∧
    (let s := dev [] [(F.HBM_STATUS_STATE, 3, 1)]
     let s := { s with pwr := { s.pwr with dom := (List.range 113).map (fun d => (d, ({ st := .asleep } : Dom))) } }
     (∀ d < 80, (s.dom d).st = .asleep) ∧ s.fld F.HBM_STATUS_STATE 3 = 1) ∧
    (let s := dev [] []
     let s := { s with pwr := { s.pwr with hbmSr := [(3, true)] } }
     mget false s.pwr.hbmSr 3 = true) := by
  refine ⟨?_, ?_, ?_, ?_, ?_, ?_⟩ <;> decide +kernel

theorem test_meets_PlacementActs :
    (let s := dev [] [(F.PLC_CFG_MIG_EN, 0, 1), (F.PLC_CFG_CONSOLIDATE_EN, 0, 0)]
     s.flag F.PLC_CFG_MIG_EN = true ∧ s.balance.flag F.PLC_CFG_CONSOLIDATE_EN = false) ∧
    (let s := dev [] [(F.PLC_CFG_MIG_EN, 0, 1), (F.PLC_CFG_CONSOLIDATE_EN, 0, 1)]
     s.flag F.PLC_CFG_MIG_EN = true ∧ s.balance.flag F.PLC_CFG_CONSOLIDATE_EN = true) ∧
    (let s := rdy { ctx := 3, opc := 1 } [(262143, { state := CS.enabled })]
     let u := (s.setFld F.PLC_MIG_STATUS_CONTEXT 262143).setFld F.PLC_MIG_STATUS_PENDING 0
     s.flag F.PLC_MIG_STATUS_PENDING = false ∧ (s.ctx 262143).state ≠ CS.disabled ∧ (s.ctx 262143).state ≠ CS.resetting ∧
     31 ∈ allowedSet (u.hint 262143) ∧ u.oldEpoch 262143 = false) ∧
    (let s := rdy { ctx := 3, opc := 1 } [(262143, { state := CS.enabled })]
     let s := { s with regs := { s.regs with staged := mput [] [] Agent.mgmt.key [(0x3000000 + 8 * 262143, 1#32)] } }
     let x := merase (mget [] s.regs.staged Agent.mgmt.key) (0x3000000 + 8 * 262143)
     let u := ((({ s with regs := { s.regs with staged := mput [] s.regs.staged Agent.mgmt.key x } } : State).wr (0x3000000 + 8 * 262143) 1#32).wr
       (0x3000000 + 8 * 262143 + 4) (0#32 &&& 0xFFFC0000#32))
     mfind (mget [] s.regs.staged Agent.mgmt.key) (0x3000000 + 8 * 262143) = some 1#32 ∧ (u.ctx 262143).steered = false ∧
     (let u := u.setCtx 262143 { u.ctx 262143 with steered := true, cluster := 31 }
      (u.ctx 262143).steered = true ∧ (u.ctx 262143).cluster ∉ allowedSet (u.hint 262143))) ∧
    (let o : Op := { ctx := 3, opc := 1, handler := 1 }
     let s := rdy o []
     s.op 65535 = some o ∧ o.handler ∈ [1, 3, 4]) := by
  refine ⟨?_, ?_, ?_, ?_, ?_⟩ <;> decide +kernel

theorem test_meets_SchedulersRefillAndTheArbiterGrants :
    (let s := dev [] [(F.SCH_SHAPER_RATE, 15, 1), (F.SCH_SHAPER_BURST, 15, 100000)]
     min (s.tokens 15 0 + s.fld F.SCH_SHAPER_RATE 15 0) (max 4396 (s.fld F.SCH_SHAPER_BURST 15 0) : Nat) ≠ s.tokens 15 0) ∧
    (let q : RegReq := { agent := .jtag, write := true, addr := 0x540018 }
     let s := { dev [] [] with rfa := { req := [(1, [q])] } }
     s.rfa.sitOut = [] ∧ s.rfaPresentNow = [(1, q)] ∧ q.write = true ∧
     (let q : RegReq := { agent := .jtag, write := false, addr := 0x540018 }
      let s := { dev [] [] with rfa := { req := [(1, [q])] } }
      s.rfaPresentNow = [(1, q)] ∧ q.write = false)) ∧
    (let q : RegReq := { agent := .jtag, write := true, addr := 0x540018 }
     let s := { dev [] [(F.RFA_WAIT_WARN_US, 0, 1)] with rfa := { req := [(97, [q])] } }
     mget [] s.rfa.req 97 = [q] ∧ q.warned = false ∧ s.fld F.RFA_WAIT_WARN_US ≠ 0) ∧
    (let q : RegReq := { agent := .jtag, write := true, addr := 0x540018 }
     let s0 := dev [] []
     let s := { s0 with rfa := { req := [(97, [q])] }, regs := { s0.regs with softReset := [(0x540, true)] } }
     mget [] s.rfa.req 97 = [q] ∧ q.heldWarned = false ∧ mget false s.regs.softReset (q.addr / 0x1000) = true) := by
  refine ⟨?_, ?_, ?_, ?_⟩ <;> decide +kernel

theorem test_meets_KeystoneActs :
    (reports 767 = true ∨ reports 0 = true) ∧ (1#8) ≠ 0 ∧
    (let s := { dev [] [] with kst := { react := some 0 } }
     s.kst.react = some 0 ∧ 0 ≤ 10 * s.clk) ∧
    (let s := dev [Dom.pipe 0] []
     reports 0 = true ∧ s.beatExempt 704 = false ∧ reports 704 = true) ∧
    (let s := dev [] []
     let s := { s with eng := { s.eng with tx := [(0, { ask := { code := .ioRead, agent := 32 } })] } }
     (s.watched 3 0 255 = none) ∧ s.watched 3 0 0 = some (480, some 0, 0) ∧ mget 0 s.kst.stalled ((480 * 8 + 3) * 2 ^ 18 + 0) ≠ 0 + 1) ∧
    (let s := dev [] [(F.KST_LOG_TAIL_COUNT, 0, 1024)]
     3 ≤ s.agentLevel .mgmt ∧ s.reactDue = false ∧ seqDist 32 (1024#32).toNat (s.fld F.KST_LOG_HEAD_COUNT) ≤ s.logLive) ∧
    ((dev [] []).armed F.KST_INJECT_LOG_ECC 0 = false) ∧
    ((dev [] []).agentLevel (.pier 63) < 3 ∧ 3 ≤ (dev [] []).agentLevel .mgmt) ∧
    (let v : W32 := BitVec.ofNat 32 (2 ^ 31 + 704 * 2 ^ 20 + 2 ^ 12)
     bitAt v 31 = true ∧ bits v 12 8 ≠ 0 ∧ reports (bits v 20 10) = true ∧ bitAt (0#32) 31 = false) := by
  refine ⟨?_, ?_, ?_, ?_, ?_, ?_, ?_, ?_⟩ <;> decide +kernel

theorem test_meets_PowerActs :
    (let s := dev [112] [(F.PWR_CFG_SLEEP_EN, 0, 1)]
     s.awake 112 = true ∧ s.flag F.PWR_CFG_SLEEP_EN = true ∧ s.sleepAllowed 112 = true ∧ s.domIdle 112 = true) ∧
    (let s (w : Bool) := { dev [] [] with pwr := { inReset := none, dom := [(112, { st := .entering, wakeWaiting := w })] } }
     ((s false).dom 112).st = .entering ∧ ((s false).dom 112).wakeWaiting = false ∧ ((s false).setDom 112 { st := .asleep }).sleepAllowed 112 = true ∧
     ((s true).dom 112).st = .entering ∧ ((s true).dom 112).wakeWaiting = true) ∧
    (let s := { dev [] [] with pwr := { inReset := none, dom := [(112, { st := .waking })] } }
     (s.dom 112).st = .waking ∧ s.thermalHold = false ∧ s.pwr.inReset = none ∧ mget false s.pwr.wakeLate 112 = false) ∧
    (let s := dev [] []
     s.til = [] ∧ ((s.setFld F.CLK_PPM_OFFSET 5 0 1).count F.CLK_CNT_LOSS_COUNT 0).til = []) ∧
    (let s := dev [] []
     650 ≤ 800 ∧ 800 % 5 = 0 ∧ s.pwr.avsAt = none) ∧
    (let r : List Byte := List.replicate 23 30#8 ++ [31#8]
     let s := dev [] []
     tempTies r = [23] ∧ s.pwr.inReset = none ∧ (s.tempPut r 23 (tempTop r)).pwr.inReset = none) ∧
    (let s := dev [] [(F.SNS_SUPPLY_UV_MV, 0, 0)]
     let mv := s.fld F.SNS_SUPPLY_UV_MV 0 6
     let u := (s.setFld F.SNS_SUPPLY_MV mv 0 6).setFld F.SNS_SUPPLY_CUR_DA 0 0 6
     mv < 2 ^ 16 ∧ u.supplyOk 6 mv = true) ∧
    (signedOf 8 (95#8).toNat ≤ 95) := by
  refine ⟨?_, ?_, ?_, ?_, ?_, ?_, ?_, ?_⟩ <;> decide +kernel

theorem test_meets_ResetsBeginAndEnd :
    (let s := dev [] []
     s.pwr.inReset ≠ some .powerOn ∧ s.devOpen .mgmt = true ∧ s.thermalHold = false ∧ s.safe = false ∧ s.pwr.resetPending = none) ∧
    (let s := dev [] []
     ({ s with pwr := { s.pwr with resetPending := some .coldCmd } } : State).pwr.resetPending = some .coldCmd ∧
     ({ s with pwr := { s.pwr with resetPending := some .warmCmd } } : State).pwr.resetPending = some .warmCmd) ∧
    (let s : State := {}
     let u := ((({ s with pwr := { s.pwr with inReset := none } }).setFld F.PWR_STATE_THERMAL_HOLD 0).setFld F.DEV_BOOT_BOOT_SEL 3).setFld F.DEV_BOOT_MGT_MODE 1
     let v := (u.wr 0x44100 (setBits (u.rd 0x44100) 0 1 1)).seedPipes
     s.pwr.inReset.isSome = true ∧ s.pwr.pwrok = true ∧ s.pwr.resetN = true ∧ s.pwr.coldWaitsTemp = false ∧
     (v.raise 704 0x04 (v.fld F.PWR_RESET_STAT_LAST * 2 ^ 24)).portUp 64 = false) := by
  refine ⟨?_, ?_, ?_⟩ <;> decide +kernel

/-- A device in a boot step, with the image of a type loaded and an empty body whose hash stands in its header. -/
def booted (n i : Nat) (s : State) : State :=
  let s := (s.setFld F.SEC_IMG_LOADED 1 0 i).setFld F.SEC_IMG_COPY 0 0 i
  let s := s.setSec { s.sec with bootStep := n }
  (s.flashPut (imgSlot i 0 + 16) (List.replicate 4 0#8)).flashPut (imgSlot i 0 + 32) (sha256 [])

/-- A device that applies configuration entries, of which the next one has the given bytes. -/
def cfg (op a b c : Nat) (rest : List Byte) : State :=
  let s := dev [] []
  s.setSec { s.sec with bootStep := 5, cfgOn := true, cfgBody := leBytes 4 op ++ leBytes 4 a ++ leBytes 4 b ++ leBytes 4 c ++ rest }

theorem test_meets_BootStagesAndConfigurationAct :
    ((booted 1 0 (dev [] [])).booting = true ∧ ((booted 1 0 (dev [] [])).bodyCheck 0 false).1 = 0) ∧
    ((booted 2 0 (dev [] [])).booting = true ∧ (booted 2 0 (dev [] [])).sec.bootStep = 2) ∧
    (let s := booted 3 3 (dev [] [])
     s.booting = true ∧ s.sec.bootStep = 3 ∧ s.flag F.SEC_IMG_LOADED 0 3 = true ∧ (s.bodyCheck 3 false).1 = 0) ∧
    (let s := booted 5 2 (dev [] [])
     s.booting = true ∧ s.sec.bootStep = 5 ∧ s.sec.cfgOn = false ∧ s.flag F.SEC_IMG_LOADED 0 2 = true ∧ (s.bodyCheck 2 false).1 = 0) ∧
    ((booted 6 0 (dev [] [])).booting = true ∧ (booted 6 0 (dev [] [])).sec.bootStep = 6) ∧
    ((cfg 0 0 0 0 []).cfgAt 0 = true ∧ (cfg 3 0 0 0 []).cfgAt 3 = true) ∧
    (let s := cfg 1 0x540018 1 0 []
     s.cfgAt 1 = true ∧ s.cfgBadRead s.cfgA = false ∧ s.pageBlocked (s.cfgA / 0x1000) = false ∧ s.cfgBadWrite s.cfgA (BitVec.ofNat 32 s.cfgB) = false) ∧
    (let s := cfg 1 (0x1F0) 1 0 []
     s.cfgAt 1 = true ∧ s.cfgBadRead s.cfgA = false ∧ s.pageBlocked (s.cfgA / 0x1000) = false ∧ s.cfgBadWrite s.cfgA (BitVec.ofNat 32 s.cfgB) = true) ∧
    (let s := cfg 2 0x540018 0 0 []
     s.cfgAt 2 = true ∧ s.cfgBadRead s.cfgA = false ∧ s.pageBlocked (s.cfgA / 0x1000) = false ∧
     (s.cfgGrant.busRead .boot s.cfgA).1 &&& BitVec.ofNat 32 s.cfgB = BitVec.ofNat 32 s.cfgC) ∧
    (let s := cfg 4 0x540018 4 0 (List.replicate 16 0#8)
     s.cfgAt 4 = true ∧ s.cfgB % 4 = 0 ∧ 16 + s.cfgB ≤ s.sec.cfgBody.length ∧ s.pageBlocked (s.cfgA / 0x1000) = false ∧
     (s.fillWords s.cfgA (s.sec.cfgBody.drop 16) (s.cfgB / 4)).1 = true) ∧
    ((dev [] []).bootHold = false ∧ (dev [] []).pwr.inReset = none) := by
  refine ⟨?_, ?_, ?_, ?_, ?_, ?_, ?_, ?_, ?_, ?_, ?_⟩ <;> decide +kernel

theorem test_meets_SecurityCommandsAct :
    (let s := (dev [] []).setSec { fuseOps := [{ op := 1, arg := 3, data := 5 }] }
     s.sec.fuseOps = [{ op := 1, arg := 3, data := 5 }] ∧ (s.keySlot 3).programmed = false ∧ (s.keySlot 3).partly = false) ∧
    (let s := (dev [] []).setSec { fuseOps := [{ op := 2, arg := 3, data := 5 }] }
     s.sec.fuseOps = [{ op := 2, arg := 3, data := 5 }]) ∧
    ((dev [] []).flag F.SEC_FLASH_CMD_BUSY = false) ∧
    (let s := (dev [] []).setSec { flashOp := some { op := 3, addr := 65536 } }
     s.sec.flashOp = some { op := 3, addr := 65536 } ∧ 65536 % 65536 = 0 ∧ s.flashProtected 65536 65536 = false) ∧
    ((dev [] []).flag F.SEC_ATTEST_BUSY = false ∧ (dev [] [(F.SEC_ATTEST_BUSY, 0, 1)]).flag F.SEC_ATTEST_BUSY = true) ∧
    ((dev [] []).flag F.SEC_EXTEND_BUSY = false ∧ ((dev [] []).setSec { extendRun := some 5 }).sec.extendRun = some 5) := by
  refine ⟨?_, ?_, ?_, ?_, ?_, ?_⟩ <;> decide +kernel

theorem test_meets_TalliesAndTheTapAct :
    (let s := dev [] [(F.TAL_DUMP_CFG_PERIOD_US, 0, 1), (F.TAL_DUMP_CFG_DEST, 0, 1), (F.SPN_SESSION_STATE, 64, SS.open_)]
     s.dumpDue = true ∧ s.dumpSkips = false) ∧
    (let s := dev [] [(F.TAL_DUMP_CFG_PERIOD_US, 0, 1), (F.TAL_DUMP_CFG_DEST, 0, 1)]
     s.dumpDue = true ∧ s.dumpSkips = true) ∧
    (let d : Dump := { record := [], dest := 0, port := 0, base := hbmBytes - 4096, offset := 4096, seq := 0 }
     let s := { dev [] [] with tal := { dump := some d } }
     s.tal.dump = some d ∧ d.base + d.offset + d.record.length ≤ hbmBytes) ∧
    (let d : Dump := { record := [], dest := 1, port := 64, base := 0, offset := 0, seq := 0 }
     let s := { dev [] [] with tal := { dump := some d } }
     s.tal.dump = some d ∧ d.dest ≠ 0 ∧ (s.pier d.port).wait.any (fun t => decide (t.f.op = 0x31) && decide (t.f.target = d.seq)) = false) := by
  refine ⟨?_, ?_, ?_, ?_⟩ <;> decide +kernel

/-- The list of the statement is not empty, and a command of it arms its bit in a state in which the bit is not armed. -/
theorem test_meets_InjectionsAreArmed : (dev [] []).armed F.VIA_INJECT_TIME_ERR 0 = false := by decide +kernel

theorem test_meets_AStepRunsTheFrontCommand : ({ State.reset with pending := [.heartbeat 5] } : State).pending = [.heartbeat 5] := rfl

theorem test_meets_WithNoCommandTimePasses :
    (State.reset.pending = []) ∧
    (let s := dev [] []
     s.prbs = [] ∧ s.eng.hart = [] ∧ (∀ c < 32, s.awake (Dom.cluster c) = false) ∧ slewStep s.via.servo.slew = 0) := by decide +kernel

/-- A device with a fuse programmed and one revoked, and commands in its queue. -/
def fused (p : List Instr) : State := { dev [] [] with sec := { slots := [(0, { programmed := true, hash := 5 }), (3, { revoked := true })], svnMin := [(1, 7)] }, pending := p }

theorem test_meets_NoStepUndoesAFuse :
    (match step (fused [.heartbeat 5]) with
     | .next t => t.pending.isEmpty
     | _ => false) = true ∧ (mget {} (fused []).sec.slots 0).programmed = true ∧ (mget {} (fused []).sec.slots 3).revoked = true := by decide +kernel

theorem test_meets_EveryStepKeepsTheCanonicalForm :
    (match step (fused [.heartbeat 5]) with
     | .next t => t.pending.isEmpty
     | _ => false) = true ∧ mwf (fun _ => {}) (fused []).sec.slots = true ∧ mwf (fun _ => 0) (fused []).sec.svnMin = true ∧
    mwf (fun _ => 0xFF#8) (fused []).sec.flash = true := by decide +kernel

theorem test_meets_OnlyTheirCommandsChangeFusesAndFlash :
    (∀ b, Instr.heartbeat 5 ≠ .fuseCmdDone b) ∧ (∀ b, Instr.heartbeat 5 ≠ .flashCmdDone b) ∧ (match exec (.heartbeat 5) (fused []) with
     | .next _ => true
     | _ => false) = true := by decide +kernel

theorem test_meets_MemoriesReadAsWritten :
    Memory.wf [(5, 1#8)] = true ∧ mwf (fun _ => 0xFF#8) [(5, 1#8)] = true := by decide +kernel

theorem test_meets_FieldsReadAsWritten :
    F.LNK_LSTATE_STATE.lo + F.LNK_LSTATE_STATE.w ≤ 32 ∧ F.LNK_CFG_FIRST_LANE.w ≤ 32 ∧
    F.LNK_CFG_FIRST_LANE.addr 255 0 ≠ F.LNK_LSTATE_STATE.addr 255 0 := by decide +kernel

theorem test_meets_TheArbiterGrantsTheHighestInTurn :
    (let q (r : Nat) : Nat × RegReq := (r, { agent := .jtag, write := true, addr := 0 })
     let rs := [q 1, q 50, q 97]
     let s := { dev [] [] with rfa := { lastAt := [((dev [] []).rfaPrio 50, 97)] } }
     rs.Pairwise (fun a b => a.1 < b.1) ∧ (s.rfaWinner rs).isSome = true) := by decide +kernel

theorem test_meets_AMessageFitsByTheMatchRule :
    (let p : Post := { ctx := 3, tag := 5, ignore := 2 ^ 64 - 1, src := 0, comm := 1, anySrc := true, handler := false, buf := 0, len := 0, id := 0, stamp := 0 }
     let m : Msg := { ctx := 3, chan := 0, mseq := 0, tag := 6, len := 0, comm := 1, src := 2, st := .held }
     p.ignore = 2 ^ 64 - 1 ∧ p.tag < 2 ^ 64 ∧ m.comm = p.comm ∧ p.anySrc = true) := by decide +kernel

theorem test_meets_TheSignOfAZeroSum :
    (let f : Fmt := ⟨2, 5, 10, 1⟩
     let a : Acc := { zpos := false, zneg := true }
     f.isInt = false ∧ a.v = 0 ∧ a.nan = false ∧ a.pinf = false ∧ a.ninf = false ∧ a.zneg = true ∧
     ({ a with zneg := false, zpos := true } : Acc).v = 0 ∧ ({ a with zneg := false } : Acc).v = 0) := by decide +kernel

theorem test_meets_CreditLimitsAreTakenUnlessBehindOrTooFar :
    ∀ x ∈ [(2 ^ 23, 0, 6), (2 ^ 20 + 1, 0, 6), (2 ^ 20, 0, 6), (2 ^ 20, 0, 7)],
     (let m := bypMsg 0x01 (0x60 * 2 ^ 49 + x.1)
      let s := lnk 255 { bypIn := [(m, 5)], step := x.2.2 } []
      let u := (s.takeByp 255 [0x01]).2
      (s.takeByp 255 [0x01]).1 = some (m, 5) ∧ bits m 49 7 = 0x60 ∧ bits m 0 24 = x.1 ∧ 0x60 ∈ u.pools 255 ∧ 6 ≤ (u.link 255).step ∧
      (if x.1 = 2 ^ 23 then 2 ^ 23 ≤ seqDist 24 x.1 (mget 0 (u.link 255).limit 0x60)
       else seqDist 24 x.1 (mget 0 (u.link 255).limit 0x60) < 2 ^ 23 ∧
         (if x.1 = 2 ^ 20 then seqDist 24 x.1 (mget 0 (u.link 255).used 0x60) ≤ 2 ^ 20 else 2 ^ 20 < seqDist 24 x.1 (mget 0 (u.link 255).used 0x60)))) := by
  decide +kernel

theorem test_meets_ResetLeavesThePageHeaders : (blockOfPage 0x100).isSome = true ∧ (blockOfPage 0).isSome = true := by decide +kernel

theorem test_meets_WritesActByAccessType :
    (regWordAt 0x540018).any (fun w => decide (w.rw ≠ 0)) = true ∧ (regWordAt (F.VIA_CYCLE_NS.addr 0 0)).any (fun w => decide (w.rws ≠ 0)) = true ∧
    (regWordAt 0x540014).any (fun w => decide (w.w1c ≠ 0)) = true := by decide +kernel

theorem test_meets_SumsAreExactInEveryOrder :
    (let f : Fmt := ⟨4, 8, 23, 5⟩
     let vs := [f.val 0x3F800000, f.val 0x7F7FFFFF, f.val 0x00000001, f.val 0xFF800000]
     fmtOf 3 = some f ∧ (∀ v ∈ vs, valBad f v = false) ∧ 0xFF800000 < 256 ^ f.bytes) := by decide +kernel

end Sys2Proof.Tests
end

/-! ## Scope, conventions and glossary: what a register field reads as after a write -/

namespace Sys2Proof.Machine

/-- Settles O45: the field's own word takes the value; a field of another word is untouched because its word is, and a field beside it in
the same word because its bits are. -/
theorem fieldsReadAsWritten : Obligations.FieldsReadAsWritten := by
  unfold Obligations.FieldsReadAsWritten
  constructor
  · exact State.fld_setFld_self
  · intro s f g v n i m j hf hg hapart
    by_cases hword : g.addr m j = f.addr n i
    · have hbeside : f.lo + f.w ≤ g.lo ∨ g.lo + g.w ≤ f.lo := hapart.resolve_left (not_not_intro hword)
      exact State.fld_setFld_beside s f g v n i m j hf hg hword hbeside
    · exact State.fld_setFld_ne s f g v n i m j hf hg hword

end Sys2Proof.Machine

/-! ## System architecture: sleep and wake of domains, clocks, and sensors -/

namespace Sys2Proof.Machine

/-! ### Sleep and wake (R27, R522, R536) -/

theorem execSleepEntryStart_of_idle {d : Fin 113} {s : State} (hawake : s.awake d = true) (hen : s.flag F.PWR_CFG_SLEEP_EN = true)
    (hallow : s.sleepAllowed d = true) (hidle : s.domIdle d = true) :
    execSleepEntryStart d s =
      .next ((if d.val < 32 then (List.range 128).foldl (fun s i => s.drainSb (128 * d + i)) s else s).setDom d { st := .entering }) :=
  if_pos ⟨hawake, hen, hallow, hidle⟩

/-- A domain that is no cluster has no caches and no host accesses: its entry ends at once, and a cause that waits or a cleared
SLEEP_ALLOW wakes it again (R28, R522). -/
theorem State.sleepDone_of_entering {d : Nat} {s : State} (hd : 32 ≤ d) (hst : (s.dom d).st = .entering) :
    s.sleepDone d = if (s.dom d).wakeWaiting = true ∨ ¬ (s.setDom d { st := .asleep }).sleepAllowed d = true
      then (s.setDom d { st := .asleep }).wake d else s.setDom d { st := .asleep } := by
  have hcluster : ¬ d < 32 := Nat.not_lt.mpr hd
  simp only [State.sleepDone, hst, hcluster, ne_eq, not_true_eq_false, false_and, or_self, if_false]

/-- A domain that is no cluster becomes awake and is no longer told late; it has no harts to attend (R27, R536). -/
theorem State.wakeDone_of_waking {d : Nat} {s : State} (hd : 32 ≤ d) (hst : (s.dom d).st = .waking) (hhold : s.thermalHold = false)
    (hreset : s.pwr.inReset = none) :
    s.wakeDone d = { s.setDom d { st := .awake } with
      pwr := { (s.setDom d { st := .awake }).pwr with wakeLate := mput false (s.setDom d { st := .awake }).pwr.wakeLate d false } } := by
  have hcluster : ¬ d < 32 := Nat.not_lt.mpr hd
  simp only [State.wakeDone, hst, hhold, hreset, hcluster, ne_eq, not_true_eq_false, Bool.false_eq_true, Option.isSome_none, or_self, if_false]

theorem execWakeTimeout_of_waking {d : Fin 113} {s : State} (hst : (s.dom d).st = .waking) (hlate : mget false s.pwr.wakeLate d = false) :
    execWakeTimeout d s = .next (({ s with pwr := { s.pwr with wakeLate := mput false s.pwr.wakeLate d true } }).raise 704 0x01
      ((Config.domainTypeCode (domType d).1).toNat * 256 + (domType d).2)) := by
  have hrun : ¬ ((s.dom d).st ≠ .waking ∨ mget false s.pwr.wakeLate d = true) := by simp [hst, hlate]
  exact if_neg hrun

/-! ### Clocks (R526, R527) -/

/-- With no tile PLL there is none that REFCLK1 feeds: its loss is shown and recorded, and no link goes down. -/
theorem execRefclkLoss_one_of_no_pll {ppm : W16} {s u : State}
    (hu : u = (s.setFld F.CLK_PPM_OFFSET ppm.toNat 0 1).count F.CLK_CNT_LOSS_COUNT 0) (htil : u.til = []) :
    execRefclkLoss 1 ppm s = .next ({ u.setFld F.CLK_STATUS_REF1_OK 0 with
      pwr := { (u.setFld F.CLK_STATUS_REF1_OK 0).pwr with ref1Lost := true } }.raise 705 0x02 ppm.toNat) := by
  simp only [execRefclkLoss, Fin.val_one, ← hu, one_ne_zero, htil, List.any_nil, Bool.false_eq_true, if_false]

/-- A target on a 5 mV step from 650 mV up, at least 100 µs after the last change, is taken. -/
theorem execAvsTargetChange_of_due {mv : Fin 801} {s : State} (hlow : 650 ≤ mv.val) (hstep : mv.val % 5 = 0)
    (hdue : ∀ t, s.pwr.avsAt = some t → t + 100000 ≤ s.clk) :
    execAvsTargetChange mv s = .next { s.setFld F.PWR_AVS_TARGET_MV mv with
      pwr := { s.pwr with avsOld := s.fld F.PWR_AVS_TARGET_MV, avsAt := some s.clk } } := by
  cases hat : s.pwr.avsAt with
  | none => simp [execAvsTargetChange, hat, hlow, hstep]
  | some t => simp [execAvsTargetChange, hat, hlow, hstep, hdue t hat]

/-! ### Sensors (R533, R534, R606) -/

@[simp] theorem State.fld_with_pwr (s : State) (p : Power) (f : Fld) (n i : Nat) : ({ s with pwr := p } : State).fld f n i = s.fld f n i := rfl

@[simp] theorem State.tempPut_pwr (s : State) (r : List Byte) (hot : Nat) (top : Int) : (s.tempPut r hot top).pwr = s.pwr := by
  have hwords (l : List Nat) (u : State) : (l.foldl (fun s i => s.setFld F.SNS_TEMP_C (leAt r (4 * i) 4) 0 i) u).pwr = u.pwr := by
    induction l generalizing u with
    | nil => rfl
    | cons i l ih => simp only [List.foldl_cons, ih, State.setFld_pwr]
  simp only [State.tempPut, State.setFld_pwr, hwords]

/-- Out of reset, readings with one hottest sensor enter their registers and are checked against the limits. -/
theorem execTempSample_of_one_hottest {r : List Byte} {s : State} {h : Nat} (hties : tempTies r = [h]) (hreset : s.pwr.inReset = none) :
    execTempSample r s = .next ((s.tempPut r h (tempTop r)).tempCheck h (tempTop r)) := by
  simp only [execTempSample, hties, State.pickTie, Option.getD_some, State.tempPut_pwr, hreset, Option.isSome_none, Bool.false_eq_true, if_false]

/-- A sample in range on a rail that the injection does not force is shown and ends the rail's run of bad samples. -/
theorem execSupplySample_of_ok {r : Fin 8} {mv da : W16} {s u : State} (hr : r ≠ 7)
    (hu : u = (s.setFld F.SNS_SUPPLY_MV mv.toNat 0 r).setFld F.SNS_SUPPLY_CUR_DA (if r.val ∈ [0, 1, 3, 5] then da.toNat else 0) 0 r)
    (hok : u.supplyOk r mv.toNat = true) :
    execSupplySample r mv da s = .next { u with pwr := { u.pwr with supplyBad := mput 0 u.pwr.supplyBad r 0 } } := by
  have hforced : ¬ r.val = 7 := fun h => hr (Fin.ext h)
  simp only [execSupplySample, ← hu, hok, hforced, decide_false, Bool.false_and, Bool.false_eq_true, not_true_eq_false, or_self, if_false,
    OfNat.zero_ne_ofNat]

/-- Up to 95 °C a stack does not fail; its refresh follows the temperature. -/
theorem execHbmTempChange_of_cool {n : Fin 4} {c : Byte} {s : State} (hcool : signedOf 8 c.toNat ≤ 95) :
    execHbmTempChange n c s = .next { s.setFld F.HBM_STATUS_TEMP_C c.toNat n with
      pwr := { (s.setFld F.HBM_STATUS_TEMP_C c.toNat n).pwr with
        hbmFast := mput false (s.setFld F.HBM_STATUS_TEMP_C c.toNat n).pwr.hbmFast n (decide (85 < signedOf 8 c.toNat)) } } :=
  if_neg (fun hot => absurd hot.1 (not_lt.mpr hcool))

/-- Settles O31: each clause is the branch that its command takes under the clause's hypotheses. -/
theorem powerActs : Obligations.PowerActs := by
  unfold Obligations.PowerActs
  refine ⟨?sleepStart, ?sleepDone, ?wakeDone, ?wakeLate, ?loss0, ?loss1, ?return0, ?unlock, ?avs, ?temp, ?supply, ?inject, ?hbm⟩
  case sleepStart => exact fun d s => execSleepEntryStart_of_idle
  case sleepDone =>
    intro d s hd hst
    have hdone : exec (.sleepEntryDone d) s = .next (s.sleepDone d).drain := rfl
    rw [hdone, State.sleepDone_of_entering hd hst]
    constructor
    · intro hquiet hallow
      rw [if_neg (by simp [hquiet, hallow])]
    · intro hcause
      rw [if_pos (.inl hcause)]
  case wakeDone =>
    intro d s u hd hst hhold hreset hu
    have hdone : exec (.domainWakeDone d) s = .next (s.wakeDone d).drain := rfl
    rw [hdone, State.wakeDone_of_waking hd hst hhold hreset, hu]
  case wakeLate => exact fun d s => execWakeTimeout_of_waking
  case loss0 => exact fun ppm s => rfl
  case loss1 =>
    intro ppm s u _ hu htil
    rw [hu]
    exact execRefclkLoss_one_of_no_pll rfl htil
  case return0 => exact fun ppm s => rfl
  case unlock => exact fun p s => rfl
  case avs =>
    intro mv s hlow hstep hdue
    refine ⟨_, execAvsTargetChange_of_due hlow hstep hdue, ?_, rfl, rfl⟩
    have hfits : mv.val % 2 ^ 16 = mv.val := Nat.mod_eq_of_lt (by omega)
    rw [State.fld_with_pwr, State.fld_setFld_self _ _ _ _ _ (by decide), hfits]
  case temp => exact fun r s h hties hreset _ => execTempSample_of_one_hottest hties hreset
  case supply => exact fun r mv da s u => execSupplySample_of_ok
  case inject => exact fun s => ⟨_, rfl, rfl⟩
  case hbm =>
    intro n c s hcool
    refine ⟨_, execHbmTempChange_of_cool hcool, ?_, mget_mput_self ..⟩
    have hfits : c.toNat % 2 ^ 8 = c.toNat := Nat.mod_eq_of_lt c.isLt
    rw [State.fld_with_pwr, State.fld_setFld_self _ _ _ _ _ (by decide), hfits]

end Sys2Proof.Machine

/-! ## Fabric packets and forwarding: packets on their way through the router, and injections -/

namespace Sys2Proof.Machine

/-! ### The input of a link (R42, R49) -/

@[simp] theorem State.pkt_setLink (s : State) (l : Nat) (k : Link) (id : Nat) : (s.setLink l k).pkt id = s.pkt id := rfl

/-- A header that checks and is not policed away is stored and resolved as it stands. -/
theorem State.headerArrive_of_green {s s1 s2 : State} {l i id : Nat} {r : RxPkt} {p : Pkt}
    (hnext : firstIdx (s.link l).rxq (fun r => decide (r.pkt = none) && decide (32 ≤ r.bytes.length)) = some (i, r))
    (hchk : pHchk (slice r.bytes 0 32) = (hchk (slice r.bytes 0 32)).toNat)
    (hp : p = { bytes := r.bytes, len := r.len, inLink := some l, pipe := s.linkTile l, tc := r.tc, vc := r.vc,
                shared := r.shared, whole := false, fate := Fate.forward })
    (hadd : s.addPkt p = (id, s1))
    (hgreen : (s1.setLink l { s1.link l with rxq := (s1.link l).rxq.set i { r with pkt := some id } }).police l (slice r.bytes 0 32) r.len =
      (.green, s2)) :
    s.headerArrive l = s2.resolve id p := by
  simp only [State.headerArrive, hnext, ← hp, hadd, hchk, hgreen, ne_eq, not_true_eq_false, if_false]

/-- A packet for this router whose END was good is delivered with all its bytes. -/
theorem State.tailArrive_of_deliver {s : State} {l i id : Nat} {r : RxPkt} {p : Pkt}
    (hnext : firstIdx (s.link l).rxq (fun r => r.pkt.isSome && decide (r.ended ≠ 0)) = some (i, r)) (hid : r.pkt = some id)
    (hgood : r.ended = 1) (hp : s.pkt id = some p) (hfate : p.fate = .deliver) :
    s.tailArrive l = ((s.setLink l { s.link l with rxq := (s.link l).rxq.eraseIdx i }).setPkt id
      { p with bytes := slice p.bytes 0 32 ++ r.bytes.drop 32, whole := true }).deliver id
      { p with bytes := slice p.bytes 0 32 ++ r.bytes.drop 32, whole := true } := by
  simp only [State.tailArrive, hnext, hid, State.pkt_setLink, hp, hgood, hfate, OfNat.one_ne_ofNat, if_false]

/-! ### The output of a link (R60, R113, R483) -/

/-- With no gates in force, a free ACTIVE link starts the head of the queue that the service order chooses. -/
theorem State.transmitStart_of_chosen {s u : State} {l tc vc : Nat} {e : QEnt} {rest : List QEnt} (hactive : s.lstate l = LS.active)
    (hfree : (s.link l).txPkt = none) (hawake : s.awake (Dom.pipe (s.linkTile l)) = true) (hgates : s.gatesOn = false)
    (hchosen : s.chooseOut l none = (some (tc, vc), u)) (hhead : u.outQ l tc vc = e :: rest) :
    s.transmitStart l = (u.setOutQ l tc vc rest).startCopy l e.pkt e.hdr e.crc none := by
  simp only [State.transmitStart, hactive, hfree, hawake, hgates, hchosen, hhead, ne_eq, not_true_eq_false, Option.isSome_none,
    Bool.false_eq_true, or_self, if_false]

/-- A whole packet of which every byte has been sent ends with a good END. -/
theorem State.transmitEnd_of_sent {s u : State} {l : Nat} {x : TxPkt} {p : Pkt} (hsupply : s.supply l = u) (htx : (u.link l).txPkt = some x)
    (hp : u.pkt x.pkt = some p) (hx : x.bad = false) (hgood : p.bad = false) (hsent : p.len ≤ x.sent) (hwhole : p.whole = true) :
    s.transmitEnd l = (u.setLink l { u.link l with
      txStream := (u.link l).txStream ++ streamItem (beBytes 4 (0xFD * 2 ^ 24)), txPkt := none }).copyDone x.pkt := by
  have hdone : ¬ x.sent < p.len := Nat.not_lt.mpr hsent
  simp only [State.transmitEnd, hsupply, htx, hp, hx, hgood, hdone, hwhole, Bool.false_eq_true, not_true_eq_false, or_self, if_false]

/-- A packet that still waits for bytes when CT_STALL runs out is aborted. -/
theorem execCtStallExpire_of_waiting {l : Fin 256} {s u : State} {x : TxPkt} {p : Pkt} (hsupply : s.supply l = u)
    (htx : (u.link l).txPkt = some x) (hp : u.pkt x.pkt = some p) (hpart : p.whole = false) (hwait : x.sent < p.len) :
    execCtStallExpire l s = .next ((u.count F.FWD_CNT_ABORT_COUNT p.pipe).abortTx l x p.len) := by
  have hshort : ¬ p.len ≤ x.sent := Nat.not_le.mpr hwait
  simp only [execCtStallExpire, hsupply, htx, hp, hpart, hshort, Bool.false_eq_true, or_self, if_false]

/-! ### FENCE packets (R62) -/

theorem State.releaseFence_of_ready {s : State} {p : Nat} {c : Chan} {r : RxEnt} (hc : s.chan p = some c)
    (hready : c.rx.find? (fun r => decide (r.hold = .fence) && s.fenceReady p r.seq) = some r) :
    s.releaseFence p = (s.setChan p { c with rx := c.rx.filter (fun x => decide (x.seq ≠ r.seq)) }).passRx p r.bytes r.pipe := by
  simp only [State.releaseFence, hc, hready]

/-- Settles O4: each clause is the branch that its command takes under the clause's hypotheses. -/
theorem packetsMoveThroughTheRouter : Obligations.PacketsMoveThroughTheRouter := by
  unfold Obligations.PacketsMoveThroughTheRouter
  refine ⟨?header, ?tail, ?start, ?finish, ?fence, ?stall⟩
  case header =>
    intro l s i r id s1 p s2 hnext hchk hp hadd hgreen
    exact congrArg Host.Outcome.next (State.headerArrive_of_green hnext hchk hp hadd hgreen)
  case tail =>
    intro l s i r id p b hnext hid hgood hp hfate hb
    rw [hb]
    exact congrArg Host.Outcome.next (State.tailArrive_of_deliver hnext hid hgood hp hfate)
  case start =>
    intro l s u tc vc e rest hactive hfree hawake hgates hchosen hhead
    exact congrArg Host.Outcome.next (State.transmitStart_of_chosen hactive hfree hawake hgates hchosen hhead)
  case finish =>
    intro l s u x p hsupply htx hp hx hgood hsent hwhole
    exact congrArg (fun t => Host.Outcome.next (State.drain t)) (State.transmitEnd_of_sent hsupply htx hp hx hgood hsent hwhole)
  case fence =>
    intro p s c r hsafe hc hready
    have hrun : exec (.fenceRelease p) s = .next (s.releaseFence p).drain := if_neg (by simp [hsafe])
    rw [hrun, State.releaseFence_of_ready hc hready]
  case stall => exact fun l s u x p => execCtStallExpire_of_waiting

/-! ### Injections (R64, R101, R102, R144, R197, R228, R252, R266, R294, R320, R344, R373, R397, R424, R447–R449, R468, R493, R519) -/

theorem bitAt_eq_bits {n : Nat} (x : BitVec n) (i : Nat) : bitAt x i = decide (bits x i 1 = 1) := by
  rw [bitAt, ← BitVec.testBit_toNat, Nat.testBit_eq_decide_div_mod_eq, ← Nat.shiftRight_eq_div_pow, bits, Nat.pow_one]

/-- Arming or using up an injection bit leaves every other one as it is: those of other words, and those beside it in its own. -/
theorem State.armed_setArmed_ne (s : State) {f f' : Fld} {n n' : Nat} (on : Bool) (h : f'.addr n' 0 ≠ f.addr n 0 ∨ f'.lo ≠ f.lo) :
    (s.setArmed f n on).armed f' n' = s.armed f' n' := by
  by_cases hword : f'.addr n' 0 = f.addr n 0
  · have hlo : f'.lo ≠ f.lo := h.resolve_left (not_not_intro hword)
    simp only [State.armed, State.setArmed, hword, mget_mput_self, bitAt_eq_bits]
    rw [bits_setBits_ne _ _ (by omega)]
  · simp only [State.armed, State.setArmed, mget_mput_ne _ _ _ _ hword]

/-- The command arms the injection bit of field `f` of block number `k`, and does nothing else. -/
structure Arms (i : Instr) (f : Fld) (k : Nat) : Prop where
  lo_lt : f.lo < 32
  exec_eq : ∀ s, exec i s = .next (s.setArmed f k true)

/-- A command that arms its bit changes no other part of the state, and no other bit. -/
theorem Arms.armed_frame {i : Instr} {f : Fld} {k : Nat} (h : Arms i f k) (s : State) :
    ∃ u, exec i s = .next u ∧ u.armed f k = true ∧ u = { s with regs := { s.regs with inj := u.regs.inj } } ∧
      ∀ (f' : Fld) (k' : Nat), f'.lo < 32 → f'.addr k' 0 ≠ f.addr k 0 ∨ f'.lo ≠ f.lo → u.armed f' k' = s.armed f' k' :=
  ⟨s.setArmed f k true, h.exec_eq s, s.armed_setArmed_self f k true h.lo_lt, rfl, fun _ _ _ hother => s.armed_setArmed_ne true hother⟩

theorem arms_of_mem {L : List (Instr × Fld × Nat)} (hall : L.Forall fun e => Arms e.1 e.2.1 e.2.2) {i : Instr} {f : Fld} {k : Nat}
    (hmem : (i, f, k) ∈ L) : Arms i f k :=
  List.forall_iff_forall_mem.mp hall _ hmem

/-- Settles O36: each command of the list arms its own bit, which leaves every other bit as it is. -/
theorem injectionsAreArmed : Obligations.InjectionsAreArmed := by
  unfold Obligations.InjectionsAreArmed
  intro t n l p g h m i f k hmem
  refine (arms_of_mem ?arms hmem).armed_frame
  case arms =>
    simp only [List.Forall]
    and_intros
    all_goals exact ⟨by decide, fun _ => rfl⟩

end Sys2Proof.Machine

/-! ## Routing, paths and multicast: commits, table syncs and soft resets; the injection schedulers, load reports and route errors -/

namespace Sys2Proof.Machine

/-! ### Commits and table swaps (R99, R584) -/

/-- A page of a block that takes its commit between two operations applies the pending copy that waits on it. -/
theorem State.commitApply_of_block {s : State} {p n : Nat} {b : Blk} (hpage : pageKind p = .block b n)
    (hblk : b ∉ [Blk.lnk, .hpt, .spn, .mgt, .via, .rou, .tre, .srd, .eng]) : s.commitApply p = s.applyPend p := by
  unfold State.commitApply
  split
  case h_10 => rfl
  all_goals
    rename_i hkept
    obtain ⟨rfl, -⟩ := PageKind.block.inj (hpage.symm.trans hkept)
    exact absurd hblk (by decide)

theorem State.applyPend_of_pending {s : State} {p : Nat} (hpend : s.pending? p = true) : s.applyPend p = (s.applyVals p).bumpSeq p :=
  if_pos hpend

theorem State.rd_bumpSeq (s : State) (p : Nat) : (s.bumpSeq p).rd (p * 0x1000 + 0x024) = s.rd (p * 0x1000 + 0x024) + 1 :=
  State.rd_wr_self ..

@[simp] theorem State.bumpSeq_rou (s : State) (p : Nat) : (s.bumpSeq p).rou = s.rou := rfl

theorem State.swapDone_of_swapping {s : State} {k : Nat} (hswap : mget false s.rou.swapping k = true) :
    s.swapDone k = ({ s with rou := { s.rou with swapping := mput false s.rou.swapping k false } }).bumpSeq (tblPage k) :=
  if_pos hswap

/-! ### Syncs of a table's copies (R99, R100) -/

/-- SYNC_BUSY of every table is one bit of its word. -/
theorem tblBusy_bit (k : Fin 4) : (tblBusy k).lo < 32 ∧ (tblBusy k).w = 1 := by
  revert k
  decide

/-- A one-bit field reads as the bit written. -/
theorem State.flag_setFld_bit (s : State) {f : Fld} (v n i : Nat) (hlo : f.lo < 32) (hbit : f.w = 1) :
    (s.setFld f v n i).flag f n i = (v % 2 == 1) := by
  rw [State.flag, State.fld_setFld_self _ _ _ _ _ (by omega), hbit, Nat.pow_one]

theorem State.flag_tblBusy (s : State) (k : Fin 4) (v : Nat) : (s.setFld (tblBusy k) v).flag (tblBusy k) = (v % 2 == 1) :=
  s.flag_setFld_bit v 0 0 (tblBusy_bit k).1 (tblBusy_bit k).2

/-- A copy of window pages is one of register words; the routing state is as it was. -/
@[simp] theorem State.syncCopies_rou (s : State) (k : Nat) : (s.syncCopies k).rou = s.rou := by
  have hwins (b : Bool) (l : List (Nat × Nat × Nat)) (u : State) :
      (l.foldl (fun s w => if b = true then s.copyPages w.2.1 w.1 w.2.2 else s.copyPages w.1 w.2.1 w.2.2) u).rou = u.rou := by
    induction l generalizing u with
    | nil => rfl
    | cons w l ih =>
      rw [List.foldl_cons, ih]
      cases b <;> rfl
  exact hwins _ _ _

theorem execTblSync_of_allowed {ag : Agent} {k : Fin 4} {s : State} (hreset : s.pwr.inReset = none)
    (hst : s.regStatus ag true ((tblBusy k).addr 0 0) 1 true = 0) : execTblSync ag k s = .next (s.setFld (tblBusy k) 1) := by
  simp only [execTblSync, hreset, hst, Option.isSome_none, Bool.false_eq_true, ne_eq, not_true_eq_false, if_false, State.tblSync]

/-- A sync that ends with no COMMIT waiting for it leaves two equal copies and is no longer busy. -/
theorem execTblSyncDone_of_free {k : Fin 4} {s : State} (hbusy : s.flag (tblBusy k) = true) (hheld : mget false s.rou.commitHeld k = false) :
    execTblSyncDone k s = .next ((s.syncCopies k).setFld (tblBusy k) 0) := by
  simp only [execTblSyncDone, hbusy, State.setFld_rou, State.syncCopies_rou, hheld, not_true_eq_false, Bool.false_eq_true, if_false]

/-- A COMMIT held by a sync takes effect at its end. -/
theorem execTblSyncDone_of_held {k : Fin 4} {s u : State} (hbusy : s.flag (tblBusy k) = true) (hheld : mget false s.rou.commitHeld k = true)
    (hu : u = (s.syncCopies k).setFld (tblBusy k) 0) :
    execTblSyncDone k s =
      .next (({ u with rou := { u.rou with commitHeld := mput false u.rou.commitHeld k false } }).commitGo (tblPage k)) := by
  have hheld' : mget false u.rou.commitHeld k = true := by rw [hu, State.setFld_rou, State.syncCopies_rou, hheld]
  simp only [execTblSyncDone, hbusy, ← hu, hheld', not_true_eq_false, if_false, if_true]

/-! ### Parity (R589) -/

/-- A sweep with no new upset stops each page that is found with a failing word. -/
theorem execParitySweep_of_no_upset (a : Fin 67108864) (part : Fin 3) (s : State) :
    execParitySweep false a part s = .next (s.parityFinds.foldl (fun s e => s.parityFail e.1 e.2) s).drain := by
  simp only [execParitySweep, Bool.false_eq_true, false_and, if_false]

/-- Settles O3: each clause is the branch that its command takes under the clause's hypotheses, read back by the register and map laws. -/
theorem commitsSyncsAndResetsEnd : Obligations.CommitsSyncsAndResetsEnd := by
  unfold Obligations.CommitsSyncsAndResetsEnd
  refine ⟨?apply, ?swap, ?sync, ?free, ?held, ?reset, ?noFinds, ?finds⟩
  case apply =>
    intro page s b n hpage hblk hpend
    refine ⟨_, congrArg Host.Outcome.next ?_, rfl, State.rd_bumpSeq _ _⟩
    rw [State.commitApply_of_block hpage hblk, State.applyPend_of_pending hpend]
  case swap =>
    intro k s hswap
    refine ⟨_, congrArg Host.Outcome.next (State.swapDone_of_swapping hswap), State.rd_bumpSeq _ _, ?_⟩
    rw [State.bumpSeq_rou]
    exact mget_mput_self false s.rou.swapping k false
  case sync =>
    intro ag k s hreset hst
    exact ⟨_, execTblSync_of_allowed hreset hst, s.flag_tblBusy k 1⟩
  case free =>
    intro k s hbusy hheld
    exact ⟨_, execTblSyncDone_of_free hbusy hheld, (s.syncCopies k).flag_tblBusy k 0⟩
  case held => exact fun k s hbusy hheld u hu => execTblSyncDone_of_held hbusy hheld hu
  case reset =>
    intro page s
    exact ⟨_, rfl, mget_mput_self false s.regs.softReset page false, fun p hp => mget_mput_ne false false s.regs.softReset false hp⟩
  case noFinds =>
    intro a part s hnone
    have hsweep : exec (.paritySweep false a part) s = _ := execParitySweep_of_no_upset a part s
    rw [hsweep, hnone, List.foldl_nil]
  case finds => exact fun a part s _ => execParitySweep_of_no_upset a part s

/-! ### The injection schedulers (R475) -/

/-- A scheduler with one standing head, which nothing blocks, lets it in. -/
theorem execSchSelect_of_one_head {k : Fin 16} {s u : State} {key : Nat} {h : InjHead} (hsafe : s.safe = false)
    (harmed : s.armed F.SCH_INJECT_QSTATE_ECC k = false)
    (hu : u = ((s.headOrder k).map (·.2)).foldl (fun s key => s.rechoose key) s) (horder : (u.headOrder k).map (·.2) = [key])
    (hhead : (u.injQ key).head = some h) (hopen : u.blocked k (key % 256) h = none) :
    execSchSelect k s = .next (u.letIn key) := by
  have hroom : ¬ 4 ≤ 0 := by decide
  simp only [execSchSelect, hsafe, harmed, ← hu, horder, List.foldl_cons, List.foldl_nil, hroom, hhead, hopen, Bool.false_eq_true, if_false]

/-! ### Load reports and route errors (R79, R82, R84) -/

/-- A round of reports, when they are on, leaves the class cycle where the next round begins. -/
theorem State.loadReportRound_cycle {s : State} (hon : s.fld F.ROU_LR_CFG_PERIOD ≠ 0) :
    s.loadReportRound.rou.cycle = if s.reportedClasses.length ≤ 12 then 0 else (s.rou.cycle + 12) % s.reportedClasses.length := by
  rw [State.loadReportRound, if_neg hon]

/-- A report of at most twelve entries that is not too old is applied entry by entry and counted. -/
theorem State.loadReport_of_valid {s : State} {p : List Byte} (hlen : beAt (pExt p) 2 1 / 16 ≤ 12)
    (hage : stampAge (s.ftime % 2 ^ 32) (beAt (pExt p) 4 4) ≤ s.fld F.ROU_AGE_CFG_MAXAGE) :
    s.loadReport p = ((List.range (beAt (pExt p) 2 1 / 16)).foldl (fun s i => s.applyLevel (beAt (pExt p) 0 2 % 2 ^ 14)
      (beAt (pExt p) (8 + 2 * i) 1) (beAt (pExt p) (9 + 2 * i) 1)) s).count F.ROU_CNT_LR_RX_COUNT 0 := by
  rw [State.loadReport, if_neg (Nat.not_lt.mpr hlen), if_neg (Nat.not_lt.mpr hage)]

theorem execLoadReportReceive_of_some {s u : State} {d : Dlv} (htake : s.takeOpc 0x62 = (some d, u)) :
    execLoadReportReceive s = .next (u.loadReport d.bytes) := by
  simp only [execLoadReportReceive, htake]

/-- Out of the safe state and with the endpoint core awake, the oldest delivery of an answer is taken by what it answers. -/
theorem State.answer_of_some {s u : State} {o : Nat} {act : State → List Byte → State} {d : Dlv} (hsafe : s.safe = false)
    (hawake : s.awake Dom.endpoint = true) (htake : s.takeOpc o = (some d, u)) : s.answer o act = (act u d.bytes).drain := by
  simp only [State.answer, hsafe, hawake, htake, Bool.false_eq_true, not_true_eq_false, or_self, if_false]

/-- Settles O5: each clause is the branch that its command takes under the clause's hypotheses; a mark that is cleared is the only one
that goes. -/
theorem schedulersAndRoutingAct : Obligations.SchedulersAndRoutingAct := by
  unfold Obligations.SchedulersAndRoutingAct
  refine ⟨?select, ?round, ?report, ?routeError, ?mark⟩
  case select => exact fun k s u key h => execSchSelect_of_one_head
  case round => exact fun s hon => ⟨_, rfl, State.loadReportRound_cycle hon⟩
  case report =>
    intro s d u htake hlen hage
    have hrun : exec .loadReportReceive s = _ := execLoadReportReceive_of_some htake
    rw [hrun, State.loadReport_of_valid hlen hage]
  case routeError =>
    intro s d u hsafe hawake htake
    exact congrArg Host.Outcome.next (State.answer_of_some hsafe hawake htake)
  case mark => exact fun dest cand s => ⟨_, rfl, mfind_merase_self .., fun k hk => mfind_merase_ne _ hk⟩

end Sys2Proof.Machine

/-! ## Fabric link layer: flits and replays, credit limits, the messages of a link, bring-up and tear-down -/

namespace Sys2Proof.Machine

/-! ### A link's own state after a write, a queued message or a count -/

@[simp] theorem State.link_count (s : State) (f : Fld) (n k i m : Nat) : (s.count f n k i).link m = s.link m := by
  rw [State.link, State.count_lnk, State.link]

/-- A queued message waits behind the others, and nothing else of the link changes. -/
@[simp] theorem State.link_queueByp_self (s : State) (l : Nat) (m : BitVec 62) :
    (s.queueByp l m).link l = { s.link l with byp := (s.link l).byp ++ [m] } :=
  State.link_setLink_self ..

@[simp] theorem State.seqBits_setLink (s : State) (l m : Nat) (k : Link) : (s.setLink l k).seqBits m = s.seqBits m := rfl

theorem seqDist_self {w a : Nat} (h : a < 2 ^ w) : seqDist w a a = 0 := by
  rw [seqDist, Nat.mod_eq_of_lt h, Nat.add_sub_cancel_left, Nat.mod_self]

/-! ### Data flits sent and received (R104, R113, R122) -/

/-- An ACTIVE link with no replay under way, a flit's worth to send, and room in its window and its replay store sends a data flit. -/
theorem State.flitSend_of_room {s u u' : State} {l : Nat} (hsupply : s.supply l = u) (hsends : u.sends l = true)
    (hreplay : (u.link l).replayPos = none) (hactive : u.lstate l = LS.active) (hcan : (u.link l).canSend (u.flitData l) = true)
    (hwindow : u.outstanding l < u.maxOutstanding l) (hroom : u.replayRoom l = some u') : s.flitSend l = u'.sendData l := by
  simp only [State.flitSend, hsupply, hsends, hreplay, hactive, hcan, hwindow, hroom, not_true_eq_false, and_self, if_true, if_false]

/-- An empty bypass field changes nothing where no first half waits. -/
theorem Link.rxByp_of_empty {k : Link} {now : Nat} (hhalf : k.rxHalf = none) : k.rxByp 0#32 now = (k, 0) := by
  simp [Link.rxByp, hhalf]

/-- Good flits no longer count toward flit lock once step 2 is over. -/
theorem State.flitLock_of_locked {s : State} {l : Nat} (hwaking : (s.link l).waking = false) (hstep : (s.link l).step ≠ 2) :
    s.flitLock l = s := by
  simp only [State.flitLock, hwaking, hstep, Bool.false_eq_true, if_false]

/-- A good data flit with the expected sequence, on a link that is up and has not 16 flits to acknowledge by it, advances E by one, ends a
replay wait and is one more to acknowledge. -/
theorem State.link_flitReceive_of_expected {s : State} {l : Nat} {b : List Byte} (hstep : (s.link l).step = 7)
    (hwaking : (s.link l).waking = false) (hv : s.v1 l = false) (hlen : b.length = s.flitData l + 12)
    (hcrc : beAt b (s.flitData l + 8) 4 = (lcrc (b.take (s.flitData l + 8))).toNat) (hhalf : (s.link l).rxHalf = none)
    (hbyp : beAt b 4 4 = 0) (hE : (s.link l).rxE < 2 ^ 20) (hseq : beAt b 0 4 / 2 ^ 12 = (s.link l).rxE) (htype : beAt b 0 4 % 16 = 1)
    (hoff : beAt b 0 4 / 2 ^ 4 % 256 = (s.link l).expectOffset (s.flitData l)) (hack : (s.link l).unacked < 15) :
    (s.flitReceive l b 0 false).link l = { ((b.drop 8).take (s.flitData l)).foldl Link.rxByte (s.link l) with
      rxE := ((s.link l).rxE + 1) % 2 ^ 20, replayWait := false, unacked := (s.link l).unacked + 1 } := by
  have hw : s.seqBits l = 20 := by simp [State.seqBits, hv]
  have hexpected : seqDist 20 (s.link l).rxE (s.link l).rxE = 0 := seqDist_self hE
  have hlock : (s.setLink l (s.link l)).flitLock l = s.setLink l (s.link l) :=
    State.flitLock_of_locked (by simp [hwaking]) (by simp [hstep])
  have hfew : ¬ 16 ≤ (s.link l).unacked + 1 := by omega
  simp [-Nat.reducePow, State.flitReceive, hstep, hw, hv, hlen, ← hcrc, hbyp, hseq, htype, hoff, hexpected, Link.rxByp_of_empty hhalf,
    hlock, hfew, apply_ite (State.link · l)]

/-! ### Acknowledgements and replays (R122, R123, R124, R125, R129) -/

/-- An ACK names the last flit taken, after which none is left to acknowledge. -/
@[simp] theorem State.link_sendAck (s : State) (l : Nat) :
    (s.sendAck l).link l = { s.link l with
      unacked := 0, byp := (s.link l).byp ++ [bypMsg 0x02 (((s.link l).rxE + 2 ^ s.seqBits l - 1) % 2 ^ s.seqBits l)] } := by
  simp only [State.sendAck, State.link_queueByp_self, State.link_setLink_self]

/-- A REPLAY_REQ goes out with an ACK before it. -/
theorem State.byp_sendReplayReq (s : State) (l : Nat) :
    ((s.sendReplayReq l).link l).byp = (s.link l).byp ++
      [bypMsg 0x02 (((s.link l).rxE + 2 ^ s.seqBits l - 1) % 2 ^ s.seqBits l), bypMsg 0x03 (s.link l).rxE] := by
  simp only [State.sendReplayReq, State.link_queueByp_self, State.link_sendAck, List.append_assoc, List.singleton_append]

theorem execLinkAckTimer_of_unacked {l : Fin 256} {s : State} (h : (s.link l).unacked ≠ 0) : execLinkAckTimer l s = .next (s.sendAck l) := by
  rw [execLinkAckTimer, if_neg h]

theorem execReplayWaitTimeout_of_waiting {l : Fin 256} {s : State} (h : (s.link l).replayWait = true) :
    execReplayWaitTimeout l s = .next (s.sendReplayReq l) := by
  rw [execReplayWaitTimeout, if_pos h]

theorem execLinkAckReceive_of_taken {l : Fin 256} {s u : State} {m : BitVec 62} {q : Nat} (htake : s.takeByp l [0x02] = (some (m, q), u)) :
    execLinkAckReceive l s = .next (u.linkAck l (bits m 0 (u.seqBits l))) := by
  simp only [execLinkAckReceive, htake]

/-- An ACK of a sequence that is outstanding frees every flit up to it and ends the count of retries. -/
theorem State.link_linkAck_of_outstanding {s : State} {l q : Nat} (h : seqDist (s.seqBits l) q (s.link l).acked < s.outstanding l) :
    ((s.linkAck l q).link l).acked = (q + 1) % 2 ^ s.seqBits l ∧ ((s.linkAck l q).link l).retries = 0 ∧
      ((s.linkAck l q).link l).replay = (s.link l).replay.filter (fun r =>
        decide (seqDist (s.seqBits l) q (s.link l).acked < seqDist (s.seqBits l) r.seq (s.link l).acked)) := by
  simp only [State.linkAck, if_neg (Nat.not_le.mpr h), State.link_setLink_self, and_self]

theorem execReplayReqReceive_of_taken {l : Fin 256} {s u : State} {m : BitVec 62} {q : Nat} (htake : s.takeByp l [0x03] = (some (m, q), u)) :
    execReplayReqReceive l s = .next (u.replayReq l (bits m 0 (u.seqBits l))) := by
  simp only [execReplayReqReceive, htake]

/-- A request for an outstanding sequence starts a replay from it where none has been started. -/
theorem State.replayReq_of_first {s : State} {l q : Nat} (h : seqDist (s.seqBits l) q (s.link l).acked < s.outstanding l)
    (hpos : (s.link l).replayPos = none) (hfrom : (s.link l).replayFrom = none) : s.replayReq l q = s.startReplay l q := by
  simp only [State.replayReq, if_neg (Nat.not_le.mpr h), hpos, hfrom, Bool.or_self, Bool.false_eq_true, if_false]

/-- With flits outstanding and no replay under way, the timer of an ACTIVE link replays from the oldest of them. -/
theorem State.replayTimeout_of_outstanding {s : State} {l : Nat} (hup : s.linkUp l = true) (hout : s.outstanding l ≠ 0)
    (hpos : (s.link l).replayPos = none) : s.replayTimeout l = s.startReplay l (s.link l).acked := by
  simp only [State.replayTimeout, hup, hout, hpos, Option.isSome_none, Bool.false_eq_true, not_true_eq_false, or_self, if_false]

/-- The oldest spilled flit that a replay has yet to send is marked as read back, and no other. -/
theorem State.replay_spillReadDone {s : State} {l p i : Nat} {r : RepFlit} (hpos : (s.link l).replayPos = some p)
    (hnext : firstIdx (s.link l).replay (fun r => r.spilled && !r.readBack &&
      decide (seqDist (s.seqBits l) p (s.link l).acked ≤ seqDist (s.seqBits l) r.seq (s.link l).acked)) = some (i, r)) :
    ((s.spillReadDone l).link l).replay = (s.link l).replay.set i { r with readBack := true } := by
  simp only [State.spillReadDone, hpos, hnext, State.link_setLink_self]

/-- Settles O6: each clause is the branch that its command takes under the clause's hypotheses; what a command leaves in the link is read
off the equation of the operation that it runs. -/
theorem flitsAcksAndReplays : Obligations.FlitsAcksAndReplays := by
  unfold Obligations.FlitsAcksAndReplays
  refine ⟨?send, ?receive, ?ackTimer, ?ack, ?request, ?wait, ?timeout, ?spill⟩
  case send =>
    intro l s u u' hsupply hsends hreplay hactive hcan hwindow hroom
    exact congrArg Host.Outcome.next (State.flitSend_of_room hsupply hsends hreplay hactive hcan hwindow hroom)
  case receive =>
    intro l b s hstep hwaking hv hlen hcrc hhalf hbyp hE hseq htype hoff hack
    refine ⟨s.flitReceive l b 0 false, rfl, ?_⟩
    rw [State.link_flitReceive_of_expected hstep hwaking hv hlen hcrc hhalf hbyp hE hseq htype hoff hack]
    exact ⟨rfl, rfl, rfl⟩
  case ackTimer =>
    intro l s hunacked
    refine ⟨_, execLinkAckTimer_of_unacked hunacked, ?_⟩
    rw [State.link_sendAck]
    exact ⟨rfl, rfl⟩
  case ack => exact fun l s u m q htake hout => ⟨_, execLinkAckReceive_of_taken htake, State.link_linkAck_of_outstanding hout⟩
  case request =>
    intro l s u m q htake hout hpos hfrom
    have hrun : exec (.replayReqReceive l) s = _ := execReplayReqReceive_of_taken htake
    rw [hrun, State.replayReq_of_first hout hpos hfrom]
  case wait => exact fun l s hwait => ⟨_, execReplayWaitTimeout_of_waiting hwait, State.byp_sendReplayReq s l⟩
  case timeout => exact fun l s hup hout hpos => congrArg Host.Outcome.next (State.replayTimeout_of_outstanding hup hout hpos)
  case spill => exact fun l s p i r hpos hnext => ⟨s.spillReadDone l, rfl, State.replay_spillReadDone hpos hnext⟩

/-! ### Credits (R118, R119, R120) -/

theorem execCreditLimitReceive_of_taken {l : Fin 256} {s u : State} {m : BitVec 62} {q : Nat} (htake : s.takeByp l [0x01] = (some (m, q), u)) :
    execCreditLimitReceive l s = .next (u.creditLimit l (bits m 49 7) (bits m 0 24)) := by
  simp only [execCreditLimitReceive, htake]

/-- The link once a pool's LIMIT has been replaced by a value received: the pool's initial limit has arrived, and a head that is stalled on
it is reported anew once the value has risen. -/
def Link.limited (k : Link) (pool v : Nat) : Link :=
  { k with
    limit := mput 0 k.limit pool v,
    limGot := mput false k.limGot pool true,
    stallSeen := if seqDist 24 v (mget 0 k.limit pool) = 0 then k.stallSeen else mput false k.stallSeen pool false }

theorem Link.limit_limited_self (k : Link) (pool v : Nat) : mget 0 (k.limited pool v).limit pool = v := mget_mput_self ..

theorem Link.limit_limited_ne (k : Link) {pool p : Nat} (v : Nat) (h : p ≠ pool) : mget 0 (k.limited pool v).limit p = mget 0 k.limit p :=
  mget_mput_ne _ _ _ _ h

section
variable {s : State} {l pool v : Nat} (hpool : pool ∈ s.pools l) (hstep : 6 ≤ (s.link l).step)
include hpool hstep

/-- A LIMIT behind the held one is ignored. -/
theorem State.creditLimit_of_behind (h : 2 ^ 23 ≤ seqDist 24 v (mget 0 (s.link l).limit pool)) : s.creditLimit l pool v = s := by
  simp only [State.creditLimit, hpool, Nat.not_lt.mpr hstep, h, not_true_eq_false, or_self, if_false, if_true]

/-- A LIMIT that would make more than 2^20 credits available takes the link down. -/
theorem State.creditLimit_of_too_far (h : seqDist 24 v (mget 0 (s.link l).limit pool) < 2 ^ 23)
    (hfar : 2 ^ 20 < seqDist 24 v (mget 0 (s.link l).used pool)) :
    s.creditLimit l pool v = (s.raise l 0x05 (pool * 2 ^ 49 + v)).linkDown l 0x05 := by
  simp only [State.creditLimit, hpool, Nat.not_lt.mpr hstep, Nat.not_le.mpr h, hfar, not_true_eq_false, or_self, if_false, if_true]

/-- Any other LIMIT replaces the held one, and may be the last that bring-up waits for. -/
theorem State.creditLimit_of_next (h : seqDist 24 v (mget 0 (s.link l).limit pool) < 2 ^ 23)
    (hnear : seqDist 24 v (mget 0 (s.link l).used pool) ≤ 2 ^ 20) :
    s.creditLimit l pool v = (s.setLink l ((s.link l).limited pool v)).linkActive l := by
  simp only [State.creditLimit, hpool, Nat.not_lt.mpr hstep, Nat.not_le.mpr h, Nat.not_lt.mpr hnear, not_true_eq_false, or_self, if_false]
  rfl

end

/-- A link that is past step 6 has nothing left to wait for. -/
theorem State.linkActive_of_past {s : State} {l : Nat} (h : (s.link l).step ≠ 6) : s.linkActive l = s := by
  simp only [State.linkActive, h, false_and, if_false]

/-- Settles O50: the three cases of a LIMIT received; once the link is up, the write of the link's own state is all that a LIMIT does. -/
theorem creditLimitsAreTakenUnlessBehindOrTooFar : Obligations.CreditLimitsAreTakenUnlessBehindOrTooFar := by
  unfold Obligations.CreditLimitsAreTakenUnlessBehindOrTooFar
  intro l s u m q pool v htake hpool hv hmem hstep
  have hrun : exec (.creditLimitReceive l) s = .next (u.creditLimit l pool v) := by
    rw [hpool, hv]
    exact execCreditLimitReceive_of_taken htake
  rw [hrun]
  refine ⟨?behind, ?tooFar, ?next⟩
  case behind => exact fun hbehind => congrArg Host.Outcome.next (State.creditLimit_of_behind hmem hstep hbehind)
  case tooFar => exact fun hahead hfar => congrArg Host.Outcome.next (State.creditLimit_of_too_far hmem hstep hahead hfar)
  case next =>
    intro hahead hnear
    have hlimit : mget 0 ((u.setLink l ((u.link l).limited pool v)).link l).limit pool = v := by
      rw [State.link_setLink_self, Link.limit_limited_self]
    rw [State.creditLimit_of_next hmem hstep hahead hnear]
    refine ⟨fun hup => ⟨_, congrArg Host.Outcome.next (State.linkActive_of_past ?_), hlimit, ?_, ?_⟩, _, hlimit, rfl⟩
    · rw [State.link_setLink_self]
      exact Nat.ne_of_gt hup
    · intro p hp
      rw [State.link_setLink_self, Link.limit_limited_ne _ _ hp]
    · exact fun k hk => State.link_setLink_ne _ _ hk

theorem State.creditRefresh_of_up {s : State} {l : Nat} (hup : s.linkUp l = true) :
    s.creditRefresh l = (s.pools l).foldl (fun s p => s.queueByp l (creditMsg p (mget 0 (s.link l).rxLimit p))) s := by
  rw [State.creditRefresh, if_neg (not_not_intro hup)]

/-- A stall on a pool of an ACTIVE link is reported where it has not been already. -/
theorem State.creditStall_of_new {s : State} {l pool : Nat} (hup : s.linkUp l = true) (hpool : pool ∈ s.pools l)
    (hnew : mget false (s.link l).stallSeen pool = false) :
    s.creditStall l pool = (s.setLink l { s.link l with stallSeen := mput false (s.link l).stallSeen pool true }).raise l 0x04
      (pool * 2 ^ 49 + mget 0 (s.link l).limit pool) := by
  simp only [State.creditStall, hup, hpool, hnew, Bool.false_eq_true, not_true_eq_false, or_self, if_false]

/-! ### Parameters and the partner's state (R110, R135, R138, R139, R140) -/

/-- In steps 3 to 6 an end that does not ask for the strong FEC sends its two parameter words and nothing else. -/
theorem State.paramSend_of_weak {s : State} {l : Nat} (hlow : 3 ≤ (s.link l).step) (hhigh : (s.link l).step < 7) (hcoding : s.codingAsk l ≠ 1) :
    s.paramSend l = (s.queueByp l (s.paramMsg l 0)).queueByp l (s.paramMsg l 1) := by
  simp only [State.paramSend, Nat.not_lt.mpr hlow, Nat.not_le.mpr hhigh, hcoding, decide_false, Bool.false_and, Bool.false_eq_true, or_self,
    if_false]

theorem execLinkParamReceive_of_taken {l : Fin 256} {s u : State} {m : BitVec 62} {q : Nat} (htake : s.takeByp l [0x04] = (some (m, q), u)) :
    execLinkParamReceive l s = .next (u.paramReceive l (m.setWidth 56)) := by
  simp only [execLinkParamReceive, htake]

/-- Word 0, the second to arrive, ends step 3 where both ends agree and the partner has both words of this end. -/
theorem State.link_paramReceive_of_agreed {s : State} {l v mask : Nat} {w w1 : BitVec 56} {strong : Bool} {k : Link}
    (hstep : (s.link l).step = 3) (hword : bits w 52 4 = 0) (hpeer1 : (s.link l).peer1 = some w1)
    (hseen : (s.link l).peerSeen = true ∨ bitAt w 51 = true)
    (hk : k = { s.link l with peer0 := some w, peerSeen := (s.link l).peerSeen || bitAt w 51 })
    (hagree : (s.setLink l k).agree l w = some (v, strong, mask)) :
    (s.paramReceive l w).link l = { k with step := 4, tcMask := mask } := by
  have hboth : ((s.link l).peerSeen || bitAt w 51) = true := by rwa [Bool.or_eq_true]
  rw [hk] at hagree ⊢
  simp only [hstep, hpeer1, hboth] at hagree ⊢
  simp only [State.paramReceive, hstep, hword, hpeer1, hboth, hagree, ne_eq, not_true_eq_false, if_true, if_false, State.link_setLink_self]

/-- A partner's LINK_STATE takes a link that is neither DISABLED nor DOWN down: for a FENCE with reason 0x0A, for a DOWN that ends no graceful
tear-down with reason 0x04. -/
theorem execLinkStateReceive_of_live {l : Fin 256} {s u : State} {m : BitVec 62} {q : Nat} (htake : s.takeByp l [0x05] = (some (m, q), u))
    (henabled : u.lstate l ≠ LS.disabled) (hdown : u.lstate l ≠ LS.down) :
    (bits m 52 4 = 1 → execLinkStateReceive l s = .next (u.linkDown l 0x0A)) ∧
    (bits m 52 4 = 0 → bits m 44 8 ≠ 0x07 → execLinkStateReceive l s = .next (u.linkDown l 0x04)) := by
  simp only [execLinkStateReceive, htake, henabled, hdown, or_self, if_false]
  refine ⟨fun hfence => ?_, fun hst hreason => ?_⟩
  · rw [if_pos hfence]
  · rw [if_neg (by omega), if_pos hst, if_neg hreason]

/-! ### Echoes (R160) -/

/-- One more of the sixteen requests of steps 3 and 4 is queued. -/
theorem execEchoReqSend_of_due {l : Fin 256} {s : State} (hstep : (s.link l).step = 3 ∨ (s.link l).step = 4) (hleft : (s.link l).echoSent < 16) :
    execEchoReqSend l s = .next ((s.setLink l { s.link l with echoSent := (s.link l).echoSent + 1 }).queueByp l (bypMsg 0x06 0)) :=
  if_neg (by omega)

theorem execEchoReqReceive_of_taken {l : Fin 256} {s u : State} {m : BitVec 62} {q : Nat} (htake : s.takeByp l [0x06] = (some (m, q), u)) :
    execEchoReqReceive l s = .next (u.queueByp l (bypMsg 0x07 (q / 4 % 2 ^ 16 * 2 ^ 40 + bits m 0 40))) := by
  simp only [execEchoReqReceive, htake]

theorem execEchoRspReceive_of_taken {l : Fin 256} {s u : State} {m : BitVec 62} {q : Nat} (htake : s.takeByp l [0x07] = (some (m, q), u)) :
    execEchoRspReceive l s = .next (u.echoRsp l m q) := by
  simp only [execEchoRspReceive, htake]

/-- The round trip that an ECHO_RSP measures: from the request's stamp to the response's arrival, without the partner's hold time. -/
def echoRtt (m : BitVec 62) (stamp : Nat) : Nat := (stamp / 4 % 2 ^ 40 + 2 ^ 40 + 2 ^ 40 - bits m 0 40 - bits m 40 16) % 2 ^ 40

/-- A response before the sixteenth is one more sample, of which the least is kept. -/
theorem State.echoRsp_of_early {s : State} {l stamp : Nat} {m : BitVec 62} (hopen : (s.link l).echoClosed = false)
    (hstep : 3 ≤ (s.link l).step) (hleft : (s.link l).echoGot < 15) :
    s.echoRsp l m stamp = s.setLink l { s.link l with
      echoGot := (s.link l).echoGot + 1,
      echoMin := some ((s.link l).echoMin.elim (echoRtt m stamp) (min · (echoRtt m stamp))) } := by
  have hfew : ¬ 16 ≤ (s.link l).echoGot + 1 := by omega
  simp only [State.echoRsp, hopen, Nat.not_lt.mpr hstep, hfew, Bool.false_eq_true, or_self, if_false, echoRtt]
  cases (s.link l).echoMin with
  | none => rw [Option.elim_none]
  | some x => rw [Option.elim_some]

/-! ### Quiet sleep asked for and answered (R137, R143) -/

/-- An idle ACTIVE link of version 2 whose two ends allow sleep asks for it. -/
theorem execSleepIdleExpire_of_idle {l : Fin 256} {s : State} {w : BitVec 56} (hup : s.linkUp l = true)
    (hen : s.flag F.LNK_CFG_SLEEP_EN l = true) (hpeer : (s.link l).peer0 = some w) (hpeerEn : bitAt w 36 = true) (hv : s.v1 l = false)
    (hdown : (s.link l).teardown = false) (hasked : (s.link l).sleepReq = false) (hidle : s.linkIdle l = true) :
    execSleepIdleExpire l s = .next ((s.setLink l { s.link l with sleepReq := true }).queueByp l (bypMsg 0x08 0)) := by
  simp only [execSleepIdleExpire, hup, hen, hpeer, hpeerEn, hv, hdown, hasked, hidle, Bool.false_eq_true, not_false_eq_true, and_self, if_true]

/-- A request for sleep is accepted by an ACTIVE end that allows it, is idle and is not being torn down, and refused by one that is not idle. -/
theorem execSleepReqReceive_of_up {l : Fin 256} {s u : State} {x : BitVec 62 × Nat} (htake : s.takeByp l [0x08] = (some x, u))
    (hup : u.linkUp l = true) :
    (u.flag F.LNK_CFG_SLEEP_EN l = true → u.linkIdle l = true → (u.link l).teardown = false →
      execSleepReqReceive l s = .next ((u.queueByp l (bypMsg 0x09 1)).quiet l)) ∧
    (u.linkIdle l = false → execSleepReqReceive l s = .next (u.queueByp l (bypMsg 0x09 0))) := by
  simp only [execSleepReqReceive, htake, hup, not_true_eq_false, if_false]
  refine ⟨fun hen hidle hdown => ?_, fun hbusy => ?_⟩
  · rw [if_pos ⟨hen, hidle, by simp [hdown]⟩]
  · rw [if_neg (by simp [hbusy])]

/-- An accepting answer to the request puts the link to sleep, where no packet has been queued meanwhile. -/
theorem execSleepAckReceive_of_accepted {l : Fin 256} {s u : State} {m : BitVec 62} {q : Nat} (htake : s.takeByp l [0x09] = (some (m, q), u))
    (hasked : (u.link l).sleepReq = true) (haccept : bitAt m 0 = true) (hempty : (u.quiet l).linkQueued l = false) :
    execSleepAckReceive l s = .next (u.quiet l) := by
  simp only [execSleepAckReceive, htake, hasked, haccept, hempty, Bool.false_eq_true, not_true_eq_false, if_true, if_false]

/-- Settles O7: each clause is the branch that its command takes under the clause's hypotheses; what a command leaves in the link is read
off the equation of the operation that it runs. -/
theorem linkMessagesAct : Obligations.LinkMessagesAct := by
  unfold Obligations.LinkMessagesAct
  refine ⟨?limit, ?refresh, ?stall, ?paramSend, ?paramReceive, ?linkState, ?echoSend, ?echoAnswer, ?echoTake, ?sleepAsk, ?sleepAnswer, ?sleep⟩
  case limit =>
    intro l s u m q pool v htake hpool hv hmem hstep hahead hnear
    have hrun : exec (.creditLimitReceive l) s = _ := execCreditLimitReceive_of_taken htake
    rw [hrun, ← hpool, ← hv, State.creditLimit_of_next hmem hstep hahead hnear, Link.limited]
  case refresh => exact fun l s hup => congrArg Host.Outcome.next (State.creditRefresh_of_up hup)
  case stall => exact fun l pool s hup hmem hnew => congrArg Host.Outcome.next (State.creditStall_of_new hup hmem hnew)
  case paramSend => exact fun l s hlow hhigh hcoding => congrArg Host.Outcome.next (State.paramSend_of_weak hlow hhigh hcoding)
  case paramReceive =>
    intro l s u m q w k w1 v strong mask htake hstep hw hword hpeer1 hseen hk hagree
    refine ⟨_, execLinkParamReceive_of_taken htake, ?_⟩
    rw [← hw, State.link_paramReceive_of_agreed hstep hword hpeer1 hseen hk hagree]
    exact ⟨rfl, rfl⟩
  case linkState => exact fun l s u m q => execLinkStateReceive_of_live
  case echoSend =>
    intro l s hstep hleft
    refine ⟨_, execEchoReqSend_of_due hstep hleft, ?_⟩
    rw [State.link_queueByp_self, State.link_setLink_self]
    exact ⟨rfl, rfl⟩
  case echoAnswer =>
    intro l s u m q htake
    refine ⟨_, execEchoReqReceive_of_taken htake, ?_⟩
    rw [State.link_queueByp_self]
  case echoTake =>
    intro l s u m q htake hopen hstep hleft
    refine ⟨_, execEchoRspReceive_of_taken htake, ?_⟩
    rw [State.echoRsp_of_early hopen hstep hleft, State.link_setLink_self]
    refine ⟨rfl, ?_⟩
    cases (u.link l).echoMin with
    | none => rw [Option.elim_none, echoRtt]
    | some x => rw [Option.elim_some, echoRtt]
  case sleepAsk =>
    intro l s w hup hen hpeer hpeerEn hv hdown hasked hidle
    refine ⟨_, execSleepIdleExpire_of_idle hup hen hpeer hpeerEn hv hdown hasked hidle, ?_⟩
    rw [State.link_queueByp_self, State.link_setLink_self]
    exact ⟨rfl, rfl⟩
  case sleepAnswer => exact fun l s u x => execSleepReqReceive_of_up
  case sleep => exact fun l s u m q => execSleepAckReceive_of_accepted

/-! ### Enable, disable and tear-down (R135, R138, R142) -/

/-- LSTATE.STATE reads as what is written to it. -/
theorem State.lstate_setFld_self (s : State) (l v : Nat) : (s.setFld F.LNK_LSTATE_STATE v l).lstate l = v % 2 ^ 4 :=
  s.fld_setFld_self F.LNK_LSTATE_STATE v l 0 (by decide)

/-- A DISABLED link whose down hold is over starts its bring-up, where links may train. -/
theorem State.linkEnable_of_disabled {s u : State} {l : Nat} (hoff : s.enabled .lnk l = false) (hu : u = s.setHdr .lnk l F.HDR_CTRL_ENABLE 1)
    (hhold : (u.link l).downHold = false) (hst : u.lstate l = LS.disabled) (hmay : u.mayTrain = true) : s.linkEnable l = u.linkStart l := by
  simp only [State.linkEnable, hoff, ← hu, hhold, hst, hmay, Bool.false_eq_true, ne_eq, not_true_eq_false, false_and, if_false]

/-- An ACTIVE link is torn down with grace. -/
theorem State.linkDisable_of_active {s u : State} {l : Nat} (hon : s.enabled .lnk l = true) (hu : u = s.setHdr .lnk l F.HDR_CTRL_ENABLE 0)
    (hst : u.lstate l = LS.active) : s.linkDisable l = u.setLink l { u.link l with teardown := true } := by
  simp only [State.linkDisable, hon, ← hu, hst, Bool.true_eq_false, if_false, if_true]

/-- A tear-down ends with eight LINK_STATE DOWN messages of reason 0x07, recorded at log severity, and the claim released. -/
theorem State.teardownEnd_of_running {s : State} {l : Nat} (h : (s.link l).teardown = true) :
    s.teardownEnd l = (s.linkDown l 0x07 (some 0) (some (List.replicate 8 (linkStateMsg 0 0x07)))).releaseClaim l := by
  rw [State.teardownEnd, if_neg (not_not_intro h)]

/-- A step of bring-up that misses its limit takes the link down; step 3 with no word from the partner is retried where CFG allows. -/
theorem State.bringupTimeout_of_running {s : State} {l : Nat} (hlow : 0 < (s.link l).step) (hhigh : (s.link l).step < 7) :
    s.bringupTimeout l = (s.linkDown l 0x08).setLink l
      { (s.linkDown l 0x08).link l with
        paramRetry := decide ((s.link l).step = 3) && (s.link l).peer0.isNone && (s.link l).peer1.isNone && s.flag F.LNK_CFG_AUTO_RETRAIN l } :=
  if_neg (by omega)

/-! ### Links that fail (R140, R145, R163) -/

/-- A lane of an ACTIVE fabric link that loses its signal takes the link down. -/
theorem execLaneSignalLoss_of_up {lane : Fin 512} {s : State} (hclaimed : s.claimedLane lane = true) (hhost : s.flag F.SRD_OWNER_HOST lane = false)
    (hup : s.linkUp (s.fld F.SRD_OWNER_NUMBER lane) = true) :
    execLaneSignalLoss lane s =
      .next ((s.raise (320 + lane.val / 16) 0x03 (lane.val * 2 ^ 32)).linkDown (s.fld F.SRD_OWNER_NUMBER lane) 0x01) := by
  simp only [execLaneSignalLoss, hclaimed, hhost, hup, Bool.false_eq_true, not_false_eq_true, and_self, if_true]

theorem execDeadTimeExpire_of_awake {l : Fin 256} {s : State} (hstep : 2 ≤ (s.link l).step) (hst : s.lstate l ≠ LS.quiet) :
    execDeadTimeExpire l s = .next (s.linkDown l 0x02) :=
  if_pos ⟨hstep, hst⟩

theorem execLnkInjectForceDown_of_live {l : Fin 256} {s : State} (henabled : s.lstate l ≠ LS.disabled) (hdown : s.lstate l ≠ LS.down) :
    execLnkInjectForceDown l s = .next (s.linkDown l 0x01) :=
  if_neg (not_or_intro henabled hdown)

/-! ### The end of the down hold (R142) -/

section
variable {s u : State} {l : Nat} (hhold : (s.link l).downHold = true)
  (hu : u = s.setLink l { s.link l with downHold := false, reEnabled := false })
include hhold hu

/-- A link that was disabled and enabled again during the hold starts its bring-up. -/
theorem State.downHoldExpire_of_reEnabled (hon : u.enabled .lnk l = true) (hmay : u.mayTrain = true) (hclock : (s.link l).clockHeld = false)
    (hre : (s.link l).reEnabled = true) : s.downHoldExpire l = u.linkStart l := by
  subst hu
  have hfree : ¬ (s.link l).clockHeld = true := ne_true_of_eq_false hclock
  exact (if_neg (not_not_intro hhold)).trans ((if_neg (ne_false_of_eq_true hon)).trans
    ((if_neg (not_or_intro (not_not_intro hmay) hfree)).trans (if_pos hre)))

/-- A link that is disabled releases its claim and reads DISABLED. -/
theorem State.downHoldExpire_of_disabled (hoff : u.enabled .lnk l = false) :
    s.downHoldExpire l = (u.releaseClaim l).setFld F.LNK_LSTATE_STATE LS.disabled l := by
  subst hu
  exact (if_neg (not_not_intro hhold)).trans (if_pos hoff)

end

/-! ### Wake from quiet sleep (R162) -/

/-- A link that has relocked is ACTIVE again, and so are its lanes. -/
theorem State.linkWakeDone_of_waking {s : State} {l : Nat} (hst : s.lstate l = LS.quiet) (hwaking : (s.link l).waking = true) :
    s.linkWakeDone l = ((s.setLink l { s.link l with waking := false, idle := false }).linkLanes l).foldl (fun s n => s.setLane n 5)
      ((s.setLink l { s.link l with waking := false, idle := false }).setFld F.LNK_LSTATE_STATE LS.active l) :=
  if_neg (by simp [hst, hwaking])

theorem execWakeRelockTimeout_of_waking {l : Fin 256} {s : State} (hst : s.lstate l = LS.quiet) (hwaking : (s.link l).waking = true) :
    execWakeRelockTimeout l s = .next ((s.raise (320 + s.linkTile l) 0x04 (s.firstLane l * 2 ^ 32)).linkDown l 0x01) :=
  if_pos ⟨hst, hwaking⟩

/-- A link in quiet sleep that does not wake yet begins to, and with it its tile. -/
theorem State.linkWake_of_asleep {s : State} {l : Nat} (hst : s.lstate l = LS.quiet) (hasleep : (s.link l).waking = false) :
    s.linkWake l = (s.setLink l { s.link l with waking := true, idle := false, lockCount := 0 }).wake (Dom.tile (s.linkTile l)) :=
  if_neg (by simp [hst, hasleep])

theorem execLaneWakeDetect_of_claimed {lane : Fin 512} {s : State} (hclaimed : s.claimedLane lane = true)
    (hhost : s.flag F.SRD_OWNER_HOST lane = false) : execLaneWakeDetect lane s = .next (s.linkWake (s.fld F.SRD_OWNER_NUMBER lane)) :=
  if_pos ⟨hclaimed, by simp [hhost]⟩

/-- Settles O8: each clause is the branch that its command takes under the clause's hypotheses. -/
theorem linksComeUpAndGoDown : Obligations.LinksComeUpAndGoDown := by
  unfold Obligations.LinksComeUpAndGoDown
  refine ⟨?enable, ?disable, ?drained, ?drainTimeout, ?stepTimeout, ?signalLoss, ?deadTime, ?reEnabled, ?disabled, ?wakeDone, ?relockTimeout,
    ?wakeDetect, ?forceDown⟩
  case enable =>
    exact fun l s u hoff hu hhold hst hmay => congrArg Host.Outcome.next (State.linkEnable_of_disabled hoff hu hhold hst hmay)
  case disable =>
    intro l s u hon hu hst
    refine ⟨_, congrArg Host.Outcome.next (State.linkDisable_of_active hon hu hst), ?_⟩
    rw [State.link_setLink_self]
  case drained =>
    intro l s hdrained hdown
    have hrun : exec (.teardownDrainEnd l) s = .next (s.teardownEnd l) := congrArg Host.Outcome.next (if_pos hdrained)
    rw [hrun, State.teardownEnd_of_running hdown]
  case drainTimeout => exact fun l s hdown => congrArg Host.Outcome.next (State.teardownEnd_of_running hdown)
  case stepTimeout => exact fun l s hlow hhigh => congrArg Host.Outcome.next (State.bringupTimeout_of_running hlow hhigh)
  case signalLoss => exact fun lane s => execLaneSignalLoss_of_up
  case deadTime => exact fun l s => execDeadTimeExpire_of_awake
  case reEnabled =>
    exact fun l s u hhold hu hon hmay hclock hre =>
      congrArg Host.Outcome.next (State.downHoldExpire_of_reEnabled hhold hu hon hmay hclock hre)
  case disabled =>
    intro l s u hhold hu hoff
    exact ⟨_, congrArg Host.Outcome.next (State.downHoldExpire_of_disabled hhold hu hoff), State.lstate_setFld_self ..⟩
  case wakeDone => exact fun l s hst hwaking => congrArg Host.Outcome.next (State.linkWakeDone_of_waking hst hwaking)
  case relockTimeout => exact fun l s => execWakeRelockTimeout_of_waking
  case wakeDetect =>
    intro lane s u hu hclaimed hhost hst hasleep
    have hrun : exec (.laneWakeDetect lane) s = _ := execLaneWakeDetect_of_claimed hclaimed hhost
    rw [hrun, ← hu, State.linkWake_of_asleep hst hasleep]
  case forceDown => exact fun l s => execLnkInjectForceDown_of_live

end Sys2Proof.Machine

/-! ## SerDes lanes and measurement: bring-up of lanes, training frames, the measurements of bring-up, tests -/

namespace Sys2Proof.Machine

/-! ### A lane's own state -/

@[simp] theorem State.laneSt_setLaneSt_self (s : State) (n : Nat) (x : Lane) : (s.setLaneSt n x).laneSt n = x := mget_mput_self ..

@[simp] theorem State.laneSt_setFld (s : State) (f : Fld) (v n i m : Nat) : (s.setFld f v n i).laneSt m = s.laneSt m := by
  rw [State.laneSt, State.setFld_srd, State.laneSt]

/-! ### Receiver detect and group PLLs (R151, R152, R172) -/

/-- A powered lane that no link claims shows what the attempt found. -/
theorem State.receiverDetect_of_unclaimed {s : State} {n : Nat} (present : Bool) (hpower : s.lanePowered n = true)
    (htrain : s.trainingLink n = none) (hfree : s.claimedLane n = false) :
    s.receiverDetect n present = s.setFld F.SRD_STATUS_PRESENT (if present then 1 else 0) n := by
  simp only [State.receiverDetect, hpower, htrain, hfree, not_true_eq_false, Bool.false_eq_true, false_and, if_false]

/-- A group PLL of a tile with its reference locks, and each link that waits for it in lane step 1 goes on to receiver detect. -/
theorem State.pllLock_of_enabled {s : State} {t : Nat} (g : Nat) (hen : s.enabled .til t = true) (hhold : s.thermalHold = false)
    (href : (s.tileSt t).ref0 = true) :
    s.pllLock t g = (List.range 256).foldl (fun s l =>
      if (s.link l).lanesStep = 1 ∧ s.firstLane l / 16 = t ∧ s.firstLane l % 16 / 8 = g then s.lanesTo l 2 1 else s)
      (s.setPll t g false true) :=
  if_neg (by simp [hen, hhold, href])

/-! ### Training frames (R153–R156) -/

/-- In lane step 4 a lane with a partner sends a plain frame, at normal polarity. -/
theorem State.frameSend_of_aligning {s : State} {n l : Nat} (htrain : s.trainingLink n = some l)
    (hpresent : s.flag F.SRD_STATUS_PRESENT n = true) (hstep : (s.link l).lanesStep = 4) (hpol : s.flag F.SRD_CFG_TX_POL n = false) :
    s.frameSend n 0#8 false = ((s.setLaneSt n { s.laneSt n with framesSent := (s.laneSt n).framesSent + 1 }).emit
      (.training n (s.trainingFrame l n 0#8 false))).eqEnd l := by
  have hlow : ¬ 4 < 3 := by decide
  have hmeasure : ¬ 4 = 6 := by decide
  have hequalise : ¬ 4 = 5 := by decide
  have hready : ¬ 4 = 7 := by decide
  have hlast : ¬ 5 < 4 := by decide
  simp only [State.frameSend, htrain, hpresent, hstep, hpol, hlow, hmeasure, hequalise, hready, hlast, decide_false, Bool.false_and,
    Bool.false_or, Bool.or_false, Bool.false_eq_true, not_true_eq_false, false_and, or_self, if_false]

/-- Fewer than four bad frames in a row leave the lock, and break the run of EQ_DONE. -/
theorem State.frameReceive_of_bad {s : State} {n l : Nat} {raw : BitVec 256} (slip : Nat) (loss : Option Nat) (skew : Bool)
    (htrain : s.trainingLink n = some l) (hstep : 3 ≤ (s.link l).lanesStep) (hlock : (s.laneSt n).frameLock = true)
    (hpol : (s.laneSt n).runPol = false) (hmark : raw.toNat / 2 ^ 224 ≠ 0xB4C32D1E) (hfew : (s.laneSt n).badFrames < 3) :
    s.frameReceive n raw slip loss skew = s.setLaneSt n { s.laneSt n with badFrames := (s.laneSt n).badFrames + 1, eqGot := 0 } := by
  have hkept : ¬ 4 ≤ (s.laneSt n).badFrames + 1 := by omega
  simp only [State.frameReceive, htrain, Nat.not_lt.mpr hstep, hlock, hpol, hmark, hkept, decide_false, Bool.false_and,
    Bool.false_eq_true, not_true_eq_false, not_false_eq_true, if_true, if_false]

/-- A good frame in lane step 4 is read: the partner's SEEN and type, its lane number and its capabilities. -/
theorem State.frameReceive_of_good {s : State} {n l : Nat} {raw : BitVec 256} {x : Lane} (slip : Nat) (loss : Option Nat) (skew : Bool)
    (htrain : s.trainingLink n = some l) (hstep : (s.link l).lanesStep = 4) (hx : x = s.laneSt n) (hlock : x.frameLock = true)
    (hpol : x.runPol = false) (hloss : x.losses = []) (hreq : x.reqTap = 0) (hmark : raw.toNat / 2 ^ 224 = 0xB4C32D1E)
    (hcrc : raw.toNat % 2 ^ 32 = frameCrc raw) :
    s.frameReceive n raw slip loss skew = (((s.setLaneSt n
      { x with badFrames := 0, peerSeen := bitAt raw 211, peerType := bits raw 212 4 }).setFld
        F.SRD_STATUS_LOGICAL (bits raw 221 3) n).setFld F.SRD_PARTNER_CAP_CAP (bits raw 144 64) n).lanesAdvance l := by
  have hlow : ¬ 4 < 3 := by decide
  have hequalise : ¬ 4 = 5 := by decide
  have hready : ¬ 4 = 7 := by decide
  simp only [State.frameReceive, htrain, hstep, ← hx, hlow, hlock, hpol, hreq, hmark, hcrc, hequalise, hready, decide_true, decide_false,
    Bool.and_self, Bool.false_and, Bool.false_eq_true, ne_eq, not_true_eq_false, if_true, if_false]
  -- The loss of a burst is kept in lane step 5 only, so the lane still has none.
  cases loss with
  | none => simp only [hloss, if_true]
  | some q => simp only [hloss, if_true]

/-! ### The error ratio (R157, R613) -/

section
variable {s : State} {n l errors checked : Nat} (htrain : s.trainingLink n = some l) (hstep : (s.link l).lanesStep = 6)
include htrain hstep

/-- A ratio below 10^−4 ends the lane's interval, and lane step 6 with the last of the link's lanes. -/
theorem State.prbsEnd_of_good {u : State} (hgood : errors * 10000 < checked)
    (hu : u = (s.setFld F.SRD_ERR_ERR_EXP (errExp errors checked) n).setLaneSt n { s.laneSt n with prbsDone := true }) :
    s.prbsEnd n errors checked = if u.allLanes l (fun _ x => x.prbsDone) = true then u.lanesTo l 7 4 else u := by
  have hratio : ¬ checked ≤ errors * 10000 := Nat.not_le.mpr hgood
  simp only [State.prbsEnd, htrain, hstep, hratio, and_false, ne_eq, not_true_eq_false, if_false, State.laneSt_setFld, ← hu]

/-- A ratio of 10^−4 or worse ends the bring-up. -/
theorem State.prbsEnd_of_bad (herrors : errors ≠ 0) (hbad : checked ≤ errors * 10000) :
    s.prbsEnd n errors checked = (s.setFld F.SRD_ERR_ERR_EXP (errExp errors checked) n).laneFail l n := by
  simp only [State.prbsEnd, htrain, hstep, herrors, hbad, and_self, ne_eq, not_true_eq_false, not_false_eq_true, if_false, if_true]

end

/-! ### Tests (R166–R168) -/

section
variable {s : State} {n off : Nat} {v m : W32} {w : RegWord} (hword : regWordAt (Blk.srd.addr n off) = some w) (hplain : w.rws = 0)
  (hm : m = BitVec.ofNat 32 w.rw) (hnew : v &&& m ≠ s.rd (Blk.srd.addr n off) &&& m)
include hword hplain hm hnew

/-- Where tests may act on the lane, a new value of a word with no shadow, other than PRBS_CFG, takes effect in its RW fields. -/
theorem State.testWrite_of_allowed (hoff : off ≠ 0x120) (hallow : s.testAllowed n = true) :
    s.testWrite n off v = s.wr (Blk.srd.addr n off) ((s.rd (Blk.srd.addr n off) &&& ~~~m) ||| (v &&& m)) := by
  simp only [State.testWrite, hword, hplain, ← hm, hnew, hoff, hallow, not_true_eq_false, false_and, if_true, if_false]

/-- Where they may not, it is refused with TIL kind 0x06. -/
theorem State.testWrite_of_refused (hallow : s.testAllowed n = false) :
    s.testWrite n off v = s.raise (320 + n / 16) 0x06 (n * 2 ^ 32 + Blk.srd.addr n off) := by
  simp only [State.testWrite, hword, hplain, ← hm, hnew, hallow, Bool.false_eq_true, not_false_eq_true, if_true, if_false]

end

/-- The generator of a lane not in near-end loopback inverts the bits, and no checker counts them. -/
theorem State.invertBits_of_open {s : State} {n : Nat} (k : Nat) (hen : s.flag F.SRD_PRBS_CFG_TX_EN n = true)
    (hloop : s.fld F.SRD_CFG_LOOP n ≠ 1) :
    s.invertBits n k = s.setLaneSt n { s.laneSt n with inverted := (s.laneSt n).inverted + k } := by
  simp only [State.invertBits, hen, State.setLaneSt_fld, hloop, not_true_eq_false, false_and, if_false]

theorem State.setPrbsLock_flag (s : State) (n : Nat) (on : Bool) : (s.setPrbsLock n on).flag F.SRD_PRBS_STAT_LOCK n = on := by
  have hshown : (s.setPrbsLock n on).flag F.SRD_PRBS_STAT_LOCK n = ((if on then 1 else 0) % 2 == 1) :=
    s.flag_setFld_bit _ n 0 (by decide) rfl
  rw [hshown]
  cases on with
  | true => rfl
  | false => rfl

theorem State.setPrbsLock_prbs (s : State) (n : Nat) (on : Bool) : mget false (s.setPrbsLock n on).prbs n = on := mget_mput_self ..

/-- LOCK_LOSS shares the word of LOCK, and leaves LOCK as it is. -/
theorem State.lock_setFld_lockLoss (s : State) (v n : Nat) :
    (s.setFld F.SRD_PRBS_STAT_LOCK_LOSS v n).flag F.SRD_PRBS_STAT_LOCK n = s.flag F.SRD_PRBS_STAT_LOCK n := by
  have hbeside := s.fld_setFld_beside F.SRD_PRBS_STAT_LOCK_LOSS F.SRD_PRBS_STAT_LOCK v n 0 n 0 (by decide) (by decide) rfl (by decide)
  rw [State.flag, hbeside, State.flag]

theorem execPrbsCheckerLock_of_locks {lane : Fin 512} {s : State} (hen : s.flag F.SRD_PRBS_CFG_RX_EN lane = true) :
    execPrbsCheckerLock lane true s = .next (s.setPrbsLock lane true) :=
  if_neg (not_not_intro hen)

/-- A checker that drops its lock counts the loss. -/
theorem execPrbsCheckerLock_of_drops {lane : Fin 512} {s : State} (hen : s.flag F.SRD_PRBS_CFG_RX_EN lane = true)
    (hlock : s.flag F.SRD_PRBS_STAT_LOCK lane = true) :
    execPrbsCheckerLock lane false s = .next ((s.setPrbsLock lane false).setFld F.SRD_PRBS_STAT_LOCK_LOSS
      (satAdd 16 (s.fld F.SRD_PRBS_STAT_LOCK_LOSS lane) 1) lane) :=
  (if_neg (not_not_intro hen)).trans (if_pos hlock)

/-! ### A link that restarts its bring-up (R135) -/

/-- An enabled link that owes a retry, out of its down hold and with its claim, starts its bring-up. -/
theorem State.paramRetry_of_due {s u : State} {l : Nat} (hdue : (s.link l).paramRetry = true)
    (hu : u = s.setLink l { s.link l with paramRetry := false }) (hhold : (s.link l).downHold = false) (hon : u.enabled .lnk l = true)
    (hmay : u.mayTrain = true) (hclaim : (s.link l).claimLapsed = false) : s.paramRetry l = u.linkStart l := by
  have hfree : ¬ ((s.link l).downHold = true ∨ u.enabled .lnk l = false ∨ ¬ u.mayTrain = true ∨ (s.link l).claimLapsed = true) := by
    simp [hhold, hon, hmay, hclaim]
  subst hu
  exact (if_neg (not_not_intro hdue)).trans (if_neg hfree)

/-- Settles O9: each clause is the branch that its command takes under the clause's hypotheses; what a lane's state, a word or a field then
reads as follows from the laws of the write. -/
theorem lanesTrainAndMeasure : Obligations.LanesTrainAndMeasure := by
  unfold Obligations.LanesTrainAndMeasure
  refine ⟨?detect, ?lock, ?send, ?badFrame, ?goodFrame, ?goodRatio, ?badRatio, ?unlock, ?testWrite, ?timeout, ?inject, ?checker, ?echo,
    ?retry⟩
  case detect =>
    intro lane present s hpower htrain hfree
    refine ⟨_, congrArg Host.Outcome.next (State.receiverDetect_of_unclaimed present hpower htrain hfree), ?_⟩
    rw [State.fld_setFld_self _ _ _ _ _ (by decide)]
    cases present with
    | true => rfl
    | false => rfl
  case lock => exact fun tile group s hen hhold href => congrArg Host.Outcome.next (State.pllLock_of_enabled group hen hhold href)
  case send =>
    exact fun lane s l htrain hpresent hstep hpol =>
      ⟨_, congrArg Host.Outcome.next (State.frameSend_of_aligning htrain hpresent hstep hpol), rfl⟩
  case badFrame =>
    intro lane raw slip loss skew s l htrain hstep hlock hpol hmark hfew
    refine ⟨_, congrArg Host.Outcome.next (State.frameReceive_of_bad slip _ skew htrain hstep hlock hpol hmark hfew), ?_⟩
    rw [State.laneSt_setLaneSt_self]
    exact ⟨rfl, rfl, hlock⟩
  case goodFrame =>
    exact fun lane raw slip loss skew s l x htrain hstep hx hlock hpol hloss hreq hmark hcrc =>
      congrArg Host.Outcome.next (State.frameReceive_of_good slip _ skew htrain hstep hx hlock hpol hloss hreq hmark hcrc)
  case goodRatio =>
    intro lane errors checked s l u htrain hstep hgood hu
    have hrun : exec (.prbsIntervalEnd lane errors checked) s = .next _ :=
      congrArg Host.Outcome.next (State.prbsEnd_of_good htrain hstep hgood hu)
    rw [hrun]
    exact ⟨fun hwait => by rw [if_neg (ne_true_of_eq_false hwait)], fun hall => by rw [if_pos hall]⟩
  case badRatio =>
    intro lane errors checked s l htrain hstep herrors hbad
    have hcount : errors.toNat ≠ 0 := fun h => herrors (BitVec.eq_of_toNat_eq h)
    exact congrArg Host.Outcome.next (State.prbsEnd_of_bad htrain hstep hcount hbad)
  case unlock =>
    intro tile group s g hg
    rw [hg]
    rfl
  case testWrite =>
    intro lane off v s a w m hmem ha hword hplain hm hnew
    have hknown : off.val ∈ [0x100, 0x108, 0x120, 0x138, 0x13C] := (by decide : [0x108, 0x13C] ⊆ _) hmem
    have hcfg : off.val ≠ 0x120 := fun h => absurd (h ▸ hmem) (by decide)
    have hrun : exec (.srdTestWrite lane off v) s = .next (s.testWrite lane off v) := congrArg Host.Outcome.next (if_pos hknown)
    subst ha
    rw [hrun]
    constructor
    · intro hallow
      refine ⟨_, congrArg Host.Outcome.next (State.testWrite_of_allowed hword hplain hm hnew hcfg hallow), ?_⟩
      rw [State.rd_wr_self]
    · exact fun hallow => congrArg Host.Outcome.next (State.testWrite_of_refused hword hplain hm hnew hallow)
  case timeout => exact fun l s hrun => congrArg Host.Outcome.next (if_neg hrun)
  case inject =>
    intro lane s hen hloop
    have hinverts (k : Nat) : ((s.invertBits lane k).laneSt lane).inverted = (s.laneSt lane).inverted + k := by
      rw [State.invertBits_of_open k hen hloop, State.laneSt_setLaneSt_self]
    exact ⟨⟨_, rfl, hinverts 1⟩, ⟨_, rfl, hinverts _⟩⟩
  case checker =>
    intro lane s hen
    refine ⟨⟨_, execPrbsCheckerLock_of_locks hen, State.setPrbsLock_flag .., State.setPrbsLock_prbs ..⟩, fun hlock => ?_⟩
    refine ⟨_, execPrbsCheckerLock_of_drops hen hlock, ?_, ?_⟩
    · rw [State.lock_setFld_lockLoss, State.setPrbsLock_flag]
    · rw [State.setFld_prbs, State.setPrbsLock_prbs]
  case echo => exact fun l s hstep hsent hopen => if_pos ⟨hstep, hsent, by simp [hopen]⟩
  case retry =>
    exact fun l s u hdue hu hhold hon hmay hclaim => congrArg Host.Outcome.next (State.paramRetry_of_due hdue hu hhold hon hmay hclaim)

end Sys2Proof.Machine

/-! ## Viaducts and fabric time: the passing of time, its exchange between routers, gates, setup and tear-down -/

namespace Sys2Proof.Machine

/-! ### A nanosecond with no command (R173, R426; log 9) -/

theorem step_of_idle {s : State} (h : s.pending = []) : step s = .next s.idleTick := by
  simp only [step, h]

/-- A fold whose every step leaves the start as it is ends there. -/
theorem foldl_eq_self_of_mem {α β : Type} {g : α → β → α} {a : α} {l : List β} (h : ∀ b ∈ l, g a b = a) : l.foldl g a = a :=
  List.foldlRecOn (motive := (· = a)) l g rfl (fun _ heq b hb => heq.symm ▸ h b hb)

/-- With no hart and no awake cluster the engines do nothing. -/
theorem State.engTick_of_asleep {s : State} (hhart : s.eng.hart = []) (hasleep : ∀ c, c < 32 → s.awake (Dom.cluster c) = false) :
    s.engTick = s := by
  simp only [State.engTick]
  rw [foldl_eq_self_of_mem (l := List.range 32), hhart, List.foldl_nil]
  exact fun c hc => if_neg (ne_true_of_eq_false (hasleep c (List.mem_range.mp hc)))

/-- Where no checker, hart or awake cluster counts, a nanosecond is one of time alone. -/
theorem State.idleTick_of_asleep {s : State} (hprbs : s.prbs = []) (hhart : s.eng.hart = [])
    (hasleep : ∀ c, c < 32 → s.awake (Dom.cluster c) = false) : s.idleTick = s.tick := by
  rw [State.idleTick, hprbs, List.foldl_nil, State.engTick_of_asleep hhart hasleep]

/-- With nothing left to slew, fabric time advances by the rate in force alone. -/
theorem State.tick_of_no_slew {s : State} (h : slewStep s.via.servo.slew = 0) :
    s.tick = { s with
      clk := s.clk + 1,
      time := {
        now := BitVec.ofNat 64 (s.time.now.toNat + ((2 ^ 32 + s.rateNow + s.time.frac) / 2 ^ 32).toNat),
        frac := ((2 ^ 32 + s.rateNow + s.time.frac) % 2 ^ 32).toNat } } := by
  simp only [State.tick, h, if_true, add_zero]

/-- Settles O38: an idle nanosecond keeps the queue, the fuses and the flash, and comes down to the tick of time where nothing else counts. -/
theorem withNoCommandTimePasses : Obligations.WithNoCommandTimePasses := by
  unfold Obligations.WithNoCommandTimePasses
  constructor
  · intro s hidle
    have hfixed := s.idleTick_fixed
    simp only [State.fixed, Prod.mk.injEq] at hfixed
    obtain ⟨hpend, hslots, hsvn, hflash⟩ := hfixed
    exact ⟨step_of_idle hidle, hpend.trans hidle, hslots, hsvn, hflash⟩
  · exact fun s hprbs hhart hasleep hslew => (State.idleTick_of_asleep hprbs hhart hasleep).trans (State.tick_of_no_slew hslew)

/-! ### The exchange on a link (R175, R176, R177) -/

/-- SYNC and SYNC_HI go out on a link that runs time transfer, where this end sends time. -/
theorem State.exchangeStart_of_on {s : State} {l : Nat} (hsend : s.flag F.VIA_CFG_TIME_SEND = true) (hon : s.timeOn l = true) :
    s.exchangeStart l = ((s.setLink l { s.link l with timeSeq := ((s.link l).timeSeq + 1) % 16 }).queueByp l
      (bypMsg 0x10 ((s.link l).timeSeq * 2 ^ 52 + s.fld F.VIA_TIME_STATUS_STATE * 2 ^ 50))).queueByp l
      (bypMsg 0x11 ((s.link l).timeSeq * 2 ^ 52 + s.fld F.VIA_TIME_STATUS_ROOT_ID * 2 ^ 32 + s.fld F.VIA_TIME_STATUS_DEPTH * 2 ^ 28)) :=
  if_neg (by simp [hsend, hon])

theorem execSyncReceive_of_taken {l : Fin 256} {s u : State} {m : BitVec 62} {q : Nat} (htake : s.takeByp l [0x10] = (some (m, q), u)) :
    execSyncReceive l s = .next (u.syncReceive l m q) := by
  simp only [execSyncReceive, htake]

theorem State.syncReceive_of_on {s : State} {l : Nat} (m : BitVec 62) (q : Nat) (hon : s.timeOn l = true) :
    s.syncReceive l m q = s.setLink l
      { s.link l with exch := some { seq := bits m 52 4, sndState := bits m 50 2, t1 := stampOf m, t2 := q, since := s.clk } } :=
  if_neg (not_not_intro hon)

theorem execSyncHiReceive_of_taken {l : Fin 256} {s u : State} {m : BitVec 62} {q : Nat} (htake : s.takeByp l [0x11] = (some (m, q), u)) :
    execSyncHiReceive l s = .next (u.syncHiReceive l m) := by
  simp only [execSyncHiReceive, htake]

/-- A SYNC_HI of the exchange under way is kept and asks for the delay. -/
theorem State.syncHiReceive_of_same {s : State} {l : Nat} {m : BitVec 62} {e : Exch} (hon : s.timeOn l = true)
    (hexch : (s.link l).exch = some e) (hseq : e.seq = bits m 52 4) :
    s.syncHiReceive l m = (s.setLink l { s.link l with exch := some { e with hi := some (bits m 32 14, bits m 28 4) } }).queueByp l
      (bypMsg 0x12 (e.seq * 2 ^ 52)) := by
  simp only [State.syncHiReceive, hexch, hon, hseq, ne_eq, not_true_eq_false, or_self, if_false]

theorem execDelayReqReceive_of_taken {l : Fin 256} {s u : State} {m : BitVec 62} {q : Nat} (htake : s.takeByp l [0x12] = (some (m, q), u)) :
    execDelayReqReceive l s = .next (u.delayReqReceive l m q) := by
  simp only [execDelayReqReceive, htake]

theorem State.delayReqReceive_of_on {s : State} {l : Nat} (m : BitVec 62) (q : Nat) (hon : s.timeOn l = true) :
    s.delayReqReceive l m q = s.queueByp l (bypMsg 0x13 (bits m 52 4 * 2 ^ 52 + q % 4 * 2 ^ 48 + q / 4 % 2 ^ 48)) :=
  if_neg (not_not_intro hon)

theorem execDelayRspReceive_of_taken {l : Fin 256} {s u : State} {m : BitVec 62} {q : Nat} (htake : s.takeByp l [0x13] = (some (m, q), u)) :
    execDelayRspReceive l s = .next (u.delayRspReceive l m) := by
  simp only [execDelayRspReceive, htake]

/-- The DELAY_RSP that completes an exchange ends it; a follower takes one that is in time and of a sender that knows the time. -/
theorem State.delayRspReceive_of_complete {s : State} {l root depth : Nat} {m : BitVec 62} {e : Exch} (hon : s.timeOn l = true)
    (hexch : (s.link l).exch = some e) (hhi : e.hi = some (root, depth)) (hseq : e.seq = bits m 52 4) :
    s.delayRspReceive l m =
      if e.sndState = 0 ∨ e.since + 4 * (max 1 (s.fld F.VIA_TIME_CFG_SYNC_PERIOD) * 100) < s.clk ∨ s.fld F.VIA_TIME_CFG_ROLE ≠ 0 then
        s.setLink l { s.link l with exch := none }
      else (s.setLink l { s.link l with exch := none }).exchTake l (signedOf 50 (e.t2 + 2 ^ 50 - e.t1 % 2 ^ 50))
        (signedOf 50 (stampOf m + 2 ^ 50 - (s.link l).t3 % 2 ^ 50)) root depth := by
  have htaken : ¬ (¬ s.timeOn l = true ∨ e.seq ≠ bits m 52 4) := by simp [hon, hseq]
  obtain ⟨seq, sndState, t1, t2, since, hi⟩ := e
  cases hhi
  simp only [State.delayRspReceive, hexch]
  exact if_neg htaken

/-! ### The follower (R178, R179) -/

/-- A follower on its PARENT takes offset and path delay from the two differences of an exchange. -/
theorem State.exchTake_of_parent {s : State} {l : Nat} (d1 d2 : Int) (root depth : Nat) (hparent : s.via.servo.useAlt = false)
    (hl : l = s.fld F.VIA_TIME_CFG_PARENT) (hexact : s.armed F.VIA_INJECT_TIME_ERR 0 = false) :
    s.exchTake l d1 d2 root depth = s.exchangeUse l (divR ((d1 - d2) * 125 - signedOf 16 (s.fld F.VIA_ASYM_PARENT)) 250)
      (ofSigned 20 (divR (d1 + d2) 2)) root depth := by
  simp only [State.exchTake, State.timeLink, hparent, hexact, Bool.false_eq_true, if_false, ← hl, if_true, add_zero]

/-- A LOCKED follower that has no exchange on its PARENT goes into HOLDOVER. -/
theorem State.exchangeTimeout_of_locked {s : State} (hrole : s.fld F.VIA_TIME_CFG_ROLE = 0) (hparent : s.via.servo.useAlt = false)
    (hlocked : s.fld F.VIA_TIME_STATUS_STATE = 1) : s.exchangeTimeout = s.enterHoldover true := by
  simp only [State.exchangeTimeout, hrole, hparent, hlocked, ne_eq, not_true_eq_false, Bool.false_eq_true, if_true, if_false]

/-- HOLDOVER that lasts too long ends in UNLOCKED. -/
theorem State.holdoverExpire_of_holdover {s : State} (h : s.fld F.VIA_TIME_STATUS_STATE = 2) :
    s.holdoverExpire = s.timeUnlock.raise 691 0x02 (s.fld F.VIA_TIME_LIMITS_HOLD_US) :=
  if_pos h

/-! ### Roots and PPS (R180, R182) -/

/-- A PPS root that takes PPS_IN captures fabric time at its edge and judges it. -/
theorem State.ppsInEdge_of_root {s u : State} (hrole : s.fld F.VIA_TIME_CFG_ROLE = 2) (hen : s.flag F.VIA_PPS_CFG_PPS_IN_EN = true)
    (hu : u = ({ s with pwr := { s.pwr with ppsIn := true } }).setFld F.VIA_PPS_CAP_TIME s.ftime) : s.ppsInEdge = u.ppsJudge := by
  have hruns : ¬ (s.fld F.VIA_TIME_CFG_ROLE ≠ 2 ∨ ¬ s.flag F.VIA_PPS_CFG_PPS_IN_EN = true) := by simp [hrole, hen]
  subst hu
  exact if_neg hruns

/-- An edge at most 1 µs after the second runs the servo. -/
theorem State.ppsJudge_of_near {s : State} (h : s.ftime % 10 ^ 9 ≤ 1000) : s.ppsJudge = s.servoRun := by
  have hfirst : s.ftime % 10 ^ 9 ≤ 5 * 10 ^ 8 := by omega
  simp only [State.ppsJudge, if_pos hfirst]
  exact if_neg (by omega)

/-- One farther after it, in the second's first half, steps fabric time back to the second. -/
theorem State.ppsJudge_of_late {s : State} (hfar : 1000 < s.ftime % 10 ^ 9) (hfirst : s.ftime % 10 ^ 9 ≤ 5 * 10 ^ 8) :
    s.ppsJudge = s.timeStep (-(4 * ((s.ftime % 10 ^ 9 : Nat) : Int)) - ((s.time.frac / 2 ^ 30 : Nat) : Int)) := by
  simp only [State.ppsJudge, if_pos hfirst]
  exact if_pos (by omega)

/-- On a root the high word of TIME_SET sets fabric time, with the low word that its requestor staged. -/
theorem State.timeSet_of_staged {s u : State} {ag : Agent} {lo : W32} (hi : W32) (hrole : s.fld F.VIA_TIME_CFG_ROLE ≠ 0)
    (hlo : mfind (mget [] s.regs.staged ag.key) (F.VIA_TIME_SET_TIME.addr 0 0) = some lo)
    (hu : u = { s with regs := { s.regs with
            staged := mput [] s.regs.staged ag.key (merase (mget [] s.regs.staged ag.key) (F.VIA_TIME_SET_TIME.addr 0 0)) } }) :
    s.timeSet ag hi = ({ u with time := { now := BitVec.ofNat 64 (hi.toNat * 2 ^ 32 + lo.toNat), frac := 0 } }).raise 691 0x04
      (ofSigned 64 (((hi.toNat * 2 ^ 32 + lo.toNat : Nat) : Int) - (s.ftime : Int))) := by
  subst hu
  simp only [State.timeSet, hlo, Option.getD_some]
  exact if_neg hrole

/-- On an external root TIME_ADJ adds to the slew that is left (log 16). -/
theorem State.timeAdj_of_external {s : State} (ns : W32) (h : s.fld F.VIA_TIME_CFG_ROLE = 3) :
    s.timeAdj ns = s.setServo { s.via.servo with slew := s.via.servo.slew + signedOf 32 ns.toNat * 2 ^ 32 } :=
  if_neg (not_not_intro h)

theorem execPpsOutAssert_of_sensed {s : State} (hen : s.flag F.VIA_CFG_PPS_OUT_EN = true)
    (hidle : (s.fld F.PWR_PIN_IDLE_VALID).testBit 7 = true) : execPpsOutAssert s = .next { s with pwr := { s.pwr with ppsOut := true } } :=
  if_pos ⟨hen, hidle⟩

/-- Settles O10: each clause is the branch that its command takes under the clause's hypotheses; what it leaves in the link is read off the
equation of the operation that it runs. -/
theorem fabricTimeIsExchangedAndSet : Obligations.FabricTimeIsExchangedAndSet := by
  unfold Obligations.FabricTimeIsExchangedAndSet
  refine ⟨?start, ?sync, ?syncHi, ?delayReq, ?delayRsp, ?take, ?timeout, ?holdover, ?edge, ?judge, ?set, ?adjust, ?assert, ?deassert⟩
  case start =>
    intro l s k hsend hon hk
    refine ⟨_, congrArg Host.Outcome.next (State.exchangeStart_of_on hsend hon), ?_⟩
    simp only [State.link_queueByp_self, State.link_setLink_self, List.append_assoc, List.singleton_append, hk, and_self]
  case sync =>
    intro l s u m q htake hon
    refine ⟨_, execSyncReceive_of_taken htake, ?_⟩
    rw [State.syncReceive_of_on m q hon, State.link_setLink_self]
  case syncHi =>
    intro l s u m q e htake hon hexch hseq
    refine ⟨_, execSyncHiReceive_of_taken htake, ?_⟩
    rw [State.syncHiReceive_of_same hon hexch hseq, State.link_queueByp_self, State.link_setLink_self]
    exact ⟨rfl, rfl⟩
  case delayReq =>
    intro l s u m q htake hon
    refine ⟨_, execDelayReqReceive_of_taken htake, ?_⟩
    rw [State.delayReqReceive_of_on m q hon, State.link_queueByp_self]
  case delayRsp =>
    intro l s u m q e root depth htake hon hexch hhi hseq
    have hrun : exec (.delayRspReceive l) s = _ := execDelayRspReceive_of_taken htake
    rw [hrun, State.delayRspReceive_of_complete hon hexch hhi hseq]
    constructor
    · intro hroot
      refine ⟨_, congrArg Host.Outcome.next (if_pos (.inr (.inr hroot))), ?_⟩
      rw [State.link_setLink_self]
    · intro hfollower hknows hintime
      rw [if_neg (by simp [hfollower, hknows, hintime])]
  case take => exact fun u l d1 d2 root depth => State.exchTake_of_parent d1 d2 root depth
  case timeout => exact fun s hrole hparent hlocked => congrArg Host.Outcome.next (State.exchangeTimeout_of_locked hrole hparent hlocked)
  case holdover => exact fun s hholds => congrArg Host.Outcome.next (State.holdoverExpire_of_holdover hholds)
  case edge => exact fun s u hrole hen hu => congrArg Host.Outcome.next (State.ppsInEdge_of_root hrole hen hu)
  case judge => exact fun u => ⟨State.ppsJudge_of_near, State.ppsJudge_of_late⟩
  case set => exact fun ag hi s lo u hrole hlo hu => congrArg Host.Outcome.next (State.timeSet_of_staged hi hrole hlo hu)
  case adjust => exact fun ns s hrole => ⟨_, congrArg Host.Outcome.next (State.timeAdj_of_external ns hrole), rfl⟩
  case assert => exact fun s hen hidle => ⟨_, execPpsOutAssert_of_sensed hen hidle, rfl⟩
  case deassert => exact fun s => ⟨_, rfl, rfl⟩

/-! ### Windows and their gates (R188, R190, R197) -/

section
variable {s : State} {l e : Nat} (hgates : s.gatesOn = true) (hvalid : gValid (s.gateWord s.viaB l e) = true)
include hgates hvalid

theorem State.windowOpen_of_valid (hskip : mget false s.via.skip l = false) :
    s.windowOpen l e = { s with via := { s.via with open? := minsert s.via.open? l (e, gVia (s.gateWord s.viaB l e)) } } := by
  simp only [State.windowOpen, hgates, hvalid, hskip, not_true_eq_false, or_self, Bool.false_eq_true, if_false]

theorem State.windowOpen_of_skipped (hskip : mget false s.via.skip l = true) :
    s.windowOpen l e = { s with via := { s.via with skip := mput false s.via.skip l false } } := by
  simp only [State.windowOpen, hgates, hvalid, hskip, not_true_eq_false, or_self, if_false, if_true]

/-- A window that closes with its gate queue empty, on a link that sends nothing, is open no more. -/
theorem State.windowClose_of_idle {u : State} (hu : u = { s with via := { s.via with open? := merase s.via.open? l } })
    (hfree : (s.link l).txPkt = none) (hempty : s.gq l (gVia (s.gateWord s.viaB l e)) = []) :
    s.windowClose l e = u.setGq l (gVia (s.gateWord s.viaB l e)) [] := by
  have hsame : u.gatesOn = s.gatesOn ∧ u.link l = s.link l ∧ ∀ v, u.gq l v = s.gq l v := by
    rw [hu]
    exact ⟨rfl, rfl, fun _ => rfl⟩
  obtain ⟨hon, hlink, hqueue⟩ := hsame
  simp only [State.windowClose, ← hu, hon, hlink, hqueue, hgates, hvalid, hfree, hempty, not_true_eq_false, or_self, Bool.false_eq_true,
    if_false, List.foldl_nil]

end

/-- Every key of a map made with one value for each of a list of keys reads as that value. -/
theorem mget_map_of_mem {α : Type} (d x : α) {ks : List Nat} {k : Nat} (h : k ∈ ks) : mget d (ks.map (fun j => (j, x))) k = x := by
  induction ks with
  | nil => cases h
  | cons j ks ih =>
    by_cases hkj : k = j
    · simp only [List.map_cons, mget, mfind, if_pos hkj, Option.getD_some]
    · have hrest := ih (List.mem_of_ne_of_mem hkj h)
      simpa only [List.map_cons, mget, mfind, if_neg hkj] using hrest

/-! ### Packets of viaducts at a hop and at the destination (R189, R192, R193, R196) -/

/-- Viaduct `v` has a valid active entry of a role at this router, is armed, and comes in by link `i`. -/
structure State.ArmedAs (s : State) (v role : Nat) (i : Option Nat) : Prop where
  lt : v < 4096
  valid : vValid (s.vw (v % 4096) 0) = true
  role_eq : vRole (s.vw (v % 4096) 0) = role
  armed : s.viaArmed v = true
  input : i = some (vIn (s.vw (v % 4096) 0))

/-- None of the reasons to discard a packet of the viaduct for want of an entry holds. -/
theorem State.ArmedAs.serves {s : State} {v role : Nat} {i : Option Nat} (h : s.ArmedAs v role i) :
    ¬ (4096 ≤ v ∨ ¬ vValid (s.vw (v % 4096) 0) = true ∨ vRole (s.vw (v % 4096) 0) ≠ role ∨ ¬ s.viaArmed v = true ∨
      i ≠ some (vIn (s.vw (v % 4096) 0))) := by
  simp [Nat.not_le.mpr h.lt, h.valid, h.role_eq, h.armed, ← h.input]

/-- A stored packet of a viaduct of which this router is a hop, whose next hop is the entry's output link, joins the gate queue there; on a
link inside its ring, without a class to raise or a trace to keep, only its header's path is advanced. -/
theorem State.viaEligible_of_hop {s u : State} {id v l : Nat} {rest : List Nat} {p : Pkt} {hdr : List Byte}
    (hfirst : s.fwd.viaStored = id :: rest) (hp : s.pkt id = some p) (hhdr : hdr = slice p.bytes 0 32) (hv : v = pVia p.bytes)
    (hl : l = wHop (pPath hdr) (wNext (pPath hdr))) (hu : u = { s with fwd := { s.fwd with viaStored := rest } })
    (hdirect : wDetoured (pPath hdr) = false) (husable : u.linkUsable l = true) (hgates : u.gatesOn = true)
    (hentry : u.ArmedAs v 0 p.inLink) (hout : vOut (u.vw (v % 4096) 0) = l) (hinside : u.boundary l = false)
    (hbump : pBump hdr = false) (htrace : pTrace hdr = false) :
    s.viaEligible = u.gateJoin l v
      { pkt := id, hdr := sealHdr (setFlag (setPath hdr (pPath hdr + 2 ^ 10)) 2 false), slot := pSlot p.bytes } p.len := by
  have hpkt : u.pkt id = some p := by
    rw [hu]
    exact hp
  have harmed : mget false s.via.armed v = true := by
    have h := hentry.armed
    rwa [hu] at h
  have hhop : v < 4096 ∧ vValid (u.viaWord u.viaB (v % 4096) 0) = true ∧ mget false s.via.armed v = true ∧
      vRole (u.viaWord u.viaB (v % 4096) 0) = 0 ∧ some (vIn (u.viaWord u.viaB (v % 4096) 0)) = p.inLink ∧
      vOut (u.viaWord u.viaB (v % 4096) 0) = l :=
    ⟨hentry.lt, hentry.valid, harmed, hentry.role_eq, hentry.input.symm, hout⟩
  simp only [State.viaEligible, hfirst, ← hu, hpkt, ← hhdr, ← hv, ← hl, hdirect, husable, hgates, if_pos hhop, hinside, hbump, htrace,
    Bool.or_self, Bool.false_eq_true, not_true_eq_false, false_and, or_self, if_false]

section
variable {s : State} {d : Dlv} {v : Nat} (hv : v = pVia d.bytes) (hgates : s.gatesOn = true) (hentry : s.ArmedAs v 2 d.inLink)
include hv hgates hentry

/-- A VIA_DATA whose slot has been passed already is dropped. -/
theorem State.viaData_of_behind (hbehind : 2 ^ 31 ≤ seqDist 32 (pSlot d.bytes) (s.viaDst v).expect) : s.viaData d = s := by
  simp only [State.viaData, ← hv, hgates, not_true_eq_false, if_neg hentry.serves, if_false, if_pos hbehind]

/-- A VIA_DATA with the next slot or a later one passes its sequence, and what its access allows is deposited. -/
theorem State.viaData_of_deposit {y : State} {va : Nat} (hahead : seqDist 32 (pSlot d.bytes) (s.viaDst v).expect < 2 ^ 31)
    (hy : y = (s.viaGap v (seqDist 32 (pSlot d.bytes) (s.viaDst v).expect)).viaPass v (pSlot d.bytes))
    (hva : va = y.vw v 2 + pSlot d.bytes * vBytes (s.vw (v % 4096) 0) % 2 ^ (y.vw v 3 / 2 ^ 26 % 64))
    (haccess : y.viaAccess v (s.vw v 1 / 2 ^ 46) va (pPayload d.bytes).length = none) :
    s.viaData d = (y.startJob
      { who := .viaDep (s.vw v 1 / 2 ^ 46) v (pSlot d.bytes), ctx := s.vw v 1 / 2 ^ 46, space := y.vw v 1 % 2 ^ 32 / 2 ^ 16, va := va,
        len := (pPayload d.bytes).length, write := true, data := pPayload d.bytes,
        region := some (y.vw v 3 / 2 ^ 32 % 2 ^ 20) }).viaDstCheck v := by
  simp only [State.viaData, ← hv, hgates, not_true_eq_false, if_neg hentry.serves, if_false, if_neg (Nat.not_le.mpr hahead), ← hy, ← hva,
    haccess]

end

theorem execViaDataReceive_of_some {s u : State} {d : Dlv} (hsafe : s.safe = false) (hawake : s.awake Dom.endpoint = true)
    (htake : s.takeOpc 0x70 = (some d, u)) : execViaDataReceive s = .next (u.viaData d).drain := by
  simp only [execViaDataReceive, hsafe, hawake, htake, Bool.false_eq_true, not_true_eq_false, or_self, if_false]

/-! ### Setup and tear-down (R194) -/

theorem execViaSetupStart_of_source {v : Fin 4096} {s : State} (hgates : s.gatesOn = true) (hvalid : vValid (s.vw v 0) = true)
    (hrole : vRole (s.vw v 0) = 1) (hphase : (s.viaSrc v).phase = 0) (hfree : s.viaArmed v = false) :
    execViaSetupStart v s = .next ((s.setViaSrc v { s.viaSrc v with phase := 1, resent := 0 }).sendSetup v) :=
  if_pos ⟨hgates, hvalid, hrole, hphase, by simp [hfree]⟩

theorem execViaSetupReceive_of_some {s u : State} {d : Dlv} (htake : s.takeKept 0x71 = (some d, u)) :
    execViaSetupReceive s = .next (u.viaSetup d).drain := by
  simp only [execViaSetupReceive, htake]

/-- A reply that does not refuse sets up the viaduct whose source waits for it. -/
theorem State.viaSetup_of_accepted {s : State} {d : Dlv} {v : Nat} (hv : v = pVia d.bytes)
    (hreply : (beAt (pExt d.bytes) 4 1).testBit 7 = true) (haccepts : (beAt (pExt d.bytes) 4 1).testBit 6 = false)
    (hwaits : ((s.copyDone d.pkt).viaSrc v).phase = 1) :
    s.viaSetup d =
      ((s.copyDone d.pkt).setViaSrc v { phase := 2, ops := ((s.copyDone d.pkt).viaSrc v).ops }).setArmedVia v true := by
  simp only [State.viaSetup, ← hv, hreply, haccepts, hwaits, ne_eq, not_true_eq_false, Bool.false_eq_true, if_true, if_false]

section
variable {v : Fin 4096} {s : State} (hwaits : (s.viaSrc v).phase = 1)
include hwaits

theorem execViaSetupTimeout_of_again (hagain : (s.viaSrc v).resent < 3) :
    execViaSetupTimeout v s = .next ((s.setViaSrc v { s.viaSrc v with resent := (s.viaSrc v).resent + 1 }).sendSetup v) :=
  (if_neg (not_not_intro hwaits)).trans (if_pos hagain)

theorem execViaSetupTimeout_of_last (hlast : 3 ≤ (s.viaSrc v).resent) : execViaSetupTimeout v s = .next (s.viaFail v).drain :=
  (if_neg (not_not_intro hwaits)).trans (if_neg (Nat.not_lt.mpr hlast))

end

theorem execViaTeardownReceive_of_some {s u : State} {d : Dlv} (htake : s.takeKept 0x72 = (some d, u)) :
    execViaTeardownReceive s = .next (u.viaTeardown d).drain := by
  simp only [execViaTeardownReceive, htake]

/-- A VIA_TEARDOWN that is no reply waits at a hop. -/
theorem State.viaTeardown_of_hop {s : State} {d : Dlv} (hasks : (beAt (pExt d.bytes) 4 1).testBit 7 = false)
    (hhop : wNext (pPath d.bytes) ≠ wCount (pPath d.bytes)) :
    s.viaTeardown d = s.setVia { s.via with tear := minsert s.via.tear (pVia d.bytes) d.pkt } := by
  simp only [State.viaTeardown, hasks, hhop, Bool.false_eq_true, if_false]

/-- A tear-down that waits at a hop disarms it and goes on at once (log 36). -/
theorem State.teardownForward_of_waiting {s u : State} {v id : Nat} {p : Pkt} (hwaits : mfind s.via.tear v = some id)
    (hu : u = (s.setVia { s.via with tear := merase s.via.tear v }).setArmedVia v false) (hp : u.pkt id = some p) :
    s.teardownForward v = u.forwardPkt id p.pipe p.inLink (slice p.bytes 0 32) none := by
  simp only [State.teardownForward, hwaits, ← hu, hp]

/-! ### The swap of the tables (R195) -/

/-- A swap that waits makes the other copy active and takes on the role it brings (log 144); with no gate queue nothing is discarded. -/
theorem State.viaSwap_of_no_queues {s u t : State} {x : Nat} (hwaits : s.via.swapFrom = some x)
    (hu : u = ((s.applyPend 0x540).setFld F.VIA_TBL_CTRL_ACTIVE (if s.viaB then 0 else 1)).noteSwap 2)
    (ht : t = ({ u with
        via := { u.via with
          armed := s.via.armed.filter (fun a => (List.range 4).all (fun w => decide (s.viaWord s.viaB a.1 w = s.viaWord (!s.viaB) a.1 w))),
          swapFrom := none,
          open? := [] } }).roleApply (s.fld F.VIA_TIME_CFG_ROLE))
    (hnone : t.gateQueues = []) : s.viaSwap = t := by
  simp only [State.viaSwap, hwaits, ← hu, ← ht, hnone, List.foldl_nil]

/-- Settles O11: each clause is the branch that its command takes under the clause's hypotheses. -/
theorem viaductsOpenCloseAndSetUp : Obligations.ViaductsOpenCloseAndSetUp := by
  unfold Obligations.ViaductsOpenCloseAndSetUp
  refine ⟨?opens, ?skips, ?closes, ?eligible, ?behind, ?deposit, ?setupStart, ?setupReply, ?setupTimeout, ?teardown, ?forward, ?swap, ?inject⟩
  case opens =>
    exact fun l e s hgates hvalid hskip =>
      ⟨_, congrArg Host.Outcome.next (State.windowOpen_of_valid hgates hvalid hskip), mfind_minsert_self ..⟩
  case skips =>
    exact fun l e s hgates hvalid hskip =>
      ⟨_, congrArg Host.Outcome.next (State.windowOpen_of_skipped hgates hvalid hskip), mget_mput_self false s.via.skip l false, rfl⟩
  case closes =>
    exact fun l e s hgates hvalid hfree hempty =>
      congrArg (fun t => Host.Outcome.next (State.drain t)) (State.windowClose_of_idle hgates hvalid rfl hfree hempty)
  case eligible =>
    intro s id rest p hdr v l w0 u hfirst hp hhdr hv hl hw0 hu hdirect husable hgates hlt hvalid harmed hrole hin hout hinside hbump htrace
    have hword : w0 = u.vw (v % 4096) 0 := by
      rw [hw0, hu]
      rfl
    have harmed' : u.viaArmed v = true := by
      rw [hu]
      exact harmed
    rw [hword] at hvalid hrole hin hout
    exact congrArg Host.Outcome.next (State.viaEligible_of_hop hfirst hp hhdr hv hl hu hdirect husable hgates
      ⟨hlt, hvalid, hrole, harmed', hin.symm⟩ hout hinside hbump htrace)
  case behind =>
    intro s d u b v w0 hsafe hawake htake hb hv hw0 hgates hlt hvalid hrole harmed hin hbehind
    subst hb hw0
    have hrun : exec .viaDataReceive s = _ := execViaDataReceive_of_some hsafe hawake htake
    rw [hrun, State.viaData_of_behind hv hgates ⟨hlt, hvalid, hrole, harmed, hin⟩ hbehind]
  case deposit =>
    intro s d u b v w0 y va hsafe hawake htake hb hv hw0 hgates hlt hvalid hrole harmed hin hahead hy hva haccess
    subst hb hw0
    have hrun : exec .viaDataReceive s = _ := execViaDataReceive_of_some hsafe hawake htake
    rw [hrun, State.viaData_of_deposit hv hgates ⟨hlt, hvalid, hrole, harmed, hin⟩ hahead hy hva haccess]
  case setupStart => exact fun v s => execViaSetupStart_of_source
  case setupReply =>
    intro s d u v htake hv hreply haccepts hwaits
    have hrun : exec .viaSetupReceive s = _ := execViaSetupReceive_of_some htake
    rw [hrun, State.viaSetup_of_accepted hv hreply haccepts hwaits]
  case setupTimeout => exact fun v s hwaits => ⟨execViaSetupTimeout_of_again hwaits, execViaSetupTimeout_of_last hwaits⟩
  case teardown =>
    intro s d u htake hasks hhop
    have hrun : exec .viaTeardownReceive s = _ := execViaTeardownReceive_of_some htake
    rw [hrun, State.viaTeardown_of_hop hasks hhop]
  case forward =>
    exact fun v s id p u hwaits hu hp =>
      congrArg (fun t => Host.Outcome.next (State.drain t)) (State.teardownForward_of_waiting hwaits hu hp)
  case swap =>
    exact fun s x u hwaits hu hnone =>
      congrArg (fun t => Host.Outcome.next (State.drain t)) (State.viaSwap_of_no_queues hwaits hu rfl hnone)
  case inject => exact fun s => ⟨_, rfl, fun l hl => mget_map_of_mem false true (List.mem_range.mpr hl)⟩

end Sys2Proof.Machine

/-! ## The Abacus: exact sums, the sign of a zero sum -/

namespace Sys2Proof.Machine

/-! ### The value of a list of beads (R203) -/

/-- The value of bead cells from the lowest up, each D with its deferred carry C, by recursion on the list. -/
def beadsValue : List (Nat × Int) → Int
  | [] => 0
  | (d, c) :: bs => d + c * 2 ^ 64 + 2 ^ 64 * beadsValue bs

/-- The fold of `Acc.v` over the cells from place `i` up adds their value at that place. -/
theorem foldl_beads_eq (bs : List (Nat × Int)) (i : Nat) (s : Int) :
    (bs.zip (List.range' i bs.length)).foldl (fun (s : Int) x =>
      s + ((x.1.1 : Nat) : Int) * (2 ^ (64 * x.2) : Nat) + x.1.2 * (2 ^ (64 * (x.2 + 1)) : Nat)) s = s + 2 ^ (64 * i) * beadsValue bs := by
  induction bs generalizing i s with
  | nil => rw [List.zip_nil_left, List.foldl_nil, beadsValue, mul_zero, add_zero]
  | cons e bs ih =>
    obtain ⟨d, c⟩ := e
    rw [List.length_cons, List.range'_succ, List.zip_cons_cons, List.foldl_cons, ih, beadsValue]
    push_cast
    ring

theorem Acc.v_eq_beadsValue (a : Acc) : a.v = beadsValue a.beads := by
  rw [Acc.v, List.range_eq_range', foldl_beads_eq, Nat.mul_zero, pow_zero, one_mul, zero_add]

theorem beadsValue_replicate_zero (n : Nat) : beadsValue (List.replicate n (0, 0)) = 0 := by
  induction n with
  | zero => rfl
  | succ n ih => simp [List.replicate_succ, beadsValue, ih]

/-- A cell replaced changes the value by its own change at its place. -/
theorem beadsValue_set {bs : List (Nat × Int)} {k : Nat} {e : Nat × Int} (hk : bs[k]? = some e) (x : Nat × Int) :
    beadsValue (bs.set k x) = beadsValue bs + ((x.1 + x.2 * 2 ^ 64) - (e.1 + e.2 * 2 ^ 64)) * 2 ^ (64 * k) := by
  induction bs generalizing k with
  | nil => cases hk
  | cons b bs ih =>
    obtain ⟨d, c⟩ := b
    cases k with
    | zero =>
      obtain rfl : (d, c) = e := by simpa using hk
      simp only [List.set_cons_zero, beadsValue]
      ring
    | succ k =>
      simp only [List.set_cons_succ, beadsValue, ih (by simpa using hk)]
      ring

/-! ### One bead takes a part of an input (R205) -/

/-- The cells are `n` beads whose D are words of 64 bits. -/
structure Acc.HasBeads (a : Acc) (n : Nat) : Prop where
  length_eq : a.beads.length = n
  word : ∀ e ∈ a.beads, e.1 < 2 ^ 64

theorem Acc.hasBeads_empty (n : Nat) : (Acc.empty n).HasBeads n where
  length_eq := List.length_replicate
  word e he := by simp [List.eq_of_mem_replicate he]

/-- An amount with the sign of an input. -/
def signed (neg : Bool) (x : Int) : Int := if neg then -x else x

/-- The bead after a part has been added or taken away, its carry or borrow counted in C. -/
def beadAdd (e : Nat × Int) (v : Nat) (neg : Bool) : Nat × Int :=
  if neg then ((e.1 + 2 ^ 64 - v) % 2 ^ 64, if e.1 < v then e.2 - 1 else e.2)
  else ((e.1 + v) % 2 ^ 64, if 2 ^ 64 ≤ e.1 + v then e.2 + 1 else e.2)

theorem Acc.bead_of_some {a : Acc} {k : Nat} {e : Nat × Int} (hk : a.beads[k]? = some e) (v : Nat) (neg : Bool) :
    a.bead k v neg = { a with beads := a.beads.set k (beadAdd e v neg) } := by
  cases neg <;> simp [Acc.bead, hk, beadAdd]

theorem Acc.bead_of_none {a : Acc} {k : Nat} (hk : a.beads[k]? = none) (v : Nat) (neg : Bool) : a.bead k v neg = a := by
  simp only [Acc.bead, hk]

theorem beadAdd_lt (e : Nat × Int) (v : Nat) (neg : Bool) : (beadAdd e v neg).1 < 2 ^ 64 := by
  cases neg <;> exact Nat.mod_lt _ (Nat.two_pow_pos 64)

/-- A word and its carry together change by exactly the part. -/
theorem beadAdd_value {e : Nat × Int} {v : Nat} (he : e.1 < 2 ^ 64) (hv : v < 2 ^ 64) (neg : Bool) :
    ((beadAdd e v neg).1 : Int) + (beadAdd e v neg).2 * 2 ^ 64 = e.1 + e.2 * 2 ^ 64 + signed neg v := by
  cases neg with
  | false =>
    simp only [beadAdd, signed, Bool.false_eq_true, if_false]
    split <;> omega
  | true =>
    simp only [beadAdd, signed, if_true]
    split <;> omega

/-- A part changes the beads and nothing else of an accumulator. -/
theorem Acc.bead_frame (a : Acc) (k v : Nat) (neg : Bool) : ∃ bs, a.bead k v neg = { a with beads := bs } := by
  cases hk : a.beads[k]? with
  | none => exact ⟨a.beads, Acc.bead_of_none hk v neg⟩
  | some e => exact ⟨_, Acc.bead_of_some hk v neg⟩

theorem Acc.HasBeads.bead {a : Acc} {n : Nat} (h : a.HasBeads n) (k v : Nat) (neg : Bool) : (a.bead k v neg).HasBeads n := by
  cases hk : a.beads[k]? with
  | none => rwa [Acc.bead_of_none hk]
  | some e =>
    rw [Acc.bead_of_some hk]
    refine ⟨by simpa using h.length_eq, fun x hx => ?_⟩
    obtain hx | rfl := List.mem_or_eq_of_mem_set hx
    · exact h.word x hx
    · exact beadAdd_lt e v neg

/-- A part that is 0 where there is no such bead is added at its place. -/
theorem Acc.HasBeads.bead_v {a : Acc} {n k v : Nat} (h : a.HasBeads n) (hv : v < 2 ^ 64) (hk : n ≤ k → v = 0) (neg : Bool) :
    (a.bead k v neg).v = a.v + signed neg v * 2 ^ (64 * k) := by
  cases hcell : a.beads[k]? with
  | none =>
    have hzero : v = 0 := hk (h.length_eq ▸ List.getElem?_eq_none_iff.mp hcell)
    simp [Acc.bead_of_none hcell, hzero, signed]
  | some e =>
    have hword := h.word e (List.mem_of_getElem? hcell)
    rw [Acc.bead_of_some hcell, Acc.v_eq_beadsValue, Acc.v_eq_beadsValue, beadsValue_set hcell, beadAdd_value hword hv]
    ring


/-! ### The residue (R208) -/

theorem resOf_cast (v : Int) : (resOf v : Int) = v % (resP : Int) := Int.toNat_of_nonneg (Int.emod_nonneg _ (by decide))

theorem resOf_eq_of_modEq {r : Nat} {v : Int} (hr : r < resP) (h : (r : Int) ≡ v [ZMOD (resP : Int)]) : r = resOf v := by
  have hmod : (r : Int) % (resP : Int) = r := Int.emod_eq_of_lt (Int.natCast_nonneg r) (by exact_mod_cast hr)
  have hcast : (r : Int) = resOf v := by rw [resOf_cast, ← h, hmod]
  exact_mod_cast hcast

/-- Because 2^61 ≡ 1, an exponent counts modulo 61. -/
theorem two_pow_mod_61_modEq (o : Nat) : 2 ^ (o % 61) ≡ 2 ^ o [MOD resP] := by
  have hone : 2 ^ 61 ≡ 1 [MOD resP] := by decide
  calc 2 ^ (o % 61) = 1 ^ (o / 61) * 2 ^ (o % 61) := by rw [one_pow, one_mul]
    _ ≡ (2 ^ 61) ^ (o / 61) * 2 ^ (o % 61) [MOD resP] := ((hone.pow _).symm).mul_right _
    _ = 2 ^ o := by rw [← pow_mul, ← pow_add, Nat.div_add_mod]

/-- The head's update keeps RES the residue of V. -/
theorem resOf_add_signed (v : Int) (m o : Nat) (neg : Bool) :
    (resOf v + (if neg then resP - m * 2 ^ (o % 61) % resP else m * 2 ^ (o % 61) % resP)) % resP =
      resOf (v + signed neg (m * 2 ^ o : Nat)) := by
  have hv : (resOf v : Int) ≡ v [ZMOD (resP : Int)] := by
    rw [resOf_cast]
    exact Int.mod_modEq _ _
  have hd : ((m * 2 ^ (o % 61) % resP : Nat) : Int) ≡ (m * 2 ^ o : Nat) [ZMOD (resP : Int)] :=
    Int.natCast_modEq_iff.mpr ((Nat.mod_modEq _ _).trans ((two_pow_mod_61_modEq o).mul_left m))
  have hle : m * 2 ^ (o % 61) % resP ≤ resP := (Nat.mod_lt _ (by decide)).le
  refine resOf_eq_of_modEq (Nat.mod_lt _ (by decide)) ?_
  generalize m * 2 ^ (o % 61) % resP = d at hd hle
  rw [Int.natCast_mod, Nat.cast_add]
  refine (Int.mod_modEq _ _).trans (hv.add ?_)
  cases neg with
  | false => exact hd
  | true =>
    have hneg : -((d : Nat) : Int) + (resP : Int) * 1 ≡ -((m * 2 ^ o : Nat) : Int) [ZMOD (resP : Int)] :=
      Int.modEq_add_fac_self.trans hd.neg
    simp only [signed, if_true]
    rw [Nat.cast_sub hle]
    convert hneg using 1
    ring

/-! ### An input is added (R204, R205) -/

/-- An accumulator of `n` beads whose RES is the residue of its V. -/
structure Acc.Exact (a : Acc) (n : Nat) : Prop extends a.HasBeads n where
  res_eq : a.res = resOf a.v

theorem Acc.exact_empty (n : Nat) : (Acc.empty n).Exact n where
  toHasBeads := Acc.hasBeads_empty n
  res_eq := by rw [Acc.v_eq_beadsValue, Acc.empty, beadsValue_replicate_zero]; rfl

/-- A number that fits in `n` beads is less than a bead's weight above the beads. -/
theorem lt_of_mul_two_pow_lt {w n b j : Nat} (hfit : w * 2 ^ (64 * b) < 2 ^ (64 * n)) (hn : n ≤ b + j) : w < 2 ^ (64 * j) := by
  refine lt_of_mul_lt_mul_right (hfit.trans_le ?_) (Nat.zero_le (2 ^ (64 * b)))
  rw [← pow_add]
  exact Nat.pow_le_pow_right (by decide) (by omega)

/-- The two parts of an input, at its bead and at the next, add its number in units of the accumulator. -/
theorem Acc.HasBeads.addFin_v {a : Acc} {n m o : Nat} (h : a.HasBeads n) (hm : m < 2 ^ 64) (hfit : m * 2 ^ o < 2 ^ (64 * n)) (neg : Bool) :
    (a.addFin neg m o).v = a.v + signed neg (m * 2 ^ o : Nat) := by
  have hplace : m * 2 ^ o = m * 2 ^ (o % 64) * 2 ^ (64 * (o / 64)) := by rw [mul_assoc, ← pow_add, Nat.mod_add_div]
  have hwide : m * 2 ^ (o % 64) < 2 ^ 64 * 2 ^ 64 :=
    Nat.mul_lt_mul'' hm (Nat.pow_lt_pow_right (by decide) (Nat.mod_lt _ (by decide)))
  have hbeads : (a.addFin neg m o).v =
      ((a.bead (o / 64) (m * 2 ^ (o % 64) % 2 ^ 64) neg).bead (o / 64 + 1) (m * 2 ^ (o % 64) / 2 ^ 64) neg).v := rfl
  rw [hbeads, hplace]
  rw [hplace] at hfit
  generalize m * 2 ^ (o % 64) = w at hfit hwide ⊢
  generalize o / 64 = b at hfit ⊢
  have hlo : n ≤ b → w % 2 ^ 64 = 0 := fun hn => by
    have hzero : w < 2 ^ (64 * 0) := lt_of_mul_two_pow_lt hfit hn
    omega
  have hhi : n ≤ b + 1 → w / 2 ^ 64 = 0 := fun hn => Nat.div_eq_of_lt (lt_of_mul_two_pow_lt hfit hn)
  have hword : w / 2 ^ 64 < 2 ^ 64 := Nat.div_lt_of_lt_mul hwide
  have hparts : w = w % 2 ^ 64 + 2 ^ 64 * (w / 2 ^ 64) := (Nat.mod_add_div w (2 ^ 64)).symm
  rw [(h.bead b _ neg).bead_v hword hhi, h.bead_v (Nat.mod_lt _ (by decide)) hlo, congrArg (fun w => w * 2 ^ (64 * b)) hparts]
  push_cast
  cases neg with
  | false =>
    simp only [signed, Bool.false_eq_true, if_false]
    ring
  | true =>
    simp only [signed, if_true]
    ring

/-- An input changes the beads and RES and nothing else of an accumulator. -/
theorem Acc.addFin_frame (a : Acc) (neg : Bool) (m o : Nat) : ∃ bs, a.addFin neg m o = { a with
    beads := bs
    res := (a.res + (if neg then resP - m * 2 ^ (o % 61) % resP else m * 2 ^ (o % 61) % resP)) % resP } := by
  obtain ⟨bs, hlow⟩ := a.bead_frame (o / 64) (m * 2 ^ (o % 64) % 2 ^ 64) neg
  obtain ⟨bs', hhigh⟩ := Acc.bead_frame { a with beads := bs } (o / 64 + 1) (m * 2 ^ (o % 64) / 2 ^ 64) neg
  exact ⟨bs', by simp only [Acc.addFin, hlow, hhigh]⟩

theorem Acc.Exact.addFin {a : Acc} {n m o : Nat} (h : a.Exact n) (hm : m < 2 ^ 64) (hfit : m * 2 ^ o < 2 ^ (64 * n)) (neg : Bool) :
    (a.addFin neg m o).Exact n := by
  have hbeads := (h.toHasBeads.bead (o / 64) (m * 2 ^ (o % 64) % 2 ^ 64) neg).bead (o / 64 + 1) (m * 2 ^ (o % 64) / 2 ^ 64) neg
  refine ⟨⟨hbeads.length_eq, hbeads.word⟩, ?_⟩
  rw [h.addFin_v hm hfit, ← resOf_add_signed, ← h.res_eq]
  obtain ⟨bs, hadded⟩ := a.addFin_frame neg m o
  rw [hadded]

/-! ### The inputs that an accumulator takes (R199, R204, R218) -/

/-- A value that an accumulator of format `f` takes: on its grid, within its beads, with a significand of at most 64 bits. -/
structure Fmt.Takes (f : Fmt) (v : Val) : Prop where
  ok : valBad f v = false
  small : ∀ neg m x, v = .fin neg m x → m < 2 ^ 64

/-- The bounds of Table 1. -/
theorem fmtOf_bounds {c : Nat} {f : Fmt} (h : fmtOf c = some f) : 0 < f.beads ∧ f.bytes ≤ 8 ∧ f.mb ≤ 52 := by
  unfold fmtOf at h
  split at h
  case h_7 => cases h
  all_goals
    obtain rfl := Option.some.inj h
    decide

theorem natAbs_signedOf_lt (w v : Nat) : (signedOf w v).natAbs < 2 ^ w := by
  have hmod : v % 2 ^ w < 2 ^ w := Nat.mod_lt _ (Nat.two_pow_pos w)
  have hhalf : 0 < 2 ^ (w - 1) := Nat.two_pow_pos _
  unfold signedOf
  split <;> omega

/-- The significand of every value of Table 1's formats has at most 64 bits. -/
theorem Fmt.val_small {c : Nat} {g : Fmt} (hg : fmtOf c = some g) {x m : Nat} {neg : Bool} {e : Int} (hval : g.val x = .fin neg m e) :
    m < 2 ^ 64 := by
  obtain ⟨-, hbytes, hmb⟩ := fmtOf_bounds hg
  have hhidden : 2 ^ g.mb ≤ 2 ^ 52 := Nat.pow_le_pow_right (by decide) hmb
  have hmant : x % 2 ^ g.mb < 2 ^ g.mb := Nat.mod_lt _ (Nat.two_pow_pos _)
  simp only [Fmt.val] at hval
  split at hval
  case isTrue =>
    obtain ⟨-, rfl, -⟩ := Val.fin.inj hval
    exact (natAbs_signedOf_lt _ _).trans_le (Nat.pow_le_pow_right (by decide) (by omega))
  case isFalse =>
    split at hval
    case isTrue => split at hval <;> cases hval
    case isFalse =>
      split at hval
      all_goals
        obtain ⟨-, rfl, -⟩ := Val.fin.inj hval
        omega

/-- The significand M of a value m × 2^x in units of 2^l (R204). -/
def mantIn (l : Int) (m : Nat) (x : Int) : Nat := m / 2 ^ (l - x).toNat

/-- The exponent o of a value m × 2^x in units of 2^l (R204). -/
def expIn (l x : Int) : Nat := (x - l).toNat

/-- A value in units of 2^l; NaNs and infinities add nothing. -/
def Val.units (l : Int) : Val → Int
  | .fin neg m x => signed neg (mantIn l m x * 2 ^ expIn l x : Nat)
  | _ => 0

theorem mantIn_lt {f : Fmt} {neg : Bool} {m : Nat} {x : Int} (h : f.Takes (.fin neg m x)) : mantIn f.lsb m x < 2 ^ 64 :=
  (Nat.div_le_self _ _).trans_lt (h.small neg m x rfl)

/-- What a format takes lies within its beads. -/
theorem mantIn_fits {f : Fmt} {neg : Bool} {m : Nat} {x : Int} (hbeads : 0 < f.beads) (h : f.Takes (.fin neg m x)) (hm : m ≠ 0) :
    mantIn f.lsb m x * 2 ^ expIn f.lsb x < 2 ^ (64 * f.beads) := by
  by_cases hx : x < f.lsb
  · have hexp : expIn f.lsb x = 0 := Int.toNat_of_nonpos (by omega)
    rw [hexp, pow_zero, mul_one]
    exact (mantIn_lt h).trans_le (Nat.pow_le_pow_right (by decide) (by omega))
  · have hshift : (f.lsb - x).toNat = 0 := Int.toNat_of_nonpos (by omega)
    have hlen : bitLen m + expIn f.lsb x < 64 * f.beads := by
      simpa [valBad, hm, hx, expIn] using h.ok
    have hlt : m < 2 ^ bitLen m := by
      rw [bitLen, if_neg hm]
      exact Nat.lt_log2_self
    calc mantIn f.lsb m x * 2 ^ expIn f.lsb x = m * 2 ^ expIn f.lsb x := by rw [mantIn, hshift, pow_zero, Nat.div_one]
      _ < 2 ^ bitLen m * 2 ^ expIn f.lsb x := Nat.mul_lt_mul_of_pos_right hlt (Nat.two_pow_pos _)
      _ = 2 ^ (bitLen m + expIn f.lsb x) := (pow_add _ _ _).symm
      _ ≤ 2 ^ (64 * f.beads) := Nat.pow_le_pow_right (by decide) hlen.le

/-- The units of a value that a format takes are exact: the value is a multiple of 2^L. -/
theorem Val.units_eq_inUnits {f : Fmt} {v : Val} (h : valBad f v = false) : (v.units f.lsb : ℚ) = inUnits f v := by
  cases v with
  | nan sig => exact Int.cast_zero
  | inf neg => exact Int.cast_zero
  | fin neg m x =>
    have hmag : ((mantIn f.lsb m x * 2 ^ expIn f.lsb x : Nat) : ℚ) = m * (2 : ℚ) ^ (x - f.lsb) := by
      by_cases hx : x < f.lsb
      · have hexp : expIn f.lsb x = 0 := Int.toNat_of_nonpos (by omega)
        have hdvd : 2 ^ (f.lsb - x).toNat ∣ m := by
          by_cases hm : m = 0
          · exact hm ▸ dvd_zero _
          · exact Nat.dvd_of_mod_eq_zero (by simpa [valBad, hm, hx] using h)
        have hpow : x - f.lsb = -((f.lsb - x).toNat : Int) := by omega
        rw [hexp, pow_zero, mul_one, mantIn, Nat.cast_div hdvd (by positivity), hpow, zpow_neg, zpow_natCast, div_eq_mul_inv, Nat.cast_pow,
          Nat.cast_two]
      · have hshift : (f.lsb - x).toNat = 0 := Int.toNat_of_nonpos (by omega)
        have hpow : x - f.lsb = (expIn f.lsb x : Int) := (Int.toNat_of_nonneg (by omega)).symm
        rw [mantIn, hshift, pow_zero, Nat.div_one, hpow, zpow_natCast, Nat.cast_mul, Nat.cast_pow, Nat.cast_two]
    have hunits : (Val.fin neg m x).units f.lsb = signed neg (mantIn f.lsb m x * 2 ^ expIn f.lsb x : Nat) := rfl
    rw [hunits, inUnits, mul_assoc, ← hmag]
    cases neg with
    | false => simp only [signed, Bool.false_eq_true, if_false, Int.cast_natCast, one_mul]
    | true => simp only [signed, if_true, Int.cast_neg, Int.cast_natCast, neg_mul, one_mul]

/-! ### What the sum of an accumulator is, apart from how its beads hold it (R202, R203, R205) -/

def Val.isNan : Val → Bool
  | .nan _ => true
  | _ => false

def Val.isSignalling : Val → Bool
  | .nan sig => sig
  | _ => false

def Val.isInf (neg : Bool) : Val → Bool
  | .inf n => n == neg
  | _ => false

def Val.isZero (neg : Bool) : Val → Bool
  | .fin n m _ => n == neg && m == 0
  | _ => false

/-- V and the flags of the head cell: all that a result depends on beside the number of beads. -/
@[ext] structure ExactSum where
  value : Int
  nan : Bool
  invalid : Bool
  pinf : Bool
  ninf : Bool
  zpos : Bool
  zneg : Bool

def Acc.exactSum (a : Acc) : ExactSum := ⟨a.v, a.nan, a.invalid, a.pinf, a.ninf, a.zpos, a.zneg⟩

/-- A value in units of 2^l added to a sum. -/
def ExactSum.add (l : Int) (t : ExactSum) (v : Val) : ExactSum where
  value := t.value + v.units l
  nan := t.nan || v.isNan
  invalid := t.invalid || v.isSignalling
  pinf := t.pinf || v.isInf false
  ninf := t.ninf || v.isInf true
  zpos := t.zpos && v.isZero false
  zneg := t.zneg && v.isZero true

/-- Integer addition, OR and AND are associative and commutative, so two values may change places. -/
theorem ExactSum.add_swap (l : Int) (t : ExactSum) (v w : Val) : (t.add l v).add l w = (t.add l w).add l v := by
  ext1
  · exact add_right_comm ..
  all_goals simp only [ExactSum.add, Bool.or_right_comm, Bool.and_right_comm]

theorem ExactSum.value_foldl_add (l : Int) (vs : List Val) (t : ExactSum) :
    (vs.foldl (ExactSum.add l) t).value = t.value + (vs.map (Val.units l)).sum := by
  induction vs generalizing t with
  | nil => simp only [List.foldl_nil, List.map_nil, List.sum_nil, add_zero]
  | cons v vs ih => rw [List.foldl_cons, ih, List.map_cons, List.sum_cons, ← add_assoc, ExactSum.add]

/-! ### The accumulator keeps the sum -/

theorem Acc.zeros_eq (a : Acc) (v : Val) : a.zeros v = { a with zpos := a.zpos && v.isZero false, zneg := a.zneg && v.isZero true } := by
  cases v with
  | nan sig => simp only [Acc.zeros, Val.isZero, Bool.and_false]
  | inf neg => simp only [Acc.zeros, Val.isZero, Bool.and_false]
  | fin neg m x =>
    cases m with
    | zero => cases neg <;> simp [Acc.zeros, Val.isZero]
    | succ m => simp [Acc.zeros, Val.isZero]

/-- The accumulator once its head knows of an input, whose number has yet to reach the beads. -/
def Acc.met (a : Acc) (v : Val) : Acc :=
  { a with zpos := a.zpos && v.isZero false, zneg := a.zneg && v.isZero true, adds := a.adds + 1 }

theorem Acc.addVal_of_nan (a : Acc) (l : Int) (sig : Bool) :
    a.addVal l (.nan sig) = { a.met (.nan sig) with nan := true, invalid := a.invalid || sig } := by
  simp only [Acc.addVal, Acc.zeros_eq, Acc.met]

theorem Acc.addVal_of_inf (a : Acc) (l : Int) (neg : Bool) :
    a.addVal l (.inf neg) = { a.met (.inf neg) with pinf := a.pinf || !neg, ninf := a.ninf || neg } := by
  cases neg <;> simp [Acc.addVal, Acc.zeros_eq, Acc.met]

theorem Acc.addVal_of_zero (a : Acc) (l : Int) (neg : Bool) (x : Int) : a.addVal l (.fin neg 0 x) = a.met (.fin neg 0 x) := by
  simp only [Acc.addVal, Acc.zeros_eq, Acc.met, if_true]

theorem Acc.addVal_of_fin (a : Acc) (l : Int) (neg : Bool) {m : Nat} (x : Int) (hm : m ≠ 0) :
    a.addVal l (.fin neg m x) = (a.met (.fin neg m x)).addFin neg (mantIn l m x) (expIn l x) := by
  by_cases hx : l ≤ x
  · have hshift : (l - x).toNat = 0 := Int.toNat_of_nonpos (by omega)
    simp only [Acc.addVal, Acc.zeros_eq, Acc.met, hm, hx, mantIn, expIn, hshift, pow_zero, Nat.div_one, if_true, if_false]
  · have hexp : (x - l).toNat = 0 := Int.toNat_of_nonpos (by omega)
    simp only [Acc.addVal, Acc.zeros_eq, Acc.met, hm, hx, mantIn, expIn, hexp, if_false]

/-- A finite input changes the beads and RES, beside what the head knows of it, and nothing else. -/
theorem Acc.addVal_frame_of_fin (a : Acc) (l : Int) (neg : Bool) (m : Nat) (x : Int) :
    ∃ bs r, a.addVal l (.fin neg m x) = { a.met (.fin neg m x) with beads := bs, res := r } := by
  by_cases hm : m = 0
  · subst hm
    exact ⟨a.beads, a.res, Acc.addVal_of_zero ..⟩
  · rw [Acc.addVal_of_fin _ _ _ _ hm]
    obtain ⟨bs, hadded⟩ := (a.met (.fin neg m x)).addFin_frame neg (mantIn l m x) (expIn l x)
    exact ⟨bs, _, hadded⟩

theorem Acc.adds_addVal (a : Acc) (l : Int) (v : Val) : (a.addVal l v).adds = a.adds + 1 := by
  cases v with
  | nan sig => rw [Acc.addVal_of_nan, Acc.met]
  | inf neg => rw [Acc.addVal_of_inf, Acc.met]
  | fin neg m x =>
    obtain ⟨bs, r, hadded⟩ := a.addVal_frame_of_fin l neg m x
    rw [hadded, Acc.met]

/-- Where an input's number has been added to V, the head's flags make it the input added to the sum. -/
theorem Acc.exactSum_addVal {a : Acc} {l : Int} {v : Val} (hv : (a.addVal l v).v = a.v + v.units l) :
    (a.addVal l v).exactSum = a.exactSum.add l v := by
  cases v with
  | nan sig =>
    rw [Acc.addVal_of_nan] at hv ⊢
    exact ExactSum.ext hv (Bool.or_true a.nan).symm rfl (Bool.or_false a.pinf).symm (Bool.or_false a.ninf).symm rfl rfl
  | inf neg =>
    have hpinf : (!neg) = (Val.inf neg).isInf false := by cases neg <;> rfl
    have hninf : neg = (Val.inf neg).isInf true := by cases neg <;> rfl
    rw [Acc.addVal_of_inf] at hv ⊢
    exact ExactSum.ext hv (Bool.or_false a.nan).symm (Bool.or_false a.invalid).symm (congrArg (a.pinf || ·) hpinf)
      (congrArg (a.ninf || ·) hninf) rfl rfl
  | fin neg m x =>
    obtain ⟨bs, r, hadded⟩ := a.addVal_frame_of_fin l neg m x
    rw [hadded] at hv ⊢
    exact ExactSum.ext hv (Bool.or_false a.nan).symm (Bool.or_false a.invalid).symm (Bool.or_false a.pinf).symm (Bool.or_false a.ninf).symm
      rfl rfl

section
variable {f : Fmt} (hf : 0 < f.beads)
include hf

/-- An input that the format takes keeps the beads' words and the residue, and its number is added to V. -/
theorem Acc.Exact.addVal {a : Acc} {v : Val} (h : a.Exact f.beads) (hv : f.Takes v) :
    (a.addVal f.lsb v).Exact f.beads ∧ (a.addVal f.lsb v).v = a.v + v.units f.lsb := by
  have hmet : (a.met v).Exact f.beads := ⟨⟨h.length_eq, h.word⟩, h.res_eq⟩
  cases v with
  | nan sig =>
    rw [Acc.addVal_of_nan]
    exact ⟨⟨⟨h.length_eq, h.word⟩, h.res_eq⟩, (add_zero a.v).symm⟩
  | inf neg =>
    rw [Acc.addVal_of_inf]
    exact ⟨⟨⟨h.length_eq, h.word⟩, h.res_eq⟩, (add_zero a.v).symm⟩
  | fin neg m x =>
    by_cases hm : m = 0
    · subst hm
      have hunits : (Val.fin neg 0 x).units f.lsb = 0 := by cases neg <;> simp [Val.units, mantIn, signed]
      rw [Acc.addVal_of_zero, hunits, add_zero]
      exact ⟨hmet, rfl⟩
    · rw [Acc.addVal_of_fin _ _ _ _ hm]
      have hfits := mantIn_fits hf hv hm
      exact ⟨hmet.addFin (mantIn_lt hv) hfits neg, hmet.addFin_v (mantIn_lt hv) hfits neg⟩

/-- So do inputs that are added one after another, in the order in which they arrive. -/
theorem Acc.Exact.foldl_addVal {a : Acc} {vs : List Val} (h : a.Exact f.beads) (hvs : ∀ v ∈ vs, f.Takes v) :
    (vs.foldl (fun a v => a.addVal f.lsb v) a).Exact f.beads ∧
      (vs.foldl (fun a v => a.addVal f.lsb v) a).exactSum = vs.foldl (ExactSum.add f.lsb) a.exactSum := by
  induction vs generalizing a with
  | nil => exact ⟨h, rfl⟩
  | cons v vs ih =>
    obtain ⟨hexact, hsum⟩ := h.addVal hf (hvs v List.mem_cons_self)
    rw [List.foldl_cons, List.foldl_cons, ← Acc.exactSum_addVal hsum]
    exact ih hexact fun w hw => hvs w (List.mem_cons_of_mem v hw)

end

theorem Acc.adds_foldl_addVal (l : Int) (vs : List Val) (a : Acc) : (vs.foldl (fun a v => a.addVal l v) a).adds = a.adds + vs.length := by
  induction vs generalizing a with
  | nil => rfl
  | cons v vs ih => rw [List.foldl_cons, ih, Acc.adds_addVal, List.length_cons, add_assoc, add_comm 1]

/-! ### Finalising (R210–R213) -/

/-- The result is one of the sum and of the number of beads, not of how the beads hold the sum. -/
theorem Acc.round_eq_of_exactSum_eq {a b : Acc} (h : a.exactSum = b.exactSum) (hlen : a.beads.length = b.beads.length) (f g : Fmt) (mode : Nat) :
    a.round f g mode = b.round f g mode := by
  simp only [Acc.exactSum, ExactSum.mk.injEq] at h
  obtain ⟨hv, hnan, hinvalid, hpinf, hninf, hzpos, hzneg⟩ := h
  have hspecial : a.special g = b.special g := by simp only [Acc.special, hnan, hinvalid, hpinf, hninf]
  have hfits : a.fits = b.fits := by simp only [Acc.fits, hv, hlen]
  rw [Acc.round, Acc.round, hspecial, hv, hfits, hzpos, hzneg]

/-- Settles O53: an accumulator's sum is the fold of exact additions, which commute; its V, RES and result are those of the sum. -/
theorem sumsAreExactInEveryOrder : Obligations.SumsAreExactInEveryOrder := by
  unfold Obligations.SumsAreExactInEveryOrder
  intro c f vs hfmt hvals
  obtain ⟨hbeads, -, -⟩ := fmtOf_bounds hfmt
  have hsum (us : List Val) (hus : ∀ v ∈ us, v ∈ vs) :
      (sumOf f us).Exact f.beads ∧ (sumOf f us).exactSum = us.foldl (ExactSum.add f.lsb) (Acc.empty f.beads).exactSum := by
    refine (Acc.exact_empty f.beads).foldl_addVal hbeads fun v hv => ?_
    obtain ⟨hok, d, g, x, hg, -, rfl⟩ := hvals v (hus v hv)
    exact ⟨hok, fun neg m e hval => Fmt.val_small hg hval⟩
  obtain ⟨hexact, hvalue⟩ := hsum vs fun v hv => hv
  refine ⟨?value, hexact.res_eq, ?adds, ?order⟩
  case value =>
    have hempty : (Acc.empty f.beads).exactSum.value = 0 := (Acc.v_eq_beadsValue _).trans (beadsValue_replicate_zero _)
    have hunits : (sumOf f vs).v = (vs.map (Val.units f.lsb)).sum := by
      have htotal := ExactSum.value_foldl_add f.lsb vs (Acc.empty f.beads).exactSum
      rwa [← hvalue, hempty, zero_add] at htotal
    rw [hunits, Int.cast_list_sum, List.map_map]
    exact congrArg List.sum (List.map_congr_left fun v hv => Val.units_eq_inUnits (hvals v hv).1)
  case adds => exact (Acc.adds_foldl_addVal f.lsb vs _).trans (zero_add _)
  case order =>
    intro ws hperm g mode
    obtain ⟨hexact', hvalue'⟩ := hsum ws fun v hv => hperm.mem_iff.mp hv
    refine Acc.round_eq_of_exactSum_eq ?_ (hexact'.length_eq.trans hexact.length_eq.symm) f g mode
    rw [hvalue', hvalue]
    exact hperm.foldl_eq' (fun v _ w _ t => ExactSum.add_swap f.lsb t v w) _

/-! ### The sign of a zero sum (R213) -/

theorem Acc.special_of_finite {a : Acc} (g : Fmt) (hnan : a.nan = false) (hpinf : a.pinf = false) (hninf : a.ninf = false) :
    a.special g = none := by
  simp [Acc.special, hnan, hpinf, hninf]

/-- A finite sum of 0 rounds to a zero whose sign ZNEG, ZPOS and the rounding mode give. -/
theorem Acc.round_of_zero {a : Acc} (f : Fmt) {g : Fmt} (mode : Nat) (hg : g.isInt = false) (hv : a.v = 0) (hspecial : a.special g = none) :
    a.round f g mode = ((if a.zneg = true ∨ (¬ a.zpos = true ∧ mode = 3) then 2 ^ (g.eb + g.mb) else 0), 0) := by
  simp only [Acc.round, hspecial, hg, hv, Bool.false_eq_true, if_true, if_false]

/-- Settles O49: each clause reads the sign off ZNEG, ZPOS and the mode. -/
theorem theSignOfAZeroSum : Obligations.TheSignOfAZeroSum := by
  unfold Obligations.TheSignOfAZeroSum
  intro a f g mode hg hv hnan hpinf hninf
  have hround := Acc.round_of_zero f mode hg hv (Acc.special_of_finite g hnan hpinf hninf)
  rw [hround]
  refine ⟨?minus, ?plus, ?neitherDown, ?neither⟩
  case minus => exact fun hzneg => if_pos (.inl hzneg)
  case plus => exact fun hzneg hzpos => if_neg (by simp [hzneg, hzpos])
  case neitherDown => exact fun _ hzpos hmode => if_pos (.inr ⟨by simp [hzpos], hmode⟩)
  case neither => exact fun hzneg _ hmode => if_neg (by simp [hzneg, hmode])

end Sys2Proof.Machine

/-! ## Collective trees: what packets do, and windows, re-pulls and timers -/

namespace Sys2Proof.Machine

/-! ### A packet reaches its tree (R23, R93, R94) -/

section
variable {s u v : State} {d : Dlv} {o : Nat} (hsafe : s.safe = false) (htake : s.takeColl o = (some d, u))
  (hlookup : u.treeLookup (cTree d.bytes) d.bytes = (true, v))
include hsafe htake hlookup

/-- A packet whose tree serves it and that no waiting packet precedes is dealt with, and its cells are freed. -/
theorem State.treeReceive_of_dealt {w : State} (hfree : v.coll.waiting = []) (htry : v.tryTree d.bytes = (true, w)) :
    s.treeReceive o = w.copyDone d.pkt := by
  simp only [State.treeReceive, hsafe, htake, hlookup, hfree, htry, List.any_nil, Bool.false_eq_true, if_false]

/-- A downward packet whose tree serves it is copied to the children and acts here. -/
theorem State.downReceive_of_served (act : State → List Byte → State) :
    s.downReceive o act = (act (v.replicate d (cTree d.bytes)) d.bytes).copyDone d.pkt := by
  simp only [State.downReceive, hsafe, htake, hlookup, Bool.false_eq_true, if_false]

end

/-- A contribution or partial of good form is taken into its open window in SRAM. -/
theorem State.tryContrib_of_open {s : State} {b : List Byte} {w : Window} (hform : collFormBad b = false)
    (hw : s.win (wKey (cTree b) (cInst b) (pChunk b)) = some w) (hopen : w.ph = .open_) (hsram : w.inHbm = false) :
    s.tryContrib b = (true, s.takeContrib (wKey (cTree b) (cInst b) (pChunk b)) w b) := by
  simp only [State.tryContrib, hform, hw, hopen, hsram, Bool.false_eq_true, if_true, if_false]

/-- Contributions and the two kinds of partial are all taken as contributions. -/
theorem State.tryTree_of_contrib {s : State} {b : List Byte} (h : pOpc b ∈ [0x40, 0x41, 0x42]) : s.tryTree b = s.tryContrib b := by
  simp only [List.mem_cons, List.not_mem_nil, or_false] at h
  obtain h | h | h := h
  all_goals simp only [State.tryTree, h]

/-- One of the three that is of good form and whose window is open in SRAM is added there. -/
theorem State.treeReceive_of_contrib {s u v : State} {w : Window} {d : Dlv} {o : Nat} (ho : o ∈ [0x40, 0x41, 0x42]) (hsafe : s.safe = false)
    (htake : s.takeColl o = (some d, u)) (hlookup : u.treeLookup (cTree d.bytes) d.bytes = (true, v)) (hfree : v.coll.waiting = [])
    (hopc : pOpc d.bytes = o) (hform : collFormBad d.bytes = false)
    (hw : v.win (wKey (cTree d.bytes) (cInst d.bytes) (pChunk d.bytes)) = some w) (hopen : w.ph = .open_) (hsram : w.inHbm = false) :
    s.treeReceive o = (v.takeContrib (wKey (cTree d.bytes) (cInst d.bytes) (pChunk d.bytes)) w d.bytes).copyDone d.pkt := by
  have htry := (State.tryTree_of_contrib (hopc ▸ ho)).trans (State.tryContrib_of_open hform hw hopen hsram)
  exact State.treeReceive_of_dealt hsafe htake hlookup hfree htry

/-- The next packet of a contributor that its window still waits for, within the chunk, is added. -/
theorem State.takeContrib_of_next {s : State} {k : Nat} {w : Window} {b : List Byte} {f : Fmt} (hf : fmtOf w.fmt = some f)
    (hfmt : cFmt b = w.fmt) (hmember : w.contribs.contains (cContrib b) = true) (hleft : w.complete.contains (cContrib b) = false)
    (hnext : cFirst b = mget 0 w.next (cContrib b)) (hfits : cFirst b + cCount b ≤ f.elems)
    (hlast : pLast b = true → w.count = none ∨ w.count = some (cFirst b + cCount b)) : s.takeContrib k w b = s.addContrib k w b f := by
  have hend : ¬ (pLast b = true ∧ w.count.isSome = true ∧ w.count ≠ some (cFirst b + cCount b)) := by
    rintro ⟨hfin, hsome, hne⟩
    obtain hnone | hsame := hlast hfin
    · simp [hnone] at hsome
    · exact hne hsame
  simp only [State.takeContrib, hf, Option.elim_some, hfmt, hmember, hleft, ← hnext, Nat.lt_irrefl, Nat.not_lt.mpr hfits, if_neg hend, ne_eq,
    not_true_eq_false, Bool.false_eq_true, or_self, if_false]

/-- A gather's packet at a member that is no root is relayed at once. -/
theorem State.tryGather_of_member {s : State} {b : List Byte} (h : s.treeRoot (cTree b) = false) :
    s.tryGather b = (true, (s.tryGather b).2) := by
  simp only [State.tryGather, h, Bool.false_eq_true, if_false]

theorem State.tryBarrier_of_some {s : State} {b : List Byte} {x : Bar} (h : s.bar (bKey (cTree b) (cInst b)) = some x) :
    s.tryBarrier b = (true, s.barTake (bKey (cTree b) (cInst b)) (cTree b) (cInst b) x (cContrib b)) := by
  simp only [State.tryBarrier, h]

/-- A broadcast's packet at a member that is no root came down the tree. -/
theorem execCollBcastReceive_of_member {s : State} {i : Nat} {d : Dlv} (hroot : s.treeRoot (cTree d.bytes) = false)
    (hfirst : firstIdx s.fwd.dlv (fun d => decide (pOpc d.bytes = 0x44) && s.awake (Dom.slice (cTree d.bytes % 16))) = some (i, d)) :
    execCollBcastReceive s = .next (s.downReceive 0x44 State.takeBcast).drain := by
  simp only [execCollBcastReceive, hfirst, hroot, Bool.false_eq_true, and_false, if_false]

theorem execAbacusCtrlReceive_of_served {s u v : State} {d : Dlv} (hsafe : s.safe = false) (htake : s.takeColl 0x64 = (some d, u))
    (hlookup : u.treeLookup (cTree d.bytes) d.bytes = (true, v)) :
    execAbacusCtrlReceive s = .next ((v.takeFail d.bytes).copyDone d.pkt).drain := by
  simp only [execAbacusCtrlReceive, hsafe, htake, hlookup, Bool.false_eq_true, if_false]

/-- A command that ends with the drain of a state leaves what that state is equal to, drained. -/
theorem next_drain_congr {s t : State} (h : s = t) : (.next s.drain : Out) = .next t.drain :=
  congrArg (fun s => Host.Outcome.next (State.drain s)) h

/-- Settles O12: each clause is the branch that its command takes under the clause's hypotheses. -/
theorem collectivePacketsAct : Obligations.CollectivePacketsAct := by
  unfold Obligations.CollectivePacketsAct
  refine ⟨?contrib, ?partialExact, ?partialOrdered, ?next, ?result, ?bcast, ?gather, ?barrierUp, ?barrierDown, ?repull, ?control⟩
  case contrib | partialExact | partialOrdered =>
    exact fun s u v w d hsafe htake hlookup hfree hopc hform hw hopen hsram =>
      next_drain_congr (State.treeReceive_of_contrib (by decide) hsafe htake hlookup hfree hopc hform hw hopen hsram)
  case next => exact fun v k w b f => State.takeContrib_of_next
  case result =>
    exact fun s u v d hsafe htake hlookup => next_drain_congr (State.downReceive_of_served hsafe htake hlookup State.takeResult)
  case bcast =>
    intro s u v d i hsafe htake hlookup hroot hfirst
    have hrun : exec .collBcastReceive s = _ := execCollBcastReceive_of_member hroot hfirst
    rw [hrun, State.downReceive_of_served hsafe htake hlookup]
  case gather =>
    intro s u v d hsafe htake hlookup hfree hopc hroot
    have htry : v.tryTree d.bytes = v.tryGather d.bytes := by simp only [State.tryTree, hopc]
    exact next_drain_congr (State.treeReceive_of_dealt hsafe htake hlookup hfree (htry.trans (State.tryGather_of_member hroot)))
  case barrierUp =>
    intro s u v d x hsafe htake hlookup hfree hopc hx
    have htry : v.tryTree d.bytes = v.tryBarrier d.bytes := by simp only [State.tryTree, hopc]
    exact next_drain_congr (State.treeReceive_of_dealt hsafe htake hlookup hfree (htry.trans (State.tryBarrier_of_some hx)))
  case barrierDown =>
    exact fun s u v d hsafe htake hlookup => next_drain_congr (State.downReceive_of_served hsafe htake hlookup State.takeBarDown)
  case repull =>
    intro s u v w d hsafe htake hlookup hfree hopc hdealt
    have htry : v.tryTree d.bytes = v.tryRepull d.bytes := by simp only [State.tryTree, hopc]
    exact next_drain_congr (State.treeReceive_of_dealt hsafe htake hlookup hfree (htry.trans hdealt))
  case control => exact fun s u v d => execAbacusCtrlReceive_of_served


/-! ### Windows filled, and packets that wait (R224, R225) -/

/-- With no packet waiting, trying again changes nothing. -/
theorem State.retryWaiting_of_none {s : State} (n : Nat) (h : s.coll.waiting = []) : s.retryWaiting n = s := by
  have hsame : ({ s with coll := { s.coll with waiting := [] } } : State) = s := by rw [← h]
  simp only [State.retryWaiting, h, List.filter_nil, List.foldl_nil, List.append_nil, hsame]

section
variable {t : Fin 4096} {inst : W32} {c : Fin 65536} {s : State}

/-- A window that waits in HBM is back in SRAM where there is room, and the slice's waiting packets try again. -/
theorem execWindowFillDone_of_room {u x : State} {k : Nat} {w : Window} (hk : k = wKey t inst.toNat c) (hw : s.win k = some w)
    (hhbm : w.inHbm = true) (hfilling : w.filling = true) (hroom : s.makeRoom (t % 16) w.units k = some u)
    (hx : x = (u.touchWin k { w with inHbm := false, filling := false }).count F.ABC_CNT_FILL_COUNT (t % 16))
    (hgood : x.armed F.ABC_INJECT_FILL_ECC (t % 16) = false) :
    execWindowFillDone t inst c s = .next (x.retryWaiting (t % 16)).drain := by
  simp only [execWindowFillDone, ← hk, hw, hhbm, hfilling, hroom, ← hx, hgood, not_true_eq_false, or_self, Bool.false_eq_true, if_false]

theorem execWindowStallTimeout_of_new
    (hwaits : s.coll.waiting.any (fun x => decide (x.1 = wKey t inst.toNat c)) = true)
    (hnew : s.coll.stalled.contains (wKey t inst.toNat c) = false) :
    execWindowStallTimeout t inst c s =
      .next (({ s with coll := { s.coll with stalled := s.coll.stalled ++ [wKey t inst.toNat c] } }).raise (416 + t % 16) 0x04
        (t * 2 ^ 48 + c * 2 ^ 32 + (sliceUnits - unitsOf (s.sliceWins (t % 16)) false))) :=
  if_pos ⟨hwaits, ne_true_of_eq_false hnew⟩

/-! ### Re-pulls (R240, R242, R244) -/

/-- An OPEN window without progress fails at the limit of re-pulls, and below it is re-pulled. -/
theorem execRepullTimeout_of_open {w w' : Window} (hw : s.win (wKey t inst.toNat c) = some w) (hopen : w.ph = .open_)
    (hidle : w.progress = false) (hw' : w' = { w with repulls := w.repulls + 1, progress := false }) :
    execRepullTimeout t inst c false s =
      if s.repullLimit t ≤ w.repulls then .next (s.failWin t inst.toNat c none).drain
      else .next ((s.setWin (wKey t inst.toNat c) w').repullAll w').drain := by
  simp only [execRepullTimeout, hw, hopen, hidle, hw', ne_eq, not_true_eq_false, Bool.false_eq_true, if_false]

/-- An open barrier without progress fails at the limit. -/
theorem execRepullTimeout_of_bar (c : Fin 65536) {x : Bar} (hx : s.bar (bKey t inst.toNat) = some x) (hopen : x.ph = .open_) (hidle : x.progress = false)
    (hlimit : s.repullLimit t ≤ x.repulls) : execRepullTimeout t inst c true s = .next (s.failBar t inst.toNat none).drain := by
  simp only [execRepullTimeout, hx, hopen, hidle, hlimit, ne_eq, not_true_eq_false, Bool.false_eq_true, if_true, if_false]

/-- A member with a SENT window fails it at the limit, and below it asks the root for the result again. -/
theorem execResultRepullTimeout_of_sent {u : State} {w : Window} (hmember : s.treeRoot t = false)
    (hw : s.win (wKey t inst.toNat c) = some w) (hsent : w.ph = WPh.sent)
    (hu : u = s.setWin (wKey t inst.toNat c) { w with repulls := w.repulls + 1 }) :
    execResultRepullTimeout t inst c false s =
      if s.repullLimit t ≤ w.repulls then .next (s.failWin t inst.toNat c none).drain
      else .next ((u.count F.TRE_CNT_REPULL_TX_COUNT 0).sendRouted (u.repullPkt t (u.treeRootId t) inst.toNat c 8 0) (slicePipe t) 0).drain := by
  simp only [execResultRepullTimeout, hmember, hw, hsent, hu, ne_eq, not_true_eq_false, Bool.false_eq_true, if_false]

/-! ### What is retained lapses (R239) -/

theorem execRetainExpire_of_sent {w : Window} (hroot : s.treeRoot t = true) (hw : s.win (wKey t inst.toNat c) = some w)
    (hsent : w.ph = WPh.sent) : execRetainExpire t inst c false s = .next (s.tombWin (wKey t inst.toNat c) w .tomb) := by
  simp only [execRetainExpire, hroot, hw, hsent, not_true_eq_false, Bool.false_eq_true, true_or, if_true, if_false]

theorem execTombstoneExpire_of_bar (c : Fin 65536) {x : Bar} (hx : s.bar (bKey t inst.toNat) = some x) (htomb : x.ph = .tomb) :
    execTombstoneExpire t inst c true s = .next { s with coll := { s.coll with bar := merase s.coll.bar (bKey t inst.toNat) } } := by
  simp only [execTombstoneExpire, hx, htomb, true_or, if_true]

end

/-! ### Sources and gathers' senders (R246, R247) -/

theorem execBcastSourceComplete_of_sent {tag : Fin 65536} {s : State} {o : Op} (ho : s.op tag = some o) (hopc : o.opc = 0x41)
    (hsrc : o.srcFlag = true) (hstarted : o.started = true) (hsent : o.segs ≤ o.built) :
    execBcastSourceComplete tag s = .next (s.finishOp tag 0 (o.dByte 32 4) 0 0).drain := by
  simp only [execBcastSourceComplete, ho, hopc, hsrc, hstarted, hsent, and_self, if_true]

/-- A gather's chunk that has not come back whole ends the operation at the limit, and below it is staged again. -/
theorem execGatherResendTimeout_of_missing {tag c : Fin 65536} {s : State} {o : Op} {k n : Nat} (ho : s.op tag = some o) (hopc : o.opc = 0x42)
    (hstarted : o.started = true) (hfirst : o.chunk 0 ≤ c) (hk : k = c - o.chunk 0) (hlast : k < s.opChunks o)
    (hgot : ((o.done.filter (fun x => decide (x / 8192 / 4096 = c.val))).map (fun x => x % 8192)).sum < 4096) (hn : n = mget 0 o.resent k) :
    execGatherResendTimeout tag c s =
      if s.repullLimit o.tree ≤ n then .next (s.finishOp tag 0x09 0 0 0).drain
      else .next ((s.setOp tag { o with resent := minsert o.resent k (n + 1) }).restage tag k 0).drain := by
  simp only [execGatherResendTimeout, ho, hopc, hstarted, Nat.not_lt.mpr hfirst, ← hk, ← hn, Nat.not_le.mpr hlast, Nat.not_le.mpr hgot,
    ne_eq, not_true_eq_false, or_self, if_false]

/-- Settles O13: each clause is the branch that its command takes under the clause's hypotheses. -/
theorem windowsAreFilledRepulledAndFreed : Obligations.WindowsAreFilledRepulledAndFreed := by
  unfold Obligations.WindowsAreFilledRepulledAndFreed
  refine ⟨?fill, ?space, ?stall, ?repullWin, ?repullBar, ?ask, ?retain, ?tombstone, ?source, ?gather⟩
  case fill =>
    exact fun t inst c s u w k hk hw hhbm hfilling hroom hgood => execWindowFillDone_of_room hk hw hhbm hfilling hroom rfl hgood
  case space => exact fun n s hnone => next_drain_congr (State.retryWaiting_of_none n hnone)
  case stall => exact fun t inst c s => execWindowStallTimeout_of_new
  case repullWin =>
    intro t inst c s w hw hopen hidle
    have hrun : exec (.repullTimeout t inst c false) s = _ := execRepullTimeout_of_open hw hopen hidle rfl
    rw [hrun]
    exact ⟨fun hlimit => if_pos hlimit, fun hbelow => if_neg (Nat.not_le.mpr hbelow)⟩
  case repullBar => exact fun t inst c s x => execRepullTimeout_of_bar c
  case ask =>
    intro t inst c s w hmember hw hsent
    have hrun : exec (.resultRepullTimeout t inst c false) s = _ := execResultRepullTimeout_of_sent hmember hw hsent rfl
    rw [hrun]
    refine ⟨fun hlimit => if_pos hlimit, fun hbelow u hu => ?_⟩
    rw [if_neg (Nat.not_le.mpr hbelow), hu]
  case retain => exact fun t inst c s w => execRetainExpire_of_sent
  case tombstone => exact fun t inst c s x hx htomb => ⟨_, execTombstoneExpire_of_bar c hx htomb, mfind_merase_self ..⟩
  case source => exact fun tag s o => execBcastSourceComplete_of_sent
  case gather =>
    intro tag c s o ho hopc hstarted hfirst hlast hgot
    have hrun : exec (.gatherResendTimeout tag c) s = _ :=
      execGatherResendTimeout_of_missing ho hopc hstarted hfirst rfl hlast hgot rfl
    rw [hrun]
    exact ⟨fun hlimit => if_pos hlimit, fun hbelow => if_neg (Nat.not_le.mpr hbelow)⟩

end Sys2Proof.Machine

/-! ## Span protocol: sessions and their timers, doorbells, accesses to host memory, register requests, and the management ring -/

namespace Sys2Proof.Machine

/-! ### Frames that the sequence logic takes (R275, R276, R278) -/

section
variable {n : Fin 65} {s u : State} {f : SFrame}

/-- In OPEN the oldest sequenced frame is received, unless an armed DROP_RX is used up on it. -/
theorem execSpanFrameReceive_of_open
    (htake : s.takeRx n (fun f => decide (f.op ≠ 0x3E) && decide (f.op ≠ 0x3F)) = (some f, u)) (hopen : u.session n = SS.open_) :
    execSpanFrameReceive n s =
      if u.armed F.SPN_INJECT_DROP_RX n = true then .next (u.setArmed F.SPN_INJECT_DROP_RX n false) else .next (u.seqReceive n f) := by
  simp only [execSpanFrameReceive, htake, hopen, ne_eq, not_true_eq_false, if_false]

theorem execSpanAck_of_taken (htake : s.takeRx n (fun f => decide (f.op = 0x3F)) = (some f, u)) :
    execSpanAck n s = .next (u.spanAck n f).drain := by
  simp only [execSpanAck, htake]

theorem execSpanNak_of_taken (htake : s.takeRx n (fun f => decide (f.op = 0x3E)) = (some f, u)) :
    execSpanNak n s = .next (u.spanNak n f).drain := by
  simp only [execSpanNak, htake]

end

/-- The next frame in order, behind which none is held, is delivered: no gap is left to ask for, and the ACK policy applies. -/
theorem State.seqReceive_of_next {u v : State} {n : Nat} {f : SFrame} (hv : v = u.takeAseq n f.aseq none)
    (hnext : seqDist 16 f.tseq (u.fld F.SPN_RX_STATE_EXPECTED n) = 0) (hheld : ((v.deliverSpan n f).pier n).held = []) :
    u.seqReceive n f =
      (((v.deliverSpan n f).setPier n { (v.deliverSpan n f).pier n with nakAt := none }).ackPolicy n (f.flags.testBit 1)).bufUpdate n := by
  subst hv
  simp only [State.seqReceive, hnext, hheld, List.length_nil, State.releaseHeld, if_true]

/-- In OPEN an ACK without SYNC retires frames up to ASEQ; an empty bitmap shows none held. -/
theorem State.spanAck_of_open {u : State} {n : Nat} {f : SFrame} (hopen : u.session n = SS.open_) (hsync : f.flags.testBit 3 = false) :
    u.spanAck n f = u.takeAseq n f.aseq (if f.payload = [] then some [] else some f.payload) := by
  have hsyncing : SS.open_ ≠ SS.syncing := by decide
  simp only [State.spanAck, hopen, hsync, if_neg hsyncing, Bool.false_eq_true, false_and, if_true, if_false]

/-- In OPEN a NAK of a missing frame sends the named frame again where it was not yet sent again. -/
theorem State.spanNak_of_missing {u v : State} {n : Nat} {f : SFrame} {t : TxFrame} (hopen : u.session n = SS.open_)
    (hreason : f.opspec % 256 = 0x01) (hv : v = (u.count F.SPN_CNT_NAK_RX_COUNT n).takeAseq n f.aseq (some f.payload))
    (hfind : (v.pier n).tx.find? (fun t => decide (t.f.tseq = f.target % 65536)) = some t) (hfresh : t.resentAt = none) :
    u.spanNak n f = v.resend n (f.target % 65536) true := by
  subst hv
  simp only [State.spanNak, hopen, hreason, hfind, hfresh, ne_eq, not_true_eq_false, Bool.false_eq_true, if_true, if_false]

/-! ### Sessions enabled, disabled and resynchronised (R272, R273) -/

theorem State.pierEnable_on {s u : State} {n : Nat} (hu : u = s.setHdr .spn n F.HDR_CTRL_ENABLE 1) (hdown : u.session n = SS.down)
    (hup : u.portUp n = true) : s.pierEnable n true = u.enterSync n := by
  simp only [State.pierEnable, ← hu, hdown, hup, and_self, if_true]

theorem State.pierEnable_off {s u : State} {n : Nat} (hu : u = s.setHdr .spn n F.HDR_CTRL_ENABLE 0) (hdown : u.session n ≠ SS.down) :
    s.pierEnable n false = u.lossToDown n 6 := by
  simp only [State.pierEnable, ← hu, if_neg hdown, Bool.false_eq_true, if_false]

/-- A resynchronisation, by the state of the session. -/
theorem State.resync_by_session (s : State) (n : Nat) :
    (s.session n = SS.open_ → s.resync n = s.lossAndSync n 1) ∧ (s.session n = SS.syncing → s.resync n = s.enterSync n) ∧
      (s.session n = SS.held → s.resync n = s.lossToDown n 1) := by
  refine ⟨fun h => ?_, fun h => ?_, fun h => ?_⟩
  all_goals simp [State.resync, h]

/-! ### The timers of a session (R272, R277, R278, R279) -/

theorem execSyncResend_of_unanswered {n : Fin 65} {s : State} (hsyncing : s.session n = SS.syncing)
    (hanswer : (s.pier n).answered = false) :
    execSyncResend n s = .next (s.spanOut n { flags := 8, op := 0x3F, tseq := (s.pier n).t, aseq := s.aseq n }) :=
  if_pos ⟨hsyncing, ne_true_of_eq_false hanswer⟩

/-- A frame that is not held and whose RTO passes ends the session at the retry limit, and below it is sent again. -/
theorem State.rtoExpire_of_found {s : State} {n q : Nat} {t : TxFrame} (hopen : s.session n = SS.open_) (hup : s.portUp n = true)
    (hfind : (s.pier n).tx.find? (fun t => decide (t.f.tseq = q)) = some t) (hheld : t.held = false) :
    s.rtoExpire n q =
      if max 1 (s.fld F.SPN_TIMERS_RETRY_LIMIT n) ≤ t.retries then (s.raise (portSrc n) 0x11 q).lossAndSync n 3 else s.resend n q true := by
  simp only [State.rtoExpire, hopen, hup, hfind, hheld, ne_eq, not_true_eq_false, or_self, Bool.false_eq_true, if_false]

theorem execSpanAckDelay_of_due {n : Fin 65} {s : State} (hsince : (s.pier n).sinceAck ≠ 0) (hopen : s.session n = SS.open_) :
    execSpanAckDelay n s = .next (s.ackNow n) :=
  if_pos ⟨hsince, hopen⟩

/-- Settles O15: each clause is the branch that its command takes under the clause's hypotheses. -/
theorem spanSessionsAct : Obligations.SpanSessionsAct := by
  unfold Obligations.SpanSessionsAct
  refine ⟨?frame, ?inOrder, ?ack, ?nak, ?enable, ?disable, ?resync, ?syncAgain, ?rto, ?ackDelay⟩
  case frame =>
    intro n s f u htake hopen
    have hrun : exec (.spanFrameReceive n) s = _ := execSpanFrameReceive_of_open htake hopen
    rw [hrun]
    exact ⟨fun hoff => if_neg (ne_true_of_eq_false hoff), fun hon => if_pos hon⟩
  case inOrder => exact fun u v n f hv hnext hheld _ => State.seqReceive_of_next hv hnext hheld
  case ack =>
    intro n s f u htake hopen hsync
    exact (execSpanAck_of_taken htake).trans (next_drain_congr (State.spanAck_of_open hopen hsync))
  case nak =>
    intro n s f u v t htake hopen hreason hv hfind hfresh
    exact (execSpanNak_of_taken htake).trans (next_drain_congr (State.spanNak_of_missing hopen hreason hv hfind hfresh))
  case enable => exact fun n s u hu hdown hup => next_drain_congr (State.pierEnable_on hu hdown hup)
  case disable => exact fun n s u hu hdown => next_drain_congr (State.pierEnable_off hu hdown)
  case resync =>
    intro n s
    obtain ⟨hopen, hsyncing, hheld⟩ := s.resync_by_session n
    exact ⟨fun h => next_drain_congr (hopen h), fun h => next_drain_congr (hsyncing h), fun h => next_drain_congr (hheld h)⟩
  case syncAgain => exact fun n s => execSyncResend_of_unanswered
  case rto =>
    intro n q s t hopen hup hfind hheld
    have hrun := State.rtoExpire_of_found hopen hup hfind hheld
    exact ⟨fun hbelow => next_drain_congr (hrun.trans (if_neg (Nat.not_le.mpr hbelow))),
      fun hlimit => next_drain_congr (hrun.trans (if_pos hlimit))⟩
  case ackDelay => exact fun n s => execSpanAckDelay_of_due

end Sys2Proof.Machine

/-! ## Span protocol: doorbells, accesses to host memory and register requests -/

namespace Sys2Proof.Machine

/-! ### Doorbells (R302, R303; log 58) -/

/-- Outside the safe state a doorbell of an enabled context, at the context's own port, is passed on with its inline copy. -/
theorem State.spanBell_of_bound {u : State} {n : Nat} {f : SFrame} {inl : List Byte} (hsafe : u.safe = false)
    (hport : u.ctxPort f.target = n) (htakes : u.takesDoorbells f.target = true)
    (hcopy : f.op = 0x02 → inl.length = 16 * seqDist 32 f.opspec (u.ctx f.target).cmdTail) :
    u.spanBell n f inl = u.doorbell f.target f.opspec inl := by
  have hwhole : ¬ (f.op = 0x02 ∧ inl.length ≠ 16 * seqDist 32 f.opspec (u.ctx f.target).cmdTail) := fun ⟨hop, hne⟩ => hne (hcopy hop)
  simp only [State.spanBell, hsafe, hport, htakes, if_neg hwhole, ne_eq, not_true_eq_false, or_self, Bool.false_eq_true, if_false]

section
variable {n : Fin 65} {s u : State} {f : SFrame}

theorem execDoorbell_of_taken (hawake : s.awake Dom.endpoint = true) (htake : s.takeDelivered n [0x01] = (some f, u)) :
    execDoorbell n s = .next (u.spanBell n f []).drain := by
  simp only [execDoorbell, hawake, htake, not_true_eq_false, if_false]

theorem execDoorbellInline_of_taken (hawake : s.awake Dom.endpoint = true) (htake : s.takeDelivered n [0x02] = (some f, u)) :
    execDoorbellInline n s = .next (u.spanBell n f f.payload).drain := by
  simp only [execDoorbellInline, hawake, htake, not_true_eq_false, if_false]

/-! ### Reads and writes of host memory (R280, R281) -/

theorem execMemRdData_of_taken (htake : s.takeDelivered n [0x11] = (some f, u)) : execMemRdData n s = .next (u.readData n f).drain := by
  simp only [execMemRdData, htake]

theorem execMemWrAck_of_taken (htake : s.takeDelivered n [0x13] = (some f, u)) : execMemWrAck n s = .next (u.writeAck n f).drain := by
  simp only [execMemWrAck, htake]

end

/-- The last part of a read, at its offset and of the length that was left, ends the read with all its data. -/
theorem State.readData_of_last {u : State} {n i : Nat} {f : SFrame} {r : HostRd} (hok : f.opspec / 2 ^ 24 = 0)
    (hlast : f.flags.testBit 0 = true) (hread : firstIdx (u.pier n).reads (fun r => decide (r.id = f.target) && r.seq.isSome) = some (i, r))
    (hoff : f.opspec % 2 ^ 24 = r.got.length) (hlen : r.got.length + f.payload.length = r.len) :
    u.readData n f = u.endRead n i r 0 (r.got ++ f.payload) := by
  simp only [State.readData, hread, hok, hoff, hlen, hlast, ne_eq, not_true_eq_false, Nat.lt_irrefl, and_false, or_self, if_true, if_false]

/-- A refused write is reported with its tag, and ends. -/
theorem State.writeAck_of_refused {u : State} {n : Nat} {f : SFrame} {w : HostWr} (hst : f.opspec / 2 ^ 24 ≠ 0)
    (hfind : (u.pier n).writes.find? (fun w => decide (w.seq = f.target % 2 ^ 16)) = some w) :
    u.writeAck n f = (u.raise (portSrc n) 0x18 (f.opspec / 2 ^ 24 * 2 ^ 56 + f.target % 2 ^ 16 * 2 ^ 32 + tagDetail w.tag)).refuseWr n
      (f.target % 2 ^ 16) (f.opspec / 2 ^ 24) := by
  simp only [State.writeAck, if_pos hst, hfind]

/-- With no write outstanding, a newer landing is recorded and nothing else ends. -/
theorem State.writeAck_of_newer {u : State} {n : Nat} {f : SFrame} (hok : f.opspec / 2 ^ 24 = 0) (hnone : (u.pier n).writes = [])
    (hnewer : seqDist 16 (f.target % 2 ^ 16) (u.fld F.SPN_RX_STATE_LANDED n) < 2 ^ 15) :
    u.writeAck n f = (u.setPier n { u.pier n with writes := [] }).setFld F.SPN_RX_STATE_LANDED (f.target % 2 ^ 16) n := by
  simp only [State.writeAck, hok, hnone, hnewer, ne_eq, not_true_eq_false, List.any_nil, List.filter_nil, List.foldl_nil, decide_true,
    Bool.or_true, if_true, if_false]

theorem execMemRdTimeout_of_sent {n : Fin 65} {id : W32} {s : State} {i : Nat} {r : HostRd}
    (hread : firstIdx (s.pier n).reads (fun r => decide (r.id = id.toNat) && r.seq.isSome) = some (i, r)) :
    execMemRdTimeout n id s = .next (((s.count F.SPN_CNT_RD_TIMEOUT_COUNT n).raise (portSrc n) 0x12
      (id.toNat * 2 ^ 32 + tagDetail r.tag)).endRead n i r 0x22 []).drain := by
  simp only [execMemRdTimeout, hread]

/-! ### Register requests (R284; log 55) -/

/-- With no request being served, one that the whole check passes is begun: its first word goes to the arbiter. -/
theorem State.takeReg_of_allowed {s u : State} {n op : Nat} {f : SFrame} (hfree : (s.pier n).reg = none)
    (htake : s.takeDelivered n [op] = (some f, u))
    (hok : u.regStatus (pierAgent n) (decide (op = 0x22)) f.target f.regWords (f.secure || !u.flag F.SPN_PRIV_REQUIRE_MACSEC n) = 0) :
    s.takeReg n op = (u.setPier n { u.pier n with reg := some (f, []) }).regPresent n := by
  simp only [State.takeReg, hfree, htake, hok, Option.isSome_none, Bool.false_eq_true, if_true, if_false]

/-- Settles O16: each clause is the branch that its command takes under the clause's hypotheses. That an inline copy always finds
room is the model's choice of log 58, and that a pier serves one register request at a time is that of log 55. -/
theorem spanOperationsAct : Obligations.SpanOperationsAct := by
  unfold Obligations.SpanOperationsAct
  refine ⟨?bell, ?bellInline, ?readEnd, ?writeRefused, ?landed, ?regRead, ?regWrite, ?readLost⟩
  case bell =>
    intro n s f u hawake htake hsafe hport htakes hop
    have hcopy : f.op = 0x02 → ([] : List Byte).length = 16 * seqDist 32 f.opspec (u.ctx f.target).cmdTail := by simp [hop]
    exact (execDoorbell_of_taken hawake htake).trans (next_drain_congr (State.spanBell_of_bound hsafe hport htakes hcopy))
  case bellInline =>
    intro n s f u hawake htake hsafe hport htakes hlen
    exact (execDoorbellInline_of_taken hawake htake).trans (next_drain_congr (State.spanBell_of_bound hsafe hport htakes fun _ => hlen))
  case readEnd =>
    intro n s f u i r htake hok hlast hread hoff hlen
    exact (execMemRdData_of_taken htake).trans (next_drain_congr (State.readData_of_last hok hlast hread hoff hlen))
  case writeRefused =>
    intro n s f u w htake hst hfind
    exact (execMemWrAck_of_taken htake).trans (next_drain_congr (State.writeAck_of_refused hst hfind))
  case landed =>
    intro n s f u htake hok hnone hnewer
    exact (execMemWrAck_of_taken htake).trans (next_drain_congr (State.writeAck_of_newer hok hnone hnewer))
  case regRead | regWrite => exact fun n s f u hfree htake hok => congrArg Host.Outcome.next (State.takeReg_of_allowed hfree htake hok)
  case readLost => exact fun n id s i r => execMemRdTimeout_of_sent

end Sys2Proof.Machine

/-! ## Span protocol: timers that give a session up, the EVENT frame, and the management ring's switch -/

namespace Sys2Proof.Machine

/-! ### Sessions given up (R281, R291) -/

/-- A write acknowledged and not landed is reported and ends the session, which starts anew where the port is up. -/
theorem execLandingTimeout_of_acked {n : Fin 65} {q : W16} {s u : State} (hu : u = s.raise (portSrc n) 0x13 q.toNat)
    (hacked : (s.pier n).writes.any (fun w => decide (w.seq = q.toNat) && w.acked) = true) :
    execLandingTimeout n q s = .next (if u.portUp n then u.lossAndSync n 4 else u.lossToDown n 4).drain := by
  subst hu
  exact if_pos hacked

theorem execSessionHoldExpire_of_held {n : Fin 65} {s : State} (hheld : s.session n = SS.held) :
    execSessionHoldExpire n s = .next (s.lossToDown n 5).drain :=
  if_pos hheld

/-! ### The EVENT frame (R287) -/

/-- While the management pier is OPEN, the gathered records leave in one EVENT frame, at most 64 of them. -/
theorem execEventGatherSend_of_open {s : State} {g : List KRec} (hg : g = s.kst.gather.take 64) (hsome : g ≠ [])
    (hopen : s.session 64 = SS.open_) : execEventGatherSend s =
      .next (({ s with kst := { s.kst with gather := s.kst.gather.drop 64 } }).queueSpan 64
        { f := { op := 0x30, target := 1, opspec := g.length, payload := g.flatMap KRec.bytes } }).drain := by
  subst hg
  exact (if_neg hsome).trans (if_pos hopen)

/-! ### The management ring's switch (R298; log 83) -/

/-- The record of the management context as its ring starts: what CTG[0] gives, the indices at 0. -/
def State.mringCtx (s : State) : Ctx :=
  { state := (s.ctx 0).state
    port := s.ctxPort 0
    flags := s.fld F.CTG_MRING_CFG_CMD_IN_HBM * 128 + s.fld F.CTG_MRING_CFG_CQ_IN_HBM * 64
    cmdLog2 := s.fld F.CTG_MRING_CFG_CMD_LOG2
    cqLog2 := s.fld F.CTG_MRING_CFG_CQ_LOG2
    cmdBase := s.fld F.CTG_MRING_BASE_ADDR
    cqBase := s.fld F.CTG_MCQ_BASE_ADDR
    cqTailAddr := s.fld F.CTG_MCQ_TAIL_ADDR_ADDR
    cqHeadAddr := s.fld F.CTG_MCQ_HEAD_ADDR_ADDR
    cqReserved := (s.ctx 0).cqReserved
    tagsHeld := (s.ctx 0).tagsHeld }

theorem execMringEnable_off {s u : State} (hu : u = s.setCtxState 0 CS.disabled) :
    execMringEnable false s = .next (((s.setFld F.CTG_MRING_CTRL_ENABLE 0).setCtxState 0 CS.disabled).setCtx 0
      { u.ctx 0 with fetched := [], inline_ := [], fetching := none }).drain := by
  subst hu
  rfl

/-- The ring of a port of level 3, or of the management port, starts with the sizes configured where they are in range. -/
theorem execMringEnable_on {s : State} (hoff : s.flag F.CTG_MRING_CTRL_ENABLE = false)
    (hlevel : s.ctxPort 0 < 64 → s.fld F.SPN_PRIV_LEVEL (s.ctxPort 0) = 3)
    (hcmd : 6 ≤ s.fld F.CTG_MRING_CFG_CMD_LOG2 ∧ s.fld F.CTG_MRING_CFG_CMD_LOG2 ≤ 20)
    (hcq : 6 ≤ s.fld F.CTG_MRING_CFG_CQ_LOG2 ∧ s.fld F.CTG_MRING_CFG_CQ_LOG2 ≤ 20) :
    execMringEnable true s = .next (((s.setFld F.CTG_MRING_CTRL_ENABLE 1).setCtx 0 s.mringCtx).setCtxState 0 CS.enabled).drain := by
  have hallowed : ¬ (s.ctxPort 0 < 64 ∧ s.fld F.SPN_PRIV_LEVEL (s.ctxPort 0) ≠ 3) := fun ⟨hhost, hne⟩ => hne (hlevel hhost)
  simp only [execMringEnable, State.mringCtx, hoff, if_neg hallowed, if_pos hcmd, if_pos hcq, not_true_eq_false, Bool.false_eq_true, if_false]

/-- Settles O17: each clause is the branch that its command takes under the clause's hypotheses. That the ring's indices start at 0
is the model's choice of log 83. -/
theorem piersGiveUpReportAndSwitch : Obligations.PiersGiveUpReportAndSwitch := by
  unfold Obligations.PiersGiveUpReportAndSwitch
  refine ⟨?landing, ?hold, ?event, ?off, ?on⟩
  case landing =>
    intro n q s hacked
    have hrun := execLandingTimeout_of_acked rfl hacked
    exact ⟨fun hup => hrun.trans (next_drain_congr (if_pos hup)),
      fun hdown => hrun.trans (next_drain_congr (if_neg (ne_true_of_eq_false hdown)))⟩
  case hold => exact fun n s => execSessionHoldExpire_of_held
  case event => exact fun s g => execEventGatherSend_of_open
  case off => exact fun s u _ hu => execMringEnable_off hu
  case on =>
    exact fun s hoff hlevel hcmdLow hcmdHigh hcqLow hcqHigh => execMringEnable_on hoff hlevel ⟨hcmdLow, hcmdHigh⟩ ⟨hcqLow, hcqHigh⟩

end Sys2Proof.Machine

/-! ## Contexts, rings and doorbells: the management operations -/

namespace Sys2Proof.Machine

/-! ### The context that a management operation names (R317) -/

/-- A context other than the management context, in a state that the operation accepts, is the operation's target. -/
theorem State.target_of_accepted {s : State} {o : Op} {ok : Nat → Bool} (hdest : o.dest < 2 ^ 18) (hother : o.dest ≠ 0)
    (hok : ok (s.ctx o.dest).state = true) : s.target o ok = some o.dest :=
  if_pos ⟨hdest, hother, hok⟩

/-! ### Contexts written, enabled, disabled, reset and read (R316, R318; log 76) -/

/-- A context's record as CTX_INIT leaves it: bytes 2–47 of the image in the descriptor, the indices and counts at 0. -/
def Op.initialised (o : Op) (x : Ctx) : Ctx :=
  { x with
    port := o.dByte 18 1
    flags := o.dByte 19 1
    pd := o.dByte 20 2
    space := o.dByte 22 2
    key := o.dByte 24 4
    tcMask := o.dByte 28 1
    cmdLog2 := o.dByte 29 1
    cqLog2 := o.dByte 30 1
    maxOps := o.dByte 31 1
    cmdBase := o.dByte 32 8
    cqBase := o.dByte 40 8
    cqTailAddr := o.dByte 48 8
    cqHeadAddr := o.dByte 56 8
    cmdTail := 0
    cmdHead := 0
    cqWritten := 0
    cqHeadSeen := 0
    cqReserved := 0
    tagsHeld := 0
    parked := 0
    haltSlot := 0
    overflow := 0 }

/-- A context's record as CTX_ENABLE leaves it from DISABLED, but for its state: both rings empty, and nothing fetched. -/
def Ctx.withEmptyRings (x : Ctx) : Ctx :=
  { x with
    cmdTail := 0
    cmdHead := 0
    cqWritten := 0
    cqHeadSeen := 0
    overflow := 0
    haltCause := 0
    sinceEvent := 0
    fetched := []
    inline_ := [] }

section
variable {tag : Fin 65536} {s : State} {o : Op} {c : Nat}

theorem execCtxInit_of_target (hready : s.opReady tag 0xC0 = some o)
    (htarget : s.target o (fun st => decide (st = CS.disabled)) = some c) :
    execCtxInit tag s = .next ((s.setCtx c (o.initialised (s.ctx c))).finishOp tag 0 0 0 0).drain := by
  simp only [execCtxInit, hready, htarget, State.mgmtEnd, Op.initialised]

/-- A halted context resumes at a slot from the one it halted at up to its tail. -/
theorem execCtxEnable_of_halted (hready : s.opReady tag 0xC1 = some o)
    (htarget : s.target o (fun st => decide (st = CS.disabled) || decide (st = CS.halted)) = some c) (hst : (s.ctx c).state = CS.halted)
    (hslot : seqDist 32 (o.dByte 16 4) (s.ctx c).haltSlot ≤ seqDist 32 (s.ctx c).cmdTail (s.ctx c).haltSlot) :
    execCtxEnable tag s = .next (((s.setCtx c { s.ctx c with
      cmdHead := o.dByte 16 4,
      haltCause := 0 }).setCtxState c CS.enabled).finishOp tag 0 0 0 0).drain := by
  simp only [execCtxEnable, hready, htarget, if_pos hst, if_pos hslot, State.mgmtEnd]

/-- A disabled context that holds no tag starts at slot 0, with empty rings. -/
theorem execCtxEnable_of_disabled (hready : s.opReady tag 0xC1 = some o)
    (htarget : s.target o (fun st => decide (st = CS.disabled) || decide (st = CS.halted)) = some c) (hst : (s.ctx c).state = CS.disabled)
    (hstart : o.dByte 16 4 = 0 ∧ (s.ctx c).tagsHeld = 0) :
    execCtxEnable tag s = .next (((s.setCtx c (s.ctx c).withEmptyRings).setCtxState c CS.enabled).finishOp tag 0 0 0 0).drain := by
  have hrunning : ¬ (s.ctx c).state = CS.halted := by simp [hst]
  simp only [execCtxEnable, hready, htarget, if_neg hrunning, if_pos hstart, State.mgmtEnd, Ctx.withEmptyRings]

theorem execCtxDisable_of_target (hready : s.opReady tag 0xC2 = some o)
    (htarget : s.target o (fun st => decide (st = CS.enabled) || decide (st = CS.halted)) = some c) :
    execCtxDisable tag s = .next (((s.begun tag o 0).setCtx c { s.ctx c with
      closing := some tag.val,
      fetched := [],
      inline_ := [] }).cancelPosts c).drain := by
  simp only [execCtxDisable, hready, htarget]

theorem execCtxReset_of_target (hready : s.opReady tag 0xC3 = some o)
    (htarget : s.target o (fun st => decide (st ≠ CS.resetting)) = some c) :
    execCtxReset tag s = .next ((((s.begun tag o 0).setCtx c { s.ctx c with
      closing := some tag.val,
      mute := true,
      fetched := [],
      inline_ := [] }).setCtxState c CS.resetting).resetCtx c).drain := by
  simp only [execCtxReset, hready, htarget]

theorem execCtxRead_of_target (hready : s.opReady tag 0xC4 = some o) (htarget : s.target o (fun _ => true) = some c) :
    execCtxRead tag s = .next ((s.ringWrite 0 (s.ctx 0).cqHbm (o.dByte 16 8) (s.ctxImage c) none).finishOp tag 0 0 0 0).drain := by
  simp only [execCtxRead, hready, htarget, State.mgmtEnd]

end

/-- With no message bound to it, a context whose reset takes too long gives up the tags that it holds, and closes. -/
theorem execCtxResetTimeout_of_held {c : Fin 262144} {s : State} {m : Nat} (hst : (s.ctx c).state = CS.resetting)
    (hclosing : (s.ctx c).closing = some m) (hheld : (s.ctx c).tagsHeld ≠ 0) (hmsg : s.ep.msg = []) :
    execCtxResetTimeout c s =
      .next (((s.opsWhere (fun o => decide (o.ctx = c.val))).foldl (fun s e => s.releaseTag e.1) s).closeCtx c (s.ctx c).tagsHeld).drain := by
  have hrun : ¬ ((s.ctx c).state ≠ CS.resetting ∨ (s.ctx c).closing.isNone = true ∨ (s.ctx c).tagsHeld = 0) := by
    simp [hst, hclosing, hheld]
  simp only [execCtxResetTimeout, if_neg hrun, hmsg, List.filter_nil, List.foldl_nil]

/-! ### Spaces and regions set and revoked (R352, R371, R375, R376; logs 8 and 94) -/

section
variable {tag : Fin 65536} {s : State} {o : Op}

/-- An entry that was not valid takes a root that is not valid; its space is invalidated before the command completes. -/
theorem execSpaceSet_of_no_root {a key root : Nat} (hready : s.opReady tag 0xC8 = some o) (hdest : o.dest < 2 ^ 18)
    (ha : a = o.dByte 16 2) (hkey : key = o.dByte 20 4) (hroot : root = o.dByte 24 8) (hspace : key / 2 ^ 16 = a)
    (hreal : key ≠ 0xFFFFFFFF) (hpd : o.dByte 18 2 ≤ 16383) (hreserved : root / 4 % 2 ^ 10 = 0) (hinvalid : root.testBit 0 = false)
    (hwas : (s.space a).root.testBit 0 = false) :
    execSpaceSet tag s = .next (((s.begun tag o 0).setEp { (s.begun tag o 0).ep with
      space := mput {} (s.begun tag o 0).ep.space a { s.space a with
        pd := o.dByte 18 2,
        key := key,
        root := root } }).invIssue (a % 32) { scope := 1, space := a, resume := true, tag := some tag.val, spaceSet := true }).drain := by
  subst ha hkey hroot
  simp only [execSpaceSet, hready, Nat.not_le.mpr hdest, hspace, hreal, Nat.not_lt.mpr hpd, hreserved, hinvalid, hwas, ne_eq,
    not_true_eq_false, Bool.false_eq_true, false_and, or_self, if_false]

/-- A region entry that is not valid takes the operands and keeps its generation, which the completion carries with the index. -/
theorem execRegionSet_of_free {i key : Nat} (hready : s.opReady tag 0xC9 = some o) (hdest : o.dest < 2 ^ 18) (hi : i = o.dByte 16 4)
    (hindex : i < 2 ^ 20) (hfree : (s.region i).valid = false) (hpd : o.dByte 20 2 ≤ 16383) (hk : key = o.dByte 40 4)
    (hkey : s.keyValid key = true) (hsame : (s.space (key / 2 ^ 16)).pd = o.dByte 20 2) (hrights : o.dByte 22 2 < 8)
    (hlen : o.dByte 32 8 ≠ 0) (hend : o.dByte 24 8 + o.dByte 32 8 ≤ 2 ^ 48) :
    execRegionSet tag s = .next ((s.setEp { s.ep with region := mput {} s.ep.region i { s.region i with
      valid := true,
      pd := o.dByte 20 2,
      rights := o.dByte 22 2,
      base := o.dByte 24 8,
      len := o.dByte 32 8,
      key := key } }).finishOp tag 0 ((s.region i).gen * 2 ^ 20 + i) 0 0).drain := by
  subst hi hk
  simp only [execRegionSet, hready, State.mgmtEnd, Nat.mod_eq_of_lt hindex, Nat.not_le.mpr hdest, Nat.not_le.mpr hindex, hfree,
    Nat.not_lt.mpr hpd, hkey, hsame, Nat.not_le.mpr hrights, hlen, Nat.not_lt.mpr hend, ne_eq, not_true_eq_false, Bool.false_eq_true,
    or_self, if_false]

theorem execRegionRevoke_of_valid (hready : s.opReady tag 0xCA = some o) (hdest : o.dest < 2 ^ 18) (hindex : o.dByte 16 4 < 2 ^ 20)
    (hvalid : (s.region (o.dByte 16 4)).valid = true) (hnone : s.ep.revoke = none) :
    execRegionRevoke tag s = .next ((s.begun tag o 0).revokeBegin (o.dByte 16 4) tag).drain := by
  simp only [execRegionRevoke, hready, Nat.not_le.mpr hdest, Nat.not_le.mpr hindex, hvalid, hnone, not_true_eq_false, Option.isSome_none,
    Bool.false_eq_true, or_self, if_false]

/-- With no access left at the endpoint a revocation ends; the unit that reports it is a free choice. -/
theorem State.revokeEnd_of_no_jobs {r : Revoke} (hrevoke : s.ep.revoke = some r) (hjobs : s.ep.job = []) :
    s.revokeEnd = (((s.takeFree.2.setEp { s.takeFree.2.ep with revoke := none }).showRevoke.finishOp r.tag 0 r.refused 0 r.at_).raise
      (656 + Config.choice s.takeFree.1 % 16) 0x0C (r.refused * 2 ^ 32 + r.region)) := by
  simp only [State.revokeEnd, hrevoke, hjobs, List.any_nil, Bool.false_eq_true, if_false]

/-! ### Translations invalidated (R392, R393; log 75) -/

/-- The invalidation that XLT_INVAL asks for, at a scope. -/
def Op.inval (o : Op) (tag scope : Nat) : Inval :=
  { scope := scope
    space := o.dByte 18 2
    va := o.dByte 24 8 / 4096 * 4096
    pages := max 1 (o.dByte 32 4)
    resume := (o.dByte 17 1).testBit 0
    abandon := (o.dByte 17 1).testBit 1
    tag := some tag }

/-- An invalidation that is not of too many pages keeps the scope asked for; one of scope all runs at unit 0, another at its space's. -/
theorem execXltInval_of_scope {scope : Nat} (hready : s.opReady tag 0xCB = some o) (hdest : o.dest < 2 ^ 18) (hscope : o.dByte 16 1 = scope)
    (hpages : scope = 0 → o.dByte 32 4 ≤ 2 ^ 20) :
    execXltInval tag s =
      .next ((s.begun tag o 0).invIssue (if scope = 2 then 0 else o.dByte 18 2 % 32) (o.inval tag scope)).drain := by
  have hkept : ¬ (scope = 0 ∧ 2 ^ 20 < o.dByte 32 4) := fun ⟨hpage, hmany⟩ => absurd hmany (Nat.not_lt.mpr (hpages hpage))
  simp only [execXltInval, hready, hscope, if_neg (Nat.not_le.mpr hdest), if_neg hkept, Op.inval]

end

/-- Settles O19: each clause is the branch that its command takes under the clause's hypotheses. Where CTX_READ writes the image is the
model's choice of log 76, which unit reports a revocation's end that of logs 8 and 94, that a reset's timer ends by the command alone
that of log 10, and that an invalidation of scope all covers every unit, and runs at unit 0, the reading of log 75. -/
theorem managementOperationsAct : Obligations.ManagementOperationsAct := by
  unfold Obligations.ManagementOperationsAct
  refine ⟨?init, ?resume, ?enable, ?disable, ?reset, ?resetTimeout, ?read, ?space, ?region, ?revoke, ?revokeEnd, ?pages, ?all⟩
  case init =>
    intro tag s o hready hdest hother hst
    exact execCtxInit_of_target hready (State.target_of_accepted hdest hother (by simp [hst]))
  case resume =>
    intro tag s o hready hdest hother hst hslot
    exact execCtxEnable_of_halted hready (State.target_of_accepted hdest hother (by simp [hst])) hst hslot
  case enable =>
    intro tag s o hready hdest hother hst hstart htags
    exact execCtxEnable_of_disabled hready (State.target_of_accepted hdest hother (by simp [hst])) hst ⟨hstart, htags⟩
  case disable =>
    intro tag s o hready hdest hother hst
    exact execCtxDisable_of_target hready (State.target_of_accepted hdest hother (by simp [hst]))
  case reset =>
    intro tag s o hready hdest hother hst
    exact execCtxReset_of_target hready (State.target_of_accepted hdest hother (by simp [hst]))
  case resetTimeout => exact fun c s m => execCtxResetTimeout_of_held
  case read =>
    intro tag s o hready hdest hother
    exact execCtxRead_of_target hready (State.target_of_accepted hdest hother rfl)
  case space => exact fun tag s o a key root => execSpaceSet_of_no_root
  case region => exact fun tag s o i key => execRegionSet_of_free
  case revoke => exact fun tag s o => execRegionRevoke_of_valid
  case revokeEnd => exact fun s r hrevoke hjobs => next_drain_congr (State.revokeEnd_of_no_jobs hrevoke hjobs)
  case pages =>
    intro tag s o hready hdest hscope hcount
    exact execXltInval_of_scope hready hdest hscope fun _ => hcount
  case all =>
    intro tag s o hready hdest hscope
    exact execXltInval_of_scope hready hdest hscope fun hpage => absurd hpage (by decide)

end Sys2Proof.Machine

/-! ## Message matching and channels: the match rule, packets' arrival, answers, timers and the halves' resets -/

namespace Sys2Proof.Machine

/-! ### The match rule (R327) -/

theorem nat_or_eq_right_iff_testBit (a b : Nat) : a ||| b = b ↔ ∀ i, b.testBit i = false → a.testBit i = false := by
  constructor
  · intro h i hb
    have hbit : (a ||| b).testBit i = b.testBit i := congrArg (Nat.testBit · i) h
    rwa [Nat.testBit_or, hb, Bool.or_false] at hbit
  · intro h
    refine Nat.eq_of_testBit_eq fun i => ?_
    cases hb : b.testBit i with
    | true => rw [Nat.testBit_or, hb, Bool.or_true]
    | false => rw [Nat.testBit_or, hb, h i hb, Bool.or_false]

theorem Post.fits_iff (p : Post) (m : Msg) : p.fits m = true ↔ m.comm = p.comm ∧ (p.anySrc = true ∨ m.src = p.src) ∧
    ∀ i, p.ignore.testBit i = false → (m.tag ^^^ p.tag).testBit i = false := by
  simp only [Post.fits, Bool.and_eq_true, Bool.or_eq_true, decide_eq_true_iff, nat_or_eq_right_iff_testBit, and_assoc]

/-- Two tags of 64 bits have no bit to differ in that an all-ones TAG_IGNORE leaves. -/
theorem testBit_xor_of_ignored {a b i : Nat} (ha : a < 2 ^ 64) (hb : b < 2 ^ 64) (hi : (2 ^ 64 - 1).testBit i = false) :
    (a ^^^ b).testBit i = false := by
  have hhigh : 64 ≤ i := by simpa only [Nat.testBit_two_pow_sub_one, decide_eq_false_iff_not, not_lt] using hi
  exact Nat.testBit_lt_two_pow ((Nat.xor_lt_two_pow ha hb).trans_le (Nat.pow_le_pow_right (by decide) hhigh))

/-- Settles O47: OR with TAG_IGNORE gives TAG_IGNORE just where no bit outside it is set, and an all-ones one has no such bit. -/
theorem aMessageFitsByTheMatchRule : Obligations.AMessageFitsByTheMatchRule := by
  unfold Obligations.AMessageFitsByTheMatchRule
  refine ⟨Post.fits_iff, fun p m t hignore htag hcomm hsrc => ?_⟩
  refine (Post.fits_iff p _).mpr ⟨hcomm, hsrc, fun i hi => ?_⟩
  exact testBit_xor_of_ignored t.isLt htag (hignore ▸ hi)

/-! ### A channel packet's arrival (R354, R356, R362) -/

/-- The delivery that RECEIVE takes of an opcode, out of the safe state and with the endpoint core awake, reaches its channel's unit. -/
theorem State.receiveOpc_of_taken {s u : State} {o : Nat} {d : Dlv} (hsafe : s.safe = false) (hawake : s.awake Dom.endpoint = true)
    (htake : s.takeDlv (fun b => decide (pOpc b = o) && !(decide (o ≤ 0x01) && s.hookBlocked (ctxOf (pDst b)))) = (some d, u)) :
    s.receiveOpc o = u.chanReceive d := by
  simp only [State.receiveOpc, hsafe, hawake, htake, Bool.false_eq_true, not_true_eq_false, or_self, if_false]

section
variable {u v : State} {d : Dlv} {p : Nat} {c : Chan}
  (hopen : (u.touchCtx (ctxOf (pDst d.bytes))).openChan (ctxOf (pDst d.bytes)) (pSrc d.bytes) = (some p, v))
  (harmed : v.armed F.REL_INJECT_DROP_RX (p % 16) = false) (hc : v.chan p = some c)
include hopen harmed hc

/-- A packet within the window, not seen and not held, that need not wait at a fence is passed on. -/
theorem State.chanReceive_of_new (hnew : c.seen (pSeq d.bytes) = false) (hfree : c.holdOf (pSeq d.bytes) = none)
    (hwindow : seqDist 32 (pSeq d.bytes) c.e < 4096) (hfence : pFence d.bytes = false) :
    u.chanReceive d = (v.setChan p { c with rxFresh := false }).passRx p d.bytes (u.dlvPipe d) := by
  have hunseen : Chan.seen { c with rxFresh := false } (pSeq d.bytes) = false := hnew
  have hunheld : Chan.holdOf { c with rxFresh := false } (pSeq d.bytes) = none := hfree
  simp only [State.chanReceive, hopen, harmed, hc, hunseen, hunheld, hfence, Nat.not_le.mpr hwindow, Option.isSome_none,
    Bool.false_eq_true, false_and, or_self, if_false]

theorem State.chanReceive_of_seen (hseen : c.seen (pSeq d.bytes) = true) : u.chanReceive d =
    (v.setChan p { c with rxFresh := false }).duplicate p { c with rxFresh := false } d.bytes (u.dlvPipe d) := by
  have hagain : Chan.seen { c with rxFresh := false } (pSeq d.bytes) = true := hseen
  simp only [State.chanReceive, hopen, harmed, hc, hagain, Bool.false_eq_true, true_or, if_true, if_false]

end

/-- The command takes the oldest delivery of opcode `o` to its channel's unit, and does nothing else. -/
def Receives (i : Instr) (o : Nat) : Prop := ∀ s, exec i s = .next (s.receiveOpc o).drain

theorem receives_of_mem {L : List (Instr × Nat)} (hall : L.Forall fun e => Receives e.1 e.2) {i : Instr} {o : Nat} (hmem : (i, o) ∈ L) :
    Receives i o :=
  List.forall_iff_forall_mem.mp hall _ hmem

/-- Settles O20: each command of the list takes its opcode's delivery to its channel's unit, which passes on what is new and answers
what it has seen. -/
theorem channelPacketsReachTheirConsumers : Obligations.ChannelPacketsReachTheirConsumers := by
  unfold Obligations.ChannelPacketsReachTheirConsumers
  intro i o hmem s d u p v c hsafe hawake htake hopen harmed hc
  have hreceives : Receives i o := by
    refine receives_of_mem ?_ hmem
    simp only [List.Forall]
    and_intros
    all_goals exact fun _ => rfl
  rw [hreceives s, State.receiveOpc_of_taken hsafe hawake htake]
  exact ⟨fun hnew hfree hwindow hfence => next_drain_congr (State.chanReceive_of_new hopen harmed hc hnew hfree hwindow hfence),
    fun hseen => next_drain_congr (State.chanReceive_of_seen hopen harmed hc hseen)⟩

/-! ### Answers (R366, R369) -/

/-- A park notice suspends the packet that it names. -/
theorem State.takeNak_of_park {u : State} {b : List Byte} {p : Nat} {c : Chan} {t : TxPk} (hp : u.answerChan b = some p)
    (hc : u.chan p = some c) (ht : c.tx (pSeq b) = some t) (hpark : beAt (pExt b) 4 1 = 0x10) :
    u.takeNak b =
      u.setChan p { c with unret := c.unret.map (fun x => if x.seq = t.seq then { x with suspended := true } else x) } := by
  simp only [State.takeNak, hp, hc, ht, hpark, if_true]

/-! ### Receives and hook records that wait at a MAT (R326, R343) -/

theorem State.postWaiting_of_none {s : State} {n : Nat} (k : Nat) (hnone : (s.mat n).waiting = []) : s.postWaiting n k = s := by
  cases k with
  | zero => rfl
  | succ k => simp only [State.postWaiting, hnone]

/-- The only receive that waits is posted where the MAT takes it. -/
theorem State.postWaiting_of_one {s u : State} {n tag : Nat} {o : Op} (hone : (s.mat n).waiting = [tag]) (ho : s.op tag = some o)
    (hpost : s.post (recvPost tag o) = (true, u)) : s.postWaiting n 1 = u.setMat n { u.mat n with waiting := [] } := by
  simp only [State.postWaiting, hone, ho, hpost]

theorem execHookRecordPush_of_room {n : Fin 16} {s : State} {e : Nat × List Byte} {rest : List (Nat × List Byte)}
    (hhooks : (s.mat n).hooks = e :: rest) (hvalid : s.qValid (s.fld F.MAT_HOOK_CFG_QUEUE n) = true)
    (hroom : s.qFull (s.fld F.MAT_HOOK_CFG_QUEUE n) = false) :
    execHookRecordPush n s =
      .next ((s.setMat n { s.mat n with hooks := rest }).qAppend (s.fld F.MAT_HOOK_CFG_QUEUE n) e.2).drain := by
  simp only [execHookRecordPush, hhooks, hvalid, hroom, not_true_eq_false, Bool.false_eq_true, if_false]

/-! ### Acknowledgement and retransmission (R357, R359, R360, R369) -/

theorem execRelAckDelay_of_due {p : Fin 65536} {s : State} {c : Chan} (hc : s.chan p = some c) (hdue : c.sinceAck ≠ 0) :
    execRelAckDelay p s = .next (s.sendRelAck p) := by
  simp only [execRelAckDelay, hc, if_neg hdue]

section
variable {s : State} {p q : Nat} {c : Chan} {t : TxPk} (hc : s.chan p = some c) (ht : c.tx q = some t)
  (hactive : t.suspended = false) (hsent : t.queued = false)
include hc ht hactive hsent

/-- After RETRY_LIMIT the final wait ends in channel failure. -/
theorem State.resendTx_of_limit (hlimit : max 1 (s.fld F.REL_RTX_RETRY_LIMIT (p % 16)) ≤ t.retries) :
    s.resendTx p q true = s.chanFail p := by
  simp only [State.resendTx, hc, ht, hactive, hsent, hlimit, Bool.false_eq_true, or_self, if_true, if_false]

/-- Below RETRY_LIMIT an operation's packet goes back to its scheduler. -/
theorem State.resendTx_of_op {u : State} {o : Op} (hbelow : t.retries < max 1 (s.fld F.REL_RTX_RETRY_LIMIT (p % 16)))
    (hcand : t.cand = none) (hu : u = s.count F.REL_CNT_RETX_COUNT (p % 16)) (ho : t.tag.bind u.op = some o) (huc : u.chan p = some c) :
    s.resendTx p q true = (u.setChan p { c with unret := c.unret.map (fun x => if x.seq = q then { x with
      retries := x.retries + 1,
      queued := true } else x) }).injectRetx (u.opKey o) p q := by
  subst hu
  simp only [State.resendTx, hc, ht, hactive, hsent, Nat.not_le.mpr hbelow, hcand, ho, huc, Bool.false_eq_true, or_self, if_true, if_false]

end

theorem execSuspendLimitExpire_of_suspended {p : Fin 65536} {q : W32} {s : State} {c : Chan} {t : TxPk} (hc : s.chan p = some c)
    (ht : c.tx q.toNat = some t) (hsuspended : t.suspended = true) : execSuspendLimitExpire p q s = .next (s.chanFail p).drain := by
  simp only [execSuspendLimitExpire, hc, Option.bind_some, ht, hsuspended, if_true]

/-! ### Entries and halves of channels (R354, R361) -/

theorem State.retryChans_of_none {s : State} (hnone : s.ep.chanWait = []) : s.retryChans = s := by
  rw [State.retryChans, hnone, List.foldl_nil]

/-- A send half with nothing unretired starts again; no operation stands to be numbered afresh. -/
theorem State.txReset_of_no_ops {s : State} {p : Nat} {c : Chan} (hc : s.chan p = some c) (hretired : c.unret = [])
    (hused : c.txFresh = false) (hops : s.ep.op = []) :
    s.txReset p = ((s.setChan p { c with next := 0, mseq := 0, txFresh := true }).freeChan p).retryChans := by
  simp only [State.txReset, hc, hretired, hused, hops, List.filter_nil, List.mergeSort_nil, List.zip_nil_left, List.foldl_nil,
    List.length_nil, ne_eq, not_true_eq_false, Bool.false_eq_true, or_self, if_false]

/-- A receive half as its reset leaves it. -/
def Chan.withFreshRx (c : Chan) : Chan :=
  { c with e := 0, nextMatch := 0, marks := [], rx := [], notify := [], sinceAck := 0, ce := false, rxFresh := true }

/-- A channel's cached responses are discarded, and OCCUPANCY shows it (R363, R373). -/
def State.dropResps (s : State) (p : Nat) : State :=
  (s.setEp { s.ep with resp := s.ep.resp.filter (fun (e : Nat × Resp) => decide (e.1 / 2 ^ 32 ≠ p)) }).showRel (p % 16)

/-- A receive half starts again; no message stands to be discarded. -/
theorem State.rxReset_of_no_msgs {s : State} {p : Nat} {c : Chan} (hc : s.chan p = some c) (hused : c.rxFresh = false)
    (hmsgs : ((s.setChan p c.withFreshRx).dropResps p).ep.msg = []) :
    s.rxReset p = ((s.setChan p c.withFreshRx).dropResps p).freeChan p := by
  simp only [State.dropResps, Chan.withFreshRx] at hmsgs ⊢
  simp only [State.rxReset, hc, hused, hmsgs, List.filter_nil, List.foldl_nil, Bool.false_eq_true, if_false]

/-! ### Refused and parked packets (R367, R368) -/

theorem execRefuseHoldExpire_of_refused {p : Fin 65536} {q : W32} {s : State} {c : Chan} {x : RxEnt} {nak : List Byte}
    (hc : s.chan p = some c) (hx : c.holdOf q.toNat = some x) (hrefused : x.hold = .refused nak) :
    execRefuseHoldExpire p q s = .next (s.unholdRx p q.toNat).drain := by
  obtain ⟨sq, hold, b, pipe⟩ := x
  subst hrefused
  simp only [execRefuseHoldExpire, hc, Option.bind_some, hx]

theorem execParkTimeout_of_parked {n : Fin 16} {slot : Fin 4096} {s : State} {id : Nat} {j : Job}
    (hparked : s.ep.job.find? (fun (e : Nat × Job) => decide (e.2.slot = some slot.val) && decide (s.jobRel e.2 = n.val)) = some (id, j)) :
    execParkTimeout n slot s = .next (s.unresolved id j).drain := by
  simp only [execParkTimeout, hparked]

/-- Settles O21: each clause is the branch that its command takes under the clause's hypotheses. That a timer's command is its end is
the model's choice of log 10. -/
theorem channelsAnswerRetryAndReset : Obligations.ChannelsAnswerRetryAndReset := by
  unfold Obligations.ChannelsAnswerRetryAndReset
  refine ⟨?answers, ?park, ?noneWaits, ?oneWaits, ?hook, ?ack, ?limit, ?resend, ?entry, ?sendHalf, ?receiveHalf, ?resp, ?refuse, ?parkEnd,
    ?suspend⟩
  case answers =>
    intro s d u hsafe hawake
    and_intros
    all_goals exact fun htake => congrArg Host.Outcome.next (State.answer_of_some hsafe hawake htake)
  case park => exact fun u b p c t => State.takeNak_of_park
  case noneWaits => exact fun n s hnone => next_drain_congr (State.postWaiting_of_none _ hnone)
  case oneWaits =>
    intro n s tag rest o u hone ho hpost hrest
    have hcount : (s.mat n).waiting.length = 1 := congrArg List.length hone
    have hrun : exec (.postedReceiveRoom n) s = .next (s.postWaiting n (s.mat n).waiting.length).drain := rfl
    rw [hrun, hcount, State.postWaiting_of_one hone ho hpost, hrest]
  case hook => exact fun n s e rest => execHookRecordPush_of_room
  case ack => exact fun p s c => execRelAckDelay_of_due
  case limit => exact fun p q s c t hc ht hactive hsent hlimit => next_drain_congr (State.resendTx_of_limit hc ht hactive hsent hlimit)
  case resend =>
    exact fun p q s c t o u hc ht hactive hsent hbelow hcand hu ho huc =>
      next_drain_congr (State.resendTx_of_op hc ht hactive hsent hbelow hcand hu ho huc)
  case entry => exact fun s hnone => next_drain_congr (State.retryChans_of_none hnone)
  case sendHalf => exact fun p s c hc hretired hused hops => next_drain_congr (State.txReset_of_no_ops hc hretired hused hops)
  case receiveHalf =>
    intro p s c u hc hused _ hu hmsgs
    subst hu
    exact next_drain_congr (congrArg State.retryChans (State.rxReset_of_no_msgs hc hused hmsgs))
  case resp => exact fun p q s => rfl
  case refuse =>
    intro p q s c x k sq b pipe hc hx hentry
    exact execRefuseHoldExpire_of_refused hc hx (congrArg RxEnt.hold hentry)
  case parkEnd => exact fun n slot s id j => execParkTimeout_of_parked
  case suspend => exact fun p q s c t => execSuspendLimitExpire_of_suspended

end Sys2Proof.Machine

/-! ## Whole-machine statements: every step answers a next state, and only the ends of fuse and flash commands change fuses and flash -/

namespace Sys2Proof.Machine

/-- What a command that answers `t` does to the queue, the fuses and the flash: nothing, or what the end of a fuse command or of a flash
command does. -/
theorem exec_cases {c : Instr} {s t : State} (h : exec c s = .next t) :
    t.fixed = s.fixed ∨ (∃ b, c = .fuseCmdDone b ∧ FuseStep s t) ∨ ∃ b, c = .flashCmdDone b ∧ FlashStep s t := by
  by_cases hfuse : ∃ b, c = .fuseCmdDone b
  · obtain ⟨b, rfl⟩ := hfuse
    obtain ⟨t', ht', hstep⟩ := execFuseCmdDone_step b s
    obtain rfl : t' = t := Host.Outcome.next.inj (ht'.symm.trans h)
    exact .inr (.inl ⟨b, rfl, hstep⟩)
  by_cases hflash : ∃ b, c = .flashCmdDone b
  · obtain ⟨b, rfl⟩ := hflash
    obtain ⟨t', ht', hstep⟩ := execFlashCmdDone_step b s
    obtain rfl : t' = t := Host.Outcome.next.inj (ht'.symm.trans h)
    exact .inr (.inr ⟨b, rfl, hstep⟩)
  have hfixed := exec_fixed c s (fun b e => hfuse ⟨b, e⟩) (fun b e => hflash ⟨b, e⟩)
  rw [h, outFixed_next] at hfixed
  exact .inl (Option.some.inj hfixed)

/-- A step takes the first command from the queue or leaves the queue as it is; from there it keeps what the end of a fuse command or
that of a flash command keeps. -/
theorem step_cases {s t : State} (h : step s = .next t) :
    ∃ q, FuseStep { s with pending := q } t ∨ FlashStep { s with pending := q } t := by
  unfold step at h
  split at h
  case h_1 =>
    obtain rfl := Host.Outcome.next.inj h
    exact ⟨s.pending, .inl (.of_fixed s.idleTick_fixed)⟩
  case h_2 c rest _ =>
    refine ⟨rest, ?_⟩
    obtain hsame | ⟨_, _, hfuse⟩ | ⟨_, _, hflash⟩ := exec_cases h
    · exact .inl (.of_fixed hsame)
    · exact .inl hfuse
    · exact .inr hflash

/-- Settles O41: the end of a fuse command only programs, revokes and raises, and nothing else touches a fuse. -/
theorem noStepUndoesAFuse : Obligations.NoStepUndoesAFuse := by
  unfold Obligations.NoStepUndoesAFuse
  intro s t hstep
  obtain ⟨_, hfuse | hflash⟩ := step_cases hstep
  · exact ⟨hfuse.prog, hfuse.revoked, hfuse.svn⟩
  · rw [hflash.slots, hflash.svn]
    exact ⟨fun i hi => ⟨hi, rfl⟩, fun i hi => hi, fun i => Nat.le_refl _⟩

/-- Settles O42: each of the three stores is written by `mput` alone, which keeps the form. -/
theorem everyStepKeepsTheCanonicalForm : Obligations.EveryStepKeepsTheCanonicalForm := by
  unfold Obligations.EveryStepKeepsTheCanonicalForm
  rintro s t ⟨hslots, hsvn, hbytes⟩ hstep
  obtain ⟨_, hfuse | hflash⟩ := step_cases hstep
  · exact ⟨hfuse.slotsWf hslots, hfuse.svnWf hsvn, hfuse.flash.symm ▸ hbytes⟩
  · exact ⟨hflash.slots.symm ▸ hslots, hflash.svn.symm ▸ hsvn, hflash.flashWf hbytes⟩

/-- Settles O40: a command that is not the end of a fuse command leaves the fuses alone even where it is the end of a flash command,
and the other way round. -/
theorem onlyTheirCommandsChangeFusesAndFlash : Obligations.OnlyTheirCommandsChangeFusesAndFlash := by
  unfold Obligations.OnlyTheirCommandsChangeFusesAndFlash
  constructor
  · intro c s t hexec hother
    obtain hsame | ⟨b, hc, _⟩ | ⟨_, _, hflash⟩ := exec_cases hexec
    · exact ⟨congrArg (·.2.1) hsame, congrArg (·.2.2.1) hsame⟩
    · exact absurd hc (hother b)
    · exact ⟨hflash.slots, hflash.svn⟩
  · intro c s t hexec hother
    obtain hsame | ⟨_, _, hfuse⟩ | ⟨b, hc, _⟩ := exec_cases hexec
    · exact congrArg (·.2.2.2) hsame
    · exact hfuse.flash
    · exact absurd hc (hother b)

theorem step_goes (s : State) : Safety.Goes s := by
  unfold Safety.Goes step
  split
  case h_1 => exact ⟨_, rfl⟩
  case h_2 c rest _ =>
    obtain ⟨t, ht, _⟩ := exec_next c { s with pending := rest }
    exact ⟨t, ht⟩

/-- Settles O39: each command answers a next state, and a run is a step and the rest of the run. -/
theorem everyCommandAnswersANextState : Obligations.EveryCommandAnswersANextState := by
  unfold Obligations.EveryCommandAnswersANextState
  refine ⟨exec_next, step_goes, fun n => ?_⟩
  induction n with
  | zero => exact fun s => trivial
  | succ n ih =>
    intro s
    obtain ⟨t, ht⟩ := step_goes s
    exact ⟨t, ht, ih t⟩

/-- Settles O37: `step` looks at the queue alone to choose its command. -/
theorem aStepRunsTheFrontCommand : Obligations.AStepRunsTheFrontCommand := by
  unfold Obligations.AStepRunsTheFrontCommand
  constructor
  · intro c rest s hqueue
    simp only [step, hqueue]
  · exact fun c s => rfl

/-! ### The memories' canonical form at reset (log 1), and what is read after a write (R401, R552; log 20) -/

/-- Settles O43: that fuses, flash and HBM list nothing at reset is the model's choice of log 1. -/
theorem resetHasTheCanonicalForm : Obligations.ResetHasTheCanonicalForm := by
  unfold Obligations.ResetHasTheCanonicalForm
  exact ⟨⟨rfl, rfl, rfl⟩, reset_mem_wf, rfl⟩

/-- Settles O44: that HBM reads 0 where nothing has written it is the model's choice of log 20. -/
theorem memoriesReadAsWritten : Obligations.MemoriesReadAsWritten := by
  unfold Obligations.MemoriesReadAsWritten
  exact ⟨State.hbmPut_get, State.flashPut_get, State.hbmPut_wf, State.flashPut_wf⟩

end Sys2Proof.Machine

/-! ## Address translation: walks, invalidations and the table aperture; malformed entries -/

namespace Sys2Proof.Machine

/-! ### The read of a walk (R381, R384) -/

section
variable {n i : Nat} {s u : State} {w : Walk} {b : List Byte} {p : W64}
  (hw : (s.xlt n).walks[i]? = some w) (hhbm : w.table + 8 * (w.va / 2 ^ (12 + 9 * w.level) % 512) < hbmBytes)
  (harmed : s.armed F.XLT_INJECT_WALK_ERR n = false)
  (hread : s.memRead (w.table + 8 * (w.va / 2 ^ (12 + 9 * w.level) % 512)) 8 = (some b, u)) (hp : p = BitVec.ofNat 64 (leNat b))
  (hvalid : pteBit p 0 = true) (hformed : pteMalformed p w.level = false)
include hw hhbm harmed hread hp hvalid hformed

/-- A walk that reads a leaf ends: the leaf is cached, and the walk's jobs meet it. -/
theorem State.walkStep_of_leaf (hleaf : pteLeaf p = true) :
    s.walkStep n i = ((u.setXlt n { u.xlt n with walks := (u.xlt n).walks.eraseIdx i }).fillLeaf n
      { space := w.space, level := w.level, vpn := w.va / pageSize w.level, pte := p }).walkLeaf n w p := by
  simp only [State.walkStep, hw, Nat.not_le.mpr hhbm, harmed, hread, ← hp, hvalid, hformed, hleaf, not_true_eq_false, Bool.false_eq_true,
    if_true, if_false]

/-- A walk that reads a non-leaf goes on a level lower, in the table that the entry names. -/
theorem State.walkStep_of_table (hleaf : pteLeaf p = false) :
    s.walkStep n i = (u.setXlt n { u.xlt n with walks := (u.xlt n).walks.set i { w with
        level := w.level - 1,
        table := ptePpn p * 4096 } }).fillWalk n
      { space := w.space, level := w.level - 1, pre := w.va / 2 ^ (12 + 9 * w.level), table := ptePpn p * 4096 } := by
  simp only [State.walkStep, hw, Nat.not_le.mpr hhbm, harmed, hread, ← hp, hvalid, hformed, hleaf, not_true_eq_false, Bool.false_eq_true,
    if_false]

end

theorem execLocalTimeoutExpire_of_held {tag : Fin 65536} {s : State} {id : Nat} {j : Job}
    (hheld : s.ep.job.find? (fun (e : Nat × Job) => e.2.fault.isSome && decide (e.2.who.tag = some tag.val)) = some (id, j)) :
    execLocalTimeoutExpire tag s = .next ((s.localTimeout j tag).tellJob id .unresolved).drain := by
  simp only [execLocalTimeoutExpire, hheld]

/-! ### Invalidations (R392–R394) -/

theorem execXltInvStart_of_busy {n : Fin 32} {s : State} (hbusy : s.flag F.XLT_INV_CTRL_BUSY n = true) :
    execXltInvStart n s = .next (s.xltRaise n 0x06 (s.fld F.XLT_INV_CTRL_SPACE n)) :=
  if_pos hbusy

/-- A free unit issues the invalidation that its registers describe, at the scope asked for where the pages are not too many. -/
theorem execXltInvStart_of_free {n : Fin 32} {s : State} (hfree : s.flag F.XLT_INV_CTRL_BUSY n = false)
    (hpages : s.fld F.XLT_INV_PAGES_COUNT n ≤ 2 ^ 20) :
    execXltInvStart n s = .next (s.invIssue n
      { scope := min 2 (s.fld F.XLT_INV_CTRL_SCOPE n)
        space := s.fld F.XLT_INV_CTRL_SPACE n
        va := s.fld F.XLT_INV_ADDR_ADDR n / 4096 * 4096
        pages := max 1 (s.fld F.XLT_INV_PAGES_COUNT n)
        resume := s.flag F.XLT_INV_CTRL_RESUME n
        abandon := s.flag F.XLT_INV_CTRL_ABANDON n }) := by
  simp only [execXltInvStart, hfree, Nat.not_lt.mpr hpages, and_false, Bool.false_eq_true, if_false]

/-- A ready invalidation that no command waits for and none waits behind retries its held work, and is counted. -/
theorem State.invDone_of_last {n : Nat} {s w : State} {v : Inval} (hv : (s.xlt n).inv = some v) (hready : s.invReady v = true)
    (hspace : v.spaceSet = false) (htag : v.tag = none)
    (hw : w = ((s.invRetry v).setXlt n { (s.invRetry v).xlt n with inv := none }).setFld F.XLT_INV_CTRL_BUSY 0 n)
    (hlast : ((w.setFld F.XLT_INV_SEQ_COUNT (w.fld F.XLT_INV_SEQ_COUNT n + 1) n).xlt n).invQ = []) :
    s.invDone n = w.setFld F.XLT_INV_SEQ_COUNT (w.fld F.XLT_INV_SEQ_COUNT n + 1) n := by
  simp only [State.invDone, hv, hready, hspace, htag, ← hw, hlast, not_true_eq_false, Bool.false_eq_true, if_false]

/-! ### The table aperture (R396) -/

theorem execPteStore_of_aperture {ag : Agent} {n : Fin 32} {hi lo : W32} {s u : State}
    (hstaged : s.takeStaged ag (F.XLT_PTE_DATA_DATA.addr n 0) = (lo, u)) (hok : apertureOk (s.fld F.XLT_PTE_ADDR_ADDR n) = true) :
    execPteStore ag n hi s = .next (u.memWrite (s.fld F.XLT_PTE_ADDR_ADDR n) (leBytes 4 lo.toNat ++ leBytes 4 hi.toNat)) := by
  simp only [execPteStore, hstaged, hok, if_true]

/-- A 64-bit pair written whole reads as what was written. -/
theorem State.rd64_wr64_self (s : State) (a : Nat) (v : W64) : (s.wr64 a v).rd64 a = v := by
  have hlow : (s.wr64 a v).rd a = v.setWidth 32 := by
    rw [State.wr64, State.rd_wr_ne _ _ (by omega), State.rd_wr_self]
  have hhigh : (s.wr64 a v).rd (a + 4) = (v >>> 32).setWidth 32 := State.rd_wr_self ..
  apply BitVec.eq_of_toNat_eq
  simp only [State.rd64, hlow, hhigh, BitVec.toNat_ofNat, BitVec.toNat_setWidth, BitVec.toNat_ushiftRight, Nat.shiftRight_eq_div_pow]
  have hv := v.isLt
  omega

/-- The pair at an address shows a value, whose high word is latched for the agent that read the low one (R10). -/
def State.showPair (s : State) (ag : Agent) (a v : Nat) : State :=
  { s.wr64 a (BitVec.ofNat 64 v) with
    regs := { (s.wr64 a (BitVec.ofNat 64 v)).regs with
      latch := minsert (s.wr64 a (BitVec.ofNat 64 v)).regs.latch ag.key (a + 4, BitVec.ofNat 32 (v / 2 ^ 32)) } }

theorem State.rd64_showPair (s : State) (ag : Agent) (a v : Nat) : (s.showPair ag a v).rd64 a = BitVec.ofNat 64 v :=
  s.rd64_wr64_self a _

theorem State.latch_showPair (s : State) (ag : Agent) (a v : Nat) :
    mfind (s.showPair ag a v).regs.latch ag.key = some (a + 4, BitVec.ofNat 32 (v / 2 ^ 32)) :=
  mfind_minsert_self ..

theorem execPteDataRead_of_read {ag : Agent} {n : Fin 32} {s u : State} {b : List Byte}
    (hok : apertureOk (s.fld F.XLT_PTE_ADDR_ADDR n) = true) (hread : s.memRead (s.fld F.XLT_PTE_ADDR_ADDR n) 8 = (some b, u)) :
    execPteDataRead ag n s = .next (u.showPair ag (F.XLT_PTE_DATA_DATA.addr n 0) (leNat b)) := by
  simp only [execPteDataRead, hok, hread, if_true, State.showPair]

/-- Settles O22: each clause is the branch that its command takes under the clause's hypotheses. That a held access is given up by its
timer's command alone is the model's choice of log 10. -/
theorem translationActs : Obligations.TranslationActs := by
  unfold Obligations.TranslationActs
  refine ⟨?walk, ?givenUp, ?start, ?complete, ?store, ?read⟩
  case walk =>
    intro n i s w a u v b p hw ha hhbm harmed hread hp hvalid hformed hv
    subst ha hv
    exact ⟨fun hleaf => next_drain_congr (State.walkStep_of_leaf hw hhbm harmed hread hp hvalid hformed hleaf),
      fun hleaf => next_drain_congr (State.walkStep_of_table hw hhbm harmed hread hp hvalid hformed hleaf)⟩
  case givenUp => exact fun tag s id j => execLocalTimeoutExpire_of_held
  case start => exact fun n s => ⟨execXltInvStart_of_busy, execXltInvStart_of_free⟩
  case complete =>
    intro n s v u w hv hready hspace htag hu hw hlast
    subst hu
    exact next_drain_congr (State.invDone_of_last hv hready hspace htag hw hlast)
  case store => exact fun ag n hi s lo u => execPteStore_of_aperture
  case read =>
    intro ag n s b u hok hread
    exact ⟨_, execPteDataRead_of_read hok hread, State.rd64_showPair .., State.latch_showPair ..⟩

/-! ### Malformed entries (R379, Table 1) -/

theorem bits_eq_toNat_extractLsb' {n : Nat} (x : BitVec n) (lo w : Nat) : bits x lo w = (x.extractLsb' lo w).toNat :=
  (BitVec.extractLsb'_toNat ..).symm

theorem bits_ne_zero_iff {n : Nat} (x : BitVec n) (lo w : Nat) : bits x lo w ≠ 0 ↔ x.extractLsb' lo w ≠ 0#w := by
  rw [bits_eq_toNat_extractLsb', ne_eq, ne_eq, ← BitVec.toNat_inj, BitVec.toNat_ofNat, Nat.zero_mod]

/-- Settles O48: the rows of Table 1 that hold for every entry, and those of the entry's own kind, a leaf's or a non-leaf's. -/
theorem malformedEntries : Obligations.MalformedEntries := by
  unfold Obligations.MalformedEntries
  intro p level
  have hkind : pteLeaf p = (p.getLsbD 1 || p.getLsbD 2 || p.getLsbD 3) := rfl
  have hppn : ptePpn p = (p.extractLsb' 10 44).toNat := bits_eq_toNat_extractLsb' p 10 44
  rw [pteMalformed, ptePort, hppn, ← hkind, Bool.or_eq_true, Bool.or_eq_true, Bool.and_eq_true, Bool.not_eq_true', decide_eq_true_iff,
    bits_ne_zero_iff, or_assoc]
  refine or_congr_right (or_congr_right ?_)
  cases pteLeaf p with
  | true => simp
  | false => simp [bits_ne_zero_iff, pteBit, bitAt, or_assoc]

end Sys2Proof.Machine

/-! ## Engines: a hart's instruction, what it computes, and resets -/

namespace Sys2Proof.Machine

/-! ### The command of a fetched instruction (R400, R404, R405, R407, R414, R416, R418, R423, R432, R433, R435, R437, R438) -/

/-- A hart that may run, with no interrupt to take and no register-file error injected, carries out a fetched instruction of the
command's class. -/
theorem State.hartRun_of_fetched {s t : State} {h : Nat} {k : Cls} {w : W32} (hrun : s.canRun h = true) (hirq : s.irqOf h = none)
    (hfetch : s.fetch32 h = (.ok w, t)) (hcls : t.clsOf h (decodeRv w) = k) (harmed : t.armed F.ENG_INJECT_STATE_ECC (clusterOf h) = false) :
    s.hartRun h k = ((t.doInstr h (decodeRv w) w).invoke h).drain := by
  simp only [State.hartRun, hrun, hirq, hfetch, hcls, harmed, ne_eq, not_true_eq_false, Bool.false_eq_true, if_false]

/-- The command runs the hart's next instruction where it is of class `k`, and does nothing else. -/
def RunsHart (h : Nat) (i : Instr) (k : Cls) : Prop := ∀ s, exec i s = .next (s.hartRun h k)

theorem runsHart_of_mem {h : Nat} {L : List (Instr × Cls)} (hall : L.Forall fun e => RunsHart h e.1 e.2) {i : Instr} {k : Cls}
    (hmem : (i, k) ∈ L) : RunsHart h i k :=
  List.forall_iff_forall_mem.mp hall _ hmem

/-- Settles O23: each command of the list runs the hart's next instruction for its own class. -/
theorem hartInstructionsRun : Obligations.HartInstructionsRun := by
  unfold Obligations.HartInstructionsRun
  intro h i k hmem s t w hrun hirq hfetch hcls harmed
  have hruns : RunsHart h i k := by
    refine runsHart_of_mem ?_ hmem
    simp only [List.Forall]
    and_intros
    all_goals exact fun _ => rfl
  rw [hruns s, State.hartRun_of_fetched hrun hirq hfetch hcls harmed]

/-! ### Results, traps and returns (R400, R416, R418, R419; log 30) -/

theorem State.doHret_of_frame {s : State} {h : Nat} {f : HFrame} {rest : List HFrame} (w : W32) (hframes : (s.hart h).frames = f :: rest)
    (hpriv : (s.hart h).priv ≠ 0) : s.doHret h w = s.setHart h { (s.hart h).retire f.pc with
      priv := f.priv,
      frames := rest,
      run := if rest = [] then 0 else f.prio } := by
  simp only [State.doHret, hframes, if_neg hpriv]

/-- A hart in M mode that takes an exception: pc, cause, status and trap value are saved, and it goes to the trap vector. -/
def Hart.trapped (x : Hart) (cause : Nat) (tval : W64) : Hart :=
  { ((((x.setC CSR.mstatus (setBits (setBits (setBits (x.c CSR.mstatus) 7 1 (bits (x.c CSR.mstatus) 3 1)) 3 1 0) 11 2 x.priv)).setC 0x341
        x.pc).setC 0x342 (BitVec.ofNat 64 cause)).setC 0x343 tval) with
    resv := none, wait := none, priv := 3, pc := x.c 0x305 &&& ~~~3#64 }

theorem State.exc_of_machine {s : State} {h : Nat} (cause : Nat) (tval : W64) (hpriv : (s.hart h).priv = 3) :
    s.exc h cause tval = s.setHart h ((s.hart h).trapped cause tval) := by
  have hmode : ¬ ((s.hart h).priv ≤ 1 ∧ bitAt ((s.hart h).c CSR.medeleg) cause = true) := by omega
  simp only [State.exc, State.trap, Bool.false_eq_true, false_and, if_false, add_zero]
  exact if_neg hmode

theorem Hart.trapped_mepc (x : Hart) (cause : Nat) (tval : W64) : (x.trapped cause tval).c 0x341 = x.pc :=
  (Hart.c_setC_ne _ _ (by decide)).trans ((Hart.c_setC_ne _ _ (by decide)).trans (Hart.c_setC_self ..))

theorem Hart.trapped_mcause (x : Hart) (cause : Nat) (tval : W64) : (x.trapped cause tval).c 0x342 = BitVec.ofNat 64 cause :=
  (Hart.c_setC_ne _ _ (by decide)).trans (Hart.c_setC_self ..)

/-- A hart's record is read back but for the issue slots that it hands to its cluster. -/
theorem State.hart_setHart_c (s : State) (h : Nat) (x : Hart) (a : Nat) : ((s.setHart h x).hart h).c a = x.c a := by
  rw [State.hart_setHart_self]
  rfl

theorem State.doInstr_ecall_of_machine {s : State} {h : Nat} (w : W32) (hpriv : (s.hart h).priv = 3) :
    s.doInstr h .ecall w = s.setHart h ((s.hart h).trapped 11 0) :=
  (congrArg (s.exc h · 0) (if_pos hpriv)).trans (State.exc_of_machine 11 0 hpriv)

theorem State.doInstr_mret_of_machine {s : State} {h : Nat} (w : W32) (hpriv : (s.hart h).priv = 3) :
    s.doInstr h .mret w = s.trapRet h true :=
  if_pos hpriv

theorem State.hart_trapRet_pc (s : State) (h : Nat) : ((s.trapRet h true).hart h).pc = (s.hart h).c 0x341 := by
  simp only [State.trapRet, State.hart_setHart_self, Hart.retire_pc, if_true]

theorem State.hart_trapRet_priv (s : State) (h : Nat) : ((s.trapRet h true).hart h).priv = bits ((s.hart h).c CSR.mstatus) 11 2 := by
  simp only [State.trapRet, State.hart_setHart_self, if_true]

/-- Settles O24. That the base instructions, traps and MRET compute what the RISC-V specification gives them is the model's choice of
log 30. -/
theorem instructionsCompute : Obligations.InstructionsCompute := by
  unfold Obligations.InstructionsCompute
  refine ⟨?results, ?ecall, ?mret, ?registers⟩
  case results =>
    intro s h w x npc hx hnpc
    subst hx hnpc
    refine ⟨?lui, ?alu, ?alui, ?jal, ?jalr, ?branch, ?evsig, ?hret⟩
    case lui => exact fun rd imm => rfl
    case alu => exact fun op rd r1 r2 => rfl
    case alui => exact fun op rd r1 imm => rfl
    case jal => exact fun rd off => rfl
    case jalr => exact fun rd r1 off => rfl
    case branch => exact fun c r1 r2 off => rfl
    case evsig => exact fun r1 r2 => rfl
    case hret => exact fun f rest => State.doHret_of_frame w
  case ecall =>
    intro s h w hpriv
    refine ⟨_, State.doInstr_ecall_of_machine w hpriv, ?_, ?_, ?_⟩
    · rw [State.hart_setHart_c, Hart.trapped_mepc]
    · rw [State.hart_setHart_c, Hart.trapped_mcause]
      rfl
    · rw [State.hart_setHart_self]
      exact ⟨rfl, rfl, rfl⟩
  case mret =>
    intro s h w hpriv
    rw [State.doInstr_mret_of_machine w hpriv]
    exact ⟨s.hart_trapRet_pc h, s.hart_trapRet_priv h⟩
  case registers => exact fun x v r => ⟨x.wx_zero v, rfl, x.rx_wx_self v, fun q => x.rx_wx_ne v⟩

/-! ### Resets and the run switch (R416, R420, R421, R424; log 10) -/

theorem execFtcmpEvent_of_reached {h : Fin 4096} {s : State} (hnew : (s.hart h).ftDone = false)
    (hreached : ((s.hart h).c CSR.ftcmp).toNat ≤ s.ftime) :
    execFtcmpEvent h s = .next ((s.setHart h { s.hart h with ftDone := true }).signal h 32) := by
  have hdue : ¬ (s.hart h).ftDone = true ∧ ((s.hart h).c CSR.ftcmp).toNat ≤ s.ftime := ⟨by simp [hnew], hreached⟩
  exact if_pos hdue

/-- With no reset in progress and no stall injected, a warm reset begins. -/
theorem State.rstCtrl_warm {s : State} {c kind : Nat} (hart : Nat) (hkind : kind = 1 ∨ kind = 2) (hfree : s.creset c = none)
    (harmed : s.armed F.ENG_INJECT_DRAIN_STALL c = false) :
    s.rstCtrl c kind hart = s.beginReset c { kind := kind, hart := hart, stall := false } := by
  have hreal : kind ≠ 0 := by omega
  have hwarm : kind ≠ 3 := by omega
  simp only [State.rstCtrl, if_neg hreal, hfree, Option.isSome_none, if_neg hwarm, harmed, Bool.false_eq_true, if_false]

theorem State.rstCtrl_fault {s : State} {c : Nat} (hfree : s.creset c = none) : s.rstCtrl c 3 0 = s.beginFault c := by
  simp only [State.rstCtrl, hfree, Option.isSome_none, Bool.false_eq_true, OfNat.ofNat_ne_zero, if_true, if_false]

theorem execResetDrainDone_of_drained {c : Fin 32} {s : State} {r : CReset} (hreset : s.creset c = some r)
    (hdrained : s.resetDrained c r = true) : execResetDrainDone c s = .next (s.endReset c r).drain := by
  simp only [execResetDrainDone, hreset, if_pos hdrained]

theorem execDrainTimeout_of_warm {c : Fin 32} {s : State} {r : CReset} (hreset : s.creset c = some r) (hwarm : r.kind ≠ 3) :
    execDrainTimeout c s =
      .next ((s.raise (352 + 2 * c) 0x03 (if r.kind = 1 then r.hart else 0x7F)).beginFault c).drain := by
  simp only [execDrainTimeout, hreset, if_neg hwarm]

/-- Where no hart of the word ran, each bit written 1 starts its hart, and no hart stops. -/
theorem State.hartRunWrite_of_stopped {s : State} {c i : Nat} {v : W32} (hold : s.fld F.ENG_HART_RUN_RUN c i = 0) :
    s.hartRunWrite c i v = (((List.range 32).filter (fun j => v.getLsbD j)).foldl (fun s j => s.startHart (128 * c + 32 * i + j))
      ((s.setFld F.ENG_HART_RUN_RUN v.toNat c i).wake (Dom.cluster c))).showCluster c := by
  simp only [State.hartRunWrite, hold, Nat.zero_testBit, Bool.false_eq_true, not_false_eq_true, true_or, if_true, if_false, ite_not,
    List.foldl_filter]

/-- Settles O25: each clause is the branch that its command takes under the clause's hypotheses. That a drain's timer ends by the
command alone is the model's choice of log 10, and that HART_RUN starts a hart after its reset at RESET_PC that of log 50. -/
theorem enginesResetAndRun : Obligations.EnginesResetAndRun := by
  unfold Obligations.EnginesResetAndRun
  refine ⟨?event, ?begin, ?drained, ?timeout, ?run⟩
  case event => exact fun h s => execFtcmpEvent_of_reached
  case begin =>
    intro c hart s hfree harmed
    exact ⟨next_drain_congr (State.rstCtrl_warm hart (.inl rfl) hfree harmed), next_drain_congr (State.rstCtrl_warm 0 (.inr rfl) hfree harmed),
      next_drain_congr (State.rstCtrl_fault hfree)⟩
  case drained => exact fun c s r => execResetDrainDone_of_drained
  case timeout => exact fun c s r => execDrainTimeout_of_warm
  case run =>
    intro c i v s u hold hu
    subst hu
    exact next_drain_congr (State.hartRunWrite_of_stopped hold)

end Sys2Proof.Machine

/-! ## The memory system: coherence messages; poison, locks' marks, scrubbing and self-refresh -/

namespace Sys2Proof.Machine

/-! ### An agent's asks (R427–R430) -/

theorem State.askFetch_of_missing {s u : State} {c l w : Nat} (excl : Bool) (hst : (s.l2 c l).st = .i) (hlive : (s.l2 c l).retiring = false)
    (hway : s.chooseWay c l = (w, u)) :
    s.askFetch c l excl = (u.setL2 c l { way := w }).ask l { code := if excl then .fetchEx else .fetchSh, agent := c, way := w } := by
  simp only [State.askFetch, hst, hlive, hway, ne_eq, not_true_eq_false, Bool.false_eq_true, or_self, if_false]

theorem execPromote_of_shared {c : Fin 32} {l : Fin hbmLines} {s : State} (hst : (s.l2 c l).st = .s ∨ (s.l2 c l).st = .o)
    (hlive : (s.l2 c l).retiring = false) :
    execPromote c l s = .next (s.ask l { code := .promote, agent := c, way := (s.l2 c l).way }) :=
  if_pos ⟨hst, by simp [hlive]⟩

theorem execRetire_of_dirty {c : Fin 32} {l : Fin hbmLines} {s : State} (hst : (s.l2 c l).st = .m ∨ (s.l2 c l).st = .o)
    (hlive : (s.l2 c l).retiring = false) :
    execRetire c l s =
      .next (((s.dropResv c l).setL2 c l { s.l2 c l with retiring := true }).ask l { code := .retire, agent := c }) :=
  if_pos ⟨hst, by simp [hlive]⟩

/-- Bytes that end within their line are asked to be written whole. -/
theorem execIoWrite_of_fits {p : Fin 64} {l : Fin hbmLines} {off : Fin 64} {d : List Byte} (s : State) (hfits : d.length + off.val ≤ 64) :
    execIoWrite p l off d s = .next (s.ask l { code := .ioWrite, agent := 32 + p, off := off, data := d }) := by
  have hwhole : d.take (64 - off.val) = d := List.take_of_length_le (by omega)
  rw [execIoWrite, hwhole]

/-! ### Delivery of the oldest message of an agent and a line (R428–R431) -/

section
variable {s : State} {agent line n : Nat} {m : CMsg}
  (holdest : s.eng.net.findIdx? (fun m => decide (m.agent = agent) && decide (m.line = line)) = some n) (hm : s.eng.net[n]? = some m)
include holdest hm

theorem State.deliverMsg_of_fill (hcode : m.code ∈ [CCode.fill, .grant]) :
    s.deliverMsg m.code agent line = (s.setEng { s.eng with net := s.eng.net.eraseIdx n }).takeFill m := by
  simp only [List.mem_cons, List.not_mem_nil, or_false] at hcode
  obtain hk | hk := hcode <;> simp [State.deliverMsg, holdest, hm, hk]

/-- A probe of a line whose reservations defer none is taken. -/
theorem State.deliverMsg_of_probe (hcode : m.code ∈ [CCode.probeSh, .probeEx, .probeKill]) (hfree : s.deferred agent line = false) :
    s.deliverMsg m.code agent line = (s.setEng { s.eng with net := s.eng.net.eraseIdx n }).takeProbe m := by
  simp only [List.mem_cons, List.not_mem_nil, or_false] at hcode
  obtain hk | hk | hk := hcode <;> simp [State.deliverMsg, holdest, hm, hk, hfree]

theorem State.deliverMsg_of_answer (hcode : m.code ∈ [CCode.none, .ack, .clean, .dirty]) :
    s.deliverMsg m.code agent line = (s.setEng { s.eng with net := s.eng.net.eraseIdx n }).takeAnswer m := by
  simp only [List.mem_cons, List.not_mem_nil, or_false] at hcode
  obtain hk | hk | hk | hk := hcode <;> simp [State.deliverMsg, holdest, hm, hk]

end

/-- The command delivers the oldest message of an agent and a line where its code is `k`, one of some codes, and does nothing else. -/
structure Delivers (agent line : Nat) (codes : List CCode) (i : Instr) (k : CCode) : Prop where
  code_mem : k ∈ codes
  exec_eq : ∀ s, exec i s = .next (s.deliverMsg k agent line)

theorem delivers_of_mem {agent line : Nat} {codes : List CCode} {L : List (Instr × CCode)}
    (hall : L.Forall fun e => Delivers agent line codes e.1 e.2) {i : Instr} {k : CCode} (hmem : (i, k) ∈ L) : Delivers agent line codes i k :=
  List.forall_iff_forall_mem.mp hall _ hmem

theorem execReservationDeferEnd_of_reserved {h : Fin 4096} {s : State} {l : Nat} {b : Bool} (hresv : (s.hart h).resv = some (l, b)) :
    execReservationDeferEnd h s = .next (s.setHart h { s.hart h with resv := some (l, false) }) := by
  simp only [execReservationDeferEnd, hresv]

/-- Settles O26: each clause is the branch that its command takes under the clause's hypotheses; a message's code says by which side it
is taken. -/
theorem memoryMessagesAreDelivered : Obligations.MemoryMessagesAreDelivered := by
  unfold Obligations.MemoryMessagesAreDelivered
  refine ⟨?fetch, ?promote, ?retire, ?ioRead, ?ioWrite, ?fill, ?probe, ?answer, ?defer⟩
  case fetch =>
    intro c l s w u hst hlive hway
    exact ⟨congrArg Host.Outcome.next (State.askFetch_of_missing false hst hlive hway),
      congrArg Host.Outcome.next (State.askFetch_of_missing true hst hlive hway)⟩
  case promote => exact fun c l s => execPromote_of_shared
  case retire => exact fun c l s => execRetire_of_dirty
  case ioRead => exact fun p l s => rfl
  case ioWrite => exact fun p l off d s => execIoWrite_of_fits s
  case fill =>
    intro l a i k s n m hmem holdest hm hk
    have hdelivers : Delivers a l [.fill, .grant] i k := by
      refine delivers_of_mem ?_ hmem
      simp only [List.Forall]
      and_intros
      all_goals exact ⟨by decide, fun _ => rfl⟩
    subst hk
    rw [hdelivers.exec_eq s, State.deliverMsg_of_fill holdest hm hdelivers.code_mem]
  case probe =>
    intro l c i k s n m hmem hfree holdest hm hk
    have hdelivers : Delivers c l [.probeSh, .probeEx, .probeKill] i k := by
      refine delivers_of_mem ?_ hmem
      simp only [List.Forall]
      and_intros
      all_goals exact ⟨by decide, fun _ => rfl⟩
    subst hk
    rw [hdelivers.exec_eq s, State.deliverMsg_of_probe holdest hm hdelivers.code_mem hfree]
  case answer =>
    intro l c i k s n m hmem holdest hm hk
    have hdelivers : Delivers c l [.none, .ack, .clean, .dirty] i k := by
      refine delivers_of_mem ?_ hmem
      simp only [List.Forall]
      and_intros
      all_goals exact ⟨by decide, fun _ => rfl⟩
    subst hk
    rw [hdelivers.exec_eq s, State.deliverMsg_of_answer holdest hm hdelivers.code_mem]
  case defer =>
    intro h s l b hresv
    exact ⟨_, execReservationDeferEnd_of_reserved hresv, by rw [State.hart_setHart_self]⟩

/-! ### Poison and scrubbing (R440, R441, R447, R448) -/

/-- POISON_ADDR names a line of the home's own, and no command of the home runs. -/
theorem State.poisonLine_of_own {s : State} {h l : Nat} (hl : l = s.fld F.HOM_POISON_ADDR_ADDR h / 64) (hhbm : l < hbmLines)
    (hhome : homeOf l = h) (hfree : s.fld F.HOM_POISON_CTRL_BUSY h = 0) : s.poisonLine h = some l := by
  subst hl
  exact if_pos ⟨hhbm, hhome, hfree⟩

section
variable {h : Fin 8} {s : State} {l : Nat} (hline : s.poisonLine h = some l)
include hline

theorem execPoisonCtrlMark_of_line : execPoisonCtrlMark h s = .next ((s.markPoison l).setFld F.HOM_POISON_CTRL_BUSY 1 h) := by
  simp only [execPoisonCtrlMark, hline, Option.elim_some]

theorem execPoisonCtrlClear_of_line : execPoisonCtrlClear h s =
    .next (((s.killCopies l).hbmWrite l (List.replicate 64 0#8) false).setFld F.HOM_POISON_CTRL_BUSY 1 h) := by
  simp only [execPoisonCtrlClear, hline, Option.elim_some]

end

theorem execLckClrGo_of_abandoned {s : State} {l : Lock} (hl : s.lock (s.fld F.LCK_CLR_ADDR_ADDR % 2 ^ 56) = some l)
    (hfree : l.holder = none) (habandoned : l.abandoned = true) :
    execLckClrGo s = .next (s.dropLock (s.fld F.LCK_CLR_ADDR_ADDR % 2 ^ 56)) := by
  simp only [execLckClrGo, State.lckClear, hl, hfree, habandoned, and_self, if_true]

/-- The scrub of a running stack's own line reads it, or corrects the error injected there. -/
theorem execHbmScrub_of_enabled {n : Fin 4} {l : Fin hbmLines} {s : State} (hen : s.flag F.HBM_CFG_SCRUB_EN n = true)
    (hstack : stackOf l = n) (hst : s.fld F.HBM_STATUS_STATE n = 1) :
    execHbmScrub n l s = if s.armed F.HBM_INJECT_CORR n = true then .next (((s.setArmed F.HBM_INJECT_CORR n false).count
      F.HBM_CNT_SCRUB_FIX_COUNT n).raise (432 + 4 * n + groupOf l) 0x02 (64 * l)) else .next (s.hbmRead l).2 := by
  simp only [execHbmScrub, hen, hstack, hst, ne_eq, not_true_eq_false, or_self, if_false]

/-! ### Self-refresh (R523) -/

theorem execSelfRefreshEntry_of_asleep {n : Fin 4} {s : State} (hasleep : ∀ d, d < 80 → (s.dom d).st = .asleep)
    (hst : s.fld F.HBM_STATUS_STATE n = 1) : execSelfRefreshEntry n s =
      .next (({ s with pwr := { s.pwr with hbmSr := mput false s.pwr.hbmSr n true } }).setFld F.HBM_STATUS_STATE 2 n) := by
  have hall : (List.range 80).all (fun d => decide ((s.dom d).st = .asleep)) = true :=
    List.all_eq_true.mpr fun d hd => decide_eq_true (hasleep d (List.mem_range.mp hd))
  exact if_pos ⟨hall, hst⟩

/-- A stack that has left self-refresh. -/
def State.refreshLeft (s : State) (n : Nat) : State :=
  { s with pwr := { s.pwr with hbmSr := mput false s.pwr.hbmSr n false, hbmSrExit := mput false s.pwr.hbmSrExit n false } }

theorem execSelfRefreshExit_of_refreshed {n : Fin 4} {s : State} (failed : Bool) (hsr : mget false s.pwr.hbmSr n = true) :
    execSelfRefreshExit n failed s = if failed = true
      then .next (((s.refreshLeft n).setFld F.HBM_STATUS_STATE 3 n).raise (432 + 4 * n.val) 0x03 3)
      else .next ((s.refreshLeft n).setFld F.HBM_STATUS_STATE 1 n) :=
  if_neg (by simp [hsr])

/-- A stack's STATE reads as written, and it is in self-refresh no more. -/
theorem State.refreshLeft_setFld (s : State) (n v : Nat) (hv : v < 2 ^ F.HBM_STATUS_STATE.w) :
    mget false ((s.refreshLeft n).setFld F.HBM_STATUS_STATE v n).pwr.hbmSr n = false ∧
      ((s.refreshLeft n).setFld F.HBM_STATUS_STATE v n).fld F.HBM_STATUS_STATE n = v := by
  rw [State.setFld_pwr, State.fld_setFld_self _ _ _ _ _ (by decide)]
  exact ⟨mget_mput_self false s.pwr.hbmSr n false, Nat.mod_eq_of_lt hv⟩

/-- Settles O27: each clause is the branch that its command takes under the clause's hypotheses, read back by the register and map laws. -/
theorem memoryIsMarkedScrubbedAndRefreshed : Obligations.MemoryIsMarkedScrubbedAndRefreshed := by
  unfold Obligations.MemoryIsMarkedScrubbedAndRefreshed
  refine ⟨?poison, ?poisonDone, ?lock, ?scrub, ?entry, ?exit, ?exitFailed⟩
  case poison =>
    intro h s l hl hhbm hhome hfree
    have hline := State.poisonLine_of_own hl hhbm hhome hfree
    exact ⟨execPoisonCtrlMark_of_line hline, execPoisonCtrlClear_of_line hline⟩
  case poisonDone => exact fun h s _ => ⟨_, rfl, State.fld_setFld_self _ _ _ _ _ (by decide)⟩
  case lock => exact fun s l => execLckClrGo_of_abandoned
  case scrub =>
    intro n l s hen hstack hst
    have hscrub := execHbmScrub_of_enabled hen hstack hst
    exact ⟨fun harmed => hscrub.trans (if_neg (ne_true_of_eq_false harmed)), fun harmed => hscrub.trans (if_pos harmed)⟩
  case entry =>
    intro n s hasleep hst
    refine ⟨_, execSelfRefreshEntry_of_asleep hasleep hst, ?_, State.fld_setFld_self _ _ _ _ _ (by decide)⟩
    rw [State.setFld_pwr]
    exact mget_mput_self false s.pwr.hbmSr n true
  case exit => exact fun n s hsr => ⟨_, execSelfRefreshExit_of_refreshed false hsr, s.refreshLeft_setFld n 1 (by decide)⟩
  case exitFailed => exact fun n s hsr => ⟨_, execSelfRefreshExit_of_refreshed true hsr, s.refreshLeft_setFld n 3 (by decide)⟩

end Sys2Proof.Machine

/-! ## Placement: scores, migration, hints and handlers -/

namespace Sys2Proof.Machine

/-! ### Migration (R459, R460; log 69) -/

theorem execMigrationCheck_of_enabled {s : State} (hen : s.flag F.PLC_CFG_MIG_EN = true) : execMigrationCheck s =
    .next (if s.balance.flag F.PLC_CFG_CONSOLIDATE_EN = true then (List.range 32).foldl State.consolidate s.balance else s.balance) :=
  if_neg (by simp [hen])

/-- A running context with no operation of an older epoch moves to a cluster that its hint allows. -/
theorem State.softMigrate_of_allowed {s u : State} {c cl : Nat} (hdisabled : (s.ctx c).state ≠ CS.disabled)
    (hresetting : (s.ctx c).state ≠ CS.resetting) (hu : u = (s.setFld F.PLC_MIG_STATUS_CONTEXT c).setFld F.PLC_MIG_STATUS_PENDING 0)
    (hallowed : cl ∈ allowedSet (u.hint c)) (hepoch : u.oldEpoch c = false) :
    s.softMigrate c cl = ((u.setFld F.PLC_MIG_STATUS_REFUSED 0).count F.PLC_CNT_MIG_SW_COUNT 0).migrate c cl := by
  subst hu
  simp only [State.softMigrate, hdisabled, hresetting, hallowed, hepoch, not_true_eq_false, Bool.false_eq_true, or_self, if_false]

theorem execMigrate_of_free {c : Fin 262144} {s : State} (cl : Fin 32) (hfree : s.flag F.PLC_MIG_STATUS_PENDING = false) :
    execMigrate c cl s = .next (s.softMigrate c cl) :=
  if_neg (by simp [hfree])

/-! ### Hints (R455, R456) -/

/-- A hint whose low word is staged takes both words, its high one without the reserved bits; its context moves where it may stay no
longer. -/
theorem execHintApply_of_staged {ag : Agent} {c : Fin 262144} {hi lo : W32} {s u : State}
    (hlo : mfind (mget [] s.regs.staged ag.key) (0x3000000 + 8 * c) = some lo)
    (hu : u = ((({ s with regs := { s.regs with staged := mput [] s.regs.staged ag.key (merase (mget [] s.regs.staged ag.key) (0x3000000 + 8 * c)) } } :
      State).wr (0x3000000 + 8 * c) lo).wr (0x3000000 + 8 * c + 4) (hi &&& 0xFFFC0000#32))) :
    execHintApply ag c hi s = if (u.ctx c).steered = true ∧ (u.ctx c).cluster ∉ allowedSet (u.hint c)
      then .next (u.softMigrate c (u.chooseCluster (allowedSet (u.hint c)))) else .next u := by
  subst hu
  simp only [execHintApply, hlo, Option.getD_some]

/-! ### Handlers (R457; logs 10 and 68) -/

theorem execHandlerDone_of_held {tag : Fin 65536} {s : State} {o : Op} (cancel : Bool) (ho : s.op tag = some o)
    (hheld : o.handler ∈ [1, 3, 4]) : execHandlerDone tag cancel s =
      if cancel = true then .next (s.finishOp tag 0x05 0 0 0).drain else .next (s.setOp tag { o with handler := 2 }).drain := by
  simp only [execHandlerDone, ho, hheld, not_true_eq_false, if_false]

theorem execHandlerTimeout_of_pushed {tag : Fin 65536} {s : State} {o : Op} (ho : s.op tag = some o) (hpushed : o.handler = 1 ∨ o.handler = 4) :
    execHandlerTimeout tag s =
      .next (((s.finishOp tag 0x05 0 0 0).count F.PLC_CNT_HTIMEOUT_COUNT 0).raise 688 0x03 (tag.val * 2 ^ 32 + o.ctx)).drain := by
  have hmem : o.handler ∈ [1, 4] := by simpa using hpushed
  simp only [execHandlerTimeout, ho, hmem, not_true_eq_false, if_false]

/-- Settles O28: each clause is the branch that its command takes under the clause's hypotheses. That scores rest on the occupancies
of the last sample is the model's choice of log 66, that a migration takes effect at its command that of log 69, that a handler is
done whose entry still waits for room the reading of log 68, and that a handler's timer ends by the command alone the choice of log 10. -/
theorem placementActs : Obligations.PlacementActs := by
  unfold Obligations.PlacementActs
  refine ⟨?sample, ?balance, ?consolidate, ?migrate, ?hint, ?done, ?timeout⟩
  case sample => exact fun s => rfl
  case balance =>
    intro s hen hoff
    exact (execMigrationCheck_of_enabled hen).trans (congrArg Host.Outcome.next (if_neg (ne_true_of_eq_false hoff)))
  case consolidate =>
    intro s hen hon
    exact (execMigrationCheck_of_enabled hen).trans (congrArg Host.Outcome.next (if_pos hon))
  case migrate =>
    intro c cl s u hfree hdisabled hresetting hu hallowed hepoch
    exact (execMigrate_of_free cl hfree).trans
      (congrArg Host.Outcome.next (State.softMigrate_of_allowed hdisabled hresetting hu hallowed hepoch))
  case hint =>
    intro ag c hi s lo u hlo hu
    have happly := execHintApply_of_staged (hi := hi) hlo hu
    constructor
    · intro hfirst
      exact happly.trans (if_neg fun ⟨hsteered, _⟩ => absurd hsteered (ne_true_of_eq_false hfirst))
    · exact fun hsteered hout => happly.trans (if_pos ⟨hsteered, hout⟩)
  case done =>
    intro tag s o ho hheld
    exact ⟨execHandlerDone_of_held true ho hheld, execHandlerDone_of_held false ho hheld⟩
  case timeout => exact fun tag s o => execHandlerTimeout_of_pushed

end Sys2Proof.Machine

/-! ## Scheduling and arbitration: the arbiter's choice, refills and warnings -/

namespace Sys2Proof.Machine

/-! ### The requestor granted (R487) -/

/-- The highest level of the requests present. -/
def State.rfaTop (s : State) (rs : List (Nat × RegReq)) : Nat := (rs.map (fun e => s.rfaPrio e.1)).foldl max 0

/-- The requests of the highest level. -/
def State.rfaHighest (s : State) (rs : List (Nat × RegReq)) : List (Nat × RegReq) :=
  rs.filter (fun e => decide (s.rfaPrio e.1 = s.rfaTop rs))

/-- The arbiter grants, of the requests of the highest level, the first after the last one granted there, or else the first. -/
theorem State.rfaWinner_eq (s : State) (rs : List (Nat × RegReq)) : s.rfaWinner rs = match mfind s.rfa.lastAt (s.rfaTop rs) with
    | none => (s.rfaHighest rs).head?
    | some l => ((s.rfaHighest rs).find? (fun e => decide (l < e.1))).or (s.rfaHighest rs).head? := by
  have hhighest : rs.filter (fun e => decide (s.rfaPrio e.1 = (rs.map (fun e => s.rfaPrio e.1)).foldl max 0)) = s.rfaHighest rs := rfl
  have htop : (rs.map (fun e => s.rfaPrio e.1)).foldl max 0 = s.rfaTop rs := rfl
  rw [State.rfaWinner, hhighest, htop]
  cases mfind s.rfa.lastAt (s.rfaTop rs) with
  | none => rfl
  | some l => cases hfind : (s.rfaHighest rs).find? (fun e => decide (l < e.1)) <;> simp [hfind]

theorem State.le_rfaTop (s : State) {rs : List (Nat × RegReq)} {e : Nat × RegReq} (he : e ∈ rs) : s.rfaPrio e.1 ≤ s.rfaTop rs := by
  rw [State.rfaTop, List.foldl_max]
  exact le_max_of_le_right (List.le_max?_getD_of_mem (List.mem_map_of_mem he))

theorem State.mem_rfaHighest {s : State} {rs : List (Nat × RegReq)} {e : Nat × RegReq} :
    e ∈ s.rfaHighest rs ↔ e ∈ rs ∧ s.rfaPrio e.1 = s.rfaTop rs := by
  rw [State.rfaHighest, List.mem_filter, decide_eq_true_iff]

section
variable {α : Type} {es : List (Nat × α)} {w : Nat × α} (hsorted : es.Pairwise (fun a b => a.1 < b.1))
include hsorted

/-- The first of a rising list has the least number. -/
theorem head?_lt_of_rising (hhead : es.head? = some w) {e : Nat × α} (he : e ∈ es) (hne : e.1 ≠ w.1) : w.1 < e.1 := by
  obtain ⟨rest, rfl⟩ := List.head?_eq_some_iff.mp hhead
  obtain rfl | hrest := List.mem_cons.mp he
  · exact absurd rfl hne
  · exact List.rel_of_pairwise_cons hsorted hrest

/-- The first of a rising list above a number is the least above it. -/
theorem find?_above_of_rising {l : Nat} (hfind : es.find? (fun e => decide (l < e.1)) = some w) :
    l < w.1 ∧ ∀ e ∈ es, e.1 ≠ w.1 → e.1 ≤ l ∨ w.1 < e.1 := by
  obtain ⟨hw, before, after, rfl, hbefore⟩ := List.find?_eq_some_iff_append.mp hfind
  refine ⟨of_decide_eq_true hw, fun e he hne => ?_⟩
  obtain hlow | hrest := List.mem_append.mp he
  · exact .inl (by simpa using hbefore e hlow)
  · exact .inr (head?_lt_of_rising (List.pairwise_append.mp hsorted).2.1 rfl hrest hne)

end

/-- The request granted is one of the highest level. -/
theorem State.rfaWinner_mem {s : State} {rs : List (Nat × RegReq)} {w : Nat × RegReq} (hwin : s.rfaWinner rs = some w) :
    w ∈ s.rfaHighest rs := by
  rw [State.rfaWinner_eq] at hwin
  split at hwin
  case h_1 => exact List.mem_of_head? hwin
  case h_2 =>
    obtain hfind | ⟨_, hhead⟩ := Option.or_eq_some_iff.mp hwin
    · exact List.mem_of_find?_eq_some hfind
    · exact List.mem_of_head? hhead

/-- Settles O46: of the requests of the highest level, which stand in rising order, the first above the last one granted is followed by
the higher ones and then, from the list's start, by those up to the last one granted. -/
theorem theArbiterGrantsTheHighestInTurn : Obligations.TheArbiterGrantsTheHighestInTurn := by
  unfold Obligations.TheArbiterGrantsTheHighestInTurn
  intro s rs r q hsorted hwin
  obtain ⟨hmem, htop⟩ := State.mem_rfaHighest.mp (State.rfaWinner_mem hwin)
  have hsortedHighest : (s.rfaHighest rs).Pairwise (fun a b => a.1 < b.1) := hsorted.filter _
  refine ⟨hmem, fun e he => htop ▸ s.le_rfaTop he, fun e he heq hne => ?_⟩
  have hequal : e ∈ s.rfaHighest rs := State.mem_rfaHighest.mpr ⟨he, heq.trans htop⟩
  rw [State.rfaWinner_eq, ← htop] at hwin
  dsimp only at hwin ⊢
  cases hlast : mfind s.rfa.lastAt (s.rfaPrio r) with
  | none =>
    rw [hlast] at hwin
    exact head?_lt_of_rising hsortedHighest hwin hequal hne
  | some l =>
    rw [hlast] at hwin
    obtain hfind | ⟨hnone, hhead⟩ := Option.or_eq_some_iff.mp hwin
    · obtain ⟨habove, hothers⟩ := find?_above_of_rising hsortedHighest hfind
      exact .inl ⟨habove, hothers e hequal hne⟩
    · have hlow (x : Nat × RegReq) (hx : x ∈ s.rfaHighest rs) : x.1 ≤ l := by simpa using List.find?_eq_none.mp hnone x hx
      exact .inr ⟨hlow (r, q) (List.mem_of_head? hhead), head?_lt_of_rising hsortedHighest hhead hequal hne, hlow e hequal⟩

/-! ### Refills (R477–R481) -/

/-- The two buckets of a policer after a refill, whose counts the clause states. -/
theorem State.refillPolicer_pol (s : State) (k i : Nat) : mget {} (s.refillPolicer k i).sch.pol (k * 32 + i) =
    { mget {} s.sch.pol (k * 32 + i) with
      tc := min ((mget {} s.sch.pol (k * 32 + i)).tc + s.fld F.SCH_POLICER_CIR k i) (max 4396 (s.fld F.SCH_POLICER_CBS k i))
      tp := min ((mget {} s.sch.pol (k * 32 + i)).tp + max (s.fld F.SCH_POLICER_CIR k i) (s.fld F.SCH_POLICER_PIR k i))
        (max 4396 (s.fld F.SCH_POLICER_PBS k i)) } :=
  mget_mput_self ..

/-! ### Grants and warnings (R486–R488, R490, R492) -/

/-- A request that is alone is granted, whoever was granted last. -/
theorem State.rfaWinner_alone (s : State) (r : Nat) (q : RegReq) : s.rfaWinner [(r, q)] = some (r, q) := by
  have hall : s.rfaHighest [(r, q)] = [(r, q)] := by simp [State.rfaHighest, State.rfaTop]
  rw [State.rfaWinner_eq, hall]
  split
  case h_1 => rfl
  case h_2 l _ => by_cases habove : l < r <;> simp [habove]

/-- A request that is alone, none sitting out a back-off, is taken and performed, and its agent gets the answer. -/
theorem execRfaGrant_of_alone {s u : State} {r : Nat} {q : RegReq} (hsit : s.rfa.sitOut = []) (halone : s.rfaPresentNow = [(r, q)])
    (hu : u = ({ s with rfa := { s.rfa with sitOut := [] } } : State).rfaTake r q) :
    execRfaGrant s = if q.write = true then .next ((u.busWrite q.agent q.addr q.data).rfaAnswer q 0).drain
      else .next ((u.busRead q.agent q.addr).2.rfaAnswer q (u.busRead q.agent q.addr).1).drain := by
  subst hu
  have hothers : [(r, q)].filter (fun e => decide (e.1 ≠ r)) = [] := by simp
  simp only [execRfaGrant, halone, hsit, List.filterMap_nil, State.rfaWinner_alone, hothers, List.foldl_nil]

section
variable {r : Fin 98} {s : State} {q : RegReq} {rest : List RegReq} (hqueue : mget [] s.rfa.req r = q :: rest)
include hqueue

theorem State.rfaMark_of_oldest (f : RegReq → RegReq) :
    s.rfaMark r f = { s with rfa := { s.rfa with req := mput [] s.rfa.req r (f q :: rest) } } := by
  simp only [State.rfaMark, hqueue]

theorem execRfaWaitWarn_of_new (hnew : q.warned = false) (hon : s.fld F.RFA_WAIT_WARN_US ≠ 0) : execRfaWaitWarn r s =
    .next (({ s with rfa := { s.rfa with req := mput [] s.rfa.req r ({ q with warned := true } :: rest) } }).raise 753 0x01
      (r * 2 ^ 32 + q.addr)) := by
  simp only [execRfaWaitWarn, State.rfaMark_of_oldest hqueue, hqueue, List.head?_cons, hnew, hon, Bool.false_eq_true, or_self, if_false]

theorem execRfaHoldWarn_of_new (hnew : q.heldWarned = false) (hheld : mget false s.regs.softReset (q.addr / 0x1000) = true) :
    execRfaHoldWarn r s =
      .next (({ s with rfa := { s.rfa with req := mput [] s.rfa.req r ({ q with heldWarned := true } :: rest) } }).raise 753 0x02
        (r * 2 ^ 32 + q.addr)) := by
  simp only [execRfaHoldWarn, State.rfaMark_of_oldest hqueue, hqueue, List.head?_cons, hnew, hheld, not_true_eq_false, Bool.false_eq_true,
    or_self, if_false]

end

/-- Settles O29: each clause is the branch that its command takes under the clause's hypotheses. -/
theorem schedulersRefillAndTheArbiterGrants : Obligations.SchedulersRefillAndTheArbiterGrants := by
  unfold Obligations.SchedulersRefillAndTheArbiterGrants
  refine ⟨?shapers, ?shaper, ?policers, ?policer, ?grant, ?wait, ?hold⟩
  case shapers => exact fun k s => rfl
  case shaper => exact fun s k i hmoves => if_neg hmoves
  case policers => exact fun k s => rfl
  case policer =>
    intro s k i p hp
    subst hp
    refine ⟨_, rfl, ?_, ?_⟩ <;> rw [State.refillPolicer_pol]
  case grant =>
    intro s r q u hsit halone hu
    have hgrant := execRfaGrant_of_alone hsit halone hu
    exact ⟨fun hwrite => hgrant.trans (if_pos hwrite), fun hread => hgrant.trans (if_neg (ne_true_of_eq_false hread))⟩
  case wait => exact fun r s q rest => execRfaWaitWarn_of_new
  case hold => exact fun r s q rest => execRfaHoldWarn_of_new

end Sys2Proof.Machine

/-! ## Keystone: events, the reaction timer, heartbeats and stalls, the log and the severity window, self-faults -/

namespace Sys2Proof.Machine

/-! ### Events and the reaction timer (R503, R504, R510; log 10) -/

/-- A source other than Keystone itself reports with the severity of its window. -/
theorem State.raise_of_source {s : State} {src : Nat} (kind detail : Nat) (hsrc : src ≠ 752) :
    s.raise src kind detail = s.raiseSev src kind (s.severity src kind) (BitVec.ofNat 64 detail) := by
  rw [State.raise, if_neg hsrc]

theorem execKeystoneEvent_of_source {src : Fin 768} {k : Byte} {s : State} (d : W64) (hreports : reports src = true) (hk : k ≠ 0)
    (hsrc : src.val ≠ 752) : execKeystoneEvent src k d s = .next (s.raiseSev src k.toNat (s.severity src k.toNat) d) := by
  have hdetail : BitVec.ofNat 64 d.toNat = d := by simp only [BitVec.ofNat_toNat, BitVec.setWidth_eq]
  rw [execKeystoneEvent, if_pos ⟨hreports, hk⟩, State.raise_of_source _ _ hsrc, hdetail]

theorem State.reactExpire_of_due {s : State} {t : Nat} (hreact : s.kst.react = some t) (hdue : t ≤ 10 * s.clk) :
    s.reactExpire = ({ s with kst := { s.kst with react := none } }).enterSafe 1 (BitVec.ofNat 64 s.kst.reactSlot) 0 := by
  have hreached : s.reactDue = true := by simp only [State.reactDue, hreact, hdue, decide_true]
  rw [State.reactExpire, if_pos hreached]

/-! ### Beats and stalls (R512, R513; logs 10, 108 and 109) -/

/-- Eight more beats of a source that should beat are missing. -/
theorem execHeartbeatLost_of_watched {src : Fin 768} {s : State} (odd : Bool) (hreports : reports src = true) (hsrc : src.val ≠ 752)
    (hawake : s.beatExempt src = false) :
    execHeartbeatLost src odd s = .next ((s.setBeats src (min (mget 0 s.kst.beatsMissed src + 8) 65535)).raise src 0xF0
      ((if srcBlk src = SrcBlk.xlt ∧ odd = true then 2 ^ 63 else 0) + min (mget 0 s.kst.beatsMissed src + 8) 65535)) := by
  simp only [execHeartbeatLost, hreports, hsrc, hawake, not_true_eq_false, Bool.false_eq_true, or_self, if_false]

/-- A head newly found stalled at a watch point that shows an index is noted, reported and contained. -/
theorem State.stallReport_of_new {s u : State} {p unit i src x head : Nat} (hwatched : s.watched p unit i = some (src, some x, head))
    (hnew : mget 0 s.kst.stalled ((src * 8 + p) * 2 ^ 18 + i) ≠ head + 1)
    (hu : u = { s with kst := { s.kst with stalled := mput 0 s.kst.stalled ((src * 8 + p) * 2 ^ 18 + i) (head + 1) } }) :
    s.stallReport p unit i = (u.raise src 0xF1 ((if srcBlk src = SrcBlk.xlt ∧ src % 2 = 1 then 2 ^ 63 else 0) + p * 2 ^ 56 + x % 256 * 2 ^ 48 +
      u.progUs)).containStall p unit i := by
  subst hu
  simp only [State.stallReport, hwatched, if_neg hnew]

/-! ### The log and the severity window (R505, R508) -/

/-- With no expiry due, a count that retires no more than is live becomes LOG_HEAD. -/
theorem State.logHeadWrite_of_live {s : State} {ag : Agent} {v : W32} (hlevel : 3 ≤ s.agentLevel ag) (hquiet : s.reactDue = false)
    (hlive : seqDist 32 v.toNat (s.fld F.KST_LOG_HEAD_COUNT) ≤ s.logLive) :
    s.logHeadWrite ag v = if (s.setFld F.KST_LOG_HEAD_COUNT v.toNat).liveSeverity 3 = true then s.setFld F.KST_LOG_HEAD_COUNT v.toNat
      else { s.setFld F.KST_LOG_HEAD_COUNT v.toNat with kst := { (s.setFld F.KST_LOG_HEAD_COUNT v.toNat).kst with react := none } } := by
  have hsame : s.reactExpire = s := if_neg (ne_true_of_eq_false hquiet)
  simp only [State.logHeadWrite, Nat.not_lt.mpr hlevel, hsame, Nat.not_lt.mpr hlive, if_false]

@[simp] theorem State.fld_with_kst (s : State) (k : Keystone) (f : Fld) (n i : Nat) : ({ s with kst := k } : State).fld f n i = s.fld f n i := rfl

theorem State.fld_logHeadWrite {s : State} {ag : Agent} {v : W32} (hlevel : 3 ≤ s.agentLevel ag) (hquiet : s.reactDue = false)
    (hlive : seqDist 32 v.toNat (s.fld F.KST_LOG_HEAD_COUNT) ≤ s.logLive) : (s.logHeadWrite ag v).fld F.KST_LOG_HEAD_COUNT = v.toNat := by
  have hfld : (s.setFld F.KST_LOG_HEAD_COUNT v.toNat).fld F.KST_LOG_HEAD_COUNT = v.toNat := by
    rw [State.fld_setFld_self _ _ _ _ _ (by decide)]
    exact Nat.mod_eq_of_lt v.isLt
  rw [State.logHeadWrite_of_live hlevel hquiet hlive]
  split
  · exact hfld
  · exact hfld

/-- Word 0 of a slot without an injected error latches the slot's other words for its reader. -/
theorem State.logRead_first {s : State} {slot : Nat} (ag : Agent) (harmed : s.armed F.KST_INJECT_LOG_ECC 0 = false) :
    (s.logRead ag slot 0).2 = { s with kst := { s.kst with
      latch := minsert s.kst.latch ag.key (slot, (mget {} s.kst.log slot).words.getD 1 0, (mget {} s.kst.log slot).words.getD 2 0,
        (mget {} s.kst.log slot).words.getD 3 0) } } := by
  simp only [State.logRead, harmed, Bool.false_eq_true, if_true, if_false]

/-! ### SAFE_CTRL and self-faults (R511, R514, R520; logs 110 and 111) -/

theorem State.safeCtrl_of_refused {s : State} {ag : Agent} {key : W32} (hrefused : s.agentLevel ag < 3 ∨ key ≠ 0x5AFE0001#32) :
    s.safeCtrl ag key = s :=
  if_neg fun ⟨hlevel, hkey⟩ => hrefused.elim (Nat.not_lt.mpr hlevel) (not_not_intro hkey)

/-- Settles O30: each clause is the branch that its command takes under the clause's hypotheses. These rest on the model's choices:
that a timer's command is its end (log 10), that HEARTBEAT_LOST names the silent unit and its odd operand the second one of a pair
(log 109), how each watch point contains a stall (log 108), that the records of a self-fault do not start the reaction timer (log 110),
and that KEYSTONE_SELF_FAULT's operand says whether the log works (log 111). -/
theorem keystoneActs : Obligations.KeystoneActs := by
  unfold Obligations.KeystoneActs
  refine ⟨?event, ?react, ?beat, ?lost, ?stall, ?head, ?read, ?severity, ?key, ?refused, ?test, ?selfFault, ?lockstep⟩
  case event => exact fun src k d s hreports hk hsrc => execKeystoneEvent_of_source d hreports hk (fun h => hsrc (Fin.ext h))
  case react => exact fun s t hreact hdue => congrArg Host.Outcome.next (State.reactExpire_of_due hreact hdue)
  case beat => exact fun src s => ⟨_, rfl, mget_mput_self 0 s.kst.beatsMissed src 0⟩
  case lost => exact fun src odd s hreports hsrc => execHeartbeatLost_of_watched odd hreports (fun h => hsrc (Fin.ext h))
  case stall => exact fun p unit i s src x head hwatched hnew => next_drain_congr (State.stallReport_of_new hwatched hnew rfl)
  case head => exact fun ag v s hlevel hquiet hlive => ⟨_, rfl, State.fld_logHeadWrite hlevel hquiet hlive⟩
  case read =>
    intro ag slot s ws harmed hws
    subst hws
    refine ⟨_, congrArg Host.Outcome.next (State.logRead_first ag harmed), ?_⟩
    exact mfind_minsert_self s.kst.latch ag.key _
  case severity =>
    intro ag src w v s a hlevel ha
    subst ha
    exact congrArg Host.Outcome.next (if_neg (Nat.not_lt.mpr hlevel))
  case key => exact fun ag s hlevel => congrArg Host.Outcome.next (if_pos ⟨hlevel, rfl⟩)
  case refused => exact fun ag key s hrefused => congrArg Host.Outcome.next (State.safeCtrl_of_refused hrefused)
  case test =>
    intro v s u hu
    subst hu
    exact ⟨fun hgo hkind hreports => congrArg Host.Outcome.next (if_pos ⟨hgo, hkind, hreports⟩),
      fun hstay => congrArg Host.Outcome.next (if_neg fun ⟨hgo, _⟩ => ne_true_of_eq_false hstay hgo)⟩
  case selfFault => exact fun c loc s => rfl
  case lockstep => exact fun s => rfl

end Sys2Proof.Machine

/-! ## Resets, the boot's stages and the configuration entries -/

namespace Sys2Proof.Machine

/-! ### Resets (R529, R530, R531, R533) -/

/-- Below power-on reset, RESET_N's fall begins a cold reset. -/
theorem execResetNAssert_of_running {s : State} (hreset : s.pwr.inReset ≠ some .powerOn) :
    execResetNAssert s = .next (({ s with pwr := { s.pwr with resetN := false } }).coldReset .resetN) :=
  if_neg hreset

theorem execColdResetCmd_of_open {s : State} {ag : Agent} (hopen : s.devOpen ag = true) : execColdResetCmd ag s = .next s.coldCmd := by
  rw [execColdResetCmd, if_pos hopen]

theorem State.warmCmd_of_free {s : State} (hcool : s.thermalHold = false) (hsafe : s.safe = false) (hfree : s.pwr.resetPending = none) :
    s.warmCmd = { s with pwr := { s.pwr with resetPending := some .warmCmd } } := by
  simp only [State.warmCmd, hcool, hsafe, hfree, Option.isSome_none, Bool.false_eq_true, if_false]

theorem execWarmResetCmd_of_open {s : State} {ag : Agent} (hopen : s.devOpen ag = true) : execWarmResetCmd ag s = .next s.warmCmd := by
  rw [execWarmResetCmd, if_pos hopen]

theorem execResetBegin_of_cold {s : State} (hpending : s.pwr.resetPending = some .coldCmd) :
    execResetBegin s = .next (s.coldReset .coldCmd) := by
  simp only [execResetBegin, hpending]

/-- A warm reset begins where neither thermal hold nor the safe state has been entered meanwhile. -/
theorem execResetBegin_of_warm {s : State} (hpending : s.pwr.resetPending = some .warmCmd) (hcool : s.thermalHold = false)
    (hsafe : s.safe = false) : execResetBegin s = .next ({ s with pwr := { s.pwr with resetPending := none } } : State).warmReset := by
  simp only [execResetBegin, hpending]
  exact (if_neg (ne_true_of_eq_false hcool)).trans (if_neg (ne_true_of_eq_false hsafe))

theorem State.mayLeaveReset_iff (s : State) : s.mayLeaveReset = true ↔
    s.pwr.inReset.isSome = true ∧ s.pwr.pwrok = true ∧ s.pwr.resetN = true ∧ s.pwr.coldWaitsTemp = false := by
  simp only [State.mayLeaveReset, Bool.and_eq_true, Bool.not_eq_true', and_assoc]

/-- The hold ends with the management port down: the straps are sampled, kind 0x04 is raised and the ROM starts the boot. -/
theorem execResetHoldEnd_of_down {s u v : State} {sel : Fin 4} {mgt : Bool} (f : Byte) (hleave : s.mayLeaveReset = true)
    (hu : u = ((({ s with pwr := { s.pwr with inReset := none } }).setFld F.PWR_STATE_THERMAL_HOLD 0).setFld F.DEV_BOOT_BOOT_SEL sel).setFld
      F.DEV_BOOT_MGT_MODE (if mgt then 1 else 0))
    (hv : v = (u.wr 0x44100 (setBits (u.rd 0x44100) 0 1 (if mgt then 1 else 0))).seedPipes)
    (hdown : (v.raise 704 0x04 (v.fld F.PWR_RESET_STAT_LAST * 2 ^ 24)).portUp 64 = false) :
    execResetHoldEnd sel mgt f s = .next ((v.raise 704 0x04 (v.fld F.PWR_RESET_STAT_LAST * 2 ^ 24)).bootStart f).drain := by
  subst hu hv
  exact (if_neg (not_not_intro hleave)).trans
    (congrArg (fun t : State => Host.Outcome.next (t.bootStart f).drain) (if_neg (ne_true_of_eq_false hdown)))

/-- Settles O32: the pins and the keys act by their definitions, and the hold ends by `execResetHoldEnd_of_down`. That THERMAL_HOLD is
cleared at the end of the hold (log 116) and that the pipelines take their seeds there as free values (log 4) are the model's choices. -/
theorem resetsBeginAndEnd : Obligations.ResetsBeginAndEnd := by
  unfold Obligations.ResetsBeginAndEnd
  refine ⟨?powerOn, ?pwrok, ?assert, ?release, ?coldKey, ?warmKey, ?cold, ?warm, ?hold⟩
  case powerOn => exact fun down up s => rfl
  case pwrok => exact fun s => ⟨_, rfl, rfl, rfl⟩
  case assert => exact fun s hreset => execResetNAssert_of_running hreset
  case release => exact fun s => ⟨_, rfl, rfl, rfl⟩
  case coldKey => exact fun ag s hopen => ⟨_, execColdResetCmd_of_open hopen, rfl⟩
  case warmKey =>
    intro ag s hopen hcool hsafe hfree
    refine ⟨_, execWarmResetCmd_of_open hopen, ?_⟩
    rw [State.warmCmd_of_free hcool hsafe hfree]
  case cold => exact fun s hpending => execResetBegin_of_cold hpending
  case warm =>
    intro s u hpending hcool hsafe hu
    subst hu
    exact execResetBegin_of_warm hpending hcool hsafe
  case hold =>
    intro sel mgt f s u hin hpwrok hresetN hcool hu hdown
    exact execResetHoldEnd_of_down f (s.mayLeaveReset_iff.mpr ⟨hin, hpwrok, hresetN, hcool⟩) hu rfl hdown

/-! ### The boot's stages (R545, R546) -/

theorem execBootStageComplete_of_keeper {s u : State} {f : Bool} (hboot : s.booting = true) (hstep : s.sec.bootStep = 1)
    (hgood : s.bodyCheck 0 f = (0, u)) : execBootStageComplete f s = .next u.bootKeeper := by
  simp only [execBootStageComplete, hboot, hstep, hgood, not_true_eq_false, if_false, Nat.le_refl, if_true]

theorem execBootStageComplete_of_hbm {s : State} {f : Bool} (hboot : s.booting = true) (hstep : s.sec.bootStep = 2) :
    execBootStageComplete f s = .next s.bootHbm := by
  simp only [execBootStageComplete, hboot, hstep, not_true_eq_false, if_false, if_true, Nat.reduceLeDiff]

theorem execBootStageComplete_of_chain {s u : State} {f : Bool} (hboot : s.booting = true) (hstep : s.sec.bootStep = 3)
    (hloaded : s.flag F.SEC_IMG_LOADED 0 3 = true) (hgood : s.bodyCheck 3 f = (0, u)) : execBootStageComplete f s = .next u.bootChain := by
  simp only [execBootStageComplete, hboot, hstep, hloaded, hgood, not_true_eq_false, if_false, if_true, Nat.reduceLeDiff, Nat.reduceEqDiff]

theorem execBootStageComplete_of_config {s u : State} {f : Bool} (hboot : s.booting = true) (hstep : s.sec.bootStep = 5)
    (hoff : s.sec.cfgOn = false) (hloaded : s.flag F.SEC_IMG_LOADED 0 2 = true) (hgood : s.bodyCheck 2 f = (0, u)) :
    execBootStageComplete f s = .next u.cfgStart := by
  simp only [execBootStageComplete, hboot, hstep, hoff, hloaded, hgood, not_true_eq_false, Bool.false_eq_true, if_false, if_true,
    Nat.reduceLeDiff, Nat.reduceEqDiff]

theorem execBootStageComplete_of_run {s : State} {f : Bool} (hboot : s.booting = true) (hstep : s.sec.bootStep = 6) :
    execBootStageComplete f s = .next s.bootRun.drain := by
  simp only [execBootStageComplete, hboot, hstep, not_true_eq_false, if_false, Nat.reduceLeDiff, Nat.reduceEqDiff]

/-- READY_OUT asserts outside boot hold and reset. -/
theorem State.bootDone_of_running {s : State} (hhold : s.bootHold = false) (hreset : s.pwr.inReset = none) :
    s.bootDone = { s with pwr := { s.pwr with ready := true } } := by
  simp only [State.bootDone, hhold, hreset, Option.isSome_none, Bool.false_eq_true, or_self, if_false]

/-! ### Configuration entries (R549) -/

theorem State.cfgWrite_of_good {s : State} {a : Nat} {v : W32} (hgood : s.cfgBadWrite a v = false) :
    s.cfgWrite a v = some (s.cfgGrant.busWrite .boot a v) :=
  if_neg (ne_true_of_eq_false hgood)

theorem State.cfgWrite_of_bad {s : State} {a : Nat} {v : W32} (hbad : s.cfgBadWrite a v = true) : s.cfgWrite a v = none :=
  if_pos hbad

/-- A write that its register takes is done. -/
theorem execConfigWrite_of_good {s : State} (hat : s.cfgAt 1 = true) (hopen : s.pageBlocked (s.cfgA / 0x1000) = false)
    (hgood : s.cfgBadWrite s.cfgA (BitVec.ofNat 32 s.cfgB) = false) :
    execConfigWrite s = .next ((s.cfgGrant.busWrite .boot s.cfgA (BitVec.ofNat 32 s.cfgB)).cfgNext 16).drain := by
  simp only [execConfigWrite, hat, hopen, State.cfgWrite_of_good hgood, not_true_eq_false, Bool.false_eq_true, and_false, if_false]

/-- A write that fails by its address or its register's rules fails the block. -/
theorem execConfigWrite_of_bad {s : State} (hat : s.cfgAt 1 = true) (hopen : s.pageBlocked (s.cfgA / 0x1000) = false)
    (hbad : s.cfgBadWrite s.cfgA (BitVec.ofNat 32 s.cfgB) = true) : execConfigWrite s = .next s.cfgFail := by
  simp only [execConfigWrite, hat, hopen, State.cfgWrite_of_bad hbad, not_true_eq_false, Bool.false_eq_true, and_false, if_false]

/-- A poll whose register matches is done. -/
theorem execConfigPoll_of_match {s : State} (hat : s.cfgAt 2 = true) (hread : s.cfgBadRead s.cfgA = false)
    (hopen : s.pageBlocked (s.cfgA / 0x1000) = false)
    (hmatch : (s.cfgGrant.busRead .boot s.cfgA).1 &&& BitVec.ofNat 32 s.cfgB = BitVec.ofNat 32 s.cfgC) :
    execConfigPoll s = .next ((s.cfgGrant.busRead .boot s.cfgA).2.cfgNext 16).drain := by
  simp only [execConfigPoll, hat, hread, hopen, not_true_eq_false, Bool.false_eq_true, if_false]
  exact if_pos hmatch

/-- A fill whose words are all written is done. -/
theorem execConfigFill_of_filled {s u : State} (hat : s.cfgAt 4 = true) (halign : s.cfgB % 4 = 0)
    (hlen : 16 + s.cfgB ≤ s.sec.cfgBody.length) (hopen : s.pageBlocked (s.cfgA / 0x1000) = false)
    (hfilled : s.fillWords s.cfgA (s.sec.cfgBody.drop 16) (s.cfgB / 4) = (true, u)) :
    execConfigFill s = .next (u.cfgNext (16 + roundUp 16 s.cfgB)).drain := by
  simp only [execConfigFill, hat, halign, hopen, hfilled, Nat.not_lt.mpr hlen, ne_eq, not_true_eq_false, Bool.false_eq_true, and_false, or_self,
    if_false]

/-- Settles O33: one lemma per stage of the boot and per configuration entry. -/
theorem bootStagesAndConfigurationAct : Obligations.BootStagesAndConfigurationAct := by
  unfold Obligations.BootStagesAndConfigurationAct
  refine ⟨?keeper, ?hbm, ?chain, ?config, ?run, ?finish, ?write, ?poll, ?timeout, ?wait, ?fill, ?done⟩
  case keeper => exact fun s f u hboot hstep hgood => execBootStageComplete_of_keeper hboot hstep hgood
  case hbm => exact fun s f hboot hstep => execBootStageComplete_of_hbm hboot hstep
  case chain => exact fun s f u hboot hstep hloaded hgood => execBootStageComplete_of_chain hboot hstep hloaded hgood
  case config => exact fun s f u hboot hstep hoff hloaded hgood => execBootStageComplete_of_config hboot hstep hoff hloaded hgood
  case run => exact fun s f hboot hstep => execBootStageComplete_of_run hboot hstep
  case finish => exact fun s hat => if_pos hat
  case write => exact fun s hat _ hopen => ⟨execConfigWrite_of_good hat hopen, execConfigWrite_of_bad hat hopen⟩
  case poll => exact fun s hat hread hopen hmatch => execConfigPoll_of_match hat hread hopen hmatch
  case timeout => exact fun s hat => if_pos hat
  case wait => exact fun s hat => if_pos hat
  case fill => exact fun s u hat halign hlen hopen hfilled => execConfigFill_of_filled hat halign hlen hopen hfilled
  case done =>
    intro s hhold hreset
    refine ⟨_, rfl, ?_⟩
    rw [State.bootDone_of_running hhold hreset]

end Sys2Proof.Machine

/-! ## Fuse and flash commands, attestation and measurement; tallies and the test access port -/

namespace Sys2Proof.Machine

/-! ### A field that takes a value of its width -/

theorem State.fld_setFld_of_lt (s : State) (f : Fld) (b n i : Nat) (hf : f.lo + f.w ≤ 32) (hb : b < 2 ^ f.w) : (s.setFld f b n i).fld f n i = b := by
  rw [State.fld_setFld_self s f b n i hf, Nat.mod_eq_of_lt hb]

/-! ### Fuse commands (R543, R544; log 125) -/

theorem State.fuseGo_fuseOps (s : State) (op a : Nat) :
    (s.fuseGo op a).sec.fuseOps = s.sec.fuseOps ++ [{ op := op, arg := a, data := s.sec.fuseData }] := by
  simp only [State.fuseGo, State.setFld_sec, State.setSec_sec]

theorem State.fuseGo_busy (s : State) (op a : Nat) : (s.fuseGo op a).fld F.SEC_FUSE_CMD_BUSY = 1 :=
  State.fld_setFld_of_lt _ _ _ _ _ (by decide) (by decide)

/-- An instruction writes FUSE_CMD with an operation and an argument. -/
def IsFuseCommand (a : Fin 16) (e : Instr × Nat) : Prop := ∀ s, exec e.1 s = .next (s.fuseGo e.2 a)

theorem isFuseCommand_of_mem (a : Fin 16) {e : Instr × Nat} (he : e ∈ [(Instr.fuseProgramSlot a, 1), (.fuseRevokeSlot a, 2), (.svnCommit a, 3)]) :
    IsFuseCommand a e := by
  refine List.forall_iff_forall_mem.mp ?_ e he
  exact ⟨fun s => rfl, fun s => rfl, fun s => rfl⟩

/-- A slot that is neither programmed nor spoiled takes the hash. -/
theorem State.fuseRun_of_program {s : State} {a : Nat} {d : BitVec 256} (ha : a < 4) (hblank : (s.keySlot a).programmed = false)
    (hwhole : (s.keySlot a).partly = false) : s.fuseRun { op := 1, arg := a, data := d } false =
      (0, s.setSec { s.sec with slots := mput {} s.sec.slots a { s.keySlot a with
        programmed := true,
        hash := d } }) := by
  simp only [State.fuseRun, Nat.not_le.mpr ha, hblank, hwhole, decide_false, Bool.or_self, Bool.false_eq_true, if_false]

theorem State.fuseRun_of_revoke {s : State} {a : Nat} {d : BitVec 256} (ha : a < 4) : s.fuseRun { op := 2, arg := a, data := d } false =
    (0, s.setSec { s.sec with slots := mput {} s.sec.slots a { s.keySlot a with revoked := true } }) := by
  simp only [State.fuseRun, Nat.not_le.mpr ha, decide_false, Bool.false_eq_true, if_false]

/-- A fuse command that only changes key slots leaves them so at its end, with the rest of the commands in progress. -/
theorem execFuseCmdDone_of_slots {s : State} {f : FuseOp} {rest : List FuseOp} {m : SMap KeySlot} (hops : s.sec.fuseOps = f :: rest)
    (hrun : s.fuseRun f false = (0, s.setSec { s.sec with slots := m })) :
    ∃ t, execFuseCmdDone false s = .next t ∧ t.sec.slots = m ∧ t.sec.fuseOps = rest := by
  simp only [execFuseCmdDone, hops, hrun]
  exact ⟨_, rfl, by simp only [State.setFld_sec, State.setSec_sec], by simp only [State.setFld_sec, State.setSec_sec]⟩

/-! ### Flash commands (R552) -/

theorem State.flashGo_of_idle {s : State} (op : Nat) (hidle : s.flag F.SEC_FLASH_CMD_BUSY = false) :
    (s.flashGo op).sec.flashOp = some { op := op, addr := s.fld F.SEC_FLASH_ADDR_ADDR } ∧ (s.flashGo op).fld F.SEC_FLASH_CMD_BUSY = 1 := by
  rw [State.flashGo, if_neg (ne_true_of_eq_false hidle)]
  refine ⟨?_, ?_⟩
  · rw [State.setSec_sec, State.fld_setFld_ne _ _ _ _ _ _ _ _ (by decide) (by decide) (by decide),
      State.fld_setFld_ne _ _ _ _ _ _ _ _ (by decide) (by decide) (by decide)]
  · rw [State.setSec_fld, State.fld_setFld_of_lt _ _ _ _ _ (by decide) (by decide)]

/-- An instruction writes FLASH_CMD with an operation. -/
def IsFlashCommand (e : Instr × Nat) : Prop := ∀ s, exec e.1 s = .next (s.flashGo e.2)

theorem isFlashCommand_of_mem {e : Instr × Nat} (he : e ∈ [(Instr.flashRead, 1), (.flashProgram, 2), (.flashErase, 3), (.flashVerify, 4)]) :
    IsFlashCommand e := by
  refine List.forall_iff_forall_mem.mp ?_ e he
  exact ⟨fun s => rfl, fun s => rfl, fun s => rfl, fun s => rfl⟩

/-- An erase of an aligned sector that touches no protected copy leaves ones. -/
theorem execFlashCmdDone_of_erase {s u : State} {a : Nat} (hop : s.sec.flashOp = some { op := 3, addr := a }) (halign : a % 65536 = 0)
    (hfree : s.flashProtected a 65536 = false) (hu : u = s.flashPut a (List.replicate 65536 0xFF#8)) : execFlashCmdDone false s =
      .next (((u.setSec { u.sec with flashOp := none }).setFld F.SEC_FLASH_CMD_RESULT 0).setFld F.SEC_FLASH_CMD_BUSY 0) := by
  subst hu
  have hrun : s.flashRun { op := 3, addr := a } false = (0, s.flashPut a (List.replicate 65536 0xFF#8)) := by
    simp only [State.flashRun, halign, hfree, ne_eq, not_true_eq_false, Bool.false_eq_true, if_false]
  simp only [execFlashCmdDone, hop, hrun]

/-! ### Attestation and measurement (R547, R554; log 125) -/

theorem State.attestGo_of_idle {s : State} (hidle : s.flag F.SEC_ATTEST_BUSY = false) :
    s.attestGo.sec.attestBody = s.reportBody ∧ s.attestGo.sec.attestVoid = 0 := by
  simp only [State.attestGo, hidle, Bool.false_eq_true, if_false, State.setFld_sec, State.setSec_sec, and_self]

theorem execAttestDone_of_busy {s : State} (hbusy : s.flag F.SEC_ATTEST_BUSY = true) :
    ∃ t, execAttestDone s = .next t ∧ t.sec.attestBody = [] ∧ t.fld F.SEC_ATTEST_DONE = 1 := by
  refine ⟨_, if_neg (not_not_intro hbusy), ?_, State.fld_setFld_of_lt _ _ _ _ _ (by decide) (by decide)⟩
  rw [State.setFld_sec, State.setFld_sec, State.setSec_sec]

theorem State.extendGo_of_idle {s : State} (hidle : s.flag F.SEC_EXTEND_BUSY = false) :
    s.extendGo.sec.extendRun = some s.sec.extendData ∧ s.extendGo.fld F.SEC_EXTEND_BUSY = 1 := by
  rw [State.extendGo, if_neg (ne_true_of_eq_false hidle)]
  exact ⟨by rw [State.setFld_sec, State.setSec_sec], State.fld_setFld_of_lt _ _ _ _ _ (by decide) (by decide)⟩

theorem execExtendDone_of_running {s u : State} {d : BitVec 256} (hrun : s.sec.extendRun = some d)
    (hu : u = s.setMeas 3 (sha256 (s.meas 3 ++ leBytes 32 d.toNat))) :
    execExtendDone s = .next ((u.setSec { u.sec with extendRun := none }).setFld F.SEC_EXTEND_BUSY 0) := by
  subst hu
  simp only [execExtendDone, hrun]

/-- Settles O34: each command joins or starts by its Go lemma, and its end is stated by the lemma of its Done. That fuse data, the
report's body and EXTEND_DATA are captured when GO is written is the model's choice (log 125). -/
theorem securityCommandsAct : Obligations.SecurityCommandsAct := by
  unfold Obligations.SecurityCommandsAct
  refine ⟨?fuse, ?program, ?revoke, ?flash, ?erase, ?attest, ?attestDone, ?extend, ?extendDone⟩
  case fuse =>
    intro a i op s hi
    exact ⟨_, isFuseCommand_of_mem a hi s, s.fuseGo_fuseOps op a, s.fuseGo_busy op a⟩
  case program =>
    intro s rest a d hops ha hblank hwhole
    obtain ⟨t, ht, hslots, hrest⟩ := execFuseCmdDone_of_slots hops (State.fuseRun_of_program ha hblank hwhole)
    exact ⟨t, ht, by rw [hslots, mget_mput_self], hrest⟩
  case revoke =>
    intro s rest a d hops ha
    obtain ⟨t, ht, hslots, hrest⟩ := execFuseCmdDone_of_slots hops (State.fuseRun_of_revoke ha)
    exact ⟨t, ht, by rw [hslots, mget_mput_self], hrest⟩
  case flash => exact fun i op s hi hidle => ⟨_, isFlashCommand_of_mem hi s, State.flashGo_of_idle op hidle⟩
  case erase =>
    intro s a hop halign hfree u d hd hu
    subst hd
    exact execFlashCmdDone_of_erase hop halign hfree hu
  case attest => exact fun s hidle => ⟨_, rfl, State.attestGo_of_idle hidle⟩
  case attestDone => exact fun s hbusy => execAttestDone_of_busy hbusy
  case extend => exact fun s hidle => ⟨_, rfl, State.extendGo_of_idle hidle⟩
  case extendDone => exact fun s d hrun => execExtendDone_of_running hrun rfl

/-! ### Tallies (R567, R569, R570; log 133) -/

/-- A clear leaves the other banks' counters and none of its own. -/
theorem State.mem_talClear_live (s : State) (b : Nat) (e : Nat × W64) : e ∈ (s.talClear b).tal.live ↔ e ∈ s.tal.live ∧ e.1 / 256 ≠ b := by
  simp only [State.talClear, List.mem_filter, decide_eq_true_eq]

theorem execTallyDump_of_due {s : State} (hdue : s.dumpDue = true) :
    execTallyDump s = if s.dumpSkips then .next (s.count F.TAL_CNT_SKIP_COUNT 0) else .next s.dumpStart :=
  if_neg (not_not_intro hdue)

/-- A record that fits HBM is written, its first 64 bytes last. -/
theorem execTallyDumpDone_of_hbm {s u v : State} {d : Dump} (hdump : s.tal.dump = some d) (hdest : d.dest = 0)
    (hfits : d.base + d.offset + d.record.length ≤ hbmBytes) (hu : u = { s with tal := { s.tal with dump := none } })
    (hv : v = (u.memWrite (d.base + d.offset + 64) (d.record.drop 64)).memWrite (d.base + d.offset) (d.record.take 64)) :
    execTallyDumpDone s = .next (({ v with tal := { v.tal with ringNext := roundUp 4096 (d.offset + d.record.length) } } : State).setFld
      F.TAL_LAST_OFF_OFFSET d.offset).drain := by
  subst hu hv
  simp only [execTallyDumpDone, hdump, hdest, if_true, Nat.not_lt.mpr hfits, if_false]

/-- A dump to a pier ends once none of its frames waits. -/
theorem execTallyDumpDone_of_sent {s : State} {d : Dump} (hdump : s.tal.dump = some d) (hdest : d.dest ≠ 0)
    (hsent : (s.pier d.port).wait.any (fun t => decide (t.f.op = 0x31) && decide (t.f.target = d.seq)) = false) :
    execTallyDumpDone s = .next { s with tal := { s.tal with dump := none } } := by
  simp only [execTallyDumpDone, hdump, hdest, hsent, Bool.false_eq_true, if_false]

/-- Settles O35: the tallies by their lemmas above; the port's commands by their definitions. The model chooses the window of time in
which a dump is due (log 133), that TAP_RESET drops the access that waits (log 147), and the boundary register's 64 bits (log 152). -/
theorem talliesAndTheTapAct : Obligations.TalliesAndTheTapAct := by
  unfold Obligations.TalliesAndTheTapAct
  refine ⟨?snap, ?latch, ?clear, ?dump, ?ring, ?sent, ?tapReset, ?boundary⟩
  case snap => exact fun b s => rfl
  case latch =>
    intro s b u hu
    rw [hu, State.talLatch]
    exact ⟨_, rfl, by dsimp only⟩
  case clear =>
    intro b s
    exact ⟨_, rfl, fun e he => ((s.mem_talClear_live b.toNat e).mp he).2, fun e he hb => (s.mem_talClear_live b.toNat e).mpr ⟨he, hb⟩⟩
  case dump =>
    exact fun s hdue => ⟨fun hgo => (execTallyDump_of_due hdue).trans (if_neg (ne_true_of_eq_false hgo)),
      fun hskip => (execTallyDump_of_due hdue).trans (if_pos hskip)⟩
  case ring => exact fun s d u v hdump hdest hfits hu hv => execTallyDumpDone_of_hbm hdump hdest hfits hu hv
  case sent => exact fun s d hdump hdest hsent => ⟨_, execTallyDumpDone_of_sent hdump hdest hsent, rfl⟩
  case tapReset => exact fun s => ⟨_, rfl, rfl, mfind_merase_self s.rfa.req 1, fun r hr => mfind_merase_ne s.rfa.req hr⟩
  case boundary => exact fun v s => ⟨_, rfl, rfl, rfl⟩

end Sys2Proof.Machine

/-! ## The register space: what a page's words are, writes by access type, accesses made and refused -/

namespace Sys2Proof.Machine

/-! ### The masks of a register word (R582) -/

/-- No bit of a word is both RW and W1C, and where a write stores the word, its bits that read 1 always are RW bits. -/
def RegWord.sound (w : RegWord) : Bool :=
  decide (w.rw &&& w.w1c = 0) && (decide (w.rw = 0 ∧ w.w1c = 0) || decide (w.rw ||| w.ones = w.rw))

theorem RegWord.sound_iff (w : RegWord) :
    w.sound = true ↔ w.rw &&& w.w1c = 0 ∧ (w.rw = 0 ∧ w.w1c = 0 ∨ w.rw ||| w.ones = w.rw) := by
  simp only [RegWord.sound, Bool.and_eq_true, Bool.or_eq_true, decide_eq_true_eq]

/-- A word with bits of at most one of the two types, of which none reads 1 always, is sound. -/
theorem RegWord.sound_of_plain {w : RegWord} (hone : w.rw = 0 ∨ w.w1c = 0) (hones : w.ones = 0) : w.sound = true := by
  rw [RegWord.sound_iff, hones]
  refine ⟨?_, .inr (Nat.or_zero _)⟩
  obtain h | h := hone
  · rw [h, Nat.zero_and]
  · rw [h, Nat.and_zero]

theorem Blk.words_sound (b : Blk) : b.words.all RegWord.sound = true := by
  cases b <;> decide +kernel

/-- The blocks of which some words have RW bits that depend on the page or the offset have no bits that read 1 always. -/
theorem sns_tal_words_ones : (Blk.sns.words ++ Blk.tal.words).all (fun w => decide (w.ones = 0)) = true := by
  decide +kernel

theorem Blk.wordAt_mem {b : Blk} {off : Nat} {w : RegWord} (h : b.wordAt off = some w) : w ∈ b.words :=
  List.mem_of_find?_eq_some h

theorem Blk.wordAt_sound {b : Blk} {off : Nat} {w : RegWord} (h : b.wordAt off = some w) : w.sound = true :=
  List.all_eq_true.mp b.words_sound w (Blk.wordAt_mem h)

theorem Blk.wordAt_ones {b : Blk} {off : Nat} {w : RegWord} (h : b.wordAt off = some w) (hb : b = .sns ∨ b = .tal) : w.ones = 0 := by
  refine of_decide_eq_true (List.all_eq_true.mp sns_tal_words_ones w (List.mem_append.mpr ?_))
  obtain rfl | rfl := hb
  · exact .inl (Blk.wordAt_mem h)
  · exact .inr (Blk.wordAt_mem h)

theorem ctrlWord_sound (b : Blk) : RegWord.sound
    { off := 0x008
      rw := 1 + (if b.hasSleepAllow then 4 else 0)
      ones := if b.enableFixed then 1 else 0
      reset := (if b.enableResetsZero then 0 else 1) + (if b.hasSleepAllow then 4 else 0) } = true := by
  cases b <;> decide +kernel

theorem headerWord_sound {b : Blk} {n off : Nat} {w : RegWord} (h : headerWord b n off = some w) : w.sound = true := by
  by_cases hctrl : off = 0x008
  · subst hctrl
    exact Option.some.inj h ▸ ctrlWord_sound b
  · unfold headerWord at h
    rw [if_neg hctrl] at h
    split_ifs at h <;> (obtain rfl := Option.some.inj h; exact RegWord.sound_of_plain (by simp) rfl)

/-- A word stays sound when its page makes its RW bits read-only, where none of its bits reads 1 always. -/
theorem RegWord.sound_of_readOnly {w w₀ : RegWord} (hsound : w₀.sound = true) (hplain : w₀.ones = 0) (hw1c : w.w1c = w₀.w1c)
    (hones : w.ones = w₀.ones) (hrw : w.rw = 0 ∨ w.rw = w₀.rw) : w.sound = true := by
  obtain hrw | hrw := hrw
  · exact RegWord.sound_of_plain (.inl hrw) (hones.trans hplain)
  · rwa [RegWord.sound, hrw, hw1c, hones]

/-- Every word of a block page is sound: a page changes the masks of a word of its table only by making RW bits read-only. -/
theorem regWordAt_sound {a : Nat} {w : RegWord} (h : regWordAt a = some w) : w.sound = true := by
  unfold regWordAt at h
  split at h
  case h_2 => cases h
  case h_1 b n _ =>
    dsimp only at h
    split at h
    · exact headerWord_sound h
    split at h
    · cases h
    rename_i w₀ hword
    have hsound := Blk.wordAt_sound hword
    split at h
    case h_1 =>
      split at h <;> cases h
      · exact RegWord.sound_of_readOnly hsound (Blk.wordAt_ones hword (.inl rfl)) rfl rfl (ite_eq_or_eq _ _ _)
      · exact hsound
    case h_2 =>
      split_ifs at h <;> cases h
      all_goals exact hsound
    case h_3 =>
      split at h <;> cases h
      all_goals exact hsound
    case h_4 =>
      split_ifs at h <;> cases h
      · exact hsound
      · exact RegWord.sound_of_readOnly hsound (Blk.wordAt_ones hword (.inr rfl)) rfl rfl (.inl rfl)
      · exact hsound
    case h_5 =>
      cases h
      exact hsound

/-- What soundness says of a bit. -/
theorem RegWord.w1c_testBit_of_rw {w : RegWord} (hsound : w.sound = true) {i : Nat} (hi : w.rw.testBit i = true) : w.w1c.testBit i = false := by
  have hdisjoint := congrArg (Nat.testBit · i) ((RegWord.sound_iff w).mp hsound).1
  simpa only [Nat.testBit_land, hi, Bool.true_and, Nat.zero_testBit] using hdisjoint

theorem RegWord.ones_testBit_of_not_rw {w : RegWord} (hsound : w.sound = true) (hstored : ¬(w.rw = 0 ∧ w.w1c = 0)) {i : Nat}
    (hi : w.rw.testBit i = false) : w.ones.testBit i = false := by
  have hcovered := congrArg (Nat.testBit · i) (((RegWord.sound_iff w).mp hsound).2.resolve_left hstored)
  simpa only [Nat.testBit_lor, hi, Bool.false_or] using hcovered

/-! ### A write of a word (R582, R583) -/

theorem State.plainWrite_of_word {s : State} {a : Nat} {w : RegWord} (v : W32) (hw : regWordAt a = some w) : ∃ u : State,
    u = (if w.rw = 0 ∧ w.w1c = 0 then s else s.wr a ((((s.rd a &&& ~~~BitVec.ofNat 32 w.rw) ||| (v &&& BitVec.ofNat 32 w.rw)) &&&
      ~~~(v &&& BitVec.ofNat 32 w.w1c)) ||| BitVec.ofNat 32 w.ones)) ∧
    s.plainWrite a v = if w.rws = 0 then u else u.wrShadow a ((u.rdShadow a &&& ~~~BitVec.ofNat 32 w.rws) ||| (v &&& BitVec.ofNat 32 w.rws)) := by
  refine ⟨_, rfl, ?_⟩
  rw [State.plainWrite, hw]

theorem State.rd_ite_wrShadow (c : Prop) [Decidable c] (s : State) (a b : Nat) (x : W32) :
    (if c then s else s.wrShadow a x).rd b = s.rd b := by
  split <;> rfl

theorem State.rdShadow_ite_wr (c : Prop) [Decidable c] (s : State) (a b : Nat) (x : W32) :
    (if c then s else s.wr a x).rdShadow b = s.rdShadow b := by
  split <;> rfl

/-- A word without RW and W1C bits keeps its active value. -/
theorem State.rd_plainWrite_of_kept {s : State} {a : Nat} {w : RegWord} (v : W32) (hw : regWordAt a = some w) (hkept : w.rw = 0 ∧ w.w1c = 0) :
    (s.plainWrite a v).rd a = s.rd a := by
  obtain ⟨u, hu, h⟩ := s.plainWrite_of_word v hw
  rw [h, State.rd_ite_wrShadow, hu, if_pos hkept]

/-- A bit of the active value after a write. -/
theorem State.getLsbD_rd_plainWrite {s : State} {a : Nat} {w : RegWord} (v : W32) (hw : regWordAt a = some w)
    (hstored : ¬(w.rw = 0 ∧ w.w1c = 0)) {i : Nat} (hi : i < 32) : ((s.plainWrite a v).rd a).getLsbD i =
      ((((s.rd a).getLsbD i && !w.rw.testBit i || v.getLsbD i && w.rw.testBit i) && !(v.getLsbD i && w.w1c.testBit i)) || w.ones.testBit i) := by
  obtain ⟨u, hu, h⟩ := s.plainWrite_of_word v hw
  rw [h, State.rd_ite_wrShadow, hu, if_neg hstored, State.rd_wr_self]
  simp only [BitVec.getLsbD_or, BitVec.getLsbD_and, BitVec.getLsbD_not, BitVec.getLsbD_ofNat, hi, decide_true, Bool.true_and]

/-- A bit of the shadow after a write. -/
theorem State.getLsbD_rdShadow_plainWrite {s : State} {a : Nat} {w : RegWord} (v : W32) (hw : regWordAt a = some w) {i : Nat} (hi : i < 32) :
    ((s.plainWrite a v).rdShadow a).getLsbD i = if w.rws.testBit i then v.getLsbD i else (s.rdShadow a).getLsbD i := by
  obtain ⟨u, hu, h⟩ := s.plainWrite_of_word v hw
  have hsame : u.rdShadow a = s.rdShadow a := by rw [hu, State.rdShadow_ite_wr]
  rw [h]
  split_ifs with hnone hbit hbit
  · rw [hnone, Nat.zero_testBit] at hbit
    cases hbit
  · rw [hsame]
  · simp only [State.rdShadow_wrShadow_self, BitVec.getLsbD_or, BitVec.getLsbD_and, BitVec.getLsbD_not, BitVec.getLsbD_ofNat, hi, decide_true,
      hbit, Bool.not_true, Bool.and_false, Bool.and_true, Bool.false_or]
  · simp only [State.rdShadow_wrShadow_self, BitVec.getLsbD_or, BitVec.getLsbD_and, BitVec.getLsbD_not, BitVec.getLsbD_ofNat, hi, decide_true,
      hbit, Bool.not_false, Bool.and_false, Bool.and_true, Bool.or_false, hsame]

/-- Every other word keeps its active value and its shadow. -/
theorem State.plainWrite_ne {s : State} {a b : Nat} {w : RegWord} (v : W32) (hw : regWordAt a = some w) (hb : b ≠ a) :
    (s.plainWrite a v).rd b = s.rd b ∧ (s.plainWrite a v).rdShadow b = s.rdShadow b := by
  obtain ⟨u, hu, h⟩ := s.plainWrite_of_word v hw
  have hrd : u.rd b = s.rd b := by
    rw [hu]
    split_ifs
    · rfl
    · exact State.rd_wr_ne _ _ hb
  have hshadow : u.rdShadow b = s.rdShadow b := by rw [hu, State.rdShadow_ite_wr]
  refine ⟨by rw [h, State.rd_ite_wrShadow, hrd], ?_⟩
  rw [h]
  split_ifs
  · exact hshadow
  · rw [State.rdShadow_wrShadow_ne _ _ hb, hshadow]

/-- Settles O52: a bit after the write is given by `State.getLsbD_rd_plainWrite` and `State.getLsbD_rdShadow_plainWrite`, and the masks of
every word of the register map are sound (`regWordAt_sound`): no bit is both RW and W1C, and no write sets a bit that is not RW. -/
theorem writesActByAccessType : Obligations.WritesActByAccessType := by
  unfold Obligations.WritesActByAccessType
  intro s a v w hw
  have hsound := regWordAt_sound hw
  refine ⟨?rw, ?w1c, ?rws, ?kept, ?shadowKept, fun b hb => State.plainWrite_ne v hw hb⟩
  case rw =>
    intro i hi hrw
    have hstored : ¬(w.rw = 0 ∧ w.w1c = 0) := by
      rintro ⟨h, -⟩
      simp only [h, Nat.zero_testBit, Bool.false_eq_true] at hrw
    rw [State.getLsbD_rd_plainWrite v hw hstored hi, RegWord.w1c_testBit_of_rw hsound hrw, hrw]
    simp only [Bool.not_true, Bool.and_false, Bool.false_or, Bool.and_true, Bool.not_false]
  case w1c =>
    intro i hi hw1c
    have hrw : w.rw.testBit i = false := by
      by_contra h
      rw [RegWord.w1c_testBit_of_rw hsound (Bool.eq_true_of_not_eq_false h)] at hw1c
      cases hw1c
    have hstored : ¬(w.rw = 0 ∧ w.w1c = 0) := by
      rintro ⟨-, h⟩
      simp only [h, Nat.zero_testBit, Bool.false_eq_true] at hw1c
    rw [State.getLsbD_rd_plainWrite v hw hstored hi, RegWord.ones_testBit_of_not_rw hsound hstored hrw, hrw, hw1c]
    simp only [Bool.not_false, Bool.and_true, Bool.and_false, Bool.or_false]
  case rws => exact fun i hi hrws => (State.getLsbD_rdShadow_plainWrite v hw hi).trans (if_pos hrws)
  case kept =>
    intro i hi hrw hw1c
    by_cases hkept : w.rw = 0 ∧ w.w1c = 0
    · rw [State.rd_plainWrite_of_kept v hw hkept]
    · rw [State.getLsbD_rd_plainWrite v hw hkept hi, RegWord.ones_testBit_of_not_rw hsound hkept hrw, hrw, hw1c]
      simp only [Bool.not_false, Bool.and_true, Bool.and_false, Bool.or_false]
  case shadowKept => exact fun i hi hrws => (State.getLsbD_rdShadow_plainWrite v hw hi).trans (if_neg (ne_true_of_eq_false hrws))

end Sys2Proof.Machine

/-! ## Page headers at reset; register accesses made and refused -/

namespace Sys2Proof.Machine

/-! ### The header of a page at reset (R579, R580) -/

theorem pageKind_of_blockOfPage {p n : Nat} {b : Blk} (h : blockOfPage p = some (b, n)) : pageKind p = .block b n := by
  simp only [pageKind, h]

/-- Below +0x100 a page's words are those of the common header. -/
theorem regWordAt_header {p n o : Nat} {b : Blk} (hpage : pageKind p = .block b n) (ho : o < 0x100) :
    regWordAt (p * 0x1000 + o) = headerWord b n (o / 4 * 4) := by
  have hp : (p * 0x1000 + o) / 0x1000 = p := by omega
  have hoff : (p * 0x1000 + o) % 0x1000 = o := by omega
  have hlow : o / 4 * 4 < 0x100 := by omega
  simp only [regWordAt, hp, hpage, hoff, if_pos hlow]

/-- After reset a header word reads its reset value. -/
theorem State.rd_reset_header {p n o : Nat} {b : Blk} {w : RegWord} {x : W32} (hpage : pageKind p = .block b n) (ho : o < 0x100)
    (hw : headerWord b n (o / 4 * 4) = some w) (hx : BitVec.ofNat 32 w.reset = x) : State.reset.rd (p * 0x1000 + o) = x := by
  subst hx
  have hp : (p * 0x1000 + o) / 0x1000 = p := by omega
  change regReset (p * 0x1000 + o) = _
  simp only [regReset, hp, hpage, regWordAt_header hpage ho, hw]

/-- ENABLE resets to 0 on the pages of links, lanes, tiles, ports and piers alone. -/
theorem ctrlReset_enable (b : Blk) :
    (BitVec.ofNat 32 ((if b.enableResetsZero then 0 else 1) + (if b.hasSleepAllow then 4 else 0))).getLsbD 0 =
      !decide (b ∈ [Blk.lnk, .srd, .til, .hpt, .spn]) := by
  cases b <;> decide

/-- Settles O51: `State.rd_reset_header` at each offset of the header. -/
theorem resetLeavesThePageHeaders : Obligations.ResetLeavesThePageHeaders := by
  unfold Obligations.ResetLeavesThePageHeaders
  intro p b n hblock
  have hpage := pageKind_of_blockOfPage hblock
  refine ⟨?id, ?revision, ?enable, List.forall_iff_forall_mem.mp ?zeros⟩
  case id => exact (congrArg State.reset.rd (Nat.add_zero _).symm).trans (State.rd_reset_header hpage (by decide) rfl rfl)
  case revision => exact State.rd_reset_header hpage (by decide) rfl rfl
  case enable => exact (congrArg (BitVec.getLsbD · 0) (State.rd_reset_header hpage (by decide) rfl rfl)).trans (ctrlReset_enable b)
  case zeros =>
    simp only [List.Forall]
    and_intros
    all_goals exact State.rd_reset_header hpage (by decide) rfl rfl

/-! ### Accesses that are made (R576, R578, R580–R586) -/

/-- A write that the checks pass, on a page that is not blocked, is made at once. -/
theorem State.rawWrite_of_passed {s : State} {ag : Agent} {a : Nat} (v : W32) (hreset : s.pwr.inReset = none)
    (hpass : s.regStatus ag true a 1 true = 0) (hopen : s.pageBlocked (a / 0x1000) = false) : s.rawWrite ag a v = (s.busWrite ag a v).drain := by
  simp only [State.rawWrite, hreset, hpass, hopen, Option.isSome_none, Bool.false_eq_true, ne_eq, not_true_eq_false, if_false]

/-- The page of an offset below a page's size is that page. -/
theorem State.rawWrite_of_page {s : State} {ag : Agent} {p o : Nat} (v : W32) (ho : o < 0x1000) (hreset : s.pwr.inReset = none)
    (hpass : s.regStatus ag true (p * 0x1000 + o) 1 true = 0) (hopen : s.pageBlocked p = false) :
    s.rawWrite ag (p * 0x1000 + o) v = (s.busWrite ag (p * 0x1000 + o) v).drain := by
  have hp : (p * 0x1000 + o) / 0x1000 = p := by omega
  exact State.rawWrite_of_passed v hreset hpass (by rwa [hp])

theorem execPairHighWrite_of_pair {ag : Agent} {a : Fin 67108864} (v : W32) (s : State) (hboth : appliesBoth a.val = true) :
    execPairHighWrite ag a v s = .next (s.rawWrite ag a v) :=
  if_pos hboth

theorem execPairLowRead_of_passed {s : State} {ag : Agent} {a : Fin 67108864} (hreset : s.pwr.inReset = none)
    (hpass : s.regStatus ag false a.val 1 true = 0) (hopen : s.pageBlocked (a.val / 0x1000) = false) (hlow : pairHalf a.val = .low) :
    execPairLowRead ag a s = .next (s.busRead ag a.val).2.drain := by
  simp only [execPairLowRead, hreset, hpass, hopen, hlow, Option.isSome_none, Bool.false_eq_true, ne_eq, not_true_eq_false, or_self, if_false]

/-- An operation that the TAP shifts in while it is idle is presented to the arbiter where the checks pass. -/
theorem execRegacc_of_passed {s : State} {op : Fin 4} {addr data : W32} (hidle : s.tap.busy = false) (hop : op.val = 1 ∨ op.val = 2)
    (haddr : addr.toNat < 2 ^ 26) (hpass : s.regStatus .jtag (decide (op.val = 2)) addr.toNat 1 true = 0) :
    execRegacc op addr data s = .next (({ s with tap := { s.tap with busy := true } }).rfaPresent
      { agent := .jtag, write := decide (op.val = 2), addr := addr.toNat, data := data }) := by
  have hgo : ¬(s.tap.busy = true ∨ (op.val ≠ 1 ∧ op.val ≠ 2)) := by
    rintro (hbusy | ⟨h1, h2⟩)
    · rw [hidle] at hbusy
      cases hbusy
    · exact hop.elim h1 h2
  simp only [execRegacc, if_neg hgo, if_neg (Nat.not_le.mpr haddr), hpass, ne_eq, not_true_eq_false, if_false]

/-- Settles O1: each access goes through `State.rawWrite_of_passed`, or through its own lemma where it is a read or JTAG's. -/
theorem registerAccessesAreMade : Obligations.RegisterAccessesAreMade := by
  unfold Obligations.RegisterAccessesAreMade
  refine ⟨?write, ?pairHigh, ?pairLow, ?commit, ?ctrl, ?jtag⟩
  case write => exact fun ag a v s hreset hpass hopen => congrArg Host.Outcome.next (State.rawWrite_of_passed v hreset hpass hopen)
  case pairHigh =>
    exact fun ag a v s hreset hpass hopen hboth => (execPairHighWrite_of_pair v s hboth).trans
      (congrArg Host.Outcome.next (State.rawWrite_of_passed v hreset hpass hopen))
  case pairLow => exact fun ag a s hreset hpass hopen hlow => execPairLowRead_of_passed hreset hpass hopen hlow
  case commit =>
    exact fun ag page guard s hreset hpass hopen => congrArg Host.Outcome.next (State.rawWrite_of_page guard (by decide) hreset hpass hopen)
  case ctrl =>
    intro ag page on s hreset hpass hopen
    refine ⟨congrArg Host.Outcome.next ?_, congrArg Host.Outcome.next ?_, congrArg Host.Outcome.next ?_⟩
    all_goals exact State.rawWrite_of_page _ (by decide) hreset hpass hopen
  case jtag => exact fun op addr data s hidle hop haddr hpass => execRegacc_of_passed hidle hop haddr hpass

/-! ### Accesses that are refused (R578, R592) -/

theorem State.rawWrite_of_refused {s : State} {ag : Agent} {a : Nat} (v : W32) (hreset : s.pwr.inReset = none)
    (hrefused : s.regStatus ag true a 1 true ≠ 0) : s.rawWrite ag a v = s.regRefused ag a (s.regStatus ag true a 1 true) := by
  simp only [State.rawWrite, hreset, Option.isSome_none, Bool.false_eq_true, if_false, if_pos hrefused]

theorem State.regRefused_priv (s : State) (ag : Agent) (a : Nat) :
    s.regRefused ag a 0x01 = (s.setFld F.RFA_LAST_REFUSED_ADDR (a % 2 ^ 26)).count F.RFA_CNT_PRIV_COUNT 0 := by
  simp only [State.regRefused, true_or, if_true, Nat.reduceEqDiff, if_false]

theorem State.regRefused_safe (s : State) (ag : Agent) (a : Nat) :
    s.regRefused ag a 0x02 = (s.setFld F.RFA_LAST_REFUSED_ADDR (a % 2 ^ 26)).count F.RFA_CNT_SAFE_COUNT 0 := by
  simp only [State.regRefused, true_or, or_true, if_true, Nat.reduceEqDiff, if_false]

/-- A counter of the arbiter shows one more, and LAST_REFUSED keeps the address that was recorded. -/
theorem State.fld_refused (s : State) {a : Nat} {f : Fld} (ha : a < 2 ^ 26) (hf : f = F.RFA_CNT_PRIV_COUNT ∨ f = F.RFA_CNT_SAFE_COUNT) :
    ((s.setFld F.RFA_LAST_REFUSED_ADDR (a % 2 ^ 26)).count f 0).fld F.RFA_LAST_REFUSED_ADDR = a ∧
    ((s.setFld F.RFA_LAST_REFUSED_ADDR (a % 2 ^ 26)).count f 0).fld f = satAdd 32 (s.fld f) 1 := by
  have hblk : f.blk = .rfa := by obtain rfl | rfl := hf <;> rfl
  have hw : f.w = 32 := by obtain rfl | rfl := hf <;> rfl
  have hlo : f.lo = 0 := by obtain rfl | rfl := hf <;> rfl
  have hne : F.RFA_LAST_REFUSED_ADDR.addr 0 0 ≠ f.addr 0 0 := by obtain rfl | rfl := hf <;> decide
  have hsat : satAdd 32 (s.fld f) 1 < 2 ^ 32 := Nat.lt_of_le_of_lt (Nat.min_le_right _ _) (by decide)
  rw [State.count_plain _ _ _ _ _ (by rw [hblk]; rfl), hw]
  constructor
  · rw [State.fld_setFld_ne _ _ _ _ _ _ _ _ (by omega) (by decide) hne, State.fld_setFld_self _ _ _ _ _ (by decide), Nat.mod_mod,
      Nat.mod_eq_of_lt ha]
  · rw [State.fld_setFld_self _ _ _ _ _ (by omega), State.fld_setFld_ne _ _ _ _ _ _ _ _ (by decide) (by omega) hne.symm, hw,
      Nat.mod_eq_of_lt hsat]

/-- Settles O2: a refused write is its refusal (`State.rawWrite_of_refused`), and a refusal by privilege or by the safe state records the
address and counts (`State.fld_refused`). -/
theorem refusedRegisterWritesWriteNothing : Obligations.RefusedRegisterWritesWriteNothing := by
  unfold Obligations.RefusedRegisterWritesWriteNothing
  intro ag a v s st hreset hst hrefused
  subst hst
  have hwrite : exec (.registerWrite ag a v) s = .next (s.regRefused ag a.val (s.regStatus ag true a.val 1 true)) :=
    congrArg Host.Outcome.next (State.rawWrite_of_refused v hreset hrefused)
  refine ⟨hwrite, fun hpriv => ⟨_, hwrite, ?_⟩, fun hsafe => ⟨_, hwrite, ?_⟩⟩
  · rw [hpriv, State.regRefused_priv]
    exact s.fld_refused a.isLt (.inl rfl)
  · rw [hsafe, State.regRefused_safe]
    exact s.fld_refused a.isLt (.inr rfl)

end Sys2Proof.Machine
